-- ==== Sys2Proof/Word.lean ====
section
/-! DEFINITION. The word types of the Sweza: 64-bit data, 8-bit tags, 72-bit tagged words (R14, R119, R120), and the operands that stand for what comes from outside the device. -/
namespace Sys2Proof

/-- A 64-bit datum (R119). -/
abbrev Word := BitVec 64

/-- An 8-bit tag (R119): TYPE [7:4], LOCK [3], SHARED [2], SW [1:0]. -/
abbrev Tag := BitVec 8

/-- The unit of addressing (chapter 04). -/
abbrev Byte := BitVec 8

/-- A 72-bit tagged word (R14). -/
structure TWord where
  datum : Word := 0
  tag : Tag := 0x10#8
deriving DecidableEq, Repr

/-- TYPE of a tag, 0 to 15 (Table 04-1). -/
def Tag.type (t : Tag) : Nat := t.toNat / 16

/-- LOCK of a tag (Table 04-1). -/
def Tag.lock (t : Tag) : Bool := t.getLsbD 3

/-- SHARED of a tag (Table 04-1). -/
def Tag.shared (t : Tag) : Bool := t.getLsbD 2

/-- The tag of a type with LOCK, SHARED and SW 0 (R128). -/
def Tag.ofType (t : Nat) : Tag := BitVec.ofNat 8 (t * 16)

/-- RAW, type 0x0 (Table 04-2). -/
abbrev Tag.raw : Tag := 0x00#8
/-- INT, type 0x1. -/
abbrev Tag.int : Tag := 0x10#8
/-- PTR, type 0x2. -/
abbrev Tag.ptr : Tag := 0x20#8
/-- PDEC, type 0x3. -/
abbrev Tag.pdec : Tag := 0x30#8
/-- BFP, type 0x4. -/
abbrev Tag.bfp : Tag := 0x40#8
/-- DFP, type 0x5. -/
abbrev Tag.dfp : Tag := 0x50#8
/-- CODE, type 0x6. -/
abbrev Tag.code : Tag := 0x60#8
/-- DESC, type 0x7. -/
abbrev Tag.desc : Tag := 0x70#8
/-- POISON, type 0x8. -/
abbrev Tag.poison : Tag := 0x80#8
/-- SEAL, type 0x9. -/
abbrev Tag.seal : Tag := 0x90#8

/-- A word tagged INT. -/
def TWord.int (w : Word) : TWord := ⟨w, Tag.int⟩

/-- A word tagged PTR. -/
def TWord.ptr (w : Word) : TWord := ⟨w, Tag.ptr⟩

/-- The word that stands for enclave state in a saved area: datum 0 with tag SEAL (R334, R335). -/
def TWord.sealed : TWord := ⟨0, Tag.seal⟩

/-- The type of a word's tag. -/
def TWord.type (w : TWord) : Nat := w.tag.type

/-- The 32 G registers (R127, R213). -/
abbrev GFile := Vector TWord 32

/-- One F register: two 64-bit halves, each with its own tag (R183). -/
structure FReg where
  hi : TWord := ⟨0, 0x40#8⟩
  lo : TWord := ⟨0, 0x40#8⟩
deriving DecidableEq, Repr

/-- The 32 F registers of one bank (R183). -/
abbrev FFile := Vector FReg 32

/-- A line: 32 tagged words (R235). -/
abbrev Line := Vector TWord 32

/-- A finite table from numbers to values, in rising order of the key. -/
abbrev Tab (α : Type) := List (Nat × α)

/-- Who makes a register write (R23, R59, R65, R247). -/
inductive Agent where
  /-- A task of the cores, by its TID. -/
  | task (tid : Nat)
  /-- Service Firmware on Service Processor 0 (SP-A) or 1 (SP-B). -/
  | sfw (sp : Nat)
  /-- The TSK on Service Processor 0 or 1. -/
  | tsk (sp : Nat)
  /-- The console, over the service port. -/
  | console
  /-- The debug port. -/
  | debug
deriving DecidableEq, Repr

/-- A resource of the Service Processor firewall (Table 02-3). -/
inductive SpRes where
  /-- TSK partition of SP SRAM. -/
  | tskSram
  /-- SFW partition, in a page the TSK has not marked as code. -/
  | sfwSram
  /-- SFW partition, in a page the TSK has marked as code. -/
  | sfwCode
  /-- Mailbox windows, notification rings, hub event FIFO. -/
  | windows
  /-- Instance configuration, share tables, claim table. -/
  | config
  /-- Device configuration registers, except RWL fields. -/
  | devRegs
  /-- RWL fields of every register. -/
  | rwl
  /-- Cipher-page key slots. -/
  | keySlots
  /-- Enclave page map and enclave memory keys. -/
  | enclMap
  | fuses
  /-- Writable decode table. -/
  | decode
  /-- Token Keeper grant, renewal and release registers. -/
  | keeper
  | logbook
  /-- Power and clock hold registers. -/
  | holds
  /-- MRAM TSK patch area and SFW image area. -/
  | mram
  /-- Per-core special register mirror, except RWL fields. -/
  | mirror
deriving DecidableEq, Repr

/-- How SFW uses a resource (Table 02-3). -/
inductive SpAcc where
  | read | write | exec
deriving DecidableEq, Repr

/-- A fault of a Service Processor's SFW: whose, and the access that the firewall checks where an access is its cause (R59, R60, R62). -/
structure SpFault where
  sp : Nat
  access : Option (SpRes × SpAcc)
deriving DecidableEq, Repr

/-- What stands before TAG in a console frame: EtherType, source address, OP (R89, Table 02-20). -/
structure FrameHead where
  etherType : Nat
  source : Nat
  op : Nat
deriving DecidableEq, Repr

/-- The waybill whose abort is confirmed, with a final response of the same TCLK cycle: device status, bytes moved, sense (R282). -/
structure Confirmed where
  wsn : Nat
  tie : Option (Nat × Nat × List Byte)
deriving DecidableEq, Repr

/-- A CXL memory device found behind a port at start-up (R250, R251, R418). -/
structure CxlDev where
  /-- Port 0 to 11. -/
  port : Nat
  /-- Capacity in GiB. -/
  gib : Nat
  /-- Device serial number. -/
  serial : Nat
  /-- The device reports persistent memory. -/
  persistent : Bool
  /-- Dirty shutdown count. -/
  dirtyCount : Nat
  /-- Lanes trained. -/
  width : Nat
  /-- GT/s trained. -/
  rate : Nat
  /-- One level of CXL switch. -/
  switched : Bool
deriving DecidableEq, Repr

/-- What start-up finds outside and inside the device (R403, R404): results of training and self-tests. -/
structure StartEnv where
  /-- SPs that pass their self-check and BIST (0, 1). -/
  spOk : List Nat := [0, 1]
  /-- SPs whose TSK self-check fails, so that they stay OFFLINE (R57). -/
  tskFail : List Nat := []
  /-- SP-A asks for the lease within the first 2 s (R68, R404). -/
  spAInTime : Bool := true
  /-- A late SP-A asks in the same TCLK cycle as SP-B (R68). -/
  spTie : Bool := false
  /-- CXL devices that report their memory active by 18.0 s. -/
  cxl : List CxlDev := []
  /-- Ports in PCIe mode whose link came up, each with the lanes and the GT/s trained (R250). -/
  pcieUp : List (Nat × Nat × Nat) := []
  /-- FC ports with a link up. -/
  fcUp : List Nat := []
  /-- Ethernet ports with a link up. -/
  ethUp : List Nat := []
  /-- Physical cores that fail self-test. -/
  coreFail : List Nat := []
  /-- Channel Engines that fail self-test. -/
  cheFail : List Nat := []
  /-- Block Cipher Units that fail self-test. -/
  bcuFail : List Nat := []
  /-- Deflate Units that fail self-test. -/
  dfuFail : List Nat := []
  /-- HBM3E stacks that fail training. -/
  hbmFail : List Nat := []
  /-- Lanes lost on the die-to-die links 0 to 5, for each link that has lost any (R27). -/
  linkLost : List (Nat × Nat) := []
  /-- Rails 0 to 3 whose regulator does not acknowledge three AVSBus writes (R432). -/
  avsFail : List Nat := []
  /-- Time from the release to the end of step 7, in µs; 39 s at most (Table 15-2). -/
  elapsedUs : Nat := 24500000
deriving DecidableEq, Repr

/-- A Relay flit (Table 12-2). -/
structure Flit where
  type : Nat := 0
  cls : Nat := 0
  dst : Nat := 0
  src : Nat := 0
  hops : Nat := 0
  llt : Nat := 0
  resent : Bool := false
  tid : Nat := 0
  key : Nat := 0
  stamp : Nat := 0
  arg : Nat := 0
  result : Nat := 0
deriving DecidableEq, Repr

/-- A Relay frame as its receiver sees it (Table 12-1, R352). -/
structure RelayFrame where
  /-- SYNC is right and every slot is correctable. -/
  ok : Bool := true
  fseq : Nat := 0
  ack : Nat := 0
  /-- CREDITS for Courier, Convoy and Freight. -/
  credits : Nat × Nat × Nat := (0, 0, 0)
  lkind : Nat := 0
  ldata : Nat := 0
  slots : List Flit := []
deriving DecidableEq, Repr

end Sys2Proof
end

