-- ==== Sys2Proof/Syntax.lean ====
section
/-! DEFINITION. The commands of the block: one constructor for each row of spec/opcode_table.json. A constructor's docstring gives its row's name and governing rule. The operands of an instruction row are the logical core and the set (0-63 task sets, 64-67 trap sets) whose instruction at PC it is; of a mailbox row, the window whose command is executed; of an event, where it happens and what comes from outside the device. -/
namespace Sys2Proof

/-- The commands (spec/opcode_table.json). -/
inductive Instr where
  -- Instructions: the one at the PC of a task set or trap set of a logical core (sets 0-63 and 64-67)
  /-- INTEGER_ARITHMETIC (R156). -/
  | integerArithmetic (core set : Nat)
  /-- ADDC_SUBB (R157). -/
  | addcSubb (core set : Nat)
  /-- MULW (R158). -/
  | mulw (core set : Nat)
  /-- DIV (R159). -/
  | div (core set : Nat)
  /-- LOGICAL_SHIFT_ROTATE (R156). -/
  | logicalShiftRotate (core set : Nat)
  /-- CMP (R156). -/
  | cmp (core set : Nat)
  /-- LUI (R156). -/
  | lui (core set : Nat)
  /-- PAIRED_SHORT_OPERATIONS (R140). -/
  | pairedShortOperations (core set : Nat)
  /-- B (R161). -/
  | b (core set : Nat)
  /-- CALL (R161). -/
  | call (core set : Nat)
  /-- BR (R161). -/
  | br (core set : Nat)
  /-- CALLR (R161). -/
  | callr (core set : Nat)
  /-- RET (R161). -/
  | ret (core set : Nat)
  /-- TOLL_GATE_ENTRY (R332). -/
  | tollGateEntry (core set : Nat)
  /-- TEXIT (R334). -/
  | texit (core set : Nat)
  /-- LD (R163). -/
  | ld (core set : Nat)
  /-- LDZ_LDS (R165). -/
  | ldzLds (core set : Nat)
  /-- ST (R122). -/
  | st (core set : Nat)
  /-- STS (R165). -/
  | sts (core set : Nat)
  /-- LDRES (R166). -/
  | ldres (core set : Nat)
  /-- STCOND (R167). -/
  | stcond (core set : Nat)
  /-- STM (R169). -/
  | stm (core set : Nat)
  /-- LDM (R169). -/
  | ldm (core set : Nat)
  /-- GTAG (R129). -/
  | gtag (core set : Nat)
  /-- STAG (R129). -/
  | stag (core set : Nat)
  /-- LDTAG (R129). -/
  | ldtag (core set : Nat)
  /-- STTX (R122). -/
  | sttx (core set : Nat)
  /-- MFS (R174). -/
  | mfs (core set : Nat)
  /-- MTS_TSW (R171). -/
  | mtsTsw (core set : Nat)
  /-- MTS_EVQ (R221). -/
  | mtsEvq (core set : Nat)
  /-- MTS_QTM (R222). -/
  | mtsQtm (core set : Nat)
  /-- MTS_WDT (R227). -/
  | mtsWdt (core set : Nat)
  /-- MTS_FPSR (R198). -/
  | mtsFpsr (core set : Nat)
  /-- MTS_AUTH (R121). -/
  | mtsAuth (core set : Nat)
  /-- MTS_VBA (R175). -/
  | mtsVba (core set : Nat)
  /-- MTS_XPC_XTSW (R179). -/
  | mtsXpcXtsw (core set : Nat)
  /-- MBAR (R261). -/
  | mbar (core set : Nat)
  /-- IOBAR (R262). -/
  | iobar (core set : Nat)
  /-- FSYNC (R199). -/
  | fsync (core set : Nat)
  /-- ISYNC (R173). -/
  | isync (core set : Nat)
  /-- YIELD (R224). -/
  | yield (core set : Nat)
  /-- SIGNAL (R225). -/
  | signal (core set : Nat)
  /-- BINARY_FP_ARITHMETIC (R186). -/
  | binaryFpArithmetic (core set : Nat)
  /-- FCMP_DCMP (R193). -/
  | fcmpDcmp (core set : Nat)
  /-- FMIN_FMAX (R194). -/
  | fminFmax (core set : Nat)
  /-- FCVTI_DCVTI (R196). -/
  | fcvtiDcvti (core set : Nat)
  /-- FMVG_GMVF (R185). -/
  | fmvgGmvf (core set : Nat)
  /-- FLD (R184). -/
  | fld (core set : Nat)
  /-- FST (R184). -/
  | fst (core set : Nat)
  /-- DECIMAL_FP_ARITHMETIC (R201). -/
  | decimalFpArithmetic (core set : Nat)
  /-- DQUANT (R201). -/
  | dquant (core set : Nat)
  /-- PACKED_DECIMAL (R204). -/
  | packedDecimal (core set : Nat)
  /-- PDIV_PREM (R205). -/
  | pdivPrem (core set : Nat)
  /-- PTOB_PTOD (R210). -/
  | ptobPtod (core set : Nat)
  /-- BTOP_DTOP (R210). -/
  | btopDtop (core set : Nat)
  /-- VECTOR_CARRYLESS (R304). -/
  | vectorCarryless (core set : Nat)
  /-- BENC_BDEC (R305). -/
  | bencBdec (core set : Nat)
  /-- CACHE_MAINTENANCE_BY_ADDRESS (R244). -/
  | cacheMaintenanceByAddress (core set : Nat)
  /-- CACHE_MAINTENANCE_BY_SET_WAY (R245). -/
  | cacheMaintenanceBySetWay (core set : Nat)
  /-- TLBINV (R246). -/
  | tlbinv (core set : Nat)
  /-- LLOCK_LTRY (R360). -/
  | llockLtry (core set : Nat)
  /-- LREL (R361). -/
  | lrel (core set : Nat)
  /-- CUSTOM_INSTRUCTION (R146). -/
  | customInstruction (core set : Nat)
  -- Events of the memory system
  /-- WAIT_FP_RETRY (R232). -/
  | waitFpRetry (core set : Nat)
  /-- LOAD_DATA_RETURN (R238). -/
  | loadDataReturn (core set : Nat)
  /-- STORE_PERFORMED (R264). -/
  | storePerformed (core : Nat)
  /-- EVICTION_WRITEBACK_ACK (R249). -/
  | evictionWritebackAck (la : Nat)
  /-- FLUSHING_READ_ANSWER (R262). -/
  | flushingReadAnswer (core set kind num : Nat)
  /-- IOBAR_TIMEOUT (R262). -/
  | iobarTimeout (core set : Nat)
  /-- DEVICE_SPACE_LOAD_REPLY (R54). -/
  | deviceSpaceLoadReply (core set datum : Nat)
  /-- ECC_CORRECTABLE_ERROR (R239). -/
  | eccCorrectableError (level unit idx way : Nat)
  /-- ECC_UNCORRECTABLE_ERROR (R239). -/
  | eccUncorrectableError (level unit idx way mask : Nat) (both : Bool)
  /-- CXL_ACCESS_TIMEOUT (R255). -/
  | cxlAccessTimeout (port la : Nat) (write : Bool)
  /-- CXL_LINK_DOWN_TIMEOUT (R255). -/
  | cxlLinkDownTimeout (port : Nat)
  /-- CXL_FATAL_ERROR (R255). -/
  | cxlFatalError (port : Nat)
  /-- CXL_PORT_RETRAIN (R255). -/
  | cxlPortRetrain (port width rate : Nat)
  /-- MIRROR_RESYNC_COMPLETE (R255). -/
  | mirrorResyncComplete (port : Nat)
  /-- PATROL_SCRUB (R385). -/
  | patrolScrub (level unit idx way found mask : Nat)
  /-- ENDPOINT_DMA (R450). -/
  | endpointDma (port : Nat) (write : Bool) (addr len : Nat) (bytes : List Byte)
  -- Events of the fabric and the clocks
  /-- FLIT_CRC_FAILURE (R26). -/
  | flitCrcFailure (link : Nat) (laneFailed : Bool)
  /-- REFCLK_EDGE_LOSS (R30). -/
  | refclkEdgeLoss (ref : Nat)
  /-- REFCLK_FREQUENCY_FAIL (R30). -/
  | refclkFrequencyFail (ref : Nat)
  /-- REFCLK_VALID (R30). -/
  | refclkValid (ref : Nat)
  /-- PPS_EDGE (R37). -/
  | ppsEdge (src : Nat)
  /-- PPS_LOST (R437). -/
  | ppsLost (src : Nat)
  /-- PPS_OUT_PULSE (R439). -/
  | ppsOutPulse
  /-- PPS_OUT_END (R439). -/
  | ppsOutEnd
  /-- SHARE_EPOCH_START (R40). -/
  | shareEpochStart
  /-- RATE_WINDOW_START (R109). -/
  | rateWindowStart
  -- Events of the Service Complex and the mailbox windows
  /-- LEASE_RENEWAL (R64). -/
  | leaseRenewal (sp : Nat) (heartbeat : Bool)
  /-- LEASE_EXPIRY (R64). -/
  | leaseExpiry
  /-- GUARD_END (R66). -/
  | guardEnd
  /-- LEASE_REQUEST (R66). -/
  | leaseRequest (sp : Nat)
  /-- FIRST_LEASE_WINDOW_END (R68). -/
  | firstLeaseWindowEnd
  /-- SFW_HEARTBEAT_LOSS (R62). -/
  | sfwHeartbeatLoss (sp : Nat)
  /-- SFW_FAULT (R62). -/
  | sfwFault (sp : SpFault)
  /-- TSK_FAULT (R62). -/
  | tskFault (sp : Nat)
  /-- SP_BIST_RESULT (R57). -/
  | spBistResult (sp : Nat) (pass : Bool)
  /-- SP_RESET (R57). -/
  | spReset (sp : Nat)
  /-- MIRROR_COPY_ACKNOWLEDGED (R57). -/
  | mirrorCopyAcknowledged (sp : Nat)
  /-- MAILBOX_DOORBELL (R78). -/
  | mailboxDoorbell (w value tid : Nat) (other : Option (Nat × Nat))
  /-- NR_CTL_ENABLE (R78). -/
  | nrCtlEnable (w value tid : Nat)
  /-- NR_HEAD_WRITE (R88). -/
  | nrHeadWrite (w value : Nat)
  /-- NOTIFICATION_WRITE (R87). -/
  | notificationWrite (w : Nat)
  /-- CONSOLE_FRAME (R89). -/
  | consoleFrame (op : FrameHead) (tag offset data : Nat)
  /-- REGISTER_WRITE (R23). -/
  | registerWrite (agent : Agent) (addr value : Nat)
  -- Instance commands of the mailbox window w
  /-- INST_STATUS (R117). -/
  | instStatus (w : Nat)
  /-- INST_CONFIG_GET (R117). -/
  | instConfigGet (w : Nat)
  /-- INST_CONFIG_SET (R94). -/
  | instConfigSet (w : Nat)
  /-- SHARE_GET (R117). -/
  | shareGet (w : Nat)
  /-- SHARE_SET (R99). -/
  | shareSet (w : Nat)
  /-- CORE_ASSIGN (R104). -/
  | coreAssign (w : Nat)
  /-- MEMREGION_ADD (R106). -/
  | memregionAdd (w : Nat)
  /-- MEMREGION_REMOVE (R106). -/
  | memregionRemove (w : Nat)
  /-- SUBCH_RANGE_ASSIGN (R107). -/
  | subchRangeAssign (w : Nat)
  /-- COURIER_GRANT (R110). -/
  | courierGrant (w : Nat)
  /-- COURIER_REVOKE (R110). -/
  | courierRevoke (w : Nat)
  /-- COURIER_CAP_SET (R109). -/
  | courierCapSet (w : Nat)
  /-- IO_TIMEOUT_SET (R112). -/
  | ioTimeoutSet (w : Nat)
  /-- INST_RESET (R113). -/
  | instReset (w : Nat)
  /-- INSTANCE_RESET_COMPLETE (R113). -/
  | instanceResetComplete (i : Nat)
  /-- MANAGER_TRANSFER (R118). -/
  | managerTransfer (w : Nat)
  /-- ENDPOINT_ASSIGN (R450). -/
  | endpointAssign (w : Nat)
  /-- ENDPOINT_RELEASE (R450). -/
  | endpointRelease (w : Nat)
  -- Channel subsystem events
  /-- SUBCHANNEL_DOORBELL (R270). -/
  | subchannelDoorbell (sc value : Nat)
  /-- WAYBILL_ADMISSION (R270). -/
  | waybillAdmission (sc : Nat)
  /-- WAYBILL_DISPATCH (R281). -/
  | waybillDispatch (route exch : Nat)
  /-- TARGET_FIRST_FRAME (R281). -/
  | targetFirstFrame (sc wsn : Nat)
  /-- FINAL_RESPONSE (R281). -/
  | finalResponse (sc wsn devstat moved : Nat) (sense : List Byte)
  /-- COMPLETION_RING_HEAD_WRITE (R272). -/
  | completionRingHeadWrite (sc value : Nat)
  /-- ATTEMPT_TIMEOUT (R281). -/
  | attemptTimeout (sc wsn : Nat)
  /-- TRANSPORT_ERROR (R281). -/
  | transportError (sc wsn : Nat)
  /-- ABORT_CONFIRMATION (R288). -/
  | abortConfirmation (sc : Nat) (wsn : Confirmed)
  /-- ABORT_REJECTED (R288). -/
  | abortRejected (sc wsn : Nat)
  /-- ABORT_TIMEOUT (R281). -/
  | abortTimeout (sc wsn : Nat)
  /-- NO_PATH_TIMEOUT (R281). -/
  | noPathTimeout (sc wsn : Nat)
  /-- LATE_RESPONSE (R283). -/
  | lateResponse (sc incarn wsn devstat residual port : Nat) (sense : List Byte)
  /-- PATH_SIGNAL_LOSS (R285). -/
  | pathSignalLoss (kind port : Nat)
  /-- PATH_LOGOUT (R285). -/
  | pathLogout (sc path : Nat)
  /-- LOGIN_RESULT (R285). -/
  | loginResult (sc path : Nat) (ok : Bool)
  /-- LOGIN_TIMEOUT (R285). -/
  | loginTimeout (sc path : Nat)
  /-- LOGIN_RETRY (R285). -/
  | loginRetry (sc path : Nat)
  /-- ENGINE_HEARTBEAT (R292). -/
  | engineHeartbeat (route : Nat)
  /-- HEARTBEAT_LOSS (R292). -/
  | heartbeatLoss (route : Nat)
  /-- ENGINE_CHECKER_FAULT (R292). -/
  | engineCheckerFault (engine : Nat)
  /-- CLAIM_WRITE (R291). -/
  | claimWrite (route stage claim : Nat)
  /-- CLAIM_WRITE_RESEND (R292). -/
  | claimWriteResend (route stage : Nat)
  /-- CLAIMS_ACKNOWLEDGED (R292). -/
  | claimsAcknowledged (route : Nat)
  /-- OUTPUT_STAGE_FRAME (R291). -/
  | outputStageFrame (stage route claim : Nat)
  /-- STANDBY_LOOPBACK (R294). -/
  | standbyLoopback (route : Nat) (ok : Bool)
  /-- ENGINE_SELF_TEST_RESULT (R293). -/
  | engineSelfTestResult (engine : Nat) (pass : Bool)
  -- Channel subsystem commands of the mailbox window w
  /-- SUBCH_CREATE (R268). -/
  | subchCreate (w : Nat)
  /-- SUBCH_DESTROY (R268). -/
  | subchDestroy (w : Nat)
  /-- SUBCH_QUERY (R295). -/
  | subchQuery (w : Nat)
  /-- PATH_ADD (R285). -/
  | pathAdd (w : Nat)
  /-- PATH_REMOVE (R295). -/
  | pathRemove (w : Nat)
  /-- PATH_QUERY (R295). -/
  | pathQuery (w : Nat)
  /-- PROFILE_SET (R286). -/
  | profileSet (w : Nat)
  /-- JOURNAL_QUERY (R295). -/
  | journalQuery (w : Nat)
  /-- INDOUBT_LIST (R295). -/
  | indoubtList (w : Nat)
  /-- INDOUBT_RESOLVE_DONE (R289). -/
  | indoubtResolveDone (w : Nat)
  /-- INDOUBT_RESOLVE_NOT_DONE (R289). -/
  | indoubtResolveNotDone (w : Nat)
  /-- INDOUBT_RESOLVE_REDRIVE (R289). -/
  | indoubtResolveRedrive (w : Nat)
  /-- LOGIN_QUERY (R295). -/
  | loginQuery (w : Nat)
  /-- ROUTE_STATUS (R290). -/
  | routeStatus (w : Nat)
  /-- ROUTE_SWITCH (R293). -/
  | routeSwitch (w : Nat)
  -- Block Cipher Unit and Deflate Unit events
  /-- REQUEST_RING_DOORBELL (R309). -/
  | requestRingDoorbell (ring value : Nat)
  /-- REQUEST_ADMISSION (R309). -/
  | requestAdmission (ring : Nat)
  /-- BCU_DISPATCH (R311). -/
  | bcuDispatch (unit : Nat)
  /-- BCU_RELEASE (R312). -/
  | bcuRelease (unit : Nat) (mismatch : Bool)
  /-- INLINE_SEGMENT_END (R399). -/
  | inlineSegmentEnd (unit : Nat)
  /-- DRBG_RESEED (R313). -/
  | drbgReseed (unit : Nat) (healthy : Bool)
  /-- DFU_DISPATCH (R317). -/
  | dfuDispatch (unit : Nat)
  /-- DFU_COMPLETION (R310). -/
  | dfuCompletion (unit : Nat) (mismatch : Bool)
  /-- DFU_PARITY_FAILURE (R319). -/
  | dfuParityFailure (unit : Nat)
  -- Cipher and compression commands
  /-- CPAGE_ALLOC (R298). -/
  | cpageAlloc (w : Nat)
  /-- CPAGE_FREE (R302). -/
  | cpageFree (w : Nat)
  /-- CPAGE_KEY_WRITE (R301). -/
  | cpageKeyWrite (w : Nat)
  /-- CPAGE_KEY_ERASE (R302). -/
  | cpageKeyErase (w : Nat)
  /-- CPAGE_QUERY (R321). -/
  | cpageQuery (w : Nat)
  /-- CPAGE_PERM_SET (R321). -/
  | cpagePermSet (w : Nat)
  /-- CRING_CREATE (R308). -/
  | cringCreate (w : Nat)
  /-- CRING_DESTROY (R308). -/
  | cringDestroy (w : Nat)
  /-- DICT_LOAD (R320). -/
  | dictLoad (w : Nat)
  /-- DICT_FREE (R320). -/
  | dictFree (w : Nat)
  /-- DICT_QUERY (R320). -/
  | dictQuery (w : Nat)
  /-- CIPHER_UNIT_STATUS (R321). -/
  | cipherUnitStatus (w : Nat)
  -- Enclave commands and holds
  /-- ENCL_CREATE (R327). -/
  | enclCreate (w : Nat)
  /-- ENCL_ADD_GRANULE (R324). -/
  | enclAddGranule (w : Nat)
  /-- ENCL_REMOVE_GRANULE (R324). -/
  | enclRemoveGranule (w : Nat)
  /-- ENCL_FINALISE (R342). -/
  | enclFinalise (w : Nat)
  /-- ENCL_DESTROY (R347). -/
  | enclDestroy (w : Nat)
  /-- ENCL_QUERY (R347). -/
  | enclQuery (w : Nat)
  /-- ENCL_ATTEST (R347). -/
  | enclAttest (w : Nat)
  /-- ENCL_CORE_ENABLE (R343). -/
  | enclCoreEnable (w : Nat)
  /-- HOLD_QUERY (R345). -/
  | holdQuery (w : Nat)
  /-- DEFERRED_GATING_EXPIRY (R346). -/
  | deferredGatingExpiry (kind number : Nat)
  /-- HOLD_RELEASE (R346). -/
  | holdRelease (kind number : Nat)
  -- Device and Logbook commands
  /-- DEVICE_ID (R1). -/
  | deviceId (w : Nat)
  /-- SP_STATUS (R56). -/
  | spStatus (w : Nat)
  /-- SP_SWITCH (R76). -/
  | spSwitch (w : Nat)
  /-- HEALTH_GET (R394). -/
  | healthGet (w : Nat)
  /-- SPARE_STATUS (R377). -/
  | spareStatus (w : Nat)
  /-- CORE_SPARE (R377). -/
  | coreSpare (w : Nat)
  /-- SELFTEST_RUN (R394). -/
  | selftestRun (w : Nat) (pass : Bool) (durationUs : Nat)
  /-- WAY_STATUS (R241). -/
  | wayStatus (w : Nat)
  /-- MEMPORT_STATUS (R255). -/
  | memportStatus (w : Nat)
  /-- LOG_INFO (R393). -/
  | logInfo (w : Nat)
  /-- LOG_READ (R389). -/
  | logRead (w : Nat)
  /-- LOG_COUNTERS_GET (R392). -/
  | logCountersGet (w : Nat)
  /-- LOG_HISTOGRAM_GET (R392). -/
  | logHistogramGet (w : Nat)
  /-- LOG_NOTE (R394). -/
  | logNote (w : Nat)
  /-- ERROR_INJECT (R394). -/
  | errorInject (w : Nat)
  /-- FAULT_INJECTION (R394). -/
  | faultInjection (idx : Nat)
  -- Reset, firmware, clock and pin commands
  /-- SYSTEM_RESET (R411). -/
  | systemReset (w bootsel : Nat) (env : StartEnv)
  /-- CORE_RESET (R413). -/
  | coreReset (w : Nat)
  /-- CORE_RESET_CHAIN_TIMEOUT (R413). -/
  | coreResetChainTimeout (core : Nat)
  /-- CORE_SELF_TEST_RESULT (R413). -/
  | coreSelfTestResult (core : Nat) (pass : Bool)
  /-- ENGINE_RESET (R414). -/
  | engineReset (w : Nat) (pass : Bool) (durationUs : Nat)
  /-- BLOCK_GATE (R421). -/
  | blockGate (w : Nat)
  /-- BLOCK_UNGATE (R421). -/
  | blockUngate (w : Nat) (pass : Bool) (durationUs : Nat)
  /-- TOD_SET (R422). -/
  | todSet (w : Nat)
  /-- RESET_CONFIG_STAGE_HEADER (R423). -/
  | resetConfigStageHeader (w : Nat)
  /-- RESET_CONFIG_STAGE_DESCRIPTOR (R423). -/
  | resetConfigStageDescriptor (w : Nat)
  /-- RESET_CONFIG_COMMIT (R423). -/
  | resetConfigCommit (w : Nat)
  /-- RESET_CONFIG_READ_HEADER (R423). -/
  | resetConfigReadHeader (w : Nat)
  /-- RESET_CONFIG_READ_DESCRIPTOR (R423). -/
  | resetConfigReadDescriptor (w : Nat)
  /-- RESET_CONFIG_DISCARD (R423). -/
  | resetConfigDiscard (w : Nat)
  /-- FW_STAGE (R408). -/
  | fwStage (w : Nat)
  /-- FW_ACTIVATE (R424). -/
  | fwActivate (w : Nat)
  /-- FW_ACTIVATE_TIMEOUT (R424). -/
  | fwActivateTimeout
  /-- REFCLK_SELECT (R447). -/
  | refclkSelect (w : Nat)
  /-- GPIO_CLAIM (R48). -/
  | gpioClaim (w : Nat)
  /-- GPIO_RELEASE (R448). -/
  | gpioRelease (w : Nat)
  /-- GPIO_ACCESS (R448). -/
  | gpioAccess (w : Nat)
  /-- PPS_SOURCE_SELECT (R447). -/
  | ppsSourceSelect (w : Nat)
  /-- POWER_STATUS (R447). -/
  | powerStatus (w : Nat)
  -- Relay, decode-table and debug commands
  /-- RELAY_TOPOLOGY_GET (R355). -/
  | relayTopologyGet (w : Nat)
  /-- RELAY_PORT_SET (R368). -/
  | relayPortSet (w : Nat)
  /-- RELAY_PORT_STATUS (R349). -/
  | relayPortStatus (w : Nat)
  /-- LLT_CREATE (R359). -/
  | lltCreate (w : Nat)
  /-- LLT_DESTROY (R359). -/
  | lltDestroy (w : Nat)
  /-- RELAY_ACCESS_ALLOW (R360). -/
  | relayAccessAllow (w : Nat)
  /-- RELAY_ACCESS_REVOKE (R360). -/
  | relayAccessRevoke (w : Nat)
  /-- RELAY_ACCESS_MAP (R360). -/
  | relayAccessMap (w : Nat)
  /-- RELAY_ACCESS_UNMAP (R360). -/
  | relayAccessUnmap (w : Nat)
  /-- TOD_SYNC_STATUS (R357). -/
  | todSyncStatus (w : Nat)
  /-- DECODE_LOAD (R150). -/
  | decodeLoad (w : Nat)
  /-- DECODE_UNLOAD (R151). -/
  | decodeUnload (w : Nat)
  /-- DECODE_QUERY (R152). -/
  | decodeQuery (w : Nat)
  /-- DEBUG_ENABLE_SET (R344). -/
  | debugEnableSet (w : Nat)
  /-- DEBUG_ENABLE_GET (R344). -/
  | debugEnableGet (w : Nat)
  -- Cache level switches and Drover events
  /-- CACHE_LEVEL_DISABLE (R248). -/
  | cacheLevelDisable (agent : Agent) (level unit : Nat)
  /-- CACHE_LEVEL_ENABLE (R248). -/
  | cacheLevelEnable (agent : Agent) (level unit : Nat)
  /-- LLT_COUNTER_CLEAR (R367). -/
  | lltCounterClear (llt value : Nat)
  /-- EVENT_POST (R223). -/
  | eventPost
  /-- TASK_CREATION (R218). -/
  | taskCreation
  /-- SWAP_IN (R229). -/
  | swapIn (core : Nat)
  /-- SWAP_IN_COMPLETE (R229). -/
  | swapInComplete (core : Nat)
  /-- QUANTUM_EXPIRY (R227). -/
  | quantumExpiry (core slot : Nat)
  /-- WATCHDOG_EXPIRY (R227). -/
  | watchdogExpiry (core set : Nat)
  /-- MIGRATION_MOVE (R231). -/
  | migrationMove (core set : Nat)
  /-- MIGRATION_ARRIVED (R231). -/
  | migrationArrived (core set : Nat)
  -- Sparing and self-test
  /-- CORE_CHECK_FAILURE (R373). -/
  | coreCheckFailure (core check : Nat)
  /-- SPARING_COMPLETE (R378). -/
  | sparingComplete (core : Nat)
  /-- OUTRIDER_SELF_TEST (R385). -/
  | outriderSelfTest (phys : Nat)
  /-- SELF_TEST_COMPLETE (R385). -/
  | selfTestComplete (unit : Nat) (pass : Bool)
  -- Relay events
  /-- RELAY_FRAME (R352). -/
  | relayFrame (port : Nat) (frame : RelayFrame)
  /-- RELAY_TRAINING_COMPLETE (R349). -/
  | relayTrainingComplete (port lanes peer peerPort flight : Nat)
  /-- RELAY_LANE_FAILURE (R349). -/
  | relayLaneFailure (port lane : Nat)
  /-- PROBE (R361). -/
  | probe (port : Nat)
  /-- ANSWER (R362). -/
  | answer (port : Nat)
  /-- GRANT (R362). -/
  | grant (port : Nat)
  /-- WITHDRAW (R362). -/
  | withdraw (port : Nat)
  /-- GONE (R365). -/
  | gone (port : Nat)
  /-- CWRITE (R367). -/
  | cwrite (port : Nat)
  /-- CREAD (R367). -/
  | cread (port : Nat)
  /-- CDATA (R367). -/
  | cdata (port : Nat)
  /-- FLUSH (R367). -/
  | flush (port : Nat)
  /-- FLUSH_ACK (R262). -/
  | flushAck (port : Nat)
  /-- TOPO (R355). -/
  | topo (port : Nat) (links : List (Nat × Nat × Nat))
  /-- RELAY_LINK_LOSS (R368). -/
  | relayLinkLoss (port : Nat)
  /-- PROBE_TIMEOUT (R363). -/
  | probeTimeout (core set : Nat)
  /-- QUEUED_PROBE_ROUTE_LOSS (R363). -/
  | queuedProbeRouteLoss (core set : Nat)
  /-- WAIT_LIMIT_EXPIRY (R362). -/
  | waitLimitExpiry (llt key tid : Nat)
  /-- HOME_DEVICE_UNREACHABLE (R365). -/
  | homeDeviceUnreachable (device : Nat)
  /-- TOD_STAMP_EXCHANGE (R357). -/
  | todStampExchange (port : Nat)
  -- Pins, power and Logbook events
  /-- PORST_N_ASSERT (R402). -/
  | porstNAssert
  /-- PORST_N_RELEASE (R403). -/
  | porstNRelease (bootsel : Nat) (testEn : Bool) (env : StartEnv)
  /-- SYSRST_N_ASSERT (R411). -/
  | sysrstNAssert (durationNs : Nat)
  /-- SYSRST_N_RELEASE (R411). -/
  | sysrstNRelease (bootsel : Nat) (testEn : Bool) (env : StartEnv)
  /-- PWRFAIL_N_ASSERT (R416). -/
  | pwrfailNAssert (durationNs : Nat) (gpfOk : List Nat)
  /-- RAIL_EXCURSION (R429). -/
  | railExcursion (rail : Nat) (under : Bool) (permille extremeMv durationNs : Nat)
  /-- VSTBY_LOW (R429). -/
  | vstbyLow
  /-- TEMPERATURE_READING (R392). -/
  | temperatureReading (sensor : Nat) (tenths : Int) (again : Bool)
  /-- THERMTRIP (R440). -/
  | thermtrip (analog : Bool)
  /-- PMBUS_POLL (R433). -/
  | pmbusPoll (rail : Nat) (answers : Bool) (mv current : Nat) (temp : Int)
  /-- PMB_ALERT (R433). -/
  | pmbAlert (rail status : Nat)
  /-- SMBUS_BLOCK_READ (R434). -/
  | smbusBlockRead (command : Nat)
  /-- JTAG_ACCESS (R438). -/
  | jtagAccess (kind core set reg : Nat) (value : Option Nat)
  /-- LOGBOOK_TOTALS (R391). -/
  | logbookTotals
  /-- LOGBOOK_HOURLY_SEAL (R390). -/
  | logbookHourlySeal
  -- Further events
  /-- UNASSIGNED_ENCODING (R143). -/
  | unassignedEncoding (core set : Nat)
  /-- DEPOT_CHANNEL_LOSS (R242). -/
  | depotChannelLoss (channel : Nat)
  /-- CIPHER_PAGE_STORAGE_ERROR (R297). -/
  | cipherPageStorageError (page : Nat)
  /-- ENGINE_MIRROR_COPY_COMPLETE (R293). -/
  | engineMirrorCopyComplete (engine : Nat)
  /-- DATA_FRAME (R278). -/
  | dataFrame (sc wsn : Nat) (bytes : List Byte)
  /-- PORT_SIGNAL_RESTORED (R285). -/
  | portSignalRestored (kind port rate : Nat)
  /-- CXP_LINK_DOWN (R262). -/
  | cxpLinkDown (port : Nat)
  /-- IOBAR_SLOT_RELEASE (R263). -/
  | iobarSlotRelease (core set : Nat)
  /-- VSTBY_RISE (R430). -/
  | vstbyRise
  /-- RAIL_WINDOW_SETTLED (R431). -/
  | railWindowSettled
deriving DecidableEq, Repr

end Sys2Proof
end

