-- ==== Sys2Proof/Decode.lean ====
section
/-! DEFINITION. The commands that table words spell: spec/opcode_table.json gives no row bits. -/
namespace Sys2Proof

/-- The command a word of nbits bits spells: none, since no row of the table has bits. -/
def decodeTableWord (_nbits _w : Nat) : Option Instr := none

end Sys2Proof
end

