-- ==== Sys2Proof/Machine/Tab.lean ====
section
/-! DEFINITION. Operations on finite tables (lists of pairs in rising order of the key) and on byte strings. -/
namespace Sys2Proof

/-- The value a table lists for a key. -/
def Tab.find {α : Type} : Tab α → Nat → Option α
  | [], _ => none
  | (k, v) :: t, n => if k = n then some v else Tab.find t n

/-- The value of a key, or a default. -/
def Tab.getD {α : Type} (t : Tab α) (k : Nat) (d : α) : α := (Tab.find t k).getD d

/-- Set the value of a key, keeping the keys in rising order. -/
def Tab.put {α : Type} : Tab α → Nat → α → Tab α
  | [], n, x => [(n, x)]
  | (k, v) :: t, n, x => if n < k then (n, x) :: (k, v) :: t else if k = n then (n, x) :: t else (k, v) :: Tab.put t n x

/-- Remove a key. -/
def Tab.del {α : Type} (t : Tab α) (k : Nat) : Tab α := t.filter (fun p => p.1 != k)

/-- Change the value of a key, taking a default where none is listed. -/
def Tab.upd {α : Type} (t : Tab α) (k : Nat) (d : α) (f : α → α) : Tab α := Tab.put t k (f (Tab.getD t k d))

/-- The keys in [lo, hi). -/
def Tab.between {α : Type} (t : Tab α) (lo hi : Nat) : Tab α := t.filter (fun p => lo ≤ p.1 && p.1 < hi)

end Sys2Proof

namespace Sys2Proof.Machine

/-- A number as n bytes, most significant first (R15). -/
def beBytes : Nat → Nat → List Byte
  | 0, _ => []
  | n + 1, x => BitVec.ofNat 8 (x / 256 ^ n) :: beBytes n x

/-- Bytes, most significant first, as a number (R15). -/
def beNat (l : List Byte) : Nat := l.foldl (fun a b => a * 256 + b.toNat) 0

/-- The n bytes from an offset, zeros beyond the end. -/
def bytesAt (l : List Byte) (off n : Nat) : List Byte := ((l.drop off).take n) ++ List.replicate (n - ((l.drop off).take n).length) 0#8

/-- The number in the n bytes at an offset (R15). -/
def fld (l : List Byte) (off n : Nat) : Nat := beNat (bytesAt l off n)

/-- Every one of the n bytes from an offset is 0. -/
def zeros (l : List Byte) (off n : Nat) : Bool := (bytesAt l off n).all (· == 0#8)

/-- Overwrite bytes at an offset of a byte string. -/
def putBytes (l : List Byte) (off : Nat) (b : List Byte) : List Byte := bytesAt l 0 off ++ b ++ l.drop (off + b.length)

/-- Bits [hi:lo] of a number (R13). -/
def bits (x hi lo : Nat) : Nat := x / 2 ^ lo % 2 ^ (hi - lo + 1)

/-- Bit n of a number (R13). -/
def bit (x n : Nat) : Bool := x / 2 ^ n % 2 == 1

/-- 1 for true. -/
def b2n (b : Bool) : Nat := if b then 1 else 0

/-- A number modulo 2^64. -/
def u64 (x : Nat) : Nat := x % 18446744073709551616

/-- A signed number as a 64-bit pattern. -/
def i64 (x : Int) : Nat := (x % 18446744073709551616).toNat

/-- Sign-extend the low n bits of a number. -/
def sext (n x : Nat) : Int := if bit x (n - 1) then (x % 2 ^ n : Nat) - (2 ^ n : Int) else (x % 2 ^ n : Nat)

/-- Bits of a mask that are set, below n. -/
def maskBits (m n : Nat) : List Nat := (List.range n).filter (fun i => bit m i)

/-- ASCII bytes of a text. -/
def ascii (t : String) : List Byte := t.toList.map (fun c => BitVec.ofNat 8 c.toNat)

/-- The least element of a list by a key; the first among equals. -/
def minBy {α : Type} (f : α → Nat) : List α → Option α
  | [] => none
  | x :: t => match minBy f t with
    | none => some x
    | some y => if f x ≤ f y then some x else some y

/-- Put an element before the first that its key does not exceed. -/
def insertBy {α : Type} (f : α → Nat) (x : α) : List α → List α
  | [] => [x]
  | y :: t => if f x ≤ f y then x :: y :: t else y :: insertBy f x t

/-- A list in rising order of a key, equal keys in their order. -/
def sortBy {α : Type} (f : α → Nat) (l : List α) : List α := l.foldr (insertBy f) []

/-- Ceiling of a division. -/
def ceilDiv (a b : Nat) : Nat := (a + b - 1) / b

end Sys2Proof.Machine
end

