-- ==== Sys2Proof/Machine/Isa.lean ====
section
/-! DEFINITION. The RA-5 instruction word: operations, operand fields and the decoder (R133 to R139, Tables 04-5 to 04-10). -/
namespace Sys2Proof.Machine

/-- Integer arithmetic of one row (Table 05-2). -/
inductive AOp where
  | add | sub | neg | min | max | minu | maxu | mul
deriving DecidableEq, Repr

/-- Logical, shift, rotate and bit-count operations (Table 05-2). -/
inductive LOp where
  | and | or | xor | andn | nor | shl | shr | sar | rol | ror | clz | popc | bswap
deriving DecidableEq, Repr

/-- A second source: a G register, or an immediate as a 64-bit pattern. -/
inductive Src where
  | reg (n : Nat)
  | imm (v : Nat)
deriving DecidableEq, Repr

/-- Binary arithmetic of major 0x18 (Table 06-2), FCMP, FMIN, FMAX, FCVTI and the moves apart. -/
inductive BOp where
  | add | sub | mul | div | sqrt | abs | neg | mov | cvt (fmt : Nat) | cvtfi | rnd
deriving DecidableEq, Repr

/-- Decimal arithmetic of major 0x1A (Table 06-7), DCMP, DQUANT and DCVTI apart. -/
inductive DOp where
  | add | sub | mul | div | sqrt | cvt (fmt : Nat) | cvtfi | rnd
deriving DecidableEq, Repr

/-- Packed decimal with a result in one pass (Table 06-8). -/
inductive POp where
  | add | sub | mul | zadd | cmp
deriving DecidableEq, Repr

/-- Vector and carry-less operations (Table 10-7). -/
inductive VOp where
  | clmul | clmulh | clmulx | clmuly | vxor | vand | vor | vshuf | vbswap
deriving DecidableEq, Repr

/-- Short operations (Table 04-10): opcode, D and S. -/
structure Short where
  op : Nat
  d : Nat
  s : Nat
deriving DecidableEq, Repr

/-- A decoded instruction: one constructor for each row of the operation table. Displacements are 64-bit patterns. -/
inductive Ins where
  | arith (op : AOp) (d a : Nat) (b : Src)
  | carry (sub : Bool) (d a b : Nat)
  | mulw (signed : Bool) (d a b : Nat)
  | div (signed rem : Bool) (d a b : Nat)
  | logic (op : LOp) (d a : Nat) (b : Src)
  | cmp (a : Nat) (b : Src)
  | lui (d imm : Nat)
  | pair (x y : Short)
  | b (cond disp : Nat)
  | call (disp : Nat)
  | br (a : Nat)
  | callr (d a : Nat)
  | ret (a : Nat)
  | tgate
  | texit (a b : Nat)
  | ld (d a disp : Nat)
  | ldx (signed : Bool) (size d a disp : Nat)
  | st (s a disp : Nat)
  | sts (size s a disp : Nat)
  | ldres (d a disp : Nat)
  | stcond (s a disp : Nat)
  | stm (m a disp : Nat)
  | ldm (m a disp : Nat)
  | gtag (d a : Nat)
  | stag (d a b : Nat)
  | ldtag (d a : Nat)
  | sttx (a b : Nat)
  | mfs (d n : Nat)
  | mts (n a : Nat)
  | mbar
  | iobar
  | fsync
  | isync
  | yield
  | signal (a : Nat)
  | bfp (op : BOp) (fmt d a b : Nat)
  | bfma (op fmt d a b c : Nat)
  | fcmp (dec : Bool) (fmt a b : Nat)
  | fminmax (max : Bool) (fmt d a b : Nat)
  | fcvti (dec : Bool) (fmt d a : Nat)
  | fmvg (part d a : Nat)
  | gmvf (part d a : Nat)
  | fld (size d a disp : Nat)
  | fst (size s a disp : Nat)
  | dfp (op : DOp) (fmt d a b : Nat)
  | dfma (op fmt d a b c : Nat)
  | dquant (fmt d a b : Nat)
  | packed (op : POp) (a b l1 l2 : Nat)
  | pdiv (rem : Bool) (a b l1 l2 : Nat)
  | ptob (d a len : Nat)
  | ptod (d a len : Nat)
  | btop (a b len : Nat)
  | dtop (a b len : Nat)
  | vec (op : VOp) (d a b : Nat)
  | bcrypt (dec : Bool) (d a b : Nat)
  | maint (level op a : Nat)
  | maintSw (level op a : Nat)
  | tlbinv (all : Bool) (a : Nat)
  | lock (try_ : Bool) (d a b : Nat)
  | lrel (d a b : Nat)
  | custom (slot d a b c : Nat)
deriving DecidableEq, Repr

/-- A sign-extended field of n bits as a 64-bit pattern. -/
def sx (n x : Nat) : Nat := i64 (sext n x)

/-- Guard of a decoding: the encoding is assigned and its reserved fields are 0 (R135). -/
def okIf (c : Bool) (i : Ins) : Option Ins := if c then some i else none

/-- Major 0x01 (Table 04-8). -/
def decode01 (d a b m : Nat) : Option Ins :=
  match m with
  | 0 => some (.arith .add d a (.reg b))
  | 1 => some (.arith .sub d a (.reg b))
  | 2 => some (.carry false d a b)
  | 3 => some (.carry true d a b)
  | 4 => okIf (b == 0) (.arith .neg d a (.reg 0))
  | 5 => okIf (d == 0) (.cmp a (.reg b))
  | 6 => some (.arith .min d a (.reg b))
  | 7 => some (.arith .max d a (.reg b))
  | 8 => some (.arith .minu d a (.reg b))
  | 9 => some (.arith .maxu d a (.reg b))
  | _ => none

/-- Major 0x02; an odd D of MULW and MULWU is a reserved value (R158). -/
def decode02 (d a b m : Nat) : Option Ins :=
  match m with
  | 0 => some (.arith .mul d a (.reg b))
  | 1 => okIf (d % 2 == 0) (.mulw true d a b)
  | 2 => okIf (d % 2 == 0) (.mulw false d a b)
  | 3 => some (.div true false d a b)
  | 4 => some (.div false false d a b)
  | 5 => some (.div true true d a b)
  | 6 => some (.div false true d a b)
  | _ => none

/-- Major 0x03 (Table 04-8); B of CLZ, POPC and BSWAP is reserved. -/
def decode03 (d a b m : Nat) : Option Ins :=
  match m with
  | 0 => some (.logic .and d a (.reg b))
  | 1 => some (.logic .or d a (.reg b))
  | 2 => some (.logic .xor d a (.reg b))
  | 3 => some (.logic .andn d a (.reg b))
  | 4 => some (.logic .nor d a (.reg b))
  | 5 => some (.logic .shl d a (.reg b))
  | 6 => some (.logic .shr d a (.reg b))
  | 7 => some (.logic .sar d a (.reg b))
  | 8 => some (.logic .rol d a (.reg b))
  | 9 => some (.logic .ror d a (.reg b))
  | 10 => okIf (b == 0) (.logic .clz d a (.imm 0))
  | 11 => okIf (b == 0) (.logic .popc d a (.imm 0))
  | 12 => okIf (b == 0) (.logic .bswap d a (.imm 0))
  | _ => none

/-- Major 0x0A: shift immediate. -/
def decode0A (d a b m : Nat) : Option Ins :=
  let sh := m % 64
  match m / 64 with
  | 0 => okIf (b == 0) (.logic .shl d a (.imm sh))
  | 1 => okIf (b == 0) (.logic .shr d a (.imm sh))
  | 2 => okIf (b == 0) (.logic .sar d a (.imm sh))
  | 3 => okIf (b == 0) (.logic .rol d a (.imm sh))
  | _ => none

/-- Major 0x15: tag access; B of GTAG and LDTAG and D of STTX are reserved (R135). -/
def decode15 (d a b m : Nat) : Option Ins :=
  match m with
  | 0 => okIf (b == 0) (.gtag d a)
  | 1 => some (.stag d a b)
  | 2 => okIf (b == 0) (.ldtag d a)
  | 3 => okIf (d == 0) (.sttx a b)
  | _ => none

/-- Major 0x18 (Tables 04-8 and 06-2). -/
def decode18 (d a b m : Nat) : Option Ins :=
  let f := m / 256
  let nb := b == 0
  if f = 3 then none
  else match m % 256 with
    | 0x00 => some (.bfp .add f d a b)
    | 0x01 => some (.bfp .sub f d a b)
    | 0x02 => some (.bfp .mul f d a b)
    | 0x03 => some (.bfp .div f d a b)
    | 0x04 => okIf nb (.bfp .sqrt f d a 0)
    | 0x05 => okIf (d == 0) (.fcmp false f a b)
    | 0x06 => some (.fminmax false f d a b)
    | 0x07 => some (.fminmax true f d a b)
    | 0x08 => okIf nb (.bfp .abs f d a 0)
    | 0x09 => okIf nb (.bfp .neg f d a 0)
    | 0x0A => okIf nb (.bfp .mov f d a 0)
    | 0x0B => okIf (decide (b < 3)) (.bfp (.cvt b) f d a 0)
    | 0x0C => okIf nb (.fcvti false f d a)
    | 0x0D => okIf nb (.bfp .cvtfi f d a 0)
    | 0x0E => okIf nb (.bfp .rnd f d a 0)
    | 0x0F => okIf nb (.fmvg f d a)
    | 0x10 => okIf nb (.gmvf f d a)
    | _ => none

/-- Major 0x1A (Tables 04-8 and 06-7). -/
def decode1A (d a b m : Nat) : Option Ins :=
  let f := m / 256
  let nb := b == 0
  if 2 ≤ f then none
  else match m % 256 with
    | 0x00 => some (.dfp .add f d a b)
    | 0x01 => some (.dfp .sub f d a b)
    | 0x02 => some (.dfp .mul f d a b)
    | 0x03 => some (.dfp .div f d a b)
    | 0x04 => okIf nb (.dfp .sqrt f d a 0)
    | 0x05 => okIf (d == 0) (.fcmp true f a b)
    | 0x06 => some (.dquant f d a b)
    | 0x07 => okIf (decide (b < 2)) (.dfp (.cvt b) f d a 0)
    | 0x08 => okIf nb (.fcvti true f d a)
    | 0x09 => okIf nb (.dfp .cvtfi f d a 0)
    | 0x0A => okIf nb (.dfp .rnd f d a 0)
    | _ => none

/-- Major 0x1C in format LPD; lengths of 16 to 31 are reserved (R134, R205). -/
def decode1C (a b l1 l2 op : Nat) : Option Ins :=
  if 16 ≤ l1 ∨ 16 ≤ l2 then none
  else match op with
    | 0 => some (.packed .add a b (l1 + 1) (l2 + 1))
    | 1 => some (.packed .sub a b (l1 + 1) (l2 + 1))
    | 2 => some (.packed .mul a b (l1 + 1) (l2 + 1))
    | 3 => some (.pdiv false a b (l1 + 1) (l2 + 1))
    | 4 => some (.packed .zadd a b (l1 + 1) (l2 + 1))
    | 5 => some (.packed .cmp a b (l1 + 1) (l2 + 1))
    | 6 => some (.pdiv true a b (l1 + 1) (l2 + 1))
    | _ => none

/-- Major 0x1D (Table 06-11): the packed length in bytes is MINOR [3:0] + 1. -/
def decode1D (d a b m : Nat) : Option Ins :=
  let len := m % 16 + 1
  match m / 16 with
  | 0 => okIf (b == 0) (.ptob d a len)
  | 1 => okIf (d == 0) (.btop a b len)
  | 2 => okIf (b == 0) (.ptod d a len)
  | 3 => okIf (d == 0) (.dtop a b len)
  | _ => none

/-- Major 0x1E (Table 10-7). -/
def decode1E (d a b m : Nat) : Option Ins :=
  match m with
  | 0 => some (.vec .clmul d a b)
  | 1 => some (.vec .clmulh d a b)
  | 2 => some (.vec .clmulx d a b)
  | 3 => some (.vec .clmuly d a b)
  | 4 => some (.vec .vxor d a b)
  | 5 => some (.vec .vand d a b)
  | 6 => some (.vec .vor d a b)
  | 7 => some (.vec .vshuf d a b)
  | 8 => okIf (b == 0) (.vec .vbswap d a 0)
  | _ => none

/-- Major 0x28 (Table 08-5): D and B are reserved, and A of TLBINVA. -/
def decode28 (d a b m : Nat) : Option Ins :=
  let lvl := m / 16 % 8
  let op := m % 4
  if m / 128 ≠ 0 ∨ bit m 2 ∨ op = 3 ∨ 6 ≤ lvl ∨ d ≠ 0 ∨ b ≠ 0 then none
  else if lvl = 5 then (if bit m 3 then okIf (op == 1 && a == 0) (.tlbinv true 0) else okIf (op == 1) (.tlbinv false a))
  else some (if bit m 3 then .maintSw lvl op a else .maint lvl op a)

/-- The special registers of Table 05-7. -/
def specialOk (n : Nat) : Bool := decide (n ≤ 0x00C) || (decide (0x010 ≤ n) && decide (n ≤ 0x015))

/-- A long operation, F = 0 (Tables 04-5, 04-7 and 04-8). -/
def decodeLong (w : Nat) : Option Ins :=
  let d := bits w 24 20
  let a := bits w 19 15
  let b := bits w 14 10
  let c := bits w 9 5
  let m := bits w 9 0
  let i15 := bits w 14 0
  let s15 := sx 15 i15
  let size := bits w 14 13
  let s13 := sx 13 (bits w 12 0)
  match bits w 30 25 with
  | 0x01 => decode01 d a b m
  | 0x02 => decode02 d a b m
  | 0x03 => decode03 d a b m
  | 0x04 => some (.arith .add d a (.imm s15))
  | 0x05 => some (.logic .and d a (.imm i15))
  | 0x06 => some (.logic .or d a (.imm i15))
  | 0x07 => some (.logic .xor d a (.imm i15))
  | 0x08 => okIf (d == 0) (.cmp a (.imm s15))
  | 0x09 => some (.lui d (u64 (sx 20 (bits w 19 0) * 2 ^ 15)))
  | 0x0A => decode0A d a b m
  | 0x0C => some (.ld d a s15)
  | 0x0D => okIf (size != 3) (.ldx false (2 ^ size) d a s13)
  | 0x0E => okIf (size != 3) (.ldx true (2 ^ size) d a s13)
  | 0x0F => some (.st d a s15)
  | 0x10 => okIf (size != 3) (.sts (2 ^ size) d a s13)
  | 0x11 => some (.ldres d a s15)
  | 0x12 => some (.stcond d a s15)
  | 0x13 => some (.stm d a s15)
  | 0x14 => some (.ldm d a s15)
  | 0x15 => decode15 d a b m
  | 0x16 => okIf (size != 3) (.fld (4 * 2 ^ size) d a s13)
  | 0x17 => okIf (size != 3) (.fst (4 * 2 ^ size) d a s13)
  | 0x18 => decode18 d a b m
  | 0x19 => okIf (decide (bits w 4 3 < 3) && decide (bits w 2 0 < 4)) (.bfma (bits w 2 0) (bits w 4 3) d a b c)
  | 0x1A => decode1A d a b m
  | 0x1B => okIf (decide (bits w 4 3 < 2) && decide (bits w 2 0 < 4)) (.dfma (bits w 2 0) (bits w 4 3) d a b c)
  | 0x1C => decode1C d a b c (bits w 4 0)
  | 0x1D => decode1D d a b m
  | 0x1E => decode1E d a b m
  | 0x1F => okIf (decide (m < 2)) (.bcrypt (m == 1) d a b)
  | 0x20 => some (.b 14 (u64 (sx 25 (bits w 24 0) * 4)))
  | 0x21 => okIf (bits w 24 21 != 15) (.b (bits w 24 21) (u64 (sx 21 (bits w 20 0) * 4)))
  | 0x22 => some (.call (u64 (sx 25 (bits w 24 0) * 4)))
  | 0x23 =>
    match m with
    | 0 => okIf (d == 0 && b == 0) (.br a)
    | 1 => okIf (b == 0) (.callr d a)
    | 2 => okIf (d == 0 && b == 0) (.ret a)
    | _ => none
  | 0x24 =>
    match m with
    | 0 => okIf (d == 0 && a == 0 && b == 0) .tgate
    | 1 => okIf (d == 0) (.texit a b)
    | _ => none
  | 0x25 => okIf (specialOk m && a == 0 && b == 0) (.mfs d m)
  | 0x26 => okIf (specialOk m && d == 0 && b == 0) (.mts m a)
  | 0x27 =>
    if d ≠ 0 ∨ a ≠ 0 ∨ b ≠ 0 then none
    else match m with
      | 0 => some .mbar
      | 1 => some .iobar
      | 2 => some .fsync
      | 3 => some .isync
      | _ => none
  | 0x28 => decode28 d a b m
  | 0x29 =>
    match m with
    | 0 => some (.lock false d a b)
    | 1 => some (.lock true d a b)
    | 2 => some (.lrel d a b)
    | _ => none
  | 0x2A =>
    match m with
    | 0 => okIf (d == 0 && a == 0 && b == 0) .yield
    | 1 => okIf (d == 0 && b == 0) (.signal a)
    | _ => none
  | 0x3E => some (.custom d a b c (bits w 4 0))
  | 0x3F => some (.custom (32 + d) a b c (bits w 4 0))
  | _ => none

/-- A slot of a pair (Table 04-9). -/
def shortOf (x : Nat) : Short := { op := bits x 14 10, d := bits x 9 5, s := bits x 4 0 }

/-- The short opcode is assigned and its reserved D and S values are 0 (Table 04-10). -/
def Short.ok (x : Short) : Bool :=
  if x.op = 0 ∨ 0x1C ≤ x.op then false
  else if x.op = 0x16 then x.d == 0
  else if x.op = 0x17 then decide (x.d < 15)
  else if x.op = 0x18 ∨ x.op = 0x19 ∨ x.op = 0x1B then x.d == 0 && x.s == 0
  else true

/-- Branch class (Table 04-10). -/
def Short.isBranch (x : Short) : Bool := decide (0x16 ≤ x.op) && decide (x.op ≤ 0x19)
/-- Memory class. -/
def Short.isMem (x : Short) : Bool := x.op == 0x14 || x.op == 0x15
/-- Writes the condition flags. -/
def Short.isFlag (x : Short) : Bool := x.op == 0x0C || x.op == 0x0D
/-- The G register a short operation writes, other than G0. -/
def Short.dest (x : Short) : Option Nat :=
  if x.d ≠ 0 ∧ (x.op = 0x14 ∨ x.op = 0x1A ∨ (1 ≤ x.op ∧ x.op ≤ 0x13 ∧ !x.isFlag)) then some x.d else none

/-- A pairing restriction the pair breaks: slot and reason (R141, Table 05-8). -/
def pairBreach (x y : Short) : Option (Nat × Nat) :=
  if x.isBranch then some (0, 0)
  else if x.dest.isSome && x.dest == y.dest then some (1, 1)
  else if x.isFlag && y.isFlag then some (1, 2)
  else if x.isMem && y.isMem then some (1, 3)
  else none

/-- An instruction word: its decoding, or the slot of the Illegal Operation (R134 to R139, steps 2 and 3 of Table 04-11). DESIGN CHOICE (log 176): reserved bit 15 of a pair word is reported at slot A. -/
def decodeIns (w : Nat) : Except Nat Ins :=
  if bit w 31 then
    let x := shortOf (bits w 30 16)
    let y := shortOf (bits w 14 0)
    if bit w 15 then .error 0
    else if !x.ok then .error 0
    else if !y.ok then .error 1
    else .ok (.pair x y)
  else
    match decodeLong w with
    | some i => .ok i
    | none => .error 0

end Sys2Proof.Machine
end

