-- ==== Sys2Proof/Machine/Crypto.lean ====
section
/-! DEFINITION. The standard functions the manual names: SHA-384, HMAC and HKDF (R149, R342, R390), AES (R296, FIPS 197), CRC-32C, CRC-32 and Adler-32 (R391, R317), carry-less product (Table 10-7), ECDSA P-384 (R149, R408). -/
namespace Sys2Proof.Machine

/-- The largest x below 2^n, above a start that the bits below n leave clear, whose k-th power is at most m. -/
def rootFrom (k m : Nat) : Nat → Nat → Nat
  | 0, x => x
  | n + 1, x => rootFrom k m n (if (x + 2 ^ n) ^ k ≤ m then x + 2 ^ n else x)

/-- The first 64 bits of the fractional part of the k-th root of a number below 512 (FIPS 180-4, 4.2.3 and 5.3.4). -/
def rootFrac (k n : Nat) : BitVec 64 := BitVec.ofNat 64 (rootFrom k (n * 2 ^ (64 * k)) 69 0)

/-- The first 80 primes: those below 410. -/
def shaPrimes : List Nat := (List.range' 2 408).filter (fun n => (List.range' 2 19).all (fun d => n ≤ d || n % d != 0))

/-- Exclusive or of a word rotated right by each of two amounts, with a third term. -/
def sigma (x : BitVec 64) (i j : Nat) (y : BitVec 64) : BitVec 64 := x.rotateRight i ^^^ (x.rotateRight j ^^^ y)

/-- The working variables of the compression function. -/
structure ShaVars where
  front : BitVec 64 × BitVec 64 × BitVec 64 × BitVec 64
  back : BitVec 64 × BitVec 64 × BitVec 64 × BitVec 64
deriving DecidableEq, Repr

/-- One round: the sum that enters both halves, then each half moves by one place. -/
def ShaVars.round (v : ShaVars) (k w : BitVec 64) : ShaVars :=
  let (a, b, c, d) := v.front
  let (e, f, g, h) := v.back
  let into := w + k + h + (g ^^^ (e &&& (f ^^^ g))) + sigma e 41 18 (e.rotateRight 14)
  ⟨(into + (((a ||| b) &&& c) ||| (a &&& b)) + sigma a 39 34 (a.rotateRight 28), a, b, c), (into + d, e, f, g)⟩

/-- Sum of the variables, place by place. -/
def ShaVars.plus (u v : ShaVars) : ShaVars :=
  ⟨(u.front.1 + v.front.1, u.front.2.1 + v.front.2.1, u.front.2.2.1 + v.front.2.2.1, u.front.2.2.2 + v.front.2.2.2),
   (u.back.1 + v.back.1, u.back.2.1 + v.back.2.1, u.back.2.2.1 + v.back.2.2.1, u.back.2.2.2 + v.back.2.2.2)⟩

/-- The rounds of one block: the next 16 words of the schedule, oldest first, move on by one word at each round. -/
def ShaVars.rounds (v : ShaVars) (win : List (BitVec 64)) : List Nat → ShaVars
  | [] => v
  | p :: ps =>
    match win with
    | [] => v
    | w :: rest =>
      let late := rest.getD 13 0
      let early := rest.getD 0 0
      let next := w + rest.getD 8 0 + sigma early 8 1 (early >>> 7) + sigma late 61 19 (late >>> 6)
      (v.round (rootFrac 3 p) w).rounds (rest ++ [next]) ps

/-- The next n 64-bit words of a byte string. -/
def words64 : Nat → List Byte → List (BitVec 64)
  | 0, _ => []
  | n + 1, l => BitVec.ofNat 64 (beNat (l.take 8)) :: words64 n (l.drop 8)

/-- The hash value after n blocks of a padded message. -/
def ShaVars.absorb (v : ShaVars) : Nat → List Byte → ShaVars
  | 0, _ => v
  | n + 1, l => (v.plus (v.rounds (words64 16 l) shaPrimes)).absorb n (l.drop 128)

/-- The initial hash value of SHA-384: the square roots of the ninth to sixteenth primes. -/
def sha384Init : ShaVars := ⟨(rootFrac 2 23, rootFrac 2 29, rootFrac 2 31, rootFrac 2 37), (rootFrac 2 41, rootFrac 2 43, rootFrac 2 47, rootFrac 2 53)⟩

/-- SHA-384 (FIPS 180-4): the first six words of the hash value. -/
def sha384 (m : List Byte) : List Byte :=
  let padded := m ++ [0x80#8] ++ List.replicate ((240 - (m.length + 1) % 128) % 128) 0#8 ++ beBytes 16 (m.length * 8)
  let v := sha384Init.absorb (padded.length / 128) padded
  [v.front.1, v.front.2.1, v.front.2.2.1, v.front.2.2.2, v.back.1, v.back.2.1].flatMap (fun w => beBytes 8 w.toNat)

/-- HMAC-SHA-384 (R390). -/
def hmac384 (key m : List Byte) : List Byte :=
  let k0 := if key.length > 128 then sha384 key else key
  let k := k0 ++ List.replicate (128 - k0.length) 0#8
  sha384 (k.map (· ^^^ 0x5c#8) ++ sha384 (k.map (· ^^^ 0x36#8) ++ m))

/-- HKDF-SHA-384 with an empty salt, for at most 48 bytes of output (R342, RFC 5869). -/
def hkdf384 (ikm info : List Byte) (len : Nat) : List Byte :=
  let prk := hmac384 (List.replicate 48 0#8) ikm
  (hmac384 prk (info ++ [0x01#8])).take len

/-- n steps of the register of a reflected CRC-32 with a polynomial. -/
def crcBits : Nat → Nat → Nat → Nat
  | 0, _, c => c
  | n + 1, p, c => crcBits n p (if c % 2 = 1 then Nat.xor (c / 2) p else c / 2)

/-- The register after the bytes; the case split makes Lean's kernel compute each value before the next byte. -/
def crcFold (p : Nat) : List Byte → Nat → Nat
  | [], c => c
  | b :: l, c =>
    match crcBits 8 p (Nat.xor c b.toNat) with
    | 0 => crcFold p l 0
    | k + 1 => crcFold p l (k + 1)

/-- CRC with a reflected polynomial: the register starts with all ones and is complemented at the end. -/
def crcOf (p : Nat) (l : List Byte) : Nat := 0xFFFFFFFF - crcFold p l 0xFFFFFFFF

/-- CRC-32 (RFC 1952). -/
def crc32 (l : List Byte) : Nat := crcOf 0xEDB88320 l

/-- CRC-32C (R391, Table 15-6). -/
def crc32c (l : List Byte) : Nat := crcOf 0x82F63B78 l

/-- Adler-32 (RFC 1950). -/
def adler32 (l : List Byte) : Nat :=
  let r := l.foldl (fun (p : Nat × Nat) b => let a := (p.1 + b.toNat) % 65521; (a, (p.2 + a) % 65521)) (1, 0)
  r.2 * 65536 + r.1

/-- Carry-less product over n bits of the second factor. -/
def clmulN : Nat → Nat → Nat → Nat
  | 0, _, _ => 0
  | n + 1, a, b => Nat.xor (clmulN n a b) (if bit b n then a * 2 ^ n else 0)

/-- Doubling in GF(2^8) of AES. -/
def xtime (a : BitVec 8) : BitVec 8 := (a <<< 1) ^^^ (if a.getLsbD 7 then 0x1b#8 else 0#8)

/-- Product in GF(2^8) of AES over n bits of the second factor, most significant first. -/
def gmulN : Nat → BitVec 8 → BitVec 8 → BitVec 8
  | 0, _, _ => 0#8
  | n + 1, a, b => gmulN n (xtime a) (b >>> 1) ^^^ (if b.getLsbD 0 then a else 0#8)

/-- Product in GF(2^8) of AES. -/
def gmul (a b : BitVec 8) : BitVec 8 := gmulN 8 a b

/-- Inverse in GF(2^8): the 254th power. -/
def ginv (a : BitVec 8) : BitVec 8 :=
  let a2 := gmul a a
  let a4 := gmul a2 a2
  let a8 := gmul a4 a4
  let a16 := gmul a8 a8
  let a32 := gmul a16 a16
  let a64 := gmul a32 a32
  gmul a2 (gmul a4 (gmul a8 (gmul a16 (gmul a32 (gmul a64 (gmul a64 a64))))))

/-- The AES S-box. -/
def sbox (a : BitVec 8) : BitVec 8 :=
  let b := ginv a
  b ^^^ b.rotateLeft 1 ^^^ b.rotateLeft 2 ^^^ b.rotateLeft 3 ^^^ b.rotateLeft 4 ^^^ 0x63#8

/-- The inverse AES S-box. -/
def invSbox (a : BitVec 8) : BitVec 8 :=
  ginv (a.rotateLeft 1 ^^^ a.rotateLeft 3 ^^^ a.rotateLeft 6 ^^^ 0x05#8)

/-- Key expansion: words most recent first, i the index of the next, until the count is reached. -/
def aesExpand : Nat → Nat → Nat → BitVec 8 → List (List Byte) → List (List Byte)
  | 0, _, _, _, w => w
  | n + 1, nk, i, rc, w =>
    let t := w.getD 0 []
    let t' := if i % nk = 0 then
        match t with
        | [a, b, c, d] => [sbox b ^^^ rc, sbox c, sbox d, sbox a]
        | _ => t
      else if nk = 8 ∧ i % 8 = 4 then t.map sbox else t
    aesExpand n nk (i + 1) (if i % nk = 0 then xtime rc else rc) (List.zipWith (· ^^^ ·) t' (w.getD (nk - 1) []) :: w)

/-- Split a byte string into n pieces of a size. -/
def chunks (size : Nat) : Nat → List Byte → List (List Byte)
  | 0, _ => []
  | n + 1, l => l.take size :: chunks size n (l.drop size)

/-- Round keys of 16 bytes, first round first. -/
def aesKeys (key : List Byte) : List (List Byte) :=
  let nk := key.length / 4
  let total := 4 * (nk + 7)
  let w := (aesExpand (total - nk) nk nk 0x01#8 (chunks 4 nk key).reverse).reverse
  chunks 16 (nk + 7) w.flatten

/-- ShiftRows on the 16 bytes of a state in column order. -/
def shiftRows (l : List Byte) : List Byte := (List.range 16).map (fun i => l.getD ((i + 4 * (i % 4)) % 16) 0#8)

/-- Inverse ShiftRows. -/
def invShiftRows (l : List Byte) : List Byte := (List.range 16).map (fun i => l.getD ((i + 16 - 4 * (i % 4)) % 16) 0#8)

/-- A column mixed with four coefficients. -/
def mixWith (a b c d : BitVec 8) (l : List Byte) : List Byte :=
  (List.range 16).map (fun i =>
    let k := i / 4 * 4
    let x := fun j => l.getD (k + (i + j) % 4) 0#8
    gmul (x 0) a ^^^ gmul (x 1) b ^^^ gmul (x 2) c ^^^ gmul (x 3) d)

/-- Add a round key. -/
def addKey (a b : List Byte) : List Byte := List.zipWith (· ^^^ ·) a b

/-- The middle rounds of encryption, then the last. -/
def aesRounds : List (List Byte) → List Byte → List Byte
  | [], st => st
  | [k], st => addKey (shiftRows (st.map sbox)) k
  | k :: ks, st => aesRounds ks (addKey (mixWith 2#8 3#8 1#8 1#8 (shiftRows (st.map sbox))) k)

/-- The rounds of decryption. -/
def aesInvRounds : List (List Byte) → List Byte → List Byte
  | [], st => st
  | [k], st => addKey ((invShiftRows st).map invSbox) k
  | k :: ks, st => aesInvRounds ks (mixWith 14#8 11#8 13#8 9#8 (addKey ((invShiftRows st).map invSbox) k))

/-- AES encryption of one block (FIPS 197). -/
def aesEnc (key blk : List Byte) : List Byte :=
  match aesKeys key with
  | k :: ks => aesRounds ks (addKey blk k)
  | [] => blk

/-- AES decryption of one block (FIPS 197). -/
def aesDec (key blk : List Byte) : List Byte :=
  match (aesKeys key).reverse with
  | k :: ks => aesInvRounds ks (addKey blk k)
  | [] => blk

/-- Doubling of a 128-bit tweak taken least significant byte first (IEEE 1619). -/
def xtsDouble (t : Nat) : Nat := Nat.xor (t * 2 % 2 ^ 128) (if bit t 127 then 0x87 else 0)

/-- Bytes of a 128-bit number, least significant first. -/
def leBytes16 (t : Nat) : List Byte := (beBytes 16 t).reverse

/-- The n blocks of an XTS data unit from a tweak on: each is masked before and after the cipher (IEEE 1619). -/
def xtsBlocks (crypt : List Byte → List Byte) : Nat → Nat → List Byte → List Byte
  | 0, _, _ => []
  | n + 1, t, l => addKey (crypt (addKey (l.take 16) (leBytes16 t))) (leBytes16 t) ++ xtsBlocks crypt n (xtsDouble t) (l.drop 16)

/-- An XTS-AES-256 data unit of whole blocks under a key of 64 bytes and a data unit number (R327). -/
def xtsUnit (enc : Bool) (key : List Byte) (unit : Nat) (l : List Byte) : List Byte :=
  xtsBlocks (if enc then aesEnc (key.take 32) else aesDec (key.take 32)) (l.length / 16) (beNat (aesEnc (key.drop 32) (leBytes16 unit)).reverse) l

/-- AES-CTR over n blocks from a counter (R276). -/
def aesCtr (key : List Byte) : Nat → Nat → List Byte → List Byte
  | 0, _, _ => []
  | n + 1, c, l => List.zipWith (· ^^^ ·) (l.take 16) (aesEnc key (beBytes 16 c)) ++ aesCtr key n ((c + 1) % 2 ^ 128) (l.drop 16)

/-- The prime of P-384. -/
def p384 : Nat := 2 ^ 384 - 2 ^ 128 - 2 ^ 96 + 2 ^ 32 - 1

/-- The order of P-384. -/
def n384 : Nat := 0xffffffffffffffffffffffffffffffffffffffffffffffffc7634d81f4372ddf581a0db248b0a77aecec196accc52973

/-- Powers modulo m over n bits of the exponent. -/
def powMod : Nat → Nat → Nat → Nat → Nat
  | 0, _, _, m => 1 % m
  | n + 1, b, e, m =>
    let h := powMod n (b * b % m) (e / 2) m
    if e % 2 = 1 then h * b % m else h

/-- A point of P-384 in Jacobian coordinates: x = X / Z², y = Y / Z³; Z = 0 is the point at infinity. -/
structure EcPoint where
  x : Nat
  y : Nat
  z : Nat
deriving DecidableEq, Repr

/-- A difference modulo the prime. -/
def subP (a b : Nat) : Nat := (a + (p384 - b % p384)) % p384

/-- Twice a point. -/
def ecDbl (p : EcPoint) : EcPoint :=
  if p.z = 0 then p
  else
    let zz := p.z * p.z % p384
    let yy := p.y * p.y % p384
    let b := p.x * yy % p384
    let a := 3 * (subP p.x zz * ((p.x + zz) % p384)) % p384
    let x := subP (a * a) (8 * b)
    ⟨x, subP (a * subP (4 * b) x) (8 * (yy * yy)), 2 * (p.y * p.z) % p384⟩

/-- Sum of two points. -/
def ecAdd (p q : EcPoint) : EcPoint :=
  if p.z = 0 then q
  else if q.z = 0 then p
  else
    let zp := p.z * p.z % p384
    let zq := q.z * q.z % p384
    let u := p.x * zq % p384
    let v := q.x * zp % p384
    let r := p.y * (zq * q.z % p384) % p384
    let t := q.y * (zp * p.z % p384) % p384
    if u = v then (if r = t then ecDbl p else ⟨1, 1, 0⟩)
    else
      let h := subP v u
      let hh := h * h % p384
      let c := hh * h % p384
      let w := subP t r
      let x := subP (w * w) (c + 2 * (u * hh % p384))
      ⟨x, subP (w * subP (u * hh) x) (r * c), p.z * q.z % p384 * h % p384⟩

/-- A multiple of a point over n bits. -/
def ecMul : Nat → Nat → EcPoint → EcPoint
  | 0, _, _ => ⟨1, 1, 0⟩
  | n + 1, k, p =>
    let h := ecDbl (ecMul n (k / 2) p)
    if k % 2 = 1 then ecAdd h p else h

/-- The base point of P-384. -/
def g384 : Nat × Nat :=
  (0xaa87ca22be8b05378eb1c71ef320ad746e1d3b628ba79b9859f741e082542a385502f25dbf55296c3a545e3872760ab7,
   0x3617de4a96262c6f5d9e98bf9292dc29f8f41dbd289a147ce9da3113b5f0b8c00a60b1ce1d7e819d7a431d7c90ea0e5f)

/-- The constant b of P-384. -/
def b384 : Nat := 0xb3312fa7e23ee7e4988e056be3f82d19181d9c6efe8141120314088f5013875ac656398d8a2ed19d2a85c8edd3ec2aef

/-- ECDSA P-384 over SHA-384: an uncompressed public key, a message and a signature r ‖ s (R149). -/
def ecdsaOk (pub msg sig : List Byte) : Bool :=
  let x := fld pub 1 48
  let y := fld pub 49 48
  let r := fld sig 0 48
  let v := fld sig 48 48
  let onCurve := pub.length == 97 && pub.getD 0 0#8 == 0x04#8 && x < p384 && y < p384 && y * y % p384 == (x * x * x + (p384 - 3) * x + b384) % p384
  onCurve && 0 < r && r < n384 && 0 < v && v < n384 &&
    (let w := powMod 384 v (n384 - 2) n384
     let e := beNat (sha384 msg)
     let s := ecAdd (ecMul 384 (e * w % n384) ⟨g384.1, g384.2, 1⟩) (ecMul 384 (r * w % n384) ⟨x, y, 1⟩)
     s.z != 0 && s.x * powMod 384 (s.z * s.z % p384) (p384 - 2) p384 % p384 % n384 == r)

/-- An ECDSA P-384 signature r ‖ s over SHA-384 by the private key d with the nonce k, both from 1 to n − 1 (Table 11-8). -/
def ecdsaSign (d k : Nat) (msg : List Byte) : List Byte :=
  let p := ecMul 384 k ⟨g384.1, g384.2, 1⟩
  let r := p.x * powMod 384 (p.z * p.z % p384) (p384 - 2) p384 % p384 % n384
  beBytes 48 r ++ beBytes 48 (powMod 384 k (n384 - 2) n384 * (beNat (sha384 msg) + r * d) % n384)

end Sys2Proof.Machine
end

