-- ==== Sys2Proof/Config.lean ====
section
/-! DEFINITION. What an implementation fixes and what the manual leaves open: opaque constants, so that no proof can see a value. -/
namespace Sys2Proof.Config

/-- A free 64-bit value for each draw of the state's counter (log entry 2). -/
opaque freeWord : Nat → BitVec 64

/-- A free number for each draw of the state's counter (log entry 2). -/
opaque freeNat : Nat → Nat

/-- A free choice for each draw of the state's counter (log entry 2). -/
opaque freeBool : Nat → Bool

/-- Free bytes for each draw of the state's counter: DRBG output, signatures (log entry 2). -/
opaque freeBytes : Nat → Nat → List (BitVec 8)

/-- The base quantum of an arbitration point (R46), less 1 (log entry 8). -/
opaque baseQuantum : Nat

/-- The raw DEFLATE stream COMPRESS emits for (level, window bits, dictionary, input): a function of
these operands alone (R317), whose bits the manual does not fix (log entry 9). -/
opaque deflateStream : Nat → Nat → List (BitVec 8) → List (BitVec 8) → List (BitVec 8)

/-- LEVEL of inline compression, which the manual does not state, modulo 4 (log entry 9). -/
opaque inlineLevel : Nat

/-- WBITS of inline compression above 9, modulo 7 (log entry 9). -/
opaque inlineWbits : Nat

/-- The 96 body bytes of a Logbook record of a kind with the contents of Table 13-10, whose byte layout
the manual does not give (log entry 10). -/
opaque recordBody : Nat → List Nat → List (BitVec 8)

/-- The fused Logbook key from which the seal MAC key is derived (R390, log entry 10). -/
opaque sealKey : List (BitVec 8)

/-- RESULT of a TOPO flit for a link list of (port, neighbour, neighbour port), whose bit layout the manual
does not give (Table 12-3, log entry 2). -/
opaque topoLinks : List (Nat × Nat × Nat) → Nat

/-- Bytes of the SYSTEM region that neither the journal pool nor Ledger Lock Tables take (R251, R359, log entry 12). -/
opaque systemOther : Nat

/-- The device sealing secret of R342 (fuses, log entry 10). -/
opaque sealingSecret : List (BitVec 8)

/-- The number behind the fused device attestation key (Table 11-8). -/
opaque attestKey : Nat

/-- ECC of the 32 tag bytes of a line: the manual gives its width and not its code (R252, log entry 180). -/
opaque tagEcc : List Byte → Nat

end Sys2Proof.Config
end

