-- ==== Sys2Proof/Machine/Types.lean ====
section
/-! DEFINITION. The pieces of state of each unit, as plain data. The default value of a field is its value at State.reset. A remark [DCn] says that the manual states no reset value and log entry n names the one taken. -/
namespace Sys2Proof.Machine

/-- What the device as a whole does (R402, R406, R416, R417, R429, R440). -/
inductive Phase where
  /-- PORST_N asserted, or taken as asserted. -/
  | held
  /-- Steps of Table 15-2 done; cores and mailboxes run. -/
  | running
  /-- Recovery mode (R406). -/
  | recovery
  /-- System reset: steps 1 to 4 of R411 done, SYSRST_N still asserted. -/
  | sysHeld
  /-- Stopped until PORST_N (R27, R417, R440). -/
  | stopped
deriving DecidableEq, Repr

/-- One reference clock input. -/
structure Ref where
  /-- The reference is failed (1 bit; R30). -/
  failed : Bool := false
  /-- Stamp of its last failure (64 bits; R30). -/
  failedAt : Nat := 0
deriving DecidableEq, Repr

/-- The clock unit and the Time-of-Day unit. -/
structure Clock where
  /-- TOD, whose low 64 bits software sees (64 bits; R35). -/
  tod : Nat := 0
  /-- REFCLK0 (2 fields; R30). -/
  ref0 : Ref := {}
  /-- REFCLK1 (2 fields; R30). -/
  ref1 : Ref := {}
  /-- Reference the PLL is locked to, 0 or 1 (1 bit; R31). -/
  sel : Nat := 0
  /-- The PLL runs in holdover (1 bit; R33). -/
  holdover : Bool := false
  /-- Stamp at which the PLL left holdover for REFCLK1, while that 1 ms check lasts (64 bits; R33). -/
  relockAt : Option Nat := none
  /-- Selected PPS source: 0 none, 1 PPS_IN, 2 GPIO12 (2 bits; R447). -/
  ppsSource : Nat := 1
  /-- Stamp of the last PPS edge of the source, if one has arrived (64 bits; R37, R437). -/
  lastPps : Option Nat := none
  /-- PPS_LOST has been reported and no edge has arrived since (1 bit; R437). -/
  ppsLost : Bool := false
  /-- Phase error still to be slewed away, in TOD units (signed; R37). -/
  slew : Int := 0
  /-- TCLK edges since the last slewed one (8 bits; R37). -/
  slewEdge : Nat := 0
  /-- PPS_OUT is high until this stamp (64 bits; R439). -/
  ppsOutEnd : Option Nat := none
  /-- Start of the last whole second PPS_OUT passed (64 bits; R439). -/
  ppsOutSec : Nat := 0
  /-- TOD runs from step 7 of start-up on (1 bit; R407). -/
  todSet : Bool := false
  /-- Share epochs already applied: start of the epoch in force (64 bits; R40). -/
  epoch : Nat := 0
  /-- Start of the rate window in progress (64 bits; R109). -/
  rateWindow : Nat := 0
deriving DecidableEq, Repr

/-- One power rail (R428, R429, R432, R433). -/
structure Rail where
  /-- In its operating window (1 bit; R431). [DC3] -/
  inWin : Bool := true
  /-- Powered (1 bit; R430). [DC3] -/
  on : Bool := true
  /-- A regulator did not acknowledge AVSBus (1 bit; R432). -/
  avsFailed : Bool := false
  /-- PMBus answers (1 bit; R433). [DC5] -/
  telemetry : Bool := true
  /-- VOUT last read, mV (16 bits; R433). [DC5] -/
  mv : Nat := 0
  /-- IOUT last read, 0.1 A (16 bits; R433). [DC5] -/
  current : Nat := 0
  /-- Regulator temperature last read, °C (16 bits, signed; R433). [DC5] -/
  vrTemp : Int := 0
  /-- Under-voltage excursions (64 bits; R392, R429). -/
  underN : Nat := 0
  /-- Over-voltage excursions (64 bits; R392, R429). -/
  overN : Nat := 0
deriving DecidableEq, Repr

/-- One general-purpose pin (R447, R448). -/
structure Gpio where
  /-- Claim: 0 none, 1 GPIO, 2 PPS input (2 bits; R48, R447). -/
  claim : Nat := 0
  /-- Instance that held the Manager role when the pin was claimed (9 bits; R50). [DC5] -/
  holder : Nat := 0
  /-- Output driver on (1 bit; R448). -/
  dir : Bool := false
  /-- Output value (1 bit; R448). [DC5] -/
  value : Bool := false
  /-- Level driven from outside on the pin (1 bit; R448). [DC5] -/
  level : Bool := false
deriving DecidableEq, Repr

/-- Pins, rails and sensors. -/
structure Pins where
  /-- CATERR_N asserted (1 bit; R27, R441). -/
  caterr : Bool := false
  /-- THERMTRIP_N asserted (1 bit; R440). -/
  thermtrip : Bool := false
  /-- PORST_N asserted (1 bit; R402). -/
  porst : Bool := true
  /-- Stamp at which SYSRST_N was asserted, if it is (64 bits; R402). -/
  sysrst : Option Nat := none
  /-- A PORST_N release that waits for the rails: BOOTSEL, TEST_EN and what start-up finds (R431). -/
  release : Option (Nat × Bool × StartEnv) := none
  /-- VSTBY in window: SP-A's standby partition runs (1 bit; R89, R430). [DC3] -/
  vstby : Bool := true
  /-- The ten rails, numbered as POWER_STATUS numbers them (Table 16-12). -/
  rails : Tab Rail := []
  /-- Sensor readings last taken, 0.1 °C (32 × 16 bits, signed; R392, R440). [DC5] -/
  temp : Tab Int := []
  /-- GPIO0 to GPIO15 (R447). -/
  gpio : Tab Gpio := []
  /-- Last status word a regulator gave after PMB_ALERT_N (16 bits; R433). [DC5] -/
  pmbStatus : Tab Nat := []
  /-- The last SMBus Block Read answer, or none for NACK (R434). [DC5] -/
  smb : Option (List Byte) := none
  /-- The last answer of the JTAG port (R438, R344). [DC5] -/
  jtag : Option Nat := none
deriving DecidableEq, Repr

/-- A Service Processor (Table 02-1). -/
structure Sp where
  /-- State code of Table 02-1 (8 bits; R56). -/
  state : Nat := 0
  /-- Consecutive BIST failures (2 bits; R57). -/
  bistFails : Nat := 0
  /-- Stamp of the last SFW heartbeat (64 bits; R62, R64). [DC5] -/
  heartbeat : Nat := 0
  /-- SFW slot the SP runs (1 bit; R408). [DC5] -/
  slot : Nat := 0
  /-- The Logbook record of its failure is sealed (1 bit; R57). -/
  failLogged : Bool := true
  /-- TSK partition of its SRAM: the TSK patch it has loaded (512 KiB; R56, Table 02-3). [DC5] -/
  tskSram : List Byte := []
  /-- SFW partition of its SRAM: the copy of the SFW image it has verified (7.5 MiB; R56, R408). [DC5] -/
  sfwSram : List Byte := []
  /-- What the last suppressed SFW read returned (64 bits; R60). [DC5] -/
  datum : Nat := 0
deriving DecidableEq, Repr

/-- An event in the hub event FIFO, from which one notification is made (R75, Table 02-19). -/
structure HubEvent where
  /-- Window the notification goes to; 512 is the Manager window. -/
  win : Nat
  kind : Nat
  status : Nat := 0
  subject : Nat := 0
  tod : Nat := 0
  detail : Nat := 0
  /-- The ACTIVE SP holds the notification made from it; the event waits until that is mirrored (1 bit; R75, R88). -/
  made : Bool := false
deriving DecidableEq, Repr

/-- The answer to a console frame (R89, Table 02-20). -/
structure ConsoleAns where
  /-- Destination: the source address of the request (48 bits). -/
  dst : Nat
  /-- Source: the fused MAC address (48 bits). -/
  src : Nat
  op : Nat
  tag : Nat
  offset : Nat
  data : Nat
deriving DecidableEq, Repr

/-- The Service Complex and the Token Keeper. -/
structure Svc where
  /-- SP-A (R56). -/
  spA : Sp := {}
  /-- SP-B (R56). -/
  spB : Sp := {}
  /-- Holder of the lease (R63). -/
  holder : Option Nat := none
  /-- End stamp of the lease (64 bits; R63). -/
  leaseEnd : Nat := 0
  /-- End of the guard interval, if one runs (64 bits; R66). -/
  guardEnd : Option Nat := none
  /-- The guard has ended and the other SP has been signalled (1 bit; R66). -/
  guardDone : Bool := false
  /-- Last holder of the lease since power-on (R56). -/
  lastHolder : Option Nat := none
  /-- The first lease since reset has been granted (1 bit; R68). -/
  firstTaken : Bool := false
  /-- Reset-release stamp from which the 2 s of R68 run (64 bits; R68). -/
  resetStamp : Nat := 0
  /-- The 2 s window of R68 has ended (1 bit; R68). -/
  firstWinDone : Bool := false
  /-- FAILOVERS (32 bits; Table 02-23). -/
  failovers : Nat := 0
  /-- LAST_CHANGE (64 bits; Table 02-23). -/
  lastChange : Nat := 0
  /-- ACTIVE_SP as the windows show it (1 bit; Table 02-9). -/
  activeSp : Nat := 0
  /-- Window whose SP_SWITCH has stopped new commands (R57, SP_SWITCH). -/
  draining : Option Nat := none
  /-- The hub event FIFO, oldest first: its 16,384 events, then those that units hold until space frees (R75). -/
  fifo : List HubEvent := []
  /-- Which tenant instance the mailbox round of each class served last (9 bits each; R46, R82). [DC8] -/
  lastTenant : Tab Nat := []
  /-- Freight credit of the mailbox arbitration point, in fiftieths of a command (R45). -/
  credit : Nat := 0
  /-- FW_ACTIVATE in progress: window, target slot, old slot and end stamp of the 10 s (R424). -/
  fwAct : Option (Nat × Nat × Nat × Nat) := none
  /-- SP to be loaded with the new slot after a handover of FW_ACTIVATE (R424). -/
  fwReload : Option Nat := none
  /-- Sequence record of CPAGE_FREE, LOG_NOTE and the like: key of command and window to sequence number and response (R72, R394, R420). -/
  seqRec : Tab (Nat × List Byte) := []
deriving DecidableEq, Repr

/-- A memory region of an instance (R106). -/
structure IRegion where
  real : Nat
  gib : Nat
  base : Nat
deriving DecidableEq, Repr

/-- The shares that wait for an epoch or a rate window, or are in force (Table 03-3). -/
structure Shares where
  /-- CHE_WEIGHT (8 bits; R97). -/
  che : Nat := 16
  /-- BCU_WEIGHT (8 bits; R97). -/
  bcu : Nat := 16
  /-- DFU_WEIGHT (8 bits; R97). -/
  dfu : Nat := 16
  /-- MEM_WEIGHT (8 bits; R97). -/
  mem : Nat := 16
  /-- RELAY_WEIGHT (8 bits; R97). -/
  relay : Nat := 16
  /-- COURIER_CAP (16 bits; R97). -/
  cap : Nat := 400
deriving DecidableEq, Repr

/-- A tenant instance. -/
structure Inst where
  /-- State of Table 03-1: 0 DISABLED, 1 STOPPED, 2 RUNNING, 3 RESETTING (8 bits; R93). -/
  state : Nat := 0
  /-- MIGRATE_DECIMAL (1 bit; Table 03-7). -/
  migDec : Bool := true
  /-- BOARD_CPUS (8 bits; Table 03-7). [DC5] -/
  boardCpus : Nat := 0
  /-- BOOT_ADDR (64 bits; Table 03-7). [DC5] -/
  bootAddr : Nat := 0
  /-- Shares as last set (R97). -/
  set : Shares := {}
  /-- Weights in force in this epoch and cap in this window (R46, R109). -/
  force : Shares := {}
  /-- CPAGE_COUNT (13 bits; R97). -/
  cpages : Nat := 0
  /-- WAYBILL_LIMIT (24 bits; R97). -/
  wbLimit : Nat := 65536
  /-- REQUEST_LIMIT (16 bits; R97). -/
  reqLimit : Nat := 1024
  /-- TASK_SETS per logical core (7 bits each; R97). -/
  sets : Tab Nat := []
  /-- MEMORY: regions held (64; R97, R106). -/
  regions : List IRegion := []
  /-- SUBCH_RANGE FIRST (20 bits; R107). -/
  scFirst : Nat := 0
  /-- SUBCH_RANGE COUNT (21 bits; R107). -/
  scCount : Nat := 0
  /-- COURIER_ELIGIBLE of the instance (1 bit; R110). -/
  eligible : Bool := false
  /-- Per-subchannel eligibility, as runs (first, count) (2^20 bits; R110). -/
  scElig : List (Nat × Nat) := []
  /-- The class of its tasks is evaluated again at the next epoch (1 bit; R219). -/
  reclass : Bool := false
  /-- Outstanding waybills (24 bits; R100). -/
  waybills : Nat := 0
  /-- Outstanding requests (16 bits; R100). -/
  requests : Nat := 0
  /-- CAP_USED: Courier admissions in this rate window (16 bits; R109). -/
  capUsed : Nat := 0
  /-- DEMOTIONS (64 bits; Table 03-6). -/
  demotions : Nat := 0
  /-- COMPLETION timeout, µs (16 bits; R112). -/
  complUs : Nat := 1000
  /-- ABORT timeout, ms (16 bits; R112). -/
  abortMs : Nat := 4000
  /-- RESET_FENCE: F (64 bits; Table 03-6). -/
  fence : Nat := 0
  /-- RESET_DONE (64 bits; Table 03-6). -/
  resetDone : Nat := 0
  /-- MODE of the reset in progress (1 bit; R113). [DC5] -/
  resetMode : Nat := 0
  /-- Sequence number of the INST_RESET that set F (32 bits; R116). [DC5] -/
  resetSeq : Nat := 0
  /-- VBA (64 bits; R175). [DC5] -/
  vba : Nat := 0
  /-- LLT windows mapped: (home device, LLT) (R360, R367). -/
  llts : List (Nat × Nat) := []
  /-- The Manager window is mapped read-only for the former holder (1 bit; R118). -/
  mgrView : Bool := false
deriving DecidableEq, Repr

/-- A mirrored pending-command entry (Table 02-5). -/
structure PendEntry where
  /-- Sequence number. -/
  seq : Nat
  /-- Command code. -/
  code : Nat
  /-- The copy of the request: the words of the request area. -/
  req : Tab Nat := []
  /-- Completion record: status, TOD and response body. -/
  done : Option (Nat × Nat × List Byte) := none
  /-- The completion record's state changes: the instances whose configuration, claims or shares the command changed, as it left them. -/
  changes : Tab Inst := []
deriving DecidableEq, Repr

/-- A notification waiting for its ring (R88). -/
structure Notif where
  kind : Nat
  status : Nat
  subject : Nat
  tod : Nat
  detail : Nat
deriving DecidableEq, Repr

/-- One mailbox window (Table 02-7). -/
structure Window where
  /-- STATUS.STATE: 0 IDLE, 1 PENDING, 2 DONE (2 bits; Table 02-9). -/
  state : Nat := 0
  /-- STATUS.RESULT (16 bits; Table 02-9). -/
  result : Nat := 0
  /-- STATUS.CMD (16 bits; Table 02-9). -/
  cmd : Nat := 0
  /-- STATUS.CLASS (2 bits; Table 02-9). -/
  cls : Nat := 0
  /-- STATUS.DEMOTED (1 bit; Table 02-9). -/
  demoted : Bool := false
  /-- STATUS.FAILOVER (1 bit; Table 02-9). -/
  failover : Bool := false
  /-- STATUS.RING_REFUSED (1 bit; Table 02-9). -/
  refused : Bool := false
  /-- STATUS.NR_OVERFLOW (1 bit; Table 02-9). -/
  overflow : Bool := false
  /-- SEQ.LAST_DONE (32 bits; Table 02-10). -/
  lastDone : Nat := 0
  /-- SEQ.REQ_SEQ (32 bits; Table 02-10). -/
  reqSeq : Nat := 0
  /-- NR_BASE.BASE, as an address (57 bits; Table 02-11). -/
  nrBase : Nat := 0
  /-- NR_BASE.SIZE (4 bits; Table 02-11). -/
  nrSize : Nat := 0
  /-- NR_HEAD.HEAD (12 bits; Table 02-12). -/
  nrHead : Nat := 0
  /-- NR_TAIL.TAIL (12 bits; Table 02-12). -/
  nrTail : Nat := 0
  /-- NR_CTL.ENABLE (1 bit; Table 02-12). -/
  nrEnable : Bool := false
  /-- NR_CTL.FAULT (1 bit; Table 02-12). -/
  nrFault : Bool := false
  /-- Task recorded under NR_CTL.ENABLE (25 bits; Table 02-12). [DC5] -/
  nrTid : Nat := 0
  /-- Notification sequence number last used (64 bits; R86, R87). -/
  nseq : Nat := 0
  /-- Notifications held, oldest first (64; R88). -/
  held : List Notif := []
  /-- REQUEST area as words (256 × 64 bits; R77). [DC5] -/
  req : Tab Nat := []
  /-- RESPONSE area as written (1,792 bytes; R77, R81). -/
  resp : List Byte := []
  /-- The stored response: its bytes (R80). -/
  stored : Option (List Byte) := none
  /-- Task that rang (25 bits; R78). [DC5] -/
  tid : Nat := 0
  /-- Doorbell stamp (64 bits; R78). [DC5] -/
  stamp : Nat := 0
  /-- The command is in execution and waits for a unit (R79). -/
  inExec : Bool := false
  /-- Mirrored pending-command entry (R70). -/
  entry : Option PendEntry := none
deriving DecidableEq, Repr

/-- One Logbook record before serialisation (Table 13-9). -/
structure LogRec where
  lseq : Nat
  tod : Nat
  kind : Nat
  flags : Nat := 0
  unit : Nat := 0
  poc : Nat := 0
  /-- Contents of Table 13-10 as numbers. -/
  body : List Nat := []
  /-- Bytes of the body where the manual fixes them (NOTE text, INJECTION, SEAL). -/
  text : List Byte := []
deriving DecidableEq, Repr

/-- Counters of one unit (Table 13-13). -/
structure UnitCtr where
  /-- Correctable errors (64 bits; R392). -/
  ce : Nat := 0
  /-- Uncorrectable errors (64 bits; R392). -/
  ue : Nat := 0
  /-- EV_A (64 bits; Table 13-13). -/
  a : Nat := 0
  /-- EV_B (64 bits; Table 13-13). -/
  b : Nat := 0
deriving DecidableEq, Repr

/-- One health word (Table 13-6). -/
structure Health where
  /-- UE: uncorrectable errors since power-on; the word saturates (16 bits; Table 13-6). -/
  ue : Nat := 0
  /-- CE: correctable errors since power-on; the word saturates (16 bits; Table 13-6). -/
  ce : Nat := 0
  /-- PHYS (8 bits; Table 13-6). -/
  phys : Nat := 0
  /-- CAUSE (8 bits; Table 13-6). -/
  cause : Nat := 0
  /-- STATE (4 bits; Table 13-6). -/
  state : Nat := 0
deriving DecidableEq, Repr

/-- What the TOTALS record holds besides its header (R391). -/
structure Totals where
  /-- Counters of every unit of Table 13-7, by unit code, and of class 0xFF (R392). -/
  ctr : Tab UnitCtr := []
  /-- Temperature histograms: sensor × 64 + bin (32 bits each; R392). -/
  temp : Tab Nat := []
  /-- Courier latency histograms: kind × 32 + bin (64 bits each; R392). -/
  lat : Tab Nat := []
  /-- LSEQ of the TOTALS record these were written under, or 0 (64 bits; R391). -/
  lseq : Nat := 0
deriving DecidableEq, Repr

/-- The Logbook and the counters that feed it. -/
structure Log where
  /-- Event area, newest first (442,368 records; R388, R389). -/
  events : List LogRec := []
  /-- Keep area, newest first (8,192 records; R388, R389). -/
  keep : List LogRec := []
  /-- Records in the oldest, partly erased sense: records ever dropped from the event area (R389). -/
  dropped : Nat := 0
  /-- LSEQ of the newest record; starts at 1 at manufacture (64 bits; R389). [DC5] -/
  lseq : Nat := 0
  /-- Records since the previous seal, newest first (R390). -/
  unsealed : List LogRec := []
  /-- MAC of the previous SEAL (48 bytes; R390). [DC5] -/
  mac : List Byte := []
  /-- Stamp of the newest SEAL (64 bits; Table 13-12). -/
  lastSeal : Nat := 0
  /-- Newest TOTALS record (totals ring; R391). -/
  totals : Totals := {}
  /-- The other records of the totals ring, newest first (R388, R391). -/
  older : List Totals := []
  /-- TOD of the newest record (64 bits; R407). -/
  newestTod : Nat := 0
  /-- Live counters (R392). -/
  live : Totals := {}
  /-- Health words by unit code, where they differ from the value the unit shows after start-up (R385). -/
  health : Tab Health := []
  /-- Power cycle number, POC (32 bits; Table 13-9). -/
  poc : Nat := 0
  /-- Stamp from which VDD_CORE hours are counted (R392). -/
  hoursFrom : Nat := 0
  /-- Stamps of the LOG_NOTEs of the last second, newest first (R394). -/
  notes : List Nat := []
  /-- Stamp of the last hourly TOTALS and seal (R390, R391). -/
  lastHour : Nat := 0
  /-- End of the last hour that the hourly seal has covered (R390). -/
  sealHour : Nat := 0
  /-- Injections not yet taken: kind, unit, argument (R394). -/
  inject : List (Nat × Nat × Nat) := []
  /-- The record being written carries FLAGS.INJECTED (R394). -/
  injected : Bool := false
  /-- GPF completed on ports, newest power failure: POC and ports (R418). -/
  gpf : Option (Nat × List Nat) := none
deriving DecidableEq, Repr

/-- The registers of a task set or trap set (R213, Table 05-7). -/
structure Regs where
  /-- G0 to G31 (32 × 72 bits; R213). [DC5] -/
  g : GFile := Vector.replicate 32 ⟨0, 0x10#8⟩
  /-- PC (64 bits; R213). [DC5] -/
  pc : Word := 0
  /-- TSW (64 bits; Table 05-1). -/
  tsw : Word := 0
  /-- EVQ (64 bits; Table 07-5). [DC5] -/
  evq : Word := 0
  /-- QTM (64 bits; Table 07-7). -/
  qtm : Word := 0x00C8001E#64
  /-- WDT deadline, or 0 (64 bits; Table 07-8). -/
  wdt : Nat := 0
  /-- FPSR (64 bits; Table 06-4). -/
  fpsr : Word := 0
  /-- FPXA (64 bits; Table 05-7). -/
  fpxa : Word := 0
  /-- AUTH.TOA (1 bit; R121). [DC5] -/
  toa : Bool := false
  /-- CYC (64 bits; Table 05-7). -/
  cyc : Nat := 0
  /-- XPC, trap sets (64 bits; Table 05-7). [DC5] -/
  xpc : Word := 0
  /-- XTSW, trap sets (64 bits; Table 05-7). [DC5] -/
  xtsw : Word := 0
  /-- XADDR, trap sets (64 bits; Table 05-7). [DC5] -/
  xaddr : Word := 0
  /-- XINFO, trap sets (64 bits; Table 05-7). [DC5] -/
  xinfo : Word := 0
  /-- XVEC, trap sets (64 bits; Table 05-7). [DC5] -/
  xvec : Word := 0
  /-- XTID, trap sets (64 bits; Table 05-7). [DC5] -/
  xtid : Word := 0
deriving DecidableEq, Repr

/-- State of a task set in Table 07-10; ISSUING is READY with an issue slot. -/
inductive Run where
  | empty | ready | waitMem | waitEvent | trapped | trapWait | waitFp | waitBar | waitLock | leaving
deriving DecidableEq, Repr

/-- A flushing read in flight (R262). -/
structure Bar where
  kind : Nat
  num : Nat
  /-- End of its COMPLETION interval (R112). -/
  limit : Nat
deriving DecidableEq, Repr

/-- An outstanding device-space store counted at the hub (R262). -/
structure DevStore where
  tid : Nat
  kind : Nat
  num : Nat
  addr : Nat
  /-- Class of its request (2 bits; R41). -/
  cls : Nat
deriving DecidableEq, Repr

/-- What a waiting instruction has sent and still awaits. -/
inductive Await where
  | none
  /-- A cacheable load of a word of the line, and the class of its request (R41, R43, R238). -/
  | line (la word cls : Nat)
  /-- A device-space load sent to a path (kind, number), and its class (R41, R43, R54, R231). -/
  | dev (kind num addr cls : Nat)
  /-- A device-space load's datum or a lock probe's result held by the hub until the instruction retires (R231, R373). -/
  | datum (w : Nat)
  /-- A BENC or BDEC waits in the cipher pool or on a unit (R306). -/
  | cipher
  /-- A BENC or BDEC has its result, or its refusal (R305, R307). -/
  | block (ok : Bool) (v : Nat)
  /-- An IOBAR whose flushing reads are in flight (R262). -/
  | iobar
  /-- A lock probe: operation, mode, home, LLT, key, injection stamp, QUEUED answered, last stamp with a route, and the class it was admitted in (R43, R362, R363). -/
  | probe (op mode home llt key stamp : Nat) (queued : Bool) (routeOk cls : Nat)
deriving DecidableEq, Repr

/-- A task set or trap set and what the Drover and the hub keep for the task in it. -/
structure Ctx where
  /-- State of Table 07-10 (R229). -/
  run : Run := .empty
  /-- Registers (R213). -/
  regs : Regs := {}
  /-- Instance (9 bits; R216). [DC5] -/
  inst : Nat := 0
  /-- Task ID (64 bits; R216). [DC5] -/
  tid : Nat := 0
  /-- Priority (3 bits; R226). [DC5] -/
  prio : Nat := 0
  /-- DSTATE.CLASS (2 bits; R219). [DC5] -/
  cls : Nat := 1
  /-- DSTATE.FSAVED (1 bit; Table 07-4). -/
  fsaved : Bool := false
  /-- GUARDIAN (64 bits; Table 07-2). [DC5] -/
  guardian : Nat := 0
  /-- Granule of the reservation held (49 bits; R166). -/
  resv : Option Nat := none
  /-- The reservation was taken in the open group (1 bit; R373). -/
  resvOpen : Bool := false
  /-- Awaited answer (R231, R238, R262, R362). -/
  await : Await := .none
  /-- Flushing reads in flight for its IOBAR: path kind and number, and the end of the COMPLETION interval of each; they outlive the failure of another path (R112, R262). -/
  bars : List Bar := []
  /-- The Cairn: registers as of the last closed group, with the bank if attached (R372). -/
  cairn : Regs := {}
  /-- The Cairn's F bank (R372). -/
  cairnF : Option FFile := none
  /-- The Cairn holds an uncorrectable error (R376). -/
  cairnBad : Bool := false
  /-- Instructions in the open group (0 to 64; R371). -/
  group : Nat := 0
  /-- Stamp since which the task waits (R229, R232). -/
  since : Nat := 0
  /-- Stamp at which it last issued (R229). -/
  issued : Nat := 0
  /-- CCLK cycles of its quantum used (R227). -/
  used : Nat := 0
  /-- FP Unavailable waits for the task's next issue: address and vector (R233). -/
  fpUnavail : Option (Nat × Nat) := none
  /-- A save fault waits for the next instruction: vector, address, info (R229). -/
  saveFault : Option (Nat × Nat × Nat) := none
  /-- Informational Machine Check due: XINFO (R379, R381). -/
  info : Option Nat := none
  /-- What waits until the exception chain or the routine ends: bits of CONTROL, with 0x40 for a watchdog stop, 0x80 for leaving residence and 0x100 for a quantum that has expired (R104, R146, R227, Table 07-10). -/
  due : Nat := 0
  /-- The exception raised in TRAP_WAIT: vector, XADDR, XINFO, slot, and its place in the order of R215. -/
  trap : Option (Nat × Nat × Nat × Nat × Nat) := none
  /-- Trap set: the set it serves (R177). -/
  serves : Nat := 0
  /-- Thread slot bound, in the enclave world (R332). -/
  thread : Nat := 0
  /-- What the instruction at PC awaited has arrived: its line (R238), or its probe or post was accepted and it retires with that outcome (R373). -/
  sent : Bool := false
  /-- Homed by decimal placement (R230). -/
  byDecimal : Bool := false
  /-- Next step of a migration: the target core (R231). -/
  target : Option Nat := none
  /-- Restarted by RUN and no instruction retired since: a Toll Gate at PC is entered as by a branch (R339). -/
  fresh : Bool := false
  /-- Halted by invasive debug: the task does not issue (1 bit; R344). -/
  halted : Bool := false
  /-- Data that the device-space loads of the custom instruction in execution have returned (R54, R146). -/
  replies : List Nat := []
  /-- Image of the routine in execution, which runs to its end whatever happens to its slot (R146, R151). -/
  routine : Option (List Byte) := none
  /-- It was in WAIT_EVENT when it began to leave (1 bit; R224, R231). -/
  waiting : Bool := false
deriving DecidableEq, Repr

/-- What the Drover keeps for a task that is not resident, beside its TSA. -/
structure Kept where
  /-- Homed by decimal placement (1 bit; R230). -/
  byDecimal : Bool := false
  /-- It migrates out of WAIT_EVENT (1 bit; R224, R231). -/
  waiting : Bool := false
  /-- Informational Machine Check due: XINFO (R181). -/
  info : Option Nat := none
  /-- Save fault due: vector, address, info (R229). -/
  saveFault : Option (Nat × Nat × Nat) := none
  /-- FP Unavailable due: address and vector (R233). -/
  fpUnavail : Option (Nat × Nat) := none
  /-- Data returned to the routine in execution (R231). -/
  replies : List Nat := []
  /-- Image of the routine in execution (R151). -/
  routine : Option (List Byte) := none
deriving DecidableEq, Repr

/-- A word of a write-buffer entry. -/
structure WbWord where
  /-- Index of the word in its line. -/
  idx : Nat
  datum : Word
  /-- Tag written, or none for a sub-word store that keeps it. -/
  tag : Option Tag
  /-- Bytes written, bit 7 for byte 0. -/
  mask : Nat
  /-- The store belongs to an open group (R372). -/
  isOpen : Bool
deriving DecidableEq, Repr

/-- A write-buffer entry: one line with its byte mask, or one device-space store (R264). -/
structure WbEnt where
  tid : Nat
  /-- Set that made it. -/
  set : Nat
  /-- Device-space store: path kind and number (R262). -/
  dev : Option (Nat × Nat)
  /-- Line address, or for a device-space store its real address. -/
  addr : Nat
  /-- Words stored, oldest first. -/
  words : List WbWord
  /-- Class in which the store was admitted (2 bits; R41, R43). -/
  cls : Nat := 1
deriving DecidableEq, Repr

/-- An entry of a core's translation cache (R259). -/
structure TlbEnt where
  inst : Nat
  world : Bool
  encl : Nat
  /-- Effective page number, 4 KiB. -/
  page : Nat
  /-- Instance-stage page number. -/
  ia : Nat
  /-- R, W, X and AM of the task-stage leaf. -/
  r : Bool
  w : Bool
  x : Bool
  am : Nat
  /-- D is set in the leaf. -/
  dirty : Bool
  /-- Lowest address bit of the leaf's page (Table 08-10). -/
  lo : Nat
deriving DecidableEq, Repr

/-- A line in flight to a core: its words arrive from the addressed one on, with wrap-around (R238). -/
structure Fill where
  la : Nat
  /-- Word that arrives first. -/
  first : Nat
  /-- Words that have arrived (1 to 31). -/
  got : Nat
  /-- Set whose load asked for it. -/
  set : Nat
  /-- Class of the request (2 bits; R43). -/
  cls : Nat
deriving DecidableEq, Repr

/-- An attached F bank (R232). -/
structure Bank where
  /-- Task set that owns it. -/
  owner : Nat
  f : FFile
  /-- Stamp of the last F use (R232). -/
  lastUse : Nat
deriving DecidableEq, Repr

/-- A logical core: the state that moves to an Outrider with it (R7, R378). -/
structure LCore where
  /-- Physical core that holds the number (7 bits; R7). -/
  phys : Nat := 0
  /-- Retired (1 bit; R381). -/
  retired : Bool := false
  /-- Gated: 0 no, 1 clock, 2 power (2 bits; R421). -/
  gated : Nat := 0
  /-- Set in the lower issue slot (R226). -/
  slot0 : Option Nat := none
  /-- Set in the upper issue slot (R226). -/
  slot1 : Option Nat := none
  /-- Last set served in the rotation (R226). -/
  lastSet : Nat := 63
  /-- The exception chain: trap sets in use, innermost first (R215). -/
  chain : List Nat := []
  /-- Swap queue: TID, priority, arrival (4,096 TIDs; R229). -/
  swapq : List (Nat × Nat × Nat) := []
  /-- Swap-in under way: set and TID (R229). -/
  swapping : Option (Nat × Nat) := none
  /-- Write buffer, oldest first (32 entries; R264). -/
  wb : List WbEnt := []
  /-- Translation cache (R259). -/
  tlb : List TlbEnt := []
  /-- Heritage window bases cached with the translations, by instance (64 bits each; R257). -/
  hwins : Tab Nat := []
  /-- Lines in flight to the core (R238). -/
  fills : List Fill := []
  /-- F banks in use (8; R213). -/
  banks : List Bank := []
  /-- Context in L1: instance and enclave (R337). -/
  world : Option (Nat × Nat) := none
  /-- Retries in a row of the failing group (R374). -/
  tries : Nat := 0
  /-- Stamps of completed retries within the hour, newest first (R374). -/
  retries : List Nat := []
  /-- Stamp of the first error of the failing group (R378). -/
  firstErr : Nat := 0
  /-- Sparing under way: Outrider and cause (R378). -/
  sparing : Option (Nat × Nat) := none
  /-- Wake hints the hub holds: TIDs (R378, R413). -/
  hints : List Nat := []
  /-- CORE_RESET under way: window, sequence number, stamp, waiting for the chain (R413). -/
  reset : Option (Nat × Nat × Nat × Bool) := none
  /-- Migration forwarding records: TID and new core (R231). -/
  forward : List (Nat × Nat) := []
  /-- A fifth nested exception: instruction address, vector and times seen (R375). -/
  fifth : Option (Nat × Nat × Nat) := none
  /-- The hold on the core began (64 bits; R345). -/
  heldSince : Nat := 0
  /-- CORE_ASSIGN waiting for migrations: window (R104). -/
  assignWin : Option Nat := none
  /-- Window of CORE_SPARE in execution (R394). -/
  spareWin : Option Nat := none
  /-- The error of the failing group was injected (R394). -/
  injected : Bool := false
deriving DecidableEq, Repr

/-- A physical core (R5, R6, SPARE_STATUS). -/
structure PCore where
  /-- ROLE: 0 fused off, 1 work, 2 Outrider, 3 FAILED, 4 retired (8 bits; Table 13-11). [DC6] -/
  role : Nat := 0
  /-- TEST: 0 none, 1 passed, 2 failed (8 bits; Table 13-11). -/
  test : Nat := 0
  /-- A self-test runs (R385). -/
  testing : Bool := false
  /-- CACHE_CTL.L1I_EN (1 bit; Table 08-7). -/
  l1i : Bool := true
  /-- CACHE_CTL.L1D_EN (1 bit; Table 08-7). -/
  l1d : Bool := true
  /-- CACHE_CTL.L2_EN (1 bit; Table 08-7). -/
  l2 : Bool := true
  /-- CACHE_CTL.ENCL_WAYS (1 bit; Table 08-7, R343). -/
  enclWays : Bool := false
deriving DecidableEq, Repr

/-- A frame of a cache (R235, R237). -/
structure Frame where
  /-- Real line address (49 bits; R236). -/
  la : Nat
  /-- 1 S, 2 E, 3 M (R237). -/
  st : Nat
  line : Line
  /-- Order of becoming dirty (R415). -/
  age : Nat := 0
deriving DecidableEq, Repr

/-- The ways of one unit of one level (R240, R241, R242). -/
structure Ways where
  /-- Mask of disabled ways (32 bits; R240). -/
  off : Nat := 0
  /-- LAST_DISABLE (64 bits; Table 08-13). -/
  last : Nat := 0
  /-- The unit is removed and folded (1 bit; R242). -/
  removed : Bool := false
  /-- The level is disabled: L3 of a die, Depot (1 bit; R248). -/
  disabled : Bool := false
  /-- Stamps of correctable errors counted, way and stamp, newest first (R240). -/
  errs : List (Nat × Nat) := []
deriving DecidableEq, Repr

/-- A memory region configured at start-up (Table 08-9). -/
structure Region where
  real : Nat
  gib : Nat
  portA : Nat
  portB : Option Nat
  sys : Bool
  offA : Nat
  offB : Nat
  /-- Configured at start-up (R251). -/
  ok : Bool := true
deriving DecidableEq, Repr

/-- A CXL/PCIe port (R250, R255, Table 08-14). -/
structure CxlPort where
  /-- PCIe 6.0 mode (1 bit; R250). [DC5] -/
  pcie : Bool := false
  /-- LINK: 0 down, 1 up, 2 degraded, 3 lost (8 bits; Table 08-14). [DC5] -/
  link : Nat := 0
  /-- WIDTH (8 bits; Table 08-14). [DC5] -/
  width : Nat := 0
  /-- RATE (8 bits; Table 08-14). [DC5] -/
  rate : Nat := 0
  /-- Timeouts in succession (2 bits; R255). -/
  timeouts : Nat := 0
  /-- Accesses reissued and not answered yet, oldest first: line, and whether it is a write (R253, R255). -/
  queue : List (Nat × Bool) := []
  /-- The port was lost and its non-mirrored lines stay POISON (1 bit; R255). -/
  lost : Bool := false
  /-- The port serves no mirrored line: from its loss to the end of the copy (1 bit; R255). -/
  outOfStep : Bool := false
  /-- A copy of the surviving data runs (1 bit; R255). -/
  copying : Bool := false
  /-- Stamp of the last link-down (64 bits; R255). -/
  downAt : Nat := 0
  /-- Writes dropped (64 bits; R255). -/
  drops : Nat := 0
  /-- LAST_CHANGE (64 bits; Table 08-14). -/
  change : Nat := 0
  /-- Owner of the endpoint (R450). -/
  owner : Option Nat := none
  /-- The memory device found (R251). -/
  dev : Option CxlDev := none
  /-- Endpoint writes performed at the device window: (offset, datum), newest first (R52). -/
  window : Tab Nat := []
  /-- The last DMA answer: none for Unsupported Request (R450). [DC5] -/
  answer : Option (List Byte) := none
  /-- The link is down by an injection (R394). -/
  injected : Bool := false
deriving DecidableEq, Repr

/-- Memory behind the controllers: data bytes by real address and tag bytes by real word number, in rising order, without entries that equal what an unlisted place reads as (R252, R254). -/
structure Memory where
  /-- Data bytes that differ from the POISON datum of their word (R254). -/
  data : List Host.Cell := []
  /-- Tag bytes that differ from POISON (R252, R254). -/
  tags : List Host.Cell := []
  /-- UNWRITTEN of the metadata of a line, by line address: 0 where listed, 1 elsewhere (R252, R254). -/
  lines : List Host.Cell := []
deriving DecidableEq, Repr

/-- An arbitration point (R45, R46). -/
structure Arb where
  /-- Freight credit, in fiftieths of a grant (R45). -/
  credit : Nat := 0
  /-- Deficits by class × 512 + instance (R46). -/
  deficit : Tab Nat := []
  /-- Instance served last, by class (R46). [DC8] -/
  last : Tab Nat := []
deriving DecidableEq, Repr

/-- An evicted dirty line whose writeback has not been acknowledged (R249). -/
structure Evict where
  la : Nat
  /-- Level that receives it: 3 L3, 4 Depot, 5 memory. -/
  dest : Nat
  /-- Physical core of the L2 it left, or a core of the die of the L3 it left. -/
  unit : Nat
  line : Line
  /-- Class of the request that evicted it (2 bits; R44). -/
  cls : Nat
deriving DecidableEq, Repr

/-- The memory system outside the cores. -/
structure MemSys where
  /-- Memory behind the ports (R252). -/
  mem : Memory := {}
  /-- Frames by level, unit, set and way (R235). -/
  frames : Tab Frame := []
  /-- Ways by level and unit (R240). -/
  ways : Tab Ways := []
  /-- The eviction buffers, oldest line first (R249). -/
  evict : List Evict := []
  /-- Class of the request that the memory system serves (2 bits; R41, R44). -/
  cls : Nat := 1
  /-- Arbitration points of L3 slices, hub directory, Depot controllers and CXL ports (R45 to R47). -/
  arbs : Tab Arb := []
  /-- Shadow lines that the I/O dies keep: die, port, line of the port's capacity (2 × 4 MiB; R252). -/
  shadow : List (Nat × Nat × Nat) := []
  /-- Regions of the last start-up outside recovery mode (64; R251). -/
  regions : List Region := []
  /-- Power was lost and no start-up has yet kept or carved the regions (1 bit; R418). -/
  unproven : Bool := true
  /-- The twelve ports (R250). -/
  ports : Tab CxlPort := []
  /-- Counter that orders dirty lines (R415). -/
  age : Nat := 0
  /-- Instruction words overwritten and not seen by an ISYNC of their writer: word number, old word, TID (R173). -/
  stale : List (Nat × TWord × Nat) := []
deriving DecidableEq, Repr

/-- A command of a waybill as read at admission (Table 09-4). -/
structure Cmd where
  code : Nat
  flags : Nat
  xidx : Nat
  devarg : Nat
  ext : Nat
  /-- Data areas: (address, bytes). -/
  areas : List (Nat × Nat)
  /-- Index of its first WBE. -/
  first : Nat
  /-- Transform Block: XFLAGS, DICT, CAP, CTR. -/
  xf : Option (Nat × Nat × Nat × Nat) := none
deriving DecidableEq, Repr

/-- The device commands of Table 09-14, SCSI and NVMe. -/
inductive DevOp where
  | read16
  | write16 (fua : Bool)
  | verify16
  | syncCache16
  | writeSame16
  | unmap
  | compareAndWrite
  | readCapacity16
  | nvmeRead
  | nvmeWrite (fua : Bool)
  | nvmeVerify
  | nvmeFlush
  | nvmeWriteZeroes
  | nvmeDeallocate
  | nvmeFusedCompareWrite
  | nvmeIdentify
deriving DecidableEq, Repr

/-- A command as a device receives it (R286): operation, first logical block, blocks, and the logical unit or namespace of the path. -/
structure DevCmd where
  op : DevOp
  lba : Nat
  blocks : Nat
  unit : Nat
deriving DecidableEq, Repr

/-- A journal record with what the engine keeps for it (Table 09-9). -/
structure JRec where
  /-- WSN (64 bits; Table 09-9). -/
  wsn : Nat := 0
  sc : Nat := 0
  incarn : Nat := 0
  inst : Nat := 0
  /-- Table 09-10. -/
  state : Nat := 0
  cls : Nat := 0
  attempts : Nat := 0
  path : Nat := 0
  status : Nat := 0
  user : Nat := 0
  wbAddr : Nat := 0
  subidx : Nat := 0
  residual : Nat := 0
  devstat : Nat := 0
  exch : Nat := 0
  tAccept : Nat := 0
  tDispatch : Nat := 0
  tFinal : Nat := 0
  tRetire : Nat := 0
  sense : Nat := 0
  abortKind : Nat := 0
  abortRes : Nat := 0
  curWbe : Nat := 0
  rflags : Nat := 0
  resolveSeq : Nat := 0
  tAbort : Nat := 0
  prevWsn : Nat := 0
  prevIncarn : Nat := 0
  /-- The chain, read at admission (R274). -/
  cmds : List Cmd := []
  /-- Commands of the chain already ended. -/
  done : Nat := 0
  /-- Device bytes moved for the command in progress. -/
  moved : Nat := 0
  /-- Device bytes that wait to be deciphered (R276). -/
  buf : List Byte := []
  /-- Channel condition met, 0 none (Table 09-8). -/
  cond : Nat := 0
  /-- Final status that a condition's confirmed abort gives. -/
  condStatus : Nat := 0
  /-- A redrive avoids this path (R285). -/
  avoid : Option Nat := none
  /-- End of the no-path interval that has run without an OPERATIONAL path, or 0 (R281). -/
  noPathEnd : Nat := 0
  /-- End of the ABORT interval in progress (R281, R288). -/
  abortEnd : Nat := 0
  /-- Doorbell stamp of its submission (R397). -/
  bell : Nat := 0
  /-- A final response held behind its data: device status, bytes moved, sense (R276, R312). -/
  resp : Option (Nat × Nat × List Byte) := none
  /-- Order in which it entered IN_DOUBT (INDOUBT_LIST). -/
  doubtNo : Nat := 0
  /-- Its data phase or first frame is in progress (R292). -/
  inData : Bool := false
  /-- Output of compression for commands by their index (R276). -/
  comp : Tab (List Byte) := []
  /-- Latched at the attempt's dispatch: pages, GENs and keys of its inline transforms (R301). -/
  keys : List (Nat × Nat × List Byte) := []
  /-- Window and mailbox sequence number that settled it (R289). -/
  resolveWin : Nat := 0
  /-- Commands whose compression is asked for and not done (R276). -/
  need : List Nat := []
  /-- What a compression found that ends the record before its first frame: status, or 0 for a verify mismatch on a second unit, and condition (R276). -/
  prepEnd : Option (Nat × Nat) := none
  /-- Device bytes of a READ with CMP that have been expanded (R278). -/
  fed : Nat := 0
  /-- Bytes of its expansion that have been written (R278). -/
  wrote : Nat := 0
  /-- Dictionary its expansion latched at its first dispatch to a unit (R320). -/
  dict : Option (List Byte) := none
  /-- The command at the device, as last sent (Table 09-14). -/
  sent : Option DevCmd := none
  /-- IN_DOUBT beyond the in-doubt store: it keeps the memory of its slot after its subchannel is gone (R284). -/
  kept : Bool := false
  /-- End of TIMEOUT of the attempt in progress, or 0 (R281). -/
  tEnd : Nat := 0
  /-- Bytes the command sends to the device after transforms, or, of a READ with CMP, device bytes to be expanded (R276). -/
  out : List Byte := []
deriving DecidableEq, Repr

/-- A path of a subchannel (R285, PATH_ADD). -/
structure Path where
  /-- State: 0 EMPTY, 1 LOGGING_IN, 2 OPERATIONAL, 3 LOST, 4 DRAINING (R285). -/
  state : Nat := 0
  kind : Nat := 0
  port : Nat := 0
  pref : Nat := 0
  /-- Address, port, namespace, LUN and name as PATH_ADD gave them. -/
  target : List Byte := []
  /-- FAILS since creation. -/
  fails : Nat := 0
  /-- Consecutive timeouts (R285). -/
  timeouts : Nat := 0
  change : Nat := 0
  /-- Stamp of the login in progress or of the last failure (R285). -/
  loginAt : Nat := 0
deriving DecidableEq, Repr

/-- A completion held while a ring is full, or being written (Table 09-7, Table 10-12). -/
structure Compl where
  bytes : List Byte
  /-- WSN whose record retires when the entry is written, or 0. -/
  retire : Nat := 0
  /-- Class of the request it answers (R43). -/
  cls : Nat := 1
deriving DecidableEq, Repr

/-- A subchannel (R268). -/
structure Subch where
  /-- Exists (R268). -/
  live : Bool := false
  inst : Nat := 0
  log2 : Nat := 0
  profile : Nat := 0
  block : Nat := 0
  route : Nat := 0
  sq : Nat := 0
  cq : Nat := 0
  sense : Nat := 0
  evTid : Nat := 0
  timeoutMs : Nat := 0
  maxAtt : Nat := 0
  /-- SQ_TAIL (16 bits; Table 09-1). -/
  sqTail : Nat := 0
  /-- SQ_HEAD (16 bits; Table 09-1). -/
  sqHead : Nat := 0
  /-- CQ_HEAD (16 bits; Table 09-1). -/
  cqHead : Nat := 0
  /-- CQ_TAIL.TAIL (16 bits; Table 09-1). -/
  cqTail : Nat := 0
  /-- CQ_TAIL.PHASE (1 bit; Table 09-1). -/
  phase : Bool := true
  /-- SCSTAT.IDX_ERR (1 bit; Table 09-1). -/
  idxErr : Bool := false
  /-- SCSTAT.STALLED (1 bit; Table 09-1). -/
  stalled : Bool := false
  /-- SCSTAT.STATE is EXHAUSTED (Table 09-1). -/
  exhausted : Bool := false
  /-- NEXT_WSN (64 bits; Table 09-1). -/
  nextWsn : Nat := 1
  /-- INCARN of this creation (32 bits; R279). -/
  incarn : Nat := 0
  /-- Journal slots in use (R280). -/
  slots : Tab JRec := []
  /-- Paths 0 to 7 (R285). -/
  paths : Tab Path := []
  /-- Completions held, oldest first; CQ_FULL when not empty (R272). -/
  held : List Compl := []
  /-- RETIRED since creation (Table 09-18). -/
  retired : Nat := 0
  /-- REFUSED since creation (Table 09-18). -/
  refused : Nat := 0
  /-- Stamp of the last accepted doorbell write (R397). -/
  rungAt : Nat := 0
  /-- Request bytes of SUBCH_CREATE (for the same-parameters test). -/
  params : List Byte := []
deriving DecidableEq, Repr

/-- A request ring (R308). -/
structure Ring where
  live : Bool := false
  inst : Nat := 0
  /-- Enclave it belongs to, or 0 (R341). -/
  encl : Nat := 0
  /-- 0 cipher, 1 deflate. -/
  kind : Nat := 0
  log2 : Nat := 0
  sq : Nat := 0
  cq : Nat := 0
  evTid : Nat := 0
  /-- SQ_TAIL (16 bits; Table 10-8). -/
  sqTail : Nat := 0
  /-- SQ_HEAD (16 bits; Table 10-8). -/
  sqHead : Nat := 0
  /-- CQ_HEAD (16 bits; Table 10-8). -/
  cqHead : Nat := 0
  /-- CQ_TAIL.TAIL (16 bits; Table 10-8). -/
  cqTail : Nat := 0
  /-- CQ_TAIL.PHASE (1 bit; Table 10-8). -/
  phase : Bool := true
  /-- RSTAT.IDX_ERR (1 bit; Table 10-8). -/
  idxErr : Bool := false
  /-- Completions held, oldest first (R272, R308). -/
  held : List Compl := []
  params : List Byte := []
deriving DecidableEq, Repr

/-- A cipher or deflate request, or a single-block instruction, in the pools (R308 to R319). -/
structure Req where
  /-- 0 cipher ring request, 1 deflate ring request, 2 BENC or BDEC (ring and subidx are its core and set), 3 inline cipher transform, 4 inline compression or expansion (subidx is its command). -/
  src : Nat := 0
  ring : Nat := 0
  subidx : Nat := 0
  inst : Nat := 0
  encl : Nat := 0
  cls : Nat := 1
  op : Nat := 0
  guard : Bool := false
  page : Nat := 0
  len : Nat := 0
  cap : Nat := 0
  framing : Nat := 0
  level : Nat := 0
  wbits : Nat := 0
  verify : Bool := false
  dict : Nat := 0xFF
  from_ : Nat := 0
  to_ : Nat := 0
  user : Nat := 0
  /-- Mismatches met (R319). -/
  misses : Nat := 0
  /-- Unit that a restarted deflate request avoids (R319). -/
  avoid : Option Nat := none
  /-- Key and GEN latched at dispatch (R301). -/
  key : List Byte := []
  gen : Nat := 0
  dictBytes : List Byte := []
  /-- Outcome found at dispatch: status and condition. -/
  status : Nat := 0
  cond : Nat := 0
  /-- Input read at dispatch. -/
  input : List Byte := []
  /-- Inline transform: subchannel and WSN; bytes still to do (R399). -/
  sc : Nat := 0
  wsn : Nat := 0
  left : Nat := 0
  /-- Stamp of dispatch, D. -/
  stamp : Nat := 0
  /-- A block sent on after a mismatch: it goes to the first unit in service from this number on (R307). -/
  only : Option Nat := none
deriving DecidableEq, Repr

/-- One Block Cipher Unit or Deflate Unit (R311, R312). -/
structure Unit where
  /-- 1 in service, 2 withdrawn, 3 self-test (Table 10-15). -/
  state : Nat := 1
  /-- Gated: 0 no, 1 clock, 2 power (R421). -/
  gated : Nat := 0
  running : Option Req := none
  waiting : Option Req := none
  /-- FAULTS (32 bits; Table 10-15). -/
  faults : Nat := 0
  /-- LAST_FAULT (64 bits; Table 10-15). -/
  lastFault : Nat := 0
  /-- A mismatch before this stamp is a second one within 1 s (64 bits; R312, R319). -/
  faultEnd : Nat := 0
  /-- WORK (64 bits; Table 10-15). -/
  work : Nat := 0
  /-- The hold on the unit began (64 bits; R345). -/
  heldSince : Nat := 0
  /-- DRBG reseeds (R313). -/
  reseeds : Nat := 0
  /-- Stamp of the last reseed (R313). -/
  lastSeed : Nat := 0
  /-- A mismatch is injected for the next block (R394). -/
  inject : Bool := false
deriving DecidableEq, Repr

/-- A cipher page (R296). -/
structure CPage where
  /-- 0 FREE, 1 EMPTY, 2 KEYED, 3 ERASED, 4 EXHAUSTED (Table 10-1). -/
  state : Nat := 0
  inst : Nat := 0
  encl : Nat := 0
  perm : Nat := 0
  keylen : Nat := 0
  test : Bool := false
  gen : Nat := 0
  mark : Nat := 0
  key : List Byte := []
  inflight : Nat := 0
  /-- Sequence number and window of its CPAGE_ALLOC, CPAGE_FREE (R321). -/
  allocSeq : Option (Nat × Nat) := none
  freeSeq : Option (Nat × Nat) := none
  /-- Window that waits for INFLIGHT 0 (R302). -/
  waitWin : Option Nat := none
deriving DecidableEq, Repr

/-- An enclave (R323). -/
structure Encl where
  /-- 0 none, 1 BUILDING, 2 FINAL (Table 11-1). -/
  state : Nat := 0
  threads : Nat := 0
  consent : Bool := false
  debugged : Bool := false
  evba : Nat := 0
  esa : Nat := 0
  meas : List Byte := []
  created : Nat := 0
  /-- XTS key, drawn from the TSK's DRBG (R327). -/
  key : List Byte := []
  /-- Bound task of each thread slot (R333). -/
  bound : Tab Nat := []
  /-- Sequence number of the command that created or destroyed it (R347). -/
  seq : Nat := 0
deriving DecidableEq, Repr

/-- An entry of the enclave page map (Table 11-2). -/
structure MapEnt where
  code : Bool
  write : Bool
  inst : Nat
  encl : Nat
  iaddr : Nat
deriving DecidableEq, Repr

/-- A routine of the writable decode table (R144, Table 04-12). -/
structure Routine where
  image : List Byte
  digest : List Byte
deriving DecidableEq, Repr

/-- One Relay port (R348, Table 12-11). -/
structure RPort where
  /-- 0 disabled, 1 training, 2 up, 3 down, 4 LONG, 5 DUPLICATE (Table 12-11). [DC5] -/
  state : Nat := 0
  enabled : Bool := false
  lanes : Nat := 0
  badLanes : List Nat := []
  peer : Nat := 0xFF
  peerPort : Nat := 0xFF
  flight : Nat := 0
  replays : Nat := 0
  retrains : Nat := 0
  discards : Nat := 0
  change : Nat := 0
  /-- FSEQ last received whole (16 bits; R352). -/
  rxSeq : Nat := 0xFFFF
  /-- A bad frame has been seen and later frames are discarded until the replay (R352). -/
  rxBad : Bool := false
  /-- FSEQ of the next frame sent (R351). -/
  txSeq : Nat := 0
  /-- FSEQ acknowledged by the peer (R352). -/
  txAck : Nat := 0xFFFF
  /-- Send credits by class (R353). -/
  credits : Nat × Nat × Nat := (64, 64, 64)
  /-- Stamps of replays within 1 ms, newest first (R352). -/
  replayAt : List Nat := []
  /-- TX_STAMP last received and the stamp of its arrival (2 × 32 bits; R351, R357). -/
  peerTx : Option (Nat × Nat) := none
  /-- Stamp of the TX_STAMP this port sent last (32 bits; R357). -/
  myTx : Option Nat := none
  /-- RX_STAMP that answered it (32 bits; R357). -/
  peerRx : Option Nat := none
  /-- Stamp of the last exchange (64 bits; R357). -/
  exchAt : Nat := 0
  /-- Frames sent on the port and not yet acknowledged, oldest first: FSEQ and slots (256; R352). -/
  sent : List (Nat × List Flit) := []
  /-- Flits waiting to be sent, in order of arrival (R353). -/
  out : List Flit := []
  /-- Arbiter of the port (R45, R46, R353). -/
  arb : Arb := {}
  /-- Transit flits sent since the last injected one, by class (R353). -/
  transit : Tab Nat := []
deriving DecidableEq, Repr

/-- A Relay link as TOPO tells it: device, port, neighbour and neighbour port (R355). -/
structure Link where
  a : Nat
  pa : Nat
  b : Nat
  pb : Nat
deriving DecidableEq, Repr

/-- A lock key in an LLT (R359). -/
structure LKey where
  /-- Holds: (TID, device, mode 1 shared). -/
  holds : List (Nat × Nat × Nat) := []
  /-- Waiters, head first: (TID, device, mode, queue stamp, class). -/
  waits : List (Nat × Nat × Nat × Nat × Nat) := []
  /-- The next grant carries GRANTED_ABANDONED (R365). -/
  abandoned : Bool := false
deriving DecidableEq, Repr

/-- A Ledger Lock Table of this device (R359, Table 12-9). -/
structure Llt where
  live : Bool := false
  log2 : Nat := 0
  waitUs : Nat := 0
  keys : Tab LKey := []
  grants : Nat := 0
  queued : Nat := 0
  expired : Nat := 0
  abandonedN : Nat := 0
  /-- Allowed (device, instance) pairs (R370). -/
  allow : List (Nat × Nat) := []
deriving DecidableEq, Repr

/-- The Relay. -/
structure Relay where
  /-- Own device ID (6 bits; R355). [DC5] -/
  self : Nat := 0
  ports : Tab RPort := []
  /-- Links of the connected set known through TOPO (R355). -/
  graph : List Link := []
  /-- Version of this device's neighbour list (6 bits; Table 12-3). -/
  version : Nat := 0
  /-- Flits received and not yet handled: port (6 for this device) and flit, oldest first (R353). -/
  rx : List (Nat × Flit) := []
  llts : Tab Llt := []
  /-- Keys in the lock cache, most recent first (32,768 entries; R359). -/
  cache : List (Nat × Nat) := []
  /-- TOD synchronisation: 0 master, 1 SYNCED, 2 SYNCING, 3 no master reachable (R357). [DC5] -/
  sync : Nat := 0
  master : Nat := 0
  /-- Offset from the master in TOD units (R357). -/
  offset : Int := 0
  lastEvent : Nat := 0
  /-- Since when each device has had no route (R365). -/
  noRoute : Tab Nat := []
  /-- Stamp of the last valid frame of each port (6 × 64 bits; R368). -/
  lastFrame : Tab Nat := []
  /-- Version of each device's neighbour list last seen in TOPO (6 bits each; Table 12-3). -/
  seen : Tab Nat := []
  /-- Devices that have been sent GONE (device) since system reset (R365). -/
  greeted : List Nat := []
  /-- CREADs and CWRITEs sent and not answered by CDATA, oldest first: TID, home, LLT, offset, a load (R367). -/
  creqs : List (Nat × Nat × Nat × Nat × Bool) := []
deriving DecidableEq, Repr

/-- A Channel Engine (R290). -/
structure Engine where
  /-- 1 ACTIVE, 2 STANDBY_SYNC, 3 STANDBY_READY, 4 FAILED, 5 SELFTEST (R290). [DC5] -/
  state : Nat := 4
  /-- The self-test of R293 has been used after the last failure. -/
  tested : Bool := false
  loopFails : Nat := 0
  /-- Window of an ENGINE_RESET in execution. -/
  win : Option Nat := none
deriving DecidableEq, Repr

/-- A frame from a target, held at its port during a switchover (R292). -/
structure Inb where
  /-- Output stage of its port. -/
  stage : Nat
  /-- 0 first frame, 1 data, 2 final response, 3 abort confirmation, 4 abort rejection, 5 an abort confirmation with a final response of the same TCLK cycle. -/
  what : Nat
  sc : Nat
  wsn : Nat
  devstat : Nat := 0
  moved : Nat := 0
  bytes : List Byte := []
  /-- Stamp of its arrival (R282). -/
  stamp : Nat := 0
deriving DecidableEq, Repr

/-- A Route (R25, R290). -/
structure Route where
  /-- Claim of the active engine (32 bits; R291). -/
  claim : Nat := 1
  /-- The Route is stopped (R294). -/
  stopped : Bool := true
  /-- Switchover under way: new engine, and by ROUTE_SWITCH without a fault of the active engine (R292, R293). -/
  switching : Option (Nat × Bool) := none
  /-- Stamp of the last frame an output stage accepted (R292). -/
  lastFrame : Nat := 0
  /-- Frames held during a switchover, oldest first (512 a port; R292). -/
  held : List Inb := []
  /-- Output stages that have not acknowledged, with the stamp of the claim write (R292). -/
  unacked : List (Nat × Nat) := []
  /-- Window whose ROUTE_SWITCH is in execution (R293). -/
  win : Option Nat := none
  switchovers : Nat := 0
  lastSwitch : Nat := 0
  lastGap : Nat := 0
  /-- The new engine of a switchover has sent no frame yet: the old engine, stamp of its last accepted frame, and whether an injected fault caused the switchover (R292, R394). -/
  gap : Option (Nat × Nat × Bool) := none
  /-- Stamp of the last heartbeat of the active engine (R292). -/
  beat : Nat := 0
  /-- Stamp of the last loopback (R294). -/
  loop : Nat := 0
  arb : Arb := {}
  /-- New dispatches stopped for a ROUTE_SWITCH (R293). -/
  quiesce : Bool := false
  /-- The switchover follows an injected fault (R394). -/
  injected : Bool := false
deriving DecidableEq, Repr

/-- A Fibre Channel or Ethernet port (R285, LOGIN_QUERY). -/
structure IoPort where
  /-- Link up (R285). [DC5] -/
  up : Bool := false
  /-- Signal present (R285). [DC5] -/
  signal : Bool := false
  /-- Stamp of the loss of signal (R285). -/
  lostAt : Nat := 0
  rate : Nat := 0
  localId : Nat := 0
  name : Nat := 0
  retrains : Nat := 0
  change : Nat := 0
  /-- Frames discarded and counted (R283, R292). -/
  discards : Nat := 0
deriving DecidableEq, Repr

/-- A post waiting for the hub event writer (R223). -/
structure Post where
  tid : Nat
  /-- 0 EV_TMR, 1 EV_IPI, 2 EV_IO, 3 EV_MB. -/
  ev : Nat
  cause : Nat
  source : Nat
  tod : Nat
  /-- Class of the task it is for, when it was posted (2 bits; R41, R219). -/
  cls : Nat := 1
deriving DecidableEq, Repr

/-- A deferred gating request (R346). -/
structure Deferred where
  kind : Nat
  number : Nat
  mode : Nat
  /-- End stamp. -/
  end_ : Nat
  win : Nat
  code : Nat
  seq : Nat
deriving DecidableEq, Repr

/-- MRAM firmware and boot control (Table 15-4). -/
structure Fw where
  /-- SFW slots 0 and 1, as bytes; slot 0 at reset holds the shipped image of SFW 5.2 (R408). [DC3] -/
  slot0 : List Byte := []
  slot1 : List Byte := []
  /-- Slot holds a valid image whatever its bytes: the shipped image (R1). [DC3] -/
  shipped0 : Bool := true
  shipped1 : Bool := false
  tskActive : List Byte := []
  tskStaged : List Byte := []
  /-- Preferred SFW slot (Table 15-4). [DC3] -/
  pref : Nat := 0
  /-- TSK patch activation pending (Table 15-4). [DC3] -/
  pending : Bool := false
  /-- Reset configuration copies, bytes (0x840 each; R409). [DC3] -/
  cfg0 : List Byte := []
  cfg1 : List Byte := []
  /-- The staging copy (0x840 bytes; R423). [DC3] -/
  staging : List Byte := []
  /-- Configuration in force since the last start-up outside recovery mode (0x840 bytes; R409, R410). -/
  inForce : List Byte := []
  /-- Dirty shutdown counts seen at the previous start-up: (serial, count) (R418). -/
  dirtySeen : List (Nat × Nat) := []
deriving DecidableEq, Repr

/-- Fuses (R6, R149, R408, R432). -/
structure Fuses where
  /-- Work cores: 72, 48 or 24 (R3). [DC6] -/
  work : Nat := 72
  /-- Physical cores fused off (R6). [DC6] -/
  off : List Nat := []
  /-- Physical cores that serve as Outriders (R6). [DC6] -/
  outriders : List Nat := [3, 19, 23, 39, 43, 59, 63, 79]
  /-- SERIAL, 16 ASCII bytes (R446). [DC6] -/
  serial : List Byte := List.replicate 16 0x30#8
  /-- SHA-384 hashes of the four decode-signing keys and whether revoked (R149). [DC6] -/
  decodeKeys : List (List Byte × Bool) := []
  /-- Firmware key hashes: target, hash, revoked (R408). [DC6] -/
  fwKeys : List (Nat × List Byte × Bool) := []
  /-- Rollback counters of SFW and the TSK patch (R408). [DC6] -/
  rollSfw : Nat := 0
  rollTsk : Nat := 0
  /-- Fused MAC address of the service port (R89). [DC6] -/
  mac : Nat := 0
  /-- Core die setpoints in mV (R432). [DC6] -/
  setpoint : List Nat := [650, 650, 650, 650]
deriving DecidableEq, Repr

end Sys2Proof.Machine
end

