-- ==== Sys2Proof/Machine/State.lean ====
section
/-! DEFINITION. The state of the block: every register, buffer, queue and mode the manual gives the Sweza, as plain data, and the queue of waiting commands. -/
namespace Sys2Proof.Machine

/-- Why the block stops with a fault. The manual leaves no case without its outcome (R19). -/
inductive Fault where
  /-- Raised by nothing: no meaning and no step answers it. Safe. -/
  | never
deriving DecidableEq, Repr

/-- Why a command has no meaning. -/
inductive Refusal where
  /-- Raised by Dispatch.lean alone, for a row whose meaning has not been written. Safe: nothing is concluded about the row. -/
  | notModelled (mnemonic : String)
deriving DecidableEq, Repr

/-- The state of the block. -/
structure State where
  /-- What the device does as a whole (R402). -/
  phase : Phase
  /-- Clock unit and Time-of-Day unit (R28, R35). -/
  clock : Clock
  /-- Pins, rails and sensors (R427, R428). -/
  pins : Pins
  /-- Service Processors and Token Keeper (R56, R63). -/
  svc : Svc
  /-- Mailbox windows 0 to 513 (514; R77). -/
  windows : Tab Window
  /-- Manager-role holder (9 bits; R96). -/
  mgr : Nat
  /-- Tenant instances (512; R93). -/
  insts : Tab Inst
  /-- Logbook, counters, health words (R388, R392). -/
  log : Log
  /-- MRAM firmware area and reset configuration (R408, R409). -/
  fw : Fw
  /-- Fuses (R6). -/
  fuses : Fuses
  /-- Logical cores (72, 48 or 24; R7). -/
  cores : Tab LCore
  /-- Physical cores (80; R6). -/
  pcores : Tab PCore
  /-- Task sets and trap sets: core × 128 + set (68 per core; R213). -/
  ctxs : Tab Ctx
  /-- Caches, Depot, CXL memory (R235). -/
  ms : MemSys
  /-- Lanes lost on the die-to-die links (6; R26). -/
  linkLost : Tab Nat
  /-- Outstanding device-space stores counted at the hub, oldest first (R262). -/
  devStores : List DevStore
  /-- Subchannels (2^20; R268). -/
  subchs : Tab Subch
  /-- INCARN of each subchannel number (32 bits each; R279). -/
  incarns : Tab Nat
  /-- INCARN of the numbers of which no subchannel has been created since the SYSTEM region was carved (32 bits; R279, R419). -/
  incarnBase : Nat
  /-- In-doubt store, oldest first (1,048,576 records; R280). -/
  indoubt : List JRec
  /-- Records that have entered IN_DOUBT; orders INDOUBT_LIST and its cursor (R295). -/
  doubts : Nat
  /-- Fibre Channel ports by number, Ethernet ports by 64 + number (44; R285). -/
  ioports : Tab IoPort
  /-- Routes (16; R290). -/
  routes : Tab Route
  /-- Channel Engines (32; R290). -/
  engines : Tab Engine
  /-- Stored claims: stage × 16 + Route (32 bits each; R291). -/
  claims : Tab Nat
  /-- Frames the output stages put on the wire: stage, Route, claim, newest first (R291). -/
  wire : List (Nat × Nat × Nat)
  /-- Request rings (R308). -/
  rings : Tab Ring
  /-- Block Cipher Units (8; R311). -/
  bcus : Tab Unit
  /-- Deflate Units (8; R317). -/
  dfus : Tab Unit
  /-- Arbiter of the cipher pool (R45, R46). -/
  bcuArb : Arb
  /-- Arbiter of the deflate pool (R45, R46). -/
  dfuArb : Arb
  /-- Cipher requests admitted and waiting, oldest first (R311). -/
  bcuPool : List Req
  /-- Deflate requests admitted and waiting, oldest first (R317). -/
  dfuPool : List Req
  /-- Cipher pages (4,096; R296). -/
  pages : Tab CPage
  /-- Dictionaries: instance × 64 + slot (32,768 bytes each; R320). -/
  dicts : Tab (List Byte)
  /-- Enclaves: instance × 4096 + number (4,096; R322). -/
  encls : Tab Encl
  /-- Enclave page map by granule number (R324). -/
  emap : Tab MapEnt
  /-- Relay ports, routes and Ledger Lock Tables (R348, R359). -/
  relay : Relay
  /-- Writable decode table (64 slots; R144). -/
  decode : Tab Routine
  /-- Debug enable NI (1 bit; R344). -/
  dbgNi : Bool
  /-- Debug enable INV (1 bit; R344). -/
  dbgInv : Bool
  /-- Debug enable ENI (1 bit; R344). -/
  dbgEni : Bool
  /-- Debug enable EINV (1 bit; R344). -/
  dbgEinv : Bool
  /-- Deferred gating requests (R346). -/
  deferred : List Deferred
  /-- Posts waiting for the hub event writer, oldest first (R223). -/
  posts : List Post
  /-- Signals that may create a task: TID and signaller's TID and authority, oldest first (R218). -/
  creations : List (Nat × Nat × Bool)
  /-- What the hub holds for tasks that are not resident, by TID: accesses and probes sent, and their outcomes (R231, R373). -/
  outcomes : Tab Await
  /-- What the Drover keeps for tasks that are not resident, by TID (R151, R181, R229 to R233). -/
  kept : Tab Kept
  /-- TIDs restarted by RUN and not yet resident (R339). -/
  fresh : List Nat
  /-- The last console answer (R89). -/
  console : Option ConsoleAns
  /-- SP whose TSK serves the console window in recovery mode (R406). -/
  recSp : Nat
  /-- The model's own field: draws of free values made so far (log entry 2). -/
  freeCtr : Nat
  /-- Commands waiting, first in first out (the model's own queue, log entry 1). -/
  pending : List Instr
deriving DecidableEq, Repr

/-- The machine right after reset: PORST_N asserted, every register at its reset value (R402, R412; log entries 3, 5, 6). -/
def State.reset : State where
  phase := .held
  clock := {}
  pins := {}
  svc := {}
  windows := []
  mgr := 0
  insts := []
  log := {}
  fw := {}
  fuses := {}
  cores := []
  pcores := []
  ctxs := []
  ms := {}
  linkLost := []
  devStores := []
  subchs := []
  incarns := []
  incarnBase := 0
  indoubt := []
  doubts := 0
  ioports := []
  routes := []
  engines := []
  claims := []
  wire := []
  rings := []
  bcus := []
  dfus := []
  bcuArb := {}
  dfuArb := {}
  bcuPool := []
  dfuPool := []
  pages := []
  dicts := []
  encls := []
  emap := []
  relay := {}
  decode := []
  dbgNi := false
  dbgInv := false
  dbgEni := false
  dbgEinv := false
  deferred := []
  posts := []
  creations := []
  outcomes := []
  kept := []
  fresh := []
  console := none
  recSp := 0
  freeCtr := 0
  pending := []

end Sys2Proof.Machine
end

