-- ==== Sys2Proof/Machine/Ops.lean ====
section
/-! DEFINITION. The named operations over the state: units by number, time, free values, memory behind the ports, the Logbook, health words, notifications and event posts. -/
namespace Sys2Proof.Machine

/-! ### Units by number -/

/-- Mailbox window w. -/
def State.win (s : State) (w : Nat) : Window := s.windows.getD w {}
/-- Change mailbox window w. -/
def State.onWin (s : State) (w : Nat) (f : Window → Window) : State := { s with windows := s.windows.upd w {} f }
/-- Instance i. -/
def State.inst (s : State) (i : Nat) : Inst := s.insts.getD i {}
/-- Change instance i. -/
def State.onInst (s : State) (i : Nat) (f : Inst → Inst) : State := { s with insts := s.insts.upd i {} f }
/-- Logical core n. -/
def State.core (s : State) (n : Nat) : LCore := s.cores.getD n {}
/-- Change logical core n. -/
def State.onCore (s : State) (n : Nat) (f : LCore → LCore) : State := { s with cores := s.cores.upd n {} f }
/-- Physical core n. -/
def State.pcore (s : State) (n : Nat) : PCore := s.pcores.getD n {}
/-- Change physical core n. -/
def State.onPCore (s : State) (n : Nat) (f : PCore → PCore) : State := { s with pcores := s.pcores.upd n {} f }
/-- Set `set` of logical core `core`: 0 to 63 task sets, 64 to 67 trap sets (R213). -/
def State.ctx (s : State) (core set : Nat) : Ctx := s.ctxs.getD (core * 128 + set) {}
/-- Change a task set or trap set. -/
def State.onCtx (s : State) (core set : Nat) (f : Ctx → Ctx) : State := { s with ctxs := s.ctxs.upd (core * 128 + set) {} f }
/-- Subchannel n. -/
def State.sub (s : State) (n : Nat) : Subch := s.subchs.getD n {}
/-- Change subchannel n. -/
def State.onSub (s : State) (n : Nat) (f : Subch → Subch) : State := { s with subchs := s.subchs.upd n {} f }
/-- Request ring n. -/
def State.ring (s : State) (n : Nat) : Ring := s.rings.getD n {}
/-- Change request ring n. -/
def State.onRing (s : State) (n : Nat) (f : Ring → Ring) : State := { s with rings := s.rings.upd n {} f }
/-- Route n. -/
def State.route (s : State) (n : Nat) : Route := s.routes.getD n {}
/-- Change Route n. -/
def State.onRoute (s : State) (n : Nat) (f : Route → Route) : State := { s with routes := s.routes.upd n {} f }
/-- Channel Engine n. -/
def State.engine (s : State) (n : Nat) : Engine := s.engines.getD n {}
/-- Change Channel Engine n. -/
def State.onEngine (s : State) (n : Nat) (f : Engine → Engine) : State := { s with engines := s.engines.upd n {} f }
/-- Cipher page n. -/
def State.page (s : State) (n : Nat) : CPage := s.pages.getD n {}
/-- Change cipher page n. -/
def State.onPage (s : State) (n : Nat) (f : CPage → CPage) : State := { s with pages := s.pages.upd n {} f }
/-- Block Cipher Unit n. -/
def State.bcu (s : State) (n : Nat) : Unit := s.bcus.getD n {}
/-- Change Block Cipher Unit n. -/
def State.onBcu (s : State) (n : Nat) (f : Unit → Unit) : State := { s with bcus := s.bcus.upd n {} f }
/-- Deflate Unit n. -/
def State.dfu (s : State) (n : Nat) : Unit := s.dfus.getD n {}
/-- Change Deflate Unit n. -/
def State.onDfu (s : State) (n : Nat) (f : Unit → Unit) : State := { s with dfus := s.dfus.upd n {} f }
/-- CXL/PCIe port n. -/
def State.port (s : State) (n : Nat) : CxlPort := s.ms.ports.getD n {}
/-- Change CXL/PCIe port n. -/
def State.onPort (s : State) (n : Nat) (f : CxlPort → CxlPort) : State := { s with ms := { s.ms with ports := s.ms.ports.upd n {} f } }
/-- Relay port n. -/
def State.rport (s : State) (n : Nat) : RPort := s.relay.ports.getD n {}
/-- Change Relay port n. -/
def State.onRport (s : State) (n : Nat) (f : RPort → RPort) : State := { s with relay := { s.relay with ports := s.relay.ports.upd n {} f } }
/-- Ledger Lock Table n of this device. -/
def State.llt (s : State) (n : Nat) : Llt := s.relay.llts.getD n {}
/-- Change Ledger Lock Table n. -/
def State.onLlt (s : State) (n : Nat) (f : Llt → Llt) : State := { s with relay := { s.relay with llts := s.relay.llts.upd n {} f } }
/-- Enclave e of instance i. -/
def State.encl (s : State) (i e : Nat) : Encl := s.encls.getD (i * 4096 + e) {}
/-- Change enclave e of instance i. -/
def State.onEncl (s : State) (i e : Nat) (f : Encl → Encl) : State := { s with encls := s.encls.upd (i * 4096 + e) {} f }
/-- An invasive access to an enclave sets DEBUGGED (R344). -/
def State.debugged (s : State) (i e : Nat) : State := if e = 0 then s else s.onEncl i e (fun x => { x with debugged := true })
/-- FC port by number, Ethernet port by 64 + number. -/
def State.ioport (s : State) (n : Nat) : IoPort := s.ioports.getD n {}
/-- Change an FC or Ethernet port. -/
def State.onIoport (s : State) (n : Nat) (f : IoPort → IoPort) : State := { s with ioports := s.ioports.upd n {} f }
/-- Service Processor n. -/
def State.sp (s : State) (n : Nat) : Sp := if n = 0 then s.svc.spA else s.svc.spB
/-- Change Service Processor n. -/
def State.onSp (s : State) (n : Nat) (f : Sp → Sp) : State :=
  if n = 0 then { s with svc := { s.svc with spA := f s.svc.spA } } else { s with svc := { s.svc with spB := f s.svc.spB } }
/-- Rail n. -/
def State.rail (s : State) (n : Nat) : Rail := s.pins.rails.getD n {}
/-- Change rail n. -/
def State.onRail (s : State) (n : Nat) (f : Rail → Rail) : State := { s with pins := { s.pins with rails := s.pins.rails.upd n {} f } }
/-- GPIO pin n. -/
def State.gpio (s : State) (n : Nat) : Gpio := s.pins.gpio.getD n {}
/-- Change GPIO pin n. -/
def State.onGpio (s : State) (n : Nat) (f : Gpio → Gpio) : State := { s with pins := { s.pins with gpio := s.pins.gpio.upd n {} f } }
/-- Change the Logbook. -/
def State.onLog (s : State) (f : Log → Log) : State := { s with log := f s.log }
/-- Change the memory system. -/
def State.onMs (s : State) (f : MemSys → MemSys) : State := { s with ms := f s.ms }
/-- Change the clock and TOD unit. -/
def State.onClock (s : State) (f : Clock → Clock) : State := { s with clock := f s.clock }
/-- Change the Service Complex. -/
def State.onSvc (s : State) (f : Svc → Svc) : State := { s with svc := f s.svc }

/-- Enclaves are enabled on a logical core: ENCL_WAYS of the physical core that holds it (R9, R343). -/
def State.enclCore (s : State) (n : Nat) : Bool := (s.pcore (s.core n).phys).enclWays

/-- The part's work cores (R3). -/
def State.workCores (s : State) : Nat := s.fuses.work
/-- The part's counting-house work cores: logical cores below this number (R7, R105). -/
def State.chCores (s : State) : Nat := s.fuses.work / 6
/-- A physical core carries the decimal unit: the first four of each die (Table 01-1). -/
def isChPhys (p : Nat) : Bool := p % 20 < 4

/-! ### Time -/

/-- The stamp of an event taken now (R38). -/
def State.now (s : State) : Nat := s.clock.tod

/-- One TCLK edge: 16, or 15 or 17 on one edge in 256 while a phase error is slewed away (R35, R37). -/
def Clock.tick (c : Clock) : Clock :=
  if c.slewEdge ≥ 255 then
    if c.slew > 0 then { c with tod := c.tod + 17, slew := c.slew - 1, slewEdge := 0 }
    else if c.slew < 0 then { c with tod := c.tod + 15, slew := c.slew + 1, slewEdge := 0 }
    else { c with tod := c.tod + 16, slewEdge := 0 }
  else { c with tod := c.tod + 16, slewEdge := c.slewEdge + 1 }

/-- The clock after n TCLK edges: one edge in 256 takes the slew (R35, R37). -/
def Clock.after (c : Clock) (n : Nat) : Clock :=
  let m := (c.slewEdge + n) / 256
  let k := min m c.slew.natAbs
  { c with tod := if c.slew < 0 then c.tod + 16 * n - k else c.tod + 16 * n + k, slew := if c.slew < 0 then c.slew + k else c.slew - k, slewEdge := (c.slewEdge + n) % 256 }

/-- The least number of edges in [lo, hi] after which TOD has reached t, by halving. -/
def Clock.edges (c : Clock) (t : Nat) : Nat → Nat → Nat → Nat
  | 0, _, hi => hi
  | f + 1, lo, hi => if hi ≤ lo then hi else if t ≤ (c.after ((lo + hi) / 2)).tod then Clock.edges c t f lo ((lo + hi) / 2) else Clock.edges c t f ((lo + hi) / 2 + 1) hi

/-- Time passes until the first TCLK edge at or after a stamp (log entry 7). -/
def State.advanceTo (s : State) (t : Nat) : State :=
  if s.clock.tod < t then s.onClock (fun c => c.after (c.edges t 80 0 (t - c.tod))) else s

/-- The start of the interval of n TOD units, aligned to TOD, that holds a stamp: the grid starts again where TOD wraps to 0 (R35, R40, R109). -/
def gridAt (n t : Nat) : Nat := t - u64 t % n

/-- The start of the next interval of that grid: n units on, or where TOD wraps (R35, R40). -/
def gridNext (n t : Nat) : Nat := min (gridAt n t + n) (t - u64 t + 2 ^ 64)

/-- TOD units in a microsecond. -/
def usT : Nat := 4000
/-- TOD units in a millisecond. -/
def msT : Nat := 4000000
/-- TOD units in a second. -/
def secT : Nat := 4000000000

/-! ### Free values (log entry 2) -/

/-- Count a draw. -/
def State.drawn (s : State) : State := { s with freeCtr := s.freeCtr + 1 }
/-- The free choice drawn next. -/
def State.freeBool (s : State) : Bool := Config.freeBool s.freeCtr
/-- The free number drawn next. -/
def State.freeNat (s : State) : Nat := Config.freeNat s.freeCtr

/-! ### Memory behind the ports (R252, R254) -/

/-- What an unlisted word holds: POISON with CAUSE 0x00 and its own ADDR (R254, Table 04-3). -/
def unwritten (wi : Nat) : TWord := ⟨BitVec.ofNat 64 (wi % 2 ^ 54), Tag.poison⟩

/-- A POISON word as hardware writes it (Table 04-3). -/
def poisonWord (cause wi : Nat) : TWord := ⟨BitVec.ofNat 64 (cause * 2 ^ 56 + wi % 2 ^ 54), Tag.poison⟩

/-- Byte k of a datum, counted from the most significant (R165). -/
def datumByte (d : Word) (k : Nat) : Byte := BitVec.ofNat 8 (d.toNat / 2 ^ (56 - 8 * k))

/-- The data byte an unlisted address reads as. -/
def defByte (a : Nat) : Byte := datumByte (unwritten (a / 8)).datum (a % 8)

/-- The byte a cell list gives for a key. -/
def cellGet : List Host.Cell → Nat → Option Byte
  | [], _ => none
  | (k, b) :: t, n => if k = n then some b else cellGet t n

/-- Write a cell, keeping the canonical form: rising keys, no entry equal to the default. -/
def cellPut : List Host.Cell → Nat → Byte → Byte → List Host.Cell
  | [], n, b, d => if b = d then [] else [(n, b)]
  | (k, v) :: t, n, b, d =>
    if n < k then (if b = d then (k, v) :: t else (n, b) :: (k, v) :: t)
    else if k = n then (if b = d then t else (n, b) :: t)
    else (k, v) :: cellPut t n b d

/-- Read one data byte. -/
def Memory.byte (m : Memory) (a : Nat) : Byte := (cellGet m.data a).getD (defByte a)

/-- Read the tag of a word. -/
def Memory.tag (m : Memory) (wi : Nat) : Tag := (cellGet m.tags wi).getD Tag.poison

/-- Read a tagged word by its number. -/
def Memory.word (m : Memory) (wi : Nat) : TWord :=
  ⟨BitVec.ofNat 64 (beNat ((List.range 8).map (fun k => m.byte (wi * 8 + k)))), m.tag wi⟩

/-- Write one data byte. -/
def Memory.setByte (m : Memory) (a : Nat) (b : Byte) : Memory := { m with data := cellPut m.data a b (defByte a) }

/-- Write the bytes of a datum. -/
def Memory.setBytes (m : Memory) (wi : Nat) (d : Word) : List Nat → Memory
  | [] => m
  | k :: ks => Memory.setBytes (m.setByte (wi * 8 + k) (datumByte d k)) wi d ks

/-- Write a tagged word; UNWRITTEN of its line becomes 0 (R252, R254). -/
def Memory.setWord (m : Memory) (wi : Nat) (w : TWord) : Memory :=
  let m' := m.setBytes wi w.datum (List.range 8)
  { m' with tags := cellPut m'.tags wi w.tag Tag.poison, lines := cellPut m'.lines (wi / 32) 0#8 1#8 }

/-- UNWRITTEN of a line (R252). -/
def Memory.isUnwritten (m : Memory) (la : Nat) : Bool := (cellGet m.lines la).getD 1#8 == 1#8

/-- Make every line of [lo, hi) unwritten: the carve (R254). -/
def Memory.carve (m : Memory) (lo hi : Nat) : Memory :=
  { data := m.data.filter (fun c => !(lo ≤ c.1 && c.1 < hi)), tags := m.tags.filter (fun c => !(lo / 8 ≤ c.1 && c.1 < hi / 8)),
    lines := m.lines.filter (fun c => !(lo / 256 ≤ c.1 && c.1 < hi / 256)) }

/-- Keys rise strictly. -/
def rising : List Host.Cell → Bool
  | [] => true
  | [_] => true
  | a :: b :: t => a.1 < b.1 && rising (b :: t)

/-- The canonical form: rising keys, no entry equal to what an unlisted place reads as. -/
def Memory.wf (m : Memory) : Bool :=
  rising m.data && m.data.all (fun c => c.2 != defByte c.1) && rising m.tags && m.tags.all (fun c => c.2 != Tag.poison) && rising m.lines && m.lines.all (fun c => c.2 != 1#8)

/-! ### The Logbook (R388 to R393) -/

/-- Unit code of a class and an index (Table 13-7). -/
def unitCode (cls idx : Nat) : Nat := cls * 256 + idx

/-- Kinds marked K (Table 13-10). -/
def kindK (k : Nat) : Bool := [0x2, 0x3, 0x4, 0x5, 0x8, 0xC, 0xD, 0x10, 0x14, 0x17].contains k

/-- The 128 bytes of a record without its CRC (Table 13-9). -/
def LogRec.raw (r : LogRec) (crc : Nat) : List Byte :=
  beBytes 8 r.lseq ++ beBytes 8 r.tod ++ beBytes 2 r.kind ++ beBytes 1 r.flags ++ [0#8] ++ beBytes 4 r.unit ++ beBytes 4 r.poc ++
    beBytes 4 crc ++ bytesAt (if r.text = [] then Config.recordBody r.kind r.body else r.text) 0 96

/-- The 128 bytes of a record (Table 13-9). -/
def LogRec.bytes (r : LogRec) : List Byte := r.raw (crc32c (r.raw 0))

/-- Append one record to the event area, and to the keep area if its kind is marked K (R389). -/
def Log.append (l : Log) (tod kind unit flags : Nat) (body : List Nat) (text : List Byte) : Log :=
  let k := kindK kind && decide (l.keep.length < 8192)
  let r : LogRec := { lseq := l.lseq + 1, tod := u64 tod, kind := kind, flags := flags + 2 * b2n k + b2n l.injected, unit := unit, poc := l.poc, body := body, text := text }
  let full := decide (442368 ≤ l.events.length)
  { l with
    lseq := l.lseq + 1
    events := r :: (if full then l.events.take (442368 - 8192) else l.events)
    keep := if k then r :: l.keep else l.keep
    dropped := if full then l.dropped + 8192 else l.dropped
    unsealed := r :: l.unsealed
    newestTod := u64 tod }

/-- Append a SEAL over the records since the previous one (R390). -/
def Log.seal (l : Log) (tod flags : Nat) : Log :=
  match l.unsealed.reverse with
  | [] => l
  | r :: rs =>
    let mac := hmac384 Config.sealKey (l.mac ++ (r :: rs).flatMap LogRec.bytes)
    let l' := l.append tod 0xFF (unitCode 0xF 0) flags [] (beBytes 8 r.lseq ++ mac)
    { l' with unsealed := [], mac := mac, lastSeal := u64 tod }

/-- FLAGS.STANDBY: the record is written on standby power (Table 13-9). -/
def State.standbyFlag (s : State) : Nat := if s.phase = .held then 4 else 0

/-- A unit reports an event: append its record, and seal after a K record (R389, R390). -/
def State.logRec (s : State) (kind unit : Nat) (body : List Nat) : State :=
  s.onLog (fun l =>
    let l' := l.append s.now kind unit s.standbyFlag body []
    if kindK kind then l'.seal s.now s.standbyFlag else l')

/-- Append a record and seal it (R390). -/
def State.logSealed (s : State) (kind unit : Nat) (body : List Nat) : State :=
  (s.logRec kind unit body).onLog (fun l => l.seal s.now s.standbyFlag)

/-- Records an action writes for an injected fault carry FLAGS.INJECTED (R394). -/
def State.asInjected (s : State) (inj : Bool) (f : State → State) : State :=
  if inj then (f (s.onLog (fun l => { l with injected := true }))).onLog (fun l => { l with injected := false }) else f s

/-- Change the counters of a unit (R392). -/
def State.count (s : State) (unit : Nat) (f : UnitCtr → UnitCtr) : State :=
  s.onLog (fun l => { l with live := { l.live with ctr := l.live.ctr.upd unit {} f } })

/-- Count EV_A of a unit or a device total (Table 13-13). -/
def State.countA (s : State) (unit : Nat) : State := s.count unit (fun c => { c with a := c.a + 1 })
/-- Count EV_B of a unit or a device total (Table 13-13). -/
def State.countB (s : State) (unit : Nat) : State := s.count unit (fun c => { c with b := c.b + 1 })

/-- The bin of a Courier latency (R392). -/
def latBin (ns : Nat) : Nat := if ns < 125 then 0 else min 16 (1 + Nat.log2 (ns / 125))

/-- Count a Courier latency of kind k over [from, now) (R392, R401). -/
def State.countLat (s : State) (k start : Nat) : State :=
  s.onLog (fun l => { l with live := { l.live with lat := l.live.lat.upd (k * 32 + latBin ((s.now - start) / 4)) 0 (· + 1) } })

/-! ### Notifications and event posts -/

/-- An event that needs a notification enters the hub event FIFO (R75). -/
def State.notify (s : State) (win kind status subject detail : Nat) : State :=
  s.onSvc (fun v => { v with fifo := v.fifo ++ [{ win := win, kind := kind, status := status, subject := subject, tod := u64 s.now, detail := detail }] })

/-- A health word as 64 bits; UE and CE saturate (Table 13-6). -/
def Health.word (h : Health) : Nat := min h.ue 0xFFFF * 2 ^ 48 + min h.ce 0xFFFF * 2 ^ 32 + h.phys * 2 ^ 16 + h.cause * 2 ^ 8 + h.state

/-- The health word of a unit (R385). -/
def State.health (s : State) (unit : Nat) : Health := s.log.health.getD unit { phys := unit % 256 }

/-- Set STATE and CAUSE of a unit; a change posts HEALTH_CHANGE to the Manager (R387). -/
def State.setHealth (s : State) (unit st cause : Nat) : State :=
  let h := s.health unit
  if h.state = st ∧ h.cause = cause then s
  else
    let h' := { h with state := st, cause := cause }
    (s.onLog (fun l => { l with health := l.health.put unit h' })).notify 512 0x3 0 unit h'.word

/-- Count a correctable error of a unit (Table 13-6, R392). -/
def State.countCe (s : State) (unit : Nat) : State :=
  let h := s.health unit
  (s.onLog (fun l => { l with health := l.health.put unit { h with ce := h.ce + 1 } })).count unit (fun c => { c with ce := c.ce + 1 })

/-- Count an uncorrectable error of a unit (Table 13-6, R392). -/
def State.countUe (s : State) (unit : Nat) : State :=
  let h := s.health unit
  (s.onLog (fun l => { l with health := l.health.put unit { h with ue := h.ue + 1 } })).count unit (fun c => { c with ue := c.ue + 1 })

/-- CLOCK_EVENT for references and PPS: notification and record (R437). -/
def State.clockEvent (s : State) (code src detail : Nat) : State :=
  (s.notify 512 0x7 0 (0x20000 + code * 256 + src) detail).logRec 0xA (unitCode 0xE 0) [code, src, detail]

/-- Device stop: CATERR_N asserted, a record sealed, every unit stopped (R27, R429, R441). -/
def State.deviceStop (s : State) (cause unit : Nat) : State :=
  let s := s.logRec 0x10 unit [cause, unit]
  { s with phase := .stopped, pins := { s.pins with caterr := true } }

/-- The rate window that holds TOD begins: counters cleared, caps last set come into force (R109). -/
def State.startWindow (s : State) : State :=
  { s.onClock (fun c => { c with rateWindow := gridAt 400000 c.tod }) with
    insts := s.insts.map (fun p => (p.1, { p.2 with capUsed := 0, force := { p.2.force with cap := p.2.set.cap } })) }

/-- The rate window in which an admission stamped now counts: its stamp alone decides, whether or not the window's own event has come (R39, R109). -/
def State.inWindow (s : State) : State := if s.clock.rateWindow < gridAt 400000 s.now then s.startWindow else s

/-- The weights by which an instance shares a point now: those last set from the start of the share epoch that holds TOD (R39, R40, R46). -/
def State.weights (s : State) (i : Nat) : Shares := if s.clock.epoch < gridAt 40000 s.now then (s.inst i).set else (s.inst i).force

/-- The device serves no event but pins, power and the standby console. -/
def State.runs (s : State) : Bool := s.phase = .running

/-- Answer of every meaning. -/
abbrev Out := Host.Outcome State Fault Refusal

/-- An event takes place only where its condition holds; elsewhere nothing changes (log entry 4). -/
def when (c : Bool) (s s' : State) : Out := .next (if c then s' else s)

end Sys2Proof.Machine
end

