-- ==== Sys2Proof/Machine/Journal.lean ====
section
/-! DEFINITION. Journal records in their slots, the in-doubt store, and the requests that wait in or run on cipher and deflate units, as every unit that ends or drops one sees them (R280, R284, R289, R300, R311). -/
namespace Sys2Proof.Machine

/-! ### Records in slots (R280) -/

/-- DEPTH (R268). -/
def Subch.depth (x : Subch) : Nat := 2 ^ x.log2

/-- The record of a WSN in its slot, if the slot holds it. -/
def State.jrec (s : State) (sc wsn : Nat) : Option JRec :=
  match (s.sub sc).slots.find (wsn % (s.sub sc).depth) with
  | some r => if r.wsn = wsn ∧ r.state ≠ 0 then some r else none
  | none => none

/-- Change the record of a WSN in its slot. -/
def State.onRec (s : State) (sc wsn : Nat) (f : JRec → JRec) : State :=
  match s.jrec sc wsn with
  | some r => s.onSub sc (fun x => { x with slots := x.slots.put (wsn % x.depth) (f r) })
  | none => s

/-! ### The in-doubt store (R280, R284, R289) -/

/-- Room in the in-doubt store: a record that keeps the memory of its slot takes none (R280, R284). -/
def State.doubtRoom (s : State) : Bool := decide ((s.indoubt.filter (fun r => !r.kept)).length < 1048576)

/-- Copy an IN_DOUBT record from its slot to the store; the slot becomes FREE (R280). -/
def State.storeDoubt (s : State) (sc wsn : Nat) : State :=
  match s.jrec sc wsn with
  | some r =>
    if r.state = 6 ∧ s.doubtRoom then
      { s.onSub sc (fun x => { x with slots := x.slots.del (wsn % x.depth), stalled := false }) with indoubt := s.indoubt ++ [r] }
    else s
  | none => s

/-- An IN_DOUBT record that waits for room enters the store: from its slot, or from the slot memory it kept (R280, R284). -/
def State.enterStore (s : State) (r : JRec) : State :=
  if r.kept then (if s.doubtRoom then { s with indoubt := s.indoubt.map (fun q => if q.kept ∧ q.doubtNo = r.doubtNo then { q with kept := false } else q) } else s)
  else s.storeDoubt r.sc r.wsn

/-- A settled record leaves the store: LAST_DONE of its window has passed its RESOLVE_SEQ (R289). -/
def State.settledGone (s : State) (r : JRec) : Bool :=
  let d := ((s.win r.resolveWin).lastDone + 2 ^ 32 - r.resolveSeq) % 2 ^ 32
  r.state != 6 && decide (1 ≤ d) && decide (d < 2 ^ 31)

/-- Settled records that are done leave the store, and IN_DOUBT records that wait for room take it in the order they entered IN_DOUBT (R280, R284, R289). -/
def State.purgeDoubt (s : State) : State :=
  let s : State := { s with indoubt := s.indoubt.filter (fun r => !s.settledGone r) }
  let slots := s.subchs.flatMap (fun p => (p.2.slots.filter (fun k => k.2.state == 6)).map (fun k => k.2))
  (sortBy (·.doubtNo) (s.indoubt.filter (·.kept) ++ slots)).foldl State.enterStore s

/-! ### Requests at the units (R276, R300, R311, R399) -/

/-- The inline transforms of a waybill: cipher, and compression or expansion. -/
def inlineOf (sc wsn : Nat) (q : Req) : Bool := (q.src == 3 || q.src == 4) && q.sc == sc && q.wsn == wsn

/-- A block of a core's set (BENC, BDEC). -/
def blockOf (core set : Nat) (q : Req) : Bool := q.src == 2 && q.ring == core && q.subidx == set

/-- Requests given to the Block Cipher Units: in the pool, running and waiting. -/
def State.bcuReqs (s : State) : List Req := s.bcuPool ++ s.bcus.filterMap (fun u => u.2.running) ++ s.bcus.filterMap (fun u => u.2.waiting)

/-- Requests given to the Deflate Units: in the pool, running and waiting. -/
def State.dfuReqs (s : State) : List Req := s.dfuPool ++ s.dfus.filterMap (fun u => u.2.running) ++ s.dfus.filterMap (fun u => u.2.waiting)

/-- A request dispatched on a page has ended: the page's count goes down (R300). -/
def State.endOnPage (s : State) (q : Req) : State := if q.stamp = 0 then s else s.onPage q.page (fun p => { p with inflight := p.inflight - 1 })

/-- A unit without the requests that a test selects. -/
def Unit.drop (sel : Req → Bool) (u : Unit) : Unit := { u with running := u.running.filter (fun q => !sel q), waiting := u.waiting.filter (fun q => !sel q) }

/-- Remove the cipher requests that a test selects; one that was dispatched leaves its page's count, wherever it is now (R300, R312). -/
def State.dropReqs (s : State) (sel : Req → Bool) : State :=
  let s := (s.bcuReqs.filter sel).foldl State.endOnPage s
  { s with bcuPool := s.bcuPool.filter (fun q => !sel q), bcus := s.bcus.map (fun u => (u.1, u.2.drop sel)) }

/-- Remove the deflate requests that a test selects. -/
def State.dropDfu (s : State) (sel : Req → Bool) : State :=
  { s with dfuPool := s.dfuPool.filter (fun q => !sel q), dfus := s.dfus.map (fun u => (u.1, u.2.drop sel)) }

/-- Remove the inline transforms of a waybill. -/
def State.dropInline (s : State) (sc wsn : Nat) : State := (s.dropReqs (inlineOf sc wsn)).dropDfu (inlineOf sc wsn)

/-- The BENC or BDEC that a set waits for is discarded (R231, R306). -/
def State.dropBlock (s : State) (core set : Nat) : State := s.dropReqs (blockOf core set)

end Sys2Proof.Machine
end

