-- ==== Sys2Proof/Machine/Arb.lean ====
section
/-! DEFINITION. Arbitration points at request paths: the classes with their Freight floor, and weighted deficit round robin among instances (R45, R46). -/
namespace Sys2Proof.Machine

/-- The instance served next among those that wait in a class: the one served last while it has deficit, else the next in ascending number with wrap-around (R46). -/
def Arb.instOf (a : Arb) (c : Nat) (is : List Nat) : Option Nat :=
  let last := a.last.getD c 511
  if is.contains last && decide (0 < a.deficit.getD (c * 512 + last) 0) then some last
  else match minBy id (is.filter (fun i => decide (last < i))) with
    | some i => some i
    | none => minBy id is

/-- The class and instance granted among waiting (class, instance) pairs, and whether the Freight floor chose them (R45). -/
def Arb.pick (a : Arb) (ws : List (Nat × Nat)) : Option (Nat × Nat × Bool) :=
  let of := fun (c : Nat) (fl : Bool) => (a.instOf c ((ws.filter (fun p => p.1 == c)).map (·.2))).map (fun i => (c, i, fl))
  match (if 50 ≤ a.credit then of 2 true else none) with
  | some x => some x
  | none =>
    match of 0 false with
    | some x => some x
    | none => match of 1 false with
      | some x => some x
      | none => of 2 false

/-- The point after a grant of one request to an instance of a weight: its deficit, the round and the Freight credit (R45, R46). -/
def Arb.serve (a : Arb) (weight : Nat) (ws : List (Nat × Nat)) (c i : Nat) (floor : Bool) : Arb :=
  let key := c * 512 + i
  let d0 := a.deficit.getD key 0
  let d := if a.last.getD c 511 = i ∧ 0 < d0 then d0 else d0 + weight * (Config.baseQuantum + 1)
  let more := decide (1 < (ws.filter (· == (c, i))).length)
  let freight := (ws.filter (fun p => p.1 == 2)).length
  let left := if c = 2 then freight - 1 else freight
  { credit := if left = 0 then 0 else (a.credit + 1) - (if floor then 50 else 0)
    deficit := a.deficit.put key (if more then d - 1 else 0)
    last := a.last.put c i }

end Sys2Proof.Machine
end

