-- ==== Sys2Proof/Machine/Cache.lean ====
section
/-! DEFINITION. Caches, Depot and memory regions: indexes, frames, coherence, eviction buffers, ports (R235 to R255). -/
namespace Sys2Proof.Machine

/-- First address of device space (R52). -/
def devBase : Nat := 0x01FC000000000000

/-- Bytes in a GiB. -/
def gibB : Nat := 1073741824

/-! ### Regions and ports -/

/-- Data bytes of a region: the lower seven-eighths (R252). -/
def Region.dataBytes (r : Region) : Nat := r.gib * gibB / 8 * 7

/-- The configured region that holds a real address (R251). -/
def State.regionOf (s : State) (ra : Nat) : Option Region :=
  s.ms.regions.find? (fun r => r.ok && r.real ≤ ra && ra < r.real + r.dataBytes)

/-- The real address lies in a mirrored region. -/
def State.mirrored (s : State) (ra : Nat) : Bool :=
  match s.regionOf ra with
  | some r => r.portB.isSome
  | none => false

/-- The data of the region can be read: its port was never lost, or one copy of a mirrored region is in step (R255). -/
def State.regionServed (s : State) (r : Region) : Bool :=
  match r.portB with
  | none => !(s.port r.portA).lost
  | some p => !(s.port r.portA).outOfStep || !(s.port p).outOfStep

/-- A port has answered an access: its run of timeouts ends, and the accesses queued before it are answered too (R255). -/
def State.portAnswered (s : State) (p : Nat) : State :=
  if (s.port p).timeouts = 0 ∧ (s.port p).queue = [] then s else s.onPort p (fun x => { x with timeouts := 0, queue := [] })

/-- The port that serves a read: the copy in step, or the one with the shorter queue; between equal queues the choice is free (R253, R255). -/
def State.readPort (s : State) (r : Region) : Nat :=
  match r.portB with
  | none => r.portA
  | some b =>
    let x := s.port r.portA
    let y := s.port b
    if y.outOfStep then r.portA else if x.outOfStep then b
    else if x.queue.length < y.queue.length then r.portA else if y.queue.length < x.queue.length then b
    else if s.freeBool then r.portA else b

/-- A read of a line has been answered (R253, R255). -/
def State.answered (s : State) (la : Nat) : State :=
  match s.regionOf (la * 256) with
  | none => s
  | some r =>
    match r.portB with
    | none => s.portAnswered r.portA
    | some b =>
      if (s.port r.portA).queue = [] ∧ (s.port b).queue = [] ∧ (s.port r.portA).timeouts = 0 ∧ (s.port b).timeouts = 0 then s
      else s.drawn.portAnswered (s.readPort r)

/-! ### The tag shadow (R252) -/

/-- Offset in a port's capacity of the tag bytes of a data byte of a region whose capacity starts at `off`: one tag byte for each data word, in address order (R252). -/
def Region.tagAt (r : Region) (off ra : Nat) : Nat := off + r.dataBytes + (ra - r.real) / 8

/-- Offset of the metadata of a line: 4 bytes for each data line, behind the tag bytes (R252). -/
def Region.metaAt (r : Region) (off ra : Nat) : Nat := off + r.dataBytes + r.gib * gibB / 64 * 7 + (ra - r.real) / 256 * 4

/-- The 4 bytes of metadata of a line: UNWRITTEN, and the ECC of the tag bytes that memory holds, whose code the manual does not give (R252, R327). -/
def State.lineMeta (s : State) (la : Nat) : Nat :=
  b2n (s.ms.mem.isUnwritten la) + 2 * (Config.tagEcc ((List.range 32).map (fun k => s.ms.mem.tag (la * 32 + k))) % 2 ^ 31)

/-- I/O die of a CXL port (Table 01-1). -/
def portDie (p : Nat) : Nat := p / 6

/-- Put a shadow line into an I/O die's 4 MiB, 16,384 lines of 256 bytes; which line leaves a full cache is free (R252, log entry 180). -/
def State.keepShadow (s : State) (p off : Nat) : State :=
  let x := (portDie p, p, off / 256)
  if s.ms.shadow.contains x then s
  else
    let mine := s.ms.shadow.filter (fun y => y.1 == portDie p)
    if mine.length < 16384 then s.onMs (fun m => { m with shadow := x :: m.shadow })
    else
      let v := mine.getD (s.freeNat % mine.length) x
      s.drawn.onMs (fun m => { m with shadow := x :: m.shadow.filter (· != v) })

/-- A line access moves the line's tag bytes with it: the memory controllers that take part hold their shadow lines (R252). -/
def State.touchShadow (s : State) (la : Nat) : State :=
  match s.regionOf (la * 256) with
  | none => s
  | some r =>
    let one := fun (s : State) (p off : Nat) => (s.keepShadow p (r.tagAt off (la * 256))).keepShadow p (r.metaAt off (la * 256))
    match r.portB with
    | none => one s r.portA r.offA
    | some b => one (one s r.portA r.offA) b r.offB

/-! ### Lines in memory, those of enclaves encrypted (R254, R255, R327) -/

/-- The memory key of the enclave that a line belongs to, where it has one (R324, R327). -/
def State.lineKey (s : State) (la : Nat) : List Byte :=
  match s.emap.find (la / 256) with
  | some m => (s.encl m.inst m.encl).key
  | none => []

/-- The XTS data units of a line: 256 data bytes under its address, 32 tag bytes under its address plus 2^63 (R327). -/
def cryptLine (enc : Bool) (key : List Byte) (la : Nat) (l : Line) : Line :=
  if key = [] then l
  else
    let d := xtsUnit enc key la (l.toList.flatMap (fun w => (List.range 8).map (datumByte w.datum)))
    let t := xtsUnit enc key (la + 2 ^ 63) (l.toList.map (fun w => w.tag))
    Vector.ofFn (fun k : Fin 32 => ⟨BitVec.ofNat 64 (beNat (bytesAt d (8 * k.val) 8)), t.getD k.val 0#8⟩)

/-- A line as memory returns it: POISON with CAUSE 0x03 where its port is lost, POISON with CAUSE 0x00 where it is UNWRITTEN, and what memory holds elsewhere, deciphered for an enclave (R254, R255, R327). -/
def State.memLine (s : State) (la : Nat) : Line :=
  let ok := match s.regionOf (la * 256) with
    | some r => s.regionServed r
    | none => true
  if !ok then Vector.ofFn (fun k : Fin 32 => poisonWord 3 (la * 32 + k.val))
  else if s.ms.mem.isUnwritten la then Vector.ofFn (fun k : Fin 32 => unwritten (la * 32 + k.val))
  else cryptLine false (s.lineKey la) la (Vector.ofFn (fun k : Fin 32 => s.ms.mem.word (la * 32 + k.val)))

/-- Write the words of a line from word k on. -/
def Memory.setLine (m : Memory) (la : Nat) : Nat → List TWord → Memory
  | _, [] => m
  | k, w :: ws => Memory.setLine (m.setWord (la * 32 + k) w) la (k + 1) ws

/-- Memory takes a line, enciphered for an enclave (R327). -/
def State.storeLine (s : State) (la : Nat) (l : Line) : State :=
  s.onMs (fun m => { m with mem := m.mem.setLine la 0 (cryptLine true (s.lineKey la) la l).toList })

/-- The ports of a region that are in step answer a write (R253, R255). -/
def State.writeAnswered (s : State) (r : Region) : State :=
  match r.portB with
  | none => s.portAnswered r.portA
  | some b =>
    let s := if (s.port r.portA).outOfStep then s else s.portAnswered r.portA
    if (s.port b).outOfStep then s else s.portAnswered b

/-- Write a line to memory, to both copies of a mirrored one; a write to a lost non-mirrored port is dropped and counted (R253, R255). -/
def State.memWrite (s : State) (la : Nat) (l : Line) : State :=
  match s.regionOf (la * 256) with
  | none => s
  | some r =>
    if s.regionServed r then ((s.storeLine la l).touchShadow la).writeAnswered r
    else s.onPort r.portA (fun p => { p with drops := p.drops + 1 })

/-! ### Indexes (R236) and ways -/

/-- Levels: 0 L1I, 1 L1D, 2 L2, 3 L3, 4 Depot. Key of a unit of a level. -/
def wkey (lvl unit : Nat) : Nat := lvl * 256 + unit

/-- Ways of a level (Table 08-1). -/
def wayCount (lvl : Nat) : Nat := if lvl = 0 then 4 else if lvl = 1 then 8 else if lvl = 2 then 16 else if lvl = 3 then 32 else 16

/-- Minimum working ways (Table 08-4). -/
def wayMin (lvl : Nat) : Nat := if lvl = 0 then 2 else if lvl = 1 then 4 else if lvl = 2 then 8 else if lvl = 3 then 16 else 8

/-- The ways of a unit. -/
def State.ways (s : State) (lvl unit : Nat) : Ways := s.ms.ways.getD (wkey lvl unit) {}

/-- Change the ways of a unit. -/
def State.onWays (s : State) (lvl unit : Nat) (f : Ways → Ways) : State :=
  s.onMs (fun m => { m with ways := m.ways.upd (wkey lvl unit) {} f })

/-- Sets of a unit (Table 08-1). -/
def setCount (lvl unit : Nat) : Nat :=
  if lvl = 0 then 64 else if lvl = 1 then 32 else if lvl = 2 then 1024
  else if lvl = 3 then (if unit % 20 < 12 then 410 else 409) else 393216

/-- The die set of L3 (R236). -/
def l3Set (la : Nat) : Nat := Nat.xor (Nat.xor (bits la 12 0) (bits la 25 13)) (Nat.xor (bits la 38 26) (bits la 48 39))

/-- The Depot channel (R236). -/
def depotChan (la : Nat) : Nat :=
  Nat.xor (Nat.xor (Nat.xor (bits la 5 0) (bits la 11 6)) (Nat.xor (bits la 17 12) (bits la 23 18)))
    (Nat.xor (Nat.xor (bits la 29 24) (bits la 35 30)) (Nat.xor (Nat.xor (bits la 41 36) (bits la 47 42)) (bits la 48 48)))

/-- The unit in service at or after n among count units, ascending with wrap-around (R242). -/
def foldUnit (inService : Nat → Bool) (count : Nat) : Nat → Nat → Nat
  | 0, n => n
  | k + 1, n => if inService n then n else foldUnit inService count k ((n + 1) % count)

/-- The unit and set that hold a line at a level: the core for L1 and L2, a slice of the die, or a channel (R236, R242). -/
def State.place (s : State) (lvl phys la : Nat) : Nat × Nat :=
  if lvl = 0 then (phys, la % 64)
  else if lvl = 1 then (phys, la % 32)
  else if lvl = 2 then (phys, la % 1024)
  else if lvl = 3 then
    let d := phys / 20
    let n := foldUnit (fun k => !(s.ways 3 (d * 20 + k)).removed) 20 20 (l3Set la % 20)
    (d * 20 + n, l3Set la / 20 % setCount 3 (d * 20 + n))
  else
    let n := foldUnit (fun k => !(s.ways 4 k).removed) 64 64 (depotChan la)
    (n, la / 64 % 393216)

/-- Key of a frame. -/
def fkey (lvl unit set way : Nat) : Nat := (wkey lvl unit * 2 ^ 20 + set) * 256 + way

/-- The frames of a set, with their ways. -/
def State.setFrames (s : State) (lvl unit set : Nat) : Tab Frame :=
  (s.ms.frames.between (fkey lvl unit set 0) (fkey lvl unit set 256)).map (fun p => (p.1 % 256, p.2))

/-- The logical core that a physical core holds. -/
def State.lcoreOf (s : State) (phys : Nat) : Option Nat :=
  (s.cores.find? (fun p => p.2.phys == phys && !p.2.retired)).map (·.1)

/-- The level is in use for a unit (R247, R248). -/
def State.levelOn (s : State) (lvl unit : Nat) : Bool :=
  if lvl = 0 then (s.pcore unit).l1i
  else if lvl = 1 then (s.pcore unit).l1d
  else if lvl = 2 then (s.pcore unit).l2
  else !(s.ways lvl (if lvl = 3 then unit / 20 * 20 else 0)).disabled

/-- The way and frame that hold a line in a level, if it is held. -/
def State.hit (s : State) (lvl phys la : Nat) : Option (Nat × Frame) :=
  if s.levelOn lvl phys then
    let p := s.place lvl phys la
    (s.setFrames lvl p.1 p.2).find? (fun f => f.2.la == la)
  else none

/-- Remove the frame at a place. -/
def State.dropFrame (s : State) (lvl unit set way : Nat) : State :=
  s.onMs (fun m => { m with frames := m.frames.del (fkey lvl unit set way) })

/-- Invalidate a line in a level of a unit. -/
def State.invalidate (s : State) (lvl phys la : Nat) : State :=
  let p := s.place lvl phys la
  match (s.setFrames lvl p.1 p.2).find? (fun f => f.2.la == la) with
  | some (w, _) => s.dropFrame lvl p.1 p.2 w
  | none => s

/-- A core of a die has ENCL_WAYS = 1 (R343). -/
def State.dieEncl (s : State) (d : Nat) : Bool := s.pcores.any (fun p => p.2.enclWays && p.1 / 20 == d)

/-- Ways of a level that a fill may take (R240, R343). -/
def State.fillWays (s : State) (lvl unit : Nat) (encl : Bool) : List Nat :=
  let working := (List.range (wayCount lvl)).filter (fun w => !bit (s.ways lvl unit).off w)
  let reserve :=
    if lvl = 2 then (if (s.pcore unit).enclWays then 2 else 0)
    else if lvl = 3 then (if s.dieEncl (unit / 20) then 4 else 0)
    else 0
  let k := working.length - reserve
  if reserve = 0 then working else if encl then working.drop k else working.take k

/-- The granule of the line belongs to an enclave (R324). -/
def State.enclLine (s : State) (la : Nat) : Bool := (s.emap.find (la / 256)).isSome

/-- Put a line into a frame of a level. The victim among full ways is a free choice. -/
def State.install (s : State) (lvl phys la st : Nat) (l : Line) : State × Option Frame :=
  let p := s.place lvl phys la
  let fs := s.setFrames lvl p.1 p.2
  let fr : Frame := { la := la, st := st, line := l, age := s.ms.age }
  let set := fun (s : State) (w : Nat) =>
    s.onMs (fun m => { m with frames := m.frames.put (fkey lvl p.1 p.2 w) fr, age := m.age + 1 })
  match fs.find? (fun f => f.2.la == la) with
  | some (w, _) => (set s w, none)
  | none =>
    let ws := s.fillWays lvl p.1 (s.enclLine la)
    match ws.find? (fun w => (fs.find? (fun f => f.1 == w)).isNone) with
    | some w => (set s w, none)
    | none =>
      if ws = [] then (s, some fr)
      else
        let w := ws.getD (s.freeNat % ws.length) 0
        (set s.drawn w, (fs.find? (fun f => f.1 == w)).map (·.2))

/-- The memory system serves a request of a class (R41, R44). -/
def State.inClass (s : State) (c : Nat) : State := if s.ms.cls = c then s else s.onMs (fun m => { m with cls := c })

/-- Hold an evicted dirty line until the next level acknowledges it; its writeback has the class of the request in service (R44, R249). -/
def State.buffer (s : State) (la dest unit : Nat) (l : Line) : State :=
  s.onMs (fun m => { m with evict := m.evict ++ [{ la := la, dest := dest, unit := unit, line := l, cls := m.cls }] })

/-- Writebacks of a line towards memory, oldest first. -/
def State.memEvicts (s : State) (la : Nat) : List Evict := s.ms.evict.filter (fun e => e.la == la && e.dest == 5)

/-- The pending writebacks of a line towards memory complete, in order: newer data come after them (R249). -/
def State.settleMem (s : State) (la : Nat) : State :=
  (s.memEvicts la).foldl (fun s e => s.memWrite la e.line) (s.onMs (fun m => { m with evict := m.evict.filter (fun e => !(e.la == la && e.dest == 5)) }))

/-- Data reach the Depot, or memory where it is not in use; mirrored lines are written through (R235, R253). -/
def State.toDepot (s : State) (la : Nat) (l : Line) (dirty : Bool) : State :=
  let mir := s.mirrored (la * 256)
  let s := if dirty && mir then s.memWrite la l else s
  if s.levelOn 4 0 then
    match s.install 4 0 la (if dirty && !mir then 3 else 2) l with
    | (s, some v) => if v.st = 3 then s.buffer v.la 5 0 v.line else s
    | (s, none) => s
  else if dirty && !mir then (s.settleMem la).memWrite la l else s

/-- Data reach the L3 of a die, or the Depot where that L3 is not in use (R235). -/
def State.toL3 (s : State) (phys la st : Nat) (l : Line) : State :=
  if s.levelOn 3 phys then
    match s.install 3 phys la st l with
    | (s, some v) => if v.st = 3 then s.buffer v.la 4 phys v.line else s
    | (s, none) => s
  else if st = 3 then s.toDepot la l true else s

/-- Data reach a core's L2, or its die's L3 where that L2 is not in use; L1 keeps only lines of L2 (R235). -/
def State.toL2 (s : State) (phys la st : Nat) (l : Line) : State :=
  if s.levelOn 2 phys then
    match s.install 2 phys la st l with
    | (s, some v) =>
      let s := (s.invalidate 0 phys v.la).invalidate 1 phys v.la
      if v.st = 3 then s.buffer v.la 3 phys v.line else s.toL3 phys v.la v.st v.line
    | (s, none) => s
  else s.toL3 phys la st l

/-- The frames of L2 and L3 that hold a line, with level and unit (R237). -/
def State.holders (s : State) (la : Nat) : List (Nat × Nat × Frame) :=
  ((s.ms.frames.between (fkey 2 0 0 0) (fkey 4 0 0 0)).filter (fun p => p.2.la == la)).map
    (fun p => (p.1 / 2 ^ 36, p.1 / 2 ^ 28 % 256, p.2))

/-- The newest evicted copy of a line that waits for levels lo to hi: 3 L3, 4 Depot, 5 memory (R249). -/
def State.held (s : State) (la lo hi : Nat) : Option Evict :=
  s.ms.evict.reverse.find? (fun e => e.la == la && decide (lo ≤ e.dest) && decide (e.dest ≤ hi))

/-- A writeback arrives at its level: where caches hold the line again, newer than this, its data go below them to the Depot (R249). -/
def State.land (s : State) (e : Evict) : State :=
  if e.dest = 5 then s.memWrite e.la e.line
  else if e.dest = 4 then s.toDepot e.la e.line true
  else if s.holders e.la = [] then s.toL3 e.unit e.la 3 e.line else s.toDepot e.la e.line true

/-- Acknowledge the oldest writeback of a line: it leaves its buffer, and the next level has it (R249). -/
def State.ackEvict (s : State) (la : Nat) : State :=
  match s.ms.evict.find? (fun e => e.la == la) with
  | none => s
  | some e => (s.onMs (fun m => { m with evict := m.evict.eraseP (fun e => e.la == la) })).land e

/-- Pending writebacks of a line out of L2s and L3s complete before newer data of it go down (R249). -/
def State.settleLine (s : State) (la : Nat) : State :=
  (s.ms.evict.filter (fun e => e.la == la && decide (e.dest ≤ 4))).foldl (fun s e => s.land e)
    (s.onMs (fun m => { m with evict := m.evict.filter (fun e => !(e.la == la && decide (e.dest ≤ 4))) }))

/-- Where a line is served from: 1 L1D, 2 L2, 3 L3 of the die, 4 another die or core, 5 Depot, 6 memory, 7 memory through a switch (Table 08-3); and the line. -/
def State.source (s : State) (phys la : Nat) : Nat × Line :=
  match s.hit 2 phys la with
  | some (_, f) => (if (s.hit 1 phys la).isSome then 1 else 2, f.line)
  | none =>
    match (s.holders la).find? (fun h => h.2.2.st == 3) with
    | some h => (if h.1 = 3 ∧ h.2.1 / 20 = phys / 20 then 3 else 4, h.2.2.line)
    | none =>
      match s.held la 3 4 with
      | some e => (3, e.line)
      | none =>
        match s.hit 3 phys la with
        | some (_, f) => (3, f.line)
        | none =>
          match (s.holders la).head? with
          | some h => (4, h.2.2.line)
          | none =>
            match s.hit 4 0 la with
            | some (_, f) => (5, f.line)
            | none =>
              match s.held la 5 5 with
              | some e => (5, e.line)
              | none =>
              let sw := match s.regionOf (la * 256) with
                | some r => (match (s.port r.portA).dev with | some d => d.switched | none => false)
                | none => false
              (if sw then 7 else 6, s.memLine la)

/-- The newest copy of a line. -/
def State.lineNow (s : State) (la : Nat) : Line := (s.source 255 la).2

/-- Predicted latency in CCLK cycles (Table 08-3). -/
def srcCycles (src : Nat) : Nat :=
  if src = 1 then 4 else if src = 2 then 14 else if src = 3 then 44 else if src = 4 then 180 else if src = 5 then 330 else if src = 6 then 840 else 1260

/-- Every other L2 and L3 copy is invalidated, with the L1 copies under it (R237). -/
def State.invalOthers (s : State) (la : Nat) : List (Nat × Nat × Frame) → State
  | [] => s
  | (lvl, unit, _) :: t =>
    let s := s.invalidate lvl unit la
    let s := if lvl = 2 then (s.invalidate 0 unit la).invalidate 1 unit la else s
    State.invalOthers s la t

/-- Every copy becomes shared; a dirty one is written below, after older writebacks of the line (R237, R249). -/
def State.shareAll (s : State) (la : Nat) : List (Nat × Nat × Frame) → State
  | [] => s
  | (lvl, unit, f) :: t =>
    let s := if f.st = 3 then (s.settleLine la).toDepot la f.line true else s
    let s := (s.install lvl unit la 1 f.line).1
    State.shareAll s la t

/-- A request that reaches a line in an eviction buffer: the line is in its frame again, dirty as it was, and its writeback goes on (R249). -/
def State.reinstall (s : State) (la : Nat) : State :=
  if (s.holders la).any (fun h => h.2.2.st == 3) then s
  else match s.held la 3 4 with
    | some e => if e.dest = 3 then s.toL2 e.unit la 3 e.line else s.toL3 e.unit la 3 e.line
    | none =>
      match s.held la 5 5 with
      | some e => if (s.holders la).isEmpty && (s.hit 4 0 la).isNone then s.toDepot la e.line true else s
      | none => s

/-- The line arrives at a core for a load or a fetch and is installed in L2 and in L1D (1) or L1I (0) (R238, R235). -/
def State.fillFor (s : State) (l1 phys la : Nat) : State :=
  let s := s.reinstall la
  let src := s.source phys la
  if src.1 ≤ 2 then
    if s.levelOn l1 phys then (s.install l1 phys la 1 src.2).1 else s
  else
    let hs := s.holders la
    let s := s.shareAll la hs
    let s := if src.1 ≥ 6 then ((s.answered la).touchShadow la).toDepot la src.2 false else s
    let s := if hs ≠ [] then s.toL3 phys la 1 src.2 else s
    let s := s.toL2 phys la (if hs = [] then 2 else 1) src.2
    if s.levelOn l1 phys && s.levelOn 2 phys then (s.install l1 phys la 1 src.2).1 else s

/-- Dirty lines of mirrored regions in L2s and L3s (R415). -/
def State.dirtyMirrored (s : State) : List (Nat × Nat × Frame) :=
  ((s.ms.frames.between (fkey 2 0 0 0) (fkey 4 0 0 0)).filter (fun p => p.2.st == 3 && s.mirrored (p.2.la * 256))).map
    (fun p => (p.1 / 2 ^ 36, p.1 / 2 ^ 28 % 256, p.2))

/-- The bound of 6 MiB: the oldest dirty mirrored line is cleaned first (R415). -/
def State.boundDirty (s : State) (la : Nat) : State :=
  let d := s.dirtyMirrored
  if s.mirrored (la * 256) && decide (24576 ≤ d.length) && !(d.any (fun h => h.2.2.la == la)) then
    match minBy (fun h => h.2.2.age) d with
    | some (lvl, unit, f) => ((s.settleLine f.la).toDepot f.la f.line true).install lvl unit f.la 2 f.line |>.1
    | none => s
  else s

/-- A reservation on a granule is lost, but for the one of a set (R166). -/
def State.killResv (s : State) (la : Nat) (keep : Option Nat) : State :=
  { s with ctxs := s.ctxs.map (fun p => if p.2.resv = some la ∧ some p.1 ≠ keep then (p.1, { p.2 with resv := none }) else p) }

/-- A line is read from memory for a writer (R253, R255). -/
def State.readFor (s : State) (src la : Nat) : State := if src ≥ 6 then (s.answered la).touchShadow la else s

/-- A write of a line ends its transfer to every core: what has not arrived is asked for again (R237, R238). -/
def State.dropFills (s : State) (la : Nat) : State :=
  if s.cores.any (fun p => p.2.fills.any (fun x => x.la == la)) then { s with cores := s.cores.map (fun p => (p.1, { p.2 with fills := p.2.fills.filter (fun x => x.la != la) })) } else s

/-- A line changed in its core's L2 with ownership (R237, R264). -/
def State.ownWrite (s : State) (phys la : Nat) (f : Line → Line) : State :=
  let s := (s.boundDirty la).reinstall la
  let l := s.source phys la
  let s := ((s.readFor l.1 la).invalOthers la (s.holders la)).dropFills la
  s.toL2 phys la 3 (f l.2)

/-- A word of a line. -/
def lineWord (l : Line) (k : Nat) : TWord := l.toList.getD k {}

/-- Set a word of a line. -/
def setLineWord (l : Line) (k : Nat) (w : TWord) : Line := l.setIfInBounds k w

/-- The newest value of a word by its number. -/
def State.wordNow (s : State) (wi : Nat) : TWord := lineWord (s.lineNow (wi / 32)) (wi % 32)

/-! ### The write buffer (R122, R264, R372) -/

/-- The task set at the root of a chain of trap sets. -/
def State.rootGo (s : State) (core : Nat) : Nat → Nat → Nat
  | 0, k => k
  | n + 1, k => if k < 64 then k else State.rootGo s core n (s.ctx core k).serves

/-- The task set whose F bank a set uses: its own, or in a trap set the trapped task's (R234). -/
def State.bankSet (s : State) (core set : Nat) : Nat := s.rootGo core 4 set

/-- The F bank a set uses, if one is attached (R232, R234). -/
def State.bankOf (s : State) (core set : Nat) : Option Bank := (s.core core).banks.find? (fun b => b.owner == s.bankSet core set)

/-- Close the words of a set's open group. -/
def closeWords (set : Nat) (wb : List WbEnt) : List WbEnt :=
  wb.map (fun e => if e.set == set then { e with words := e.words.map (fun w => { w with isOpen := false }) } else e)

/-- A retirement group ends: the Cairn is written, and the group's stores may be performed (R371, R372). -/
def State.endGroup (s : State) (core set : Nat) : State :=
  let f := (s.bankOf core set).map (·.f)
  let s := s.onCtx core set (fun c => { c with cairn := c.regs, cairnF := f, cairnBad := false, group := 0, resvOpen := false })
  s.onCore core (fun c => { c with wb := closeWords set c.wb })

/-- The entry holds a store of an open group. -/
def WbEnt.isOpen (e : WbEnt) : Bool := e.words.any (·.isOpen)

/-- The bytes of a mask (bit 7 for byte 0) of one datum over another. -/
def maskMerge (old new : Word) (mask : Nat) : Word :=
  BitVec.ofNat 64 (beNat ((List.range 8).map (fun k => if bit mask (7 - k) then datumByte new k else datumByte old k)))

/-- A buffered store over a word: bytes outside the mask and, where it names none, the tag are kept (R165). -/
def WbWord.onto (x : WbWord) (w : TWord) : TWord := ⟨maskMerge w.datum x.datum x.mask, x.tag.getD w.tag⟩

/-- A word could be fetched as instructions (R128, R130). -/
def fetchable (w : TWord) : Bool := w.type == 6 || w.type == 0

/-- One store of an entry over a line. -/
def WbEnt.apply (e : WbEnt) (l : Line) : Line := e.words.foldl (fun l x => setLineWord l x.idx (x.onto (lineWord l x.idx))) l

/-- A cacheable entry is performed: its core's L2 owns and changes the line, and other tasks' reservations on it are lost (R166, R264). -/
def State.performEnt (s : State) (core : Nat) (e : WbEnt) : State :=
  let old := s.lineNow e.addr
  let new := e.apply old
  let seen := (e.words.filter (fun x => fetchable (lineWord old x.idx) || fetchable (lineWord new x.idx))).map (fun x => (e.addr * 32 + x.idx, lineWord old x.idx, e.tid))
  let s := ((s.inClass e.cls).ownWrite (s.core core).phys e.addr e.apply).killResv e.addr (if (s.ctx core e.set).tid = e.tid then some (core * 128 + e.set) else none)
  s.onMs (fun m => { m with stale := seen ++ m.stale })

/-- Perform a core's cacheable entries in commit order up to the last one of a line; groups they belong to end first. -/
def State.drainGo (core la : Nat) : Nat → State → State
  | 0, s => s
  | n + 1, s =>
    let wb := (s.core core).wb
    if wb.any (fun e => e.dev.isNone && e.addr == la) then
      match wb.find? (fun e => e.dev.isNone) with
      | none => s
      | some e =>
        let s := if e.isOpen then s.endGroup core e.set else s
        let s := s.onCore core (fun c => { c with wb := c.wb.eraseP (fun e => e.dev.isNone) })
        State.drainGo core la n (s.performEnt core e)
    else s

/-- Every committed store to a line is performed before another agent changes it: the core withholds the line till then (R122). -/
def State.releaseLine (s : State) (la : Nat) : State :=
  s.cores.foldl (fun s p => State.drainGo p.1 la p.2.wb.length s) s

/-- A line changed by an agent outside the cores: copies in L2 and L3 are invalidated and the data go to the Depot (R237, R260). -/
def State.agentWrite (s : State) (la : Nat) (f : Line → Line) : State :=
  let s := (s.releaseLine la).settleLine la
  let l := s.source 255 la
  let s := ((s.readFor l.1 la).invalOthers la (s.holders la)).dropFills la
  (s.killResv la none).toDepot la (f l.2) true

/-- Write a word from outside the cores. -/
def State.putWord (s : State) (wi : Nat) (w : TWord) : State := s.agentWrite (wi / 32) (fun l => setLineWord l (wi % 32) w)

/-- The Depot's copy of a line, or the newest one its controller holds, reaches memory (R244, R249). -/
def State.cleanDepot (s : State) (la : Nat) : State :=
  let s := s.settleMem la
  match s.hit 4 0 la with
  | some (_, f) => if f.st = 3 then (s.memWrite la f.line).install 4 0 la 2 f.line |>.1 else s
  | none => s

/-- Clean the dirty copies of a line above a level to the level below it. `lvl` 2, 3 or 4 (R244). -/
def State.cleanLine (s : State) (lvl la : Nat) : State :=
  let s := s.settleLine la
  let dirty := (s.holders la).filter (fun h => h.2.2.st == 3 && h.1 ≤ lvl)
  let s := match dirty.head? with
    | some (l, u, f) =>
      let s := if l = 2 ∧ lvl = 2 then s.toL3 u la 3 f.line else s.toDepot la f.line true
      (s.install l u la (if l = 2 ∧ lvl = 2 then 1 else 2) f.line).1
    | none => s
  if lvl = 4 then s.cleanDepot la else s

/-- Invalidate a line at every level up to one. Levels 0 and 1 reach only their own kind (R244). -/
def State.invLine (s : State) (lvl la : Nat) : State :=
  if lvl ≤ 1 then
    s.onMs (fun m => { m with frames := m.frames.filter (fun p => !(p.2.la == la && p.1 / 2 ^ 36 == lvl)) })
  else
    (s.dropFills la).onMs (fun m => { m with
      frames := m.frames.filter (fun p => !(p.2.la == la && p.1 / 2 ^ 36 ≤ lvl))
      evict := m.evict.filter (fun e => !(e.la == la && decide (e.dest ≤ lvl + 1))) })

/-- The data of a dirty frame reach the level below, after older writebacks of the line (R244, R249). -/
def State.writeDown (s : State) (lvl unit : Nat) (f : Frame) : State :=
  if lvl = 4 then (s.settleMem f.la).memWrite f.la f.line
  else if lvl = 3 then (s.settleLine f.la).toDepot f.la f.line true
  else (s.settleLine f.la).toL3 unit f.la 3 f.line

/-- Clean every dirty frame that a test selects, then remove the frames selected (R240, R242, R248). -/
def State.flushFrames (s : State) (lvl : Nat) : Tab Frame → State
  | [] => s
  | (k, f) :: t =>
    let s := if f.st = 3 then s.writeDown lvl (k / 2 ^ 28 % 256) f else s
    let s := s.onMs (fun m => { m with frames := m.frames.del k })
    State.flushFrames (if lvl = 2 then (s.invalidate 0 (k / 2 ^ 28 % 256) f.la).invalidate 1 (k / 2 ^ 28 % 256) f.la else s) lvl t

/-- Clean and invalidate the frames of units of a level (R248, R378). -/
def State.flushUnits (s : State) (lvl lo hi : Nat) : State := s.flushFrames lvl (s.ms.frames.between (fkey lvl lo 0 0) (fkey lvl hi 0 0))

/-- Clean and invalidate one way of a unit (R240). -/
def State.flushWay (s : State) (lvl unit way : Nat) : State :=
  s.flushFrames lvl ((s.ms.frames.between (fkey lvl unit 0 0) (fkey lvl (unit + 1) 0 0)).filter (fun p => p.1 % 256 == way))

/-- The highest-numbered working ways of a unit. -/
def State.topWays (s : State) (lvl unit n : Nat) : List Nat :=
  let ws := (List.range (wayCount lvl)).filter (fun w => !bit (s.ways lvl unit).off w)
  ws.drop (ws.length - n)

/-- The ways that a physical core reserves for enclaves are cleaned and invalidated: those of its L2, and those of its die's L3 where it is the first of the die (R343). -/
def State.reserveWays (s : State) (p : Nat) : State :=
  let first := !s.dieEncl (p / 20)
  let s := (s.topWays 2 p 2).foldl (fun s w => s.flushWay 2 p w) s
  if first then (List.range 20).foldl (fun s k => (s.topWays 3 (p / 20 * 20 + k) 4).foldl (fun s w => s.flushWay 3 (p / 20 * 20 + k) w) s) s else s

/-- ENCL_WAYS of a physical core becomes 1: the reserved ways are cleaned and invalidated (R343). -/
def State.enclOn (s : State) (p : Nat) : State := (s.reserveWays p).onPCore p (fun k => { k with enclWays := true })

/-- Remove every frame of units of a level without writing (L1, lost channel). -/
def State.dropUnits (s : State) (lvl lo hi : Nat) : State :=
  s.onMs (fun m => { m with frames := m.frames.filter (fun p => !(fkey lvl lo 0 0 ≤ p.1 && p.1 < fkey lvl hi 0 0)) })

/-! ### The snoop filter (R237) -/

/-- Lines that the directory has an entry for: those held in an L2 or an L3 (R237). -/
def State.directory (s : State) : List Nat := ((s.ms.frames.between (fkey 2 0 0 0) (fkey 4 0 0 0)).map (·.2.la)).eraseDups

/-- The directory evicts an entry: the line is back-invalidated in every cache, a dirty copy written back first. Reservations stay (R166, R237). -/
def State.backInvalidate (s : State) (la : Nat) : State :=
  let s := s.cleanLine 3 la
  (s.invalOthers la (s.holders la)).dropFills la

/-- The snoop filter, whose capacity the manual does not give, may have to evict an entry between two commands: whether and which is free (R237, log entry 181). -/
def State.snoop (s : State) : State :=
  match s.directory with
  | [] => s
  | d => let t := s.drawn.drawn; if s.freeBool then t.backInvalidate (d.getD (s.drawn.freeNat % d.length) 0) else t

/-! ### Arbitration of waiting loads (R45 to R47) -/

/-- The point at which a request for a line waits: an L3 slice, the hub directory, a Depot controller or a CXL port (Table 01-6). -/
def State.memPoint (s : State) (phys la : Nat) : Nat :=
  let src := (s.source phys la).1
  if src ≤ 3 then 3 * 256 + (s.place 3 phys la).1
  else if src = 4 then 6 * 256
  else if src = 5 then 4 * 256 + depotChan la / 16
  else match s.regionOf (la * 256) with
    | some r => 5 * 256 + s.readPort r
    | none => 5 * 256 + 255

/-- Loads that wait at a point, for a line of which nothing is on its way: core and set, class, instance. -/
def State.memWaiting (s : State) (pt : Nat) : List (Nat × Nat × Nat) :=
  s.ctxs.filterMap (fun p =>
    match p.2.await with
    | .line la _ cls =>
      let c := s.core (p.1 / 128)
      if c.fills.any (fun x => x.la == la) || s.memPoint c.phys la != pt then none else some (p.1, cls, p.2.inst)
    | _ => none)

/-- The point grants a waiting load; none where the grant goes to another class or instance (R45, R46). -/
def State.memGrant (s : State) (pt key : Nat) : Option State :=
  let ws := s.memWaiting pt
  let a := s.ms.arbs.getD pt {}
  match a.pick (ws.map (·.2)), ws.find? (fun w => w.1 == key) with
  | some (c, i, fl), some w =>
    if w.2 = (c, i) then some (s.onMs (fun m => { m with arbs := m.arbs.put pt (a.serve (s.weights i).mem (ws.map (·.2)) c i fl) })) else none
  | _, _ => none

end Sys2Proof.Machine
end

