-- ==== Sys2Proof/Machine/Translate.lean ====
section
/-! DEFINITION. Translation: the instance stage, the task stage and its walker, the translation caches, enclave granule checks, and the accesses of engines (R53, R123, R256 to R259, R324 to R326). -/
namespace Sys2Proof.Machine

/-- A memory exception: vector, XADDR and XINFO (Table 05-8). -/
structure XFlt where
  vec : Nat
  xaddr : Nat
  xinfo : Nat
deriving DecidableEq, Repr

/-- Kind of access as XINFO [1:0] codes it: 0 load, 1 store, 2 fetch (Table 05-8). -/
abbrev Acc := Nat

/-! ### The instance stage -/

/-- Where an instance-stage address leads. -/
inductive IRes where
  /-- Memory at a real address (R106). -/
  | mem (ra : Nat)
  /-- A device-space window visible to the instance (R53). -/
  | dev (ra : Nat)
  /-- Reserved device space or a window not visible (R53). -/
  | hidden
  /-- Nothing is mapped there. -/
  | unmapped
deriving DecidableEq, Repr

/-- A device-space address lies in a window that Table 01-8 makes visible to the instance, for a store or a load, in world `e` (R53, R118, R360, R450). -/
def State.visible (s : State) (i e ra : Nat) (store : Bool) : Bool :=
  let n := s.inst i
  let o := ra - devBase
  if n.state = 0 then false
  else if o < 514 * 0x1000 then
    let w := o / 0x1000
    w == i || (w == 512 && (s.mgr == i || (n.mgrView && !store)))
  else if 0x100000000 ≤ o ∧ o < 0x100000000 + 0x4000000 then
    let k := (o - 0x100000000) / 0x40
    decide (n.scFirst ≤ k) && decide (k < n.scFirst + n.scCount)
  else if 0x200000000 ≤ o ∧ o < 0x200000000 + 0x100000 then
    let p := s.page ((o - 0x200000000) / 0x100)
    p.state != 0 && p.inst == i && p.encl == e
  else if 0x300000000 ≤ o ∧ o < 0x300000000 + 0x1000000 then
    n.llts.contains ((o - 0x300000000) / 0x40000, (o - 0x300000000) % 0x40000 / 0x1000)
  else if 0x1000000000000 ≤ o ∧ o < 0x1000000000000 + 12 * 0x100000000000 then
    (s.port ((o - 0x1000000000000) / 0x100000000000)).owner == some i
  else false

/-- The instance stage: regions at their INST_BASE with R, W and X, windows at their own address (R53, R106, log entry 20). -/
def State.instStage (s : State) (i e ia : Nat) (store : Bool) : IRes :=
  if devBase ≤ ia ∧ ia < 0x0200000000000000 then (if s.visible i e ia store then .dev ia else .hidden)
  else
    match (s.inst i).regions.find? (fun r => r.base ≤ ia && ia < r.base + r.gib * gibB) with
    | some r => .mem (r.real + (ia - r.base))
    | none => .unmapped

/-- Table 11-3 for a task in world `e` of instance `i`: a load, a store or a fetch of a real address through an instance address (R325, R331). -/
def State.enclOk (s : State) (i e : Nat) (acc : Acc) (ia ra : Nat) : Bool :=
  match s.emap.find (ra / 65536) with
  | none => e == 0 || acc != 2
  | some m =>
    e != 0 && m.inst == i && m.encl == e && m.iaddr == ia / 65536 && (acc != 1 || m.write) && (acc != 2 || m.code)

/-- The real address an engine reaches, if the instance stage and Table 11-3 allow it; `e` is the enclave of its ring, or 0 (R268, R325, R341). -/
def State.engAddr (s : State) (i e ia : Nat) : Option Nat :=
  match s.instStage i 0 ia true with
  | .mem ra =>
    match s.emap.find (ra / 65536) with
    | none => if e = 0 then some ra else none
    | some m => if e ≠ 0 ∧ m.inst = i ∧ m.encl = e then some ra else none
  | _ => none

/-- A word an engine reads, by its instance address: condition 1 for translation or protection, 2 for POISON or SEAL (R325, R340). -/
def State.engWord (s : State) (i e ia : Nat) : Except Nat TWord :=
  match s.engAddr i e ia with
  | none => .error 1
  | some ra =>
    let w := s.wordNow (ra / 8)
    if w.type = 8 ∨ w.type = 9 then .error 2 else .ok w

/-- Bytes [k, k + n) of consecutive words from an instance address. -/
def State.engWords (s : State) (i e : Nat) : Nat → Nat → Except Nat (List Byte)
  | _, 0 => .ok []
  | ia, n + 1 =>
    match s.engWord i e ia with
    | .error c => .error c
    | .ok w =>
      match State.engWords s i e (ia + 8) n with
      | .error c => .error c
      | .ok bs => .ok ((List.range 8).map (datumByte w.datum) ++ bs)

/-- An engine reads n bytes from an instance address. -/
def State.engRead (s : State) (i e ia n : Nat) : Except Nat (List Byte) :=
  if n = 0 then .ok []
  else
    match s.engWords i e (ia / 8 * 8) (ceilDiv (ia % 8 + n) 8) with
    | .error c => .error c
    | .ok bs => .ok ((bs.drop (ia % 8)).take n)

/-- Replace bytes of a datum from byte k on. -/
def mergeBytes (d : Word) (k : Nat) (bs : List Byte) : Word :=
  BitVec.ofNat 64 (beNat (putBytes ((List.range 8).map (datumByte d)) k bs))

/-- A whole or partial write of one word by an engine: the tag rule of R123. -/
def engMerge (w : TWord) (k : Nat) (bs : List Byte) : TWord :=
  ⟨mergeBytes w.datum k bs, if bs.length ≥ 8 then Tag.int else if w.type = 0 ∨ w.type = 1 ∨ w.type = 3 then w.tag else Tag.int⟩

/-- An engine writes bytes word by word: condition 0, 1 (translation or protection, where it stops) or 3 (a LOCKed word, left unchanged while the others are written); c is the condition met so far (R123, R278, R310). `fuel` bounds the words. -/
def State.engWriteGo (s : State) (i e : Nat) : Nat → Nat → Nat → List Byte → State × Nat
  | c, 0, _, _ => (s, c)
  | c, _ + 1, _, [] => (s, c)
  | c, f + 1, ia, bs =>
    match s.engAddr i e ia with
    | none => (s, 1)
    | some ra =>
      let k := ia % 8
      let w := s.wordNow (ra / 8)
      if w.tag.lock then State.engWriteGo s i e 3 f (ia + (8 - k)) (bs.drop (8 - k))
      else State.engWriteGo (s.putWord (ra / 8) (engMerge w k (bs.take (8 - k)))) i e c f (ia + (8 - k)) (bs.drop (8 - k))

/-- An engine writes bytes; while the instance is RESETTING the DMA fence discards them (R113, R123). -/
def State.engWrite (s : State) (i e ia : Nat) (bs : List Byte) : State × Nat :=
  if (s.inst i).state = 3 then (s, 0) else s.engWriteGo i e 0 (bs.length + 1) ia bs

/-- Every byte of a range is reachable by an engine. -/
def State.engRange (s : State) (i e ia n : Nat) : Bool :=
  (List.range (ceilDiv (ia % 4096 + n) 4096)).all (fun k => (s.engAddr i e (max ia ((ia / 4096 + k) * 4096))).isSome)

/-! ### The task stage (R256 to R258) -/

/-- A translation fault at a stage (Table 05-8). -/
def trFault (ea : Nat) (acc : Acc) (stage : Nat) : XFlt := ⟨6, ea, acc + 4 * stage⟩
/-- A protection fault at a stage (Table 05-8). -/
def prFault (ea : Nat) (acc : Acc) (stage : Nat) : XFlt := ⟨7, ea, acc + 4 * stage⟩
/-- Machine Check on a POISON word at a real word number: kind 1 load, 2 fetch, 3 register (Table 05-8). -/
def mcFault (kind wi : Nat) (w : TWord) : XFlt := ⟨0x3F, if kind = 3 then w.datum.toNat % 2 ^ 54 * 8 else wi * 8, kind + w.datum.toNat / 2 ^ 56 * 2 ^ 56⟩

/-- The word at an instance address, read for translation or by the Drover and the hub; an enclave granule is reached only for its own enclave `e`; faults are reported at stage 1 with the effective address (R256, R335). -/
def State.tableWord (s : State) (i e : Nat) (acc : Acc) (ea ia : Nat) : Except XFlt (Nat × TWord) :=
  match s.instStage i 0 ia false with
  | .unmapped => .error (trFault ea acc 1)
  | .hidden => .error (prFault ea acc 1)
  | .dev _ => .error (prFault ea acc 1)
  | .mem ra =>
    match s.emap.find (ra / 65536) with
    | none => .ok (ra / 8, s.wordNow (ra / 8))
    | some m => if e ≠ 0 ∧ m.inst = i ∧ m.encl = e then .ok (ra / 8, s.wordNow (ra / 8)) else .error (prFault ea acc 1)

/-- A leaf of the task stage: instance address, permissions, AM, and the real word of the entry. -/
structure Leaf where
  ia : Nat
  r : Bool
  w : Bool
  x : Bool
  am : Nat
  /-- Lowest address bit of its page. -/
  lo : Nat
  /-- Real word number and datum of the entry; none for the identity and for a cached leaf. -/
  ent : Option (Nat × Nat)
  /-- A cached leaf: its entry as the cache holds it (R259). -/
  cached : Option TlbEnt := none
deriving DecidableEq, Repr

/-- Levels of Table 08-10: lowest address bit, index bits, whether a leaf may stand there, alignment of the next table. -/
def levels : List (Nat × Nat × Bool × Nat) :=
  [(48, 9, false, 4096), (39, 9, false, 4096), (30, 9, true, 8192), (20, 10, true, 2048), (12, 8, true, 0)]

/-- The walk of the task stage from a table (R258). -/
def State.walk (s : State) (i : Nat) (acc : Acc) (ea : Nat) : List (Nat × Nat × Bool × Nat) → Nat → Except XFlt Leaf
  | [], _ => .error (trFault ea acc 0)
  | (lo, n, leafOk, align) :: rest, tb =>
    match s.tableWord i 0 acc ea (tb + ea / 2 ^ lo % 2 ^ n * 8) with
    | .error f => .error f
    | .ok (wi, w) =>
      let d := w.datum.toNat
      let addr := bits d 56 11 * 2048
      let r := bit d 1; let wr := bit d 2; let x := bit d 3
      let leaf := r || wr || x
      if w.type = 8 then .error (mcFault (if acc = 2 then 2 else 1) wi w)
      else if w.type ≠ 1 then .error (trFault ea acc 0)
      else if !bit d 0 ∨ bits d 63 57 ≠ 0 ∨ bits d 10 8 ≠ 0 then .error (trFault ea acc 0)
      else if leaf then
        if !leafOk ∨ addr % 2 ^ lo ≠ 0 ∨ (wr ∧ !r) then .error (trFault ea acc 0)
        else .ok { ia := addr + ea % 2 ^ lo, r := r, w := wr, x := x, am := bits d 7 6, lo := lo, ent := some (wi, d) }
      else if rest = [] ∨ addr % align ≠ 0 ∨ bits d 7 6 ≠ 0 then .error (trFault ea acc 0)
      else State.walk s i acc ea rest addr

/-- The task-stage leaf of an effective address (R256, R257). -/
def State.taskStage (s : State) (i : Nat) (acc : Acc) (ea : Nat) : Except XFlt Leaf :=
  if 2 ^ 57 ≤ ea then .error (trFault ea acc 0)
  else
    match s.tableWord i 0 acc ea ((s.inst i).vba + 0x1000) with
    | .error f => .error f
    | .ok (wi, w) =>
      let d := w.datum.toNat
      if w.type = 8 then .error (mcFault (if acc = 2 then 2 else 1) wi w)
      else if d = 0 ∧ (w.type = 1 ∨ w.type = 2) then .ok { ia := ea, r := true, w := true, x := true, am := 0, lo := 12, ent := none }
      else if d ≠ 0 ∧ w.type = 2 ∧ d % 4096 = 0 ∧ d < 2 ^ 57 then s.walk i acc ea levels d
      else .error (trFault ea acc 0)

/-- The entry of a core's translation cache for a page, in one context (R259). -/
def State.tlbFind (s : State) (core i e ea : Nat) (acc : Acc) : Option TlbEnt :=
  (s.core core).tlb.find? (fun t => t.inst == i && t.encl == e && t.page == ea / 4096 && (acc != 1 || t.dirty))

/-- The leaf that serves an access: a cached one, where the core holds one and a free choice uses it, else a fresh walk (R259, log entry 21). -/
def State.leafOf (s : State) (core i e : Nat) (acc : Acc) (ea : Nat) : State × Except XFlt Leaf :=
  match s.tlbFind core i e ea acc with
  | none => (s, s.taskStage i acc ea)
  | some t =>
    (s.drawn, if s.freeBool then .ok { ia := t.ia * 4096 + ea % 4096, r := t.r, w := t.w, x := t.x, am := t.am, lo := t.lo, ent := none, cached := some t } else s.taskStage i acc ea)

/-- The walker sets A, and D on a store, in the entry it used, whose tag stays (R258). -/
def State.markLeaf (s : State) (acc : Acc) (l : Leaf) : State :=
  match l.ent with
  | none => s
  | some (wi, d) =>
    let d' := d ||| 0x10 ||| (if acc = 1 then 0x20 else 0)
    if d' = d then s else s.putWord wi ⟨BitVec.ofNat 64 d', (s.wordNow wi).tag⟩

/-- The Heritage window base of an instance as memory has it, or the fault that an invalid word raises (R257). -/
def State.hwinWord (s : State) (i : Nat) (acc : Acc) (ea : Nat) : Except XFlt Nat :=
  match s.tableWord i 0 acc ea ((s.inst i).vba + 0x1008) with
  | .error f => .error f
  | .ok (_, w) => if w.type = 2 ∧ w.datum.toNat % 2 ^ 31 = 0 then .ok w.datum.toNat else .error (trFault ea acc 0)

/-- The window base is read and cached with the leaf of a fetch that selects a window mode (R257). -/
def State.noteHwin (s : State) (core i : Nat) (acc : Acc) (ea : Nat) (l : Leaf) : State :=
  if acc = 2 ∧ (l.am = 1 ∨ l.am = 2) then
    s.onCore core (fun c => { c with hwins := match s.hwinWord i acc ea with | .ok h => c.hwins.put i h | .error _ => c.hwins.del i })
  else s

/-- Set A, and D on a store, in the leaf used, and cache the leaf; a cached one stays as it is (R257 to R259). -/
def State.noteLeaf (s : State) (core i e : Nat) (acc : Acc) (ea : Nat) (l : Leaf) : State :=
  if l.cached.isSome then s
  else
    let s := (s.markLeaf acc l).noteHwin core i acc ea l
    let t : TlbEnt := { inst := i, world := e != 0, encl := e, page := ea / 4096, ia := l.ia / 4096, r := l.r, w := l.w, x := l.x, am := l.am,
                        dirty := match l.ent with | none => true | some (_, d) => acc = 1 || bit d 5, lo := l.lo }
    s.onCore core (fun c => { c with tlb := t :: c.tlb.filter (fun u => !(u.inst == i && u.encl == e && u.page == ea / 4096)) })

/-- The leaf allows the access. -/
def Leaf.allows (l : Leaf) (acc : Acc) : Bool := if acc = 0 then l.r else if acc = 1 then l.w else l.x

/-- The granule of a real address belongs to the enclave that accesses it (R325). -/
def State.ownGranule (s : State) (i e ra : Nat) : Bool :=
  match s.emap.find (ra / 65536) with
  | some m => e != 0 && m.inst == i && m.encl == e
  | none => false

/-- Both stages for an access of a task of instance i in world e on a core: the real address and AM, or the exception (R164, R256 to R258, R325, R326, R331). -/
def State.translate (s : State) (core i e : Nat) (acc : Acc) (ea : Nat) : State × Except XFlt (Nat × Nat) :=
  match s.leafOf core i e acc ea with
  | (s, .error f) => (s, .error f)
  | (s, .ok l) =>
    match s.instStage i e l.ia (acc == 1) with
    | .unmapped => (s, .error (trFault ea acc 1))
    | .hidden => (s, .error (prFault ea acc (if l.allows acc then 1 else 0)))
    | .dev ra =>
      if !l.allows acc then (s, .error (prFault ea acc 0))
      else if acc = 2 ∨ e ≠ 0 then (s, .error (prFault ea acc 1))
      else (s.noteLeaf core i e acc ea l, .ok (ra, l.am))
    | .mem ra =>
      if !l.allows acc then (s, .error (prFault ea acc 0))
      else if s.enclOk i e acc l.ia ra then (s.noteLeaf core i e acc ea l, .ok (ra, l.am))
      else if acc = 2 ∧ !s.ownGranule i e ra then (s, .error ⟨0xE, ea, 0⟩)
      else (s, .error (prFault ea acc 1))

/-- The Heritage window base on a core: the one cached with the translations until TLBINV, else the word in memory (R257, R259). -/
def State.hwin (s : State) (core i : Nat) (acc : Acc) (ea : Nat) : Except XFlt Nat :=
  match (s.core core).hwins.find i with
  | some h => .ok h
  | none => s.hwinWord i acc ea

/-- The address used for an effective address under an address mode (R257). -/
def State.formAddr (s : State) (core i : Nat) (her : Bool) (am : Nat) (acc : Acc) (ea : Nat) : Except XFlt Nat :=
  if !her ∨ am = 0 then .ok ea
  else if am = 3 then .error (trFault ea acc 0)
  else
    match s.hwin core i acc ea with
    | .error f => .error f
    | .ok h => .ok ((h + ea % 2 ^ (if am = 1 then 31 else 24)) % 2 ^ 64)

/-! ### Words of an instance's memory, reached by the hub and the Drover through the instance stage only -/

/-- A word at an instance address, or the fault: vector and XADDR (R217, R225). -/
def State.hubWord (s : State) (i e ia : Nat) : Except XFlt TWord :=
  match s.tableWord i e 0 ia ia with
  | .error f => .error f
  | .ok (_, w) => .ok w

/-- Write a word at an instance address. DESIGN CHOICE (log 179): what the hub, the Drover and the walker write replaces a word with LOCK = 1 as any other (R122 speaks of stores and engine writes). -/
def State.hubPut (s : State) (i e ia : Nat) (w : TWord) : Except XFlt State :=
  match s.tableWord i e 1 ia ia with
  | .error f => .error f
  | .ok (wi, _) => .ok (s.putWord wi w)

/-- Write words from an instance address on, up to the first that faults. -/
def State.hubPuts (s : State) (i e : Nat) : Nat → List TWord → Except XFlt State
  | _, [] => .ok s
  | ia, w :: ws =>
    match s.hubPut i e ia w with
    | .error f => .error f
    | .ok s => State.hubPuts s i e (ia + 8) ws

/-! ### Task Save Areas and posts (R216, R217, R223) -/

/-- Instance of a TID. -/
def tidInst (tid : Nat) : Nat := tid / 65536 % 512

/-- Instance-stage address of the TSA of a TID (R217). -/
def State.tsa (s : State) (tid : Nat) : Nat := (s.inst (tidInst tid)).vba + 0x100000 + tid % 65536 * 0x1000

/-- A word of a TSA. -/
def State.tsaWord (s : State) (tid off : Nat) : Except XFlt TWord := s.hubWord (tidInst tid) 0 (s.tsa tid + off)

/-- The datum of a TSA word, 0 where it cannot be read. -/
def State.tsaGet (s : State) (tid off : Nat) : Nat :=
  match s.tsaWord tid off with
  | .ok w => w.datum.toNat
  | .error _ => 0

/-- DSTATE.CLASS of a word read from a TSA, or Convoy where the TSA cannot be read (R219). -/
def stateClass (r : Except XFlt TWord) : Nat :=
  match r with
  | .ok w => bits w.datum.toNat 13 12
  | .error _ => 1

/-- The class of a task (R219). -/
def State.taskClass (s : State) (tid : Nat) : Nat := stateClass (s.tsaWord tid 0x10)

/-- A post to a task's event queue, in the task's class: 0 EV_TMR, 1 EV_IPI, 2 EV_IO, 3 EV_MB (R219, R223). -/
def State.post (s : State) (tid ev cause source : Nat) : State :=
  { s with posts := s.posts ++ [{ tid := tid, ev := ev, cause := cause, source := source, tod := u64 s.now, cls := s.taskClass tid }] }

/-- Bytes as words tagged INT (Table 01-5, R86). -/
def bytesWords : List Byte → List TWord
  | a :: b :: c :: d :: e :: f :: g :: h :: t => TWord.int (BitVec.ofNat 64 (beNat [a, b, c, d, e, f, g, h])) :: bytesWords t
  | [] => []
  | l => [TWord.int (BitVec.ofNat 64 (fld l 0 8))]

end Sys2Proof.Machine
end

