-- ==== Sys2Proof/Machine/Mailbox.lean ====
section
/-! DEFINITION. The mailbox windows: registers, doorbells and admission, the order of service, the checks of R80, responses, and notification rings (R77 to R92). -/
namespace Sys2Proof.Machine

/-- Status codes (Table 02-21). -/
abbrev stOk : Nat := 0
/-- BUSY. -/
abbrev stBusy : Nat := 1
/-- BAD_COMMAND. -/
abbrev stBadCommand : Nat := 2
/-- BAD_FIELD. -/
abbrev stBadField : Nat := 3
/-- NOT_PERMITTED. -/
abbrev stNotPermitted : Nat := 4
/-- RESOURCE_CLAIMED. -/
abbrev stClaimed : Nat := 5
/-- QUEUE_FULL. -/
abbrev stQueueFull : Nat := 6
/-- IN_DOUBT. -/
abbrev stInDoubt : Nat := 7
/-- KEY_ERASED. -/
abbrev stKeyErased : Nat := 8
/-- NONCE_REUSE. -/
abbrev stNonceReuse : Nat := 9
/-- RETRY_SAFE. -/
abbrev stRetrySafe : Nat := 10
/-- DEFERRED. -/
abbrev stDeferred : Nat := 11
/-- EXHAUSTED. -/
abbrev stExhausted : Nat := 12
/-- CIPHER_FAULT. -/
abbrev stCipherFault : Nat := 13
/-- SEQ_EXHAUSTED. -/
abbrev stSeqExhausted : Nat := 14
/-- HOLD_ACTIVE. -/
abbrev stHoldActive : Nat := 15

/-- Table 02-24 with Table 02-17: code, callers (1 Manager, 2 tenant, 4 console), Courier-eligible, offered on standby power. -/
def mbTable : List (Nat × Nat × Bool × Bool) :=
  [
    (0x0100, 3, true, false),
    (0x0101, 1, false, false),
    (0x0102, 1, false, false),
    (0x0103, 3, false, false),
    (0x0104, 1, false, false),
    (0x0105, 1, false, false),
    (0x0106, 1, false, false),
    (0x0107, 1, false, false),
    (0x0108, 1, false, false),
    (0x0109, 1, false, false),
    (0x010A, 1, false, false),
    (0x010B, 1, false, false),
    (0x010C, 5, false, false),
    (0x010D, 1, false, false),
    (0x0200, 2, false, false),
    (0x0201, 2, false, false),
    (0x0202, 3, true, false),
    (0x0203, 2, false, false),
    (0x0204, 2, false, false),
    (0x0205, 3, false, false),
    (0x0206, 2, false, false),
    (0x0207, 2, true, false),
    (0x0208, 3, false, false),
    (0x0209, 2, false, false),
    (0x020A, 1, false, false),
    (0x020B, 5, false, false),
    (0x020C, 5, false, false),
    (0x0300, 2, false, false),
    (0x0301, 2, false, false),
    (0x0302, 2, false, false),
    (0x0303, 2, true, false),
    (0x0304, 2, true, false),
    (0x0305, 2, false, false),
    (0x0306, 2, false, false),
    (0x0307, 2, false, false),
    (0x0308, 2, false, false),
    (0x0309, 2, false, false),
    (0x030A, 2, false, false),
    (0x030B, 1, false, false),
    (0x0400, 2, false, false),
    (0x0401, 2, false, false),
    (0x0402, 2, false, false),
    (0x0403, 2, false, false),
    (0x0404, 2, false, false),
    (0x0405, 3, false, false),
    (0x0406, 2, false, false),
    (0x0407, 1, false, false),
    (0x0408, 1, false, false),
    (0x0500, 7, true, true),
    (0x0501, 5, true, false),
    (0x0502, 5, false, false),
    (0x0503, 7, true, false),
    (0x0504, 5, false, false),
    (0x0505, 5, false, false),
    (0x0506, 5, false, false),
    (0x0507, 5, false, false),
    (0x0508, 5, false, false),
    (0x0600, 5, false, true),
    (0x0601, 5, false, true),
    (0x0602, 5, false, true),
    (0x0603, 5, false, true),
    (0x0604, 1, false, false),
    (0x0700, 5, false, false),
    (0x0701, 1, false, false),
    (0x0702, 1, false, false),
    (0x0703, 1, false, false),
    (0x0704, 1, false, false),
    (0x0705, 1, false, false),
    (0x0706, 5, false, false),
    (0x0707, 5, false, false),
    (0x0708, 5, false, false),
    (0x0709, 5, false, false),
    (0x070A, 1, false, false),
    (0x070B, 1, false, false),
    (0x070C, 1, false, false),
    (0x070D, 1, false, false),
    (0x070E, 5, false, true),
    (0x0800, 1, false, false),
    (0x0801, 1, false, false),
    (0x0802, 5, false, false),
    (0x0803, 1, false, false),
    (0x0804, 1, false, false),
    (0x0805, 1, false, false),
    (0x0806, 5, false, false),
    (0x0900, 1, false, false),
    (0x0901, 1, false, false),
    (0x0902, 3, false, false),
    (0x0A00, 5, false, false),
    (0x0A01, 5, false, false),
    (0x0A02, 5, false, false)
  ]

/-- The row of a command code. -/
def mbRow (code : Nat) : Option (Nat × Bool × Bool) := (mbTable.find? (fun r => r.1 == code)).map (·.2)

/-- The caller bit of a window. -/
def callerBit (w : Nat) : Nat := if w = 512 then 0 else if w = 513 then 2 else 1

/-! ### Window registers (R77 to R79) -/

/-- The window's hub accepts accesses: the device runs, or the console is served (R89, R406, R411). -/
def State.windowUp (s : State) (w : Nat) : Bool :=
  match s.phase with
  | .running => decide (w < 514)
  | .recovery => w == 513 && decide (s.recSp < 2)
  | .held => w == 513 && s.pins.vstby && (List.range 9).all (fun k => !(s.rail k).on)
  | _ => false

/-- The request area as bytes: header and body. -/
def Window.area (n : Window) : List Byte := (List.range 256).flatMap (fun k => beBytes 8 (n.req.getD k 0))

/-- Entries of the notification ring (Table 02-11). -/
def Window.entries (n : Window) : Nat := 64 * 2 ^ n.nrSize

/-- No SP holds the lease, as the windows show it: STATUS.SVC_DOWN (Table 02-9). -/
def State.svcDown (s : State) : Bool := s.svc.holder.isNone

/-- STATUS (Table 02-9). -/
def State.statusReg (s : State) (w : Nat) : Nat :=
  let n := s.win w
  n.result * 2 ^ 48 + n.cmd * 2 ^ 32 + s.svc.activeSp * 2 ^ 15 + b2n n.failover * 2 ^ 14 + b2n n.refused * 2 ^ 13 +
    b2n n.overflow * 2 ^ 12 + n.cls * 2 ^ 10 + b2n n.demoted * 2 ^ 9 + b2n (n.nrTail != n.nrHead) * 2 ^ 8 + b2n s.svcDown * 4 + n.state

/-- Read a window register (R77). -/
def State.winRead (s : State) (w off : Nat) : Nat :=
  let n := s.win w
  if off = 0x008 then s.statusReg w
  else if off = 0x010 then n.lastDone * 2 ^ 32 + n.reqSeq
  else if off = 0x018 then n.nrBase + n.nrSize
  else if off = 0x020 then n.nrHead
  else if off = 0x028 then n.nrTail
  else if off = 0x030 then b2n n.nrFault * 2 + b2n n.nrEnable
  else if off = 0x040 then w * 2 ^ 16 + 0x0103
  else if 0x100 ≤ off ∧ off < 0x900 then n.req.getD ((off - 0x100) / 8) 0
  else if 0x900 ≤ off ∧ off < 0x1000 then fld n.resp (off - 0x900) 8
  else 0

/-- Admission class of a ring: the class and whether Courier was refused (R83, R108). -/
def State.admitCmd (s : State) (w code cls : Nat) : Nat × Bool :=
  if cls ≠ 0 then (cls, false)
  else
    let listed := match mbRow code with
      | some (_, c, _) => c
      | none => false
    let n := s.inWindow.inst w
    if listed && (decide (512 ≤ w) || (n.eligible && decide (n.capUsed < n.force.cap))) then (0, false) else (1, true)

/-- Count an admission against the cap, or a demotion (R83, R109). -/
def State.countAdmit (s : State) (w cls : Nat) (demoted : Bool) : State :=
  if demoted then
    if w < 512 then s.onInst w (fun n => { n with demotions := n.demotions + 1 })
    else if w = 512 then s.countA 0xFF0D else s.countB 0xFF0D
  else if cls = 0 ∧ w < 512 then s.inWindow.onInst w (fun n => { n with capUsed := n.capUsed + 1 })
  else s

/-- The former holder's read-only view of the Manager window ends (R118). -/
def State.dropView (s : State) : State := { s with insts := s.insts.map (fun p => (p.1, { p.2 with mgrView := false })) }

/-- A DOORBELL write: accepted and admitted, or refused (R78, R83). -/
def State.ringWindow (s : State) (w value tid : Nat) : State :=
  let n := s.win w
  if !s.windowUp w then s
  else if n.state = 1 ∨ value % 4 = 3 ∨ 4 ≤ value then s.onWin w (fun n => { n with refused := true })
  else
    let code := n.req.getD 0 0 / 2 ^ 48
    let a := s.admitCmd w code value
    let s := (s.onWin w (fun n => { n with state := 1, cmd := code, cls := a.1, demoted := a.2, tid := tid, stamp := s.now })).countAdmit w a.1 a.2
    if w = 512 then s.dropView else s

/-- A write of NR_CTL (Table 02-12). -/
def State.nrCtl (s : State) (w value tid : Nat) : State :=
  if !s.windowUp w then s
  else s.onWin w (fun n =>
    let n := if bit value 1 then { n with nrFault := false } else n
    if bit value 0 then (if n.nrEnable then n else { n with nrEnable := true, nrHead := 0, nrTail := 0, nrTid := tid }) else { n with nrEnable := false })

/-- A write of NR_HEAD (Table 02-12). -/
def State.nrHeadSet (s : State) (w value : Nat) : State :=
  if !s.windowUp w then s
  else s.onWin w (fun n => if value % 4096 < n.entries then { n with nrHead := value % 4096 } else n)

/-- An 8-byte write of a window register by software (R77). -/
def State.winWrite (s : State) (w off value tid : Nat) : State :=
  let n := s.win w
  if !s.windowUp w then s
  else if off = 0x000 then s.ringWindow w value tid
  else if off = 0x008 then
    s.onWin w (fun n => { n with failover := n.failover && !bit value 14, refused := n.refused && !bit value 13, overflow := n.overflow && !bit value 12 })
  else if off = 0x010 then (if n.state = 1 then s else s.onWin w (fun n => { n with reqSeq := value % 2 ^ 32 }))
  else if off = 0x018 then
    if n.nrEnable then s else s.onWin w (fun n => { n with nrBase := bits value 56 12 * 4096, nrSize := if value % 16 < 7 then value % 16 else n.nrSize })
  else if off = 0x020 then s.nrHeadSet w value
  else if off = 0x030 then s.nrCtl w value tid
  else if 0x100 ≤ off ∧ off < 0x900 then
    if n.state = 1 then s else s.onWin w (fun n => { n with req := n.req.put ((off - 0x100) / 8) (value % 2 ^ 64) })
  else s

/-! ### Commands -/

/-- A request as the Service Complex reads it. -/
structure MReq where
  /-- Window index recorded by the hub (R61). -/
  w : Nat
  seq : Nat
  /-- LENGTH and the reserved word of the header (Table 02-14). -/
  len : Nat
  rsv : Nat
  body : List Byte
deriving DecidableEq, Repr

/-- The instance whose objects a window names: its own, or the Manager holder's. -/
def MReq.inst (q : MReq) (s : State) : Nat := if q.w < 512 then q.w else s.mgr

/-- A result of a command: its status and response body. -/
abbrev Reply := Nat × List Byte

/-- One command of the mailbox interface. -/
structure Command where
  /-- Command code (Table 02-24). -/
  code : Nat
  /-- The row of the table among those of one code. -/
  sel : List Byte → Bool := fun _ => true
  /-- The object named is the caller's (R80 check 3). -/
  own : State → MReq → Bool := fun _ _ => true
  /-- Length, reserved fields and ranges (R80 check 4). -/
  fmt : State → MReq → Bool
  /-- Check 5 and the effect: the next state, and the reply unless the command stays in execution. -/
  run : State → MReq → State × Option Reply

/-- The request that waits in a window. -/
def State.mreq (s : State) (w : Nat) : MReq :=
  let a := (s.win w).area
  { w := w, seq := (s.win w).reqSeq, len := fld a 2 2, rsv := fld a 4 4, body := (a.drop 8).take (fld a 2 2) }

/-- The ACTIVE SP, within its lease, or the TSK that serves the console alone (R57, R64, R89, R406). -/
def State.serving (s : State) (w : Nat) : Bool :=
  s.windowUp w &&
    (match s.phase with
     | .running => (match s.svc.holder with
       | some p => (s.sp p).state == 1 && decide (s.now < s.svc.leaseEnd)
       | none => false)
     | _ => true)

/-- The code is offered in this power state (R80 check 2, R89, R406). -/
def State.offered (s : State) (code : Nat) : Bool :=
  match mbRow code with
  | none => false
  | some (_, _, sb) =>
    match s.phase with
    | .running => true
    | .recovery => sb || [0x0501, 0x0700, 0x0706, 0x0707, 0x0708].contains code
    | _ => sb

/-- Windows with a command that waits to be taken. -/
def State.waitingWins (s : State) : List (Nat × Nat) := (s.windows.filter (fun p => p.2.state == 1 && !p.2.inExec)).map (fun p => (p.1, p.2.cls))

/-- The first window of a class: Manager, console, then the tenants in a round after the last served (R46, R82). -/
def firstWin (last : Nat) (ws : List Nat) : Option Nat :=
  if ws.contains 512 then some 512
  else if ws.contains 513 then some 513
  else match minBy id (ws.filter (fun w => last < w)) with
    | some w => some w
    | none => minBy id ws

/-- The window served next, and whether the Freight floor chose it; each class has its own round (R45, R46, R82). -/
def State.nextWindow (s : State) : Option (Nat × Bool) :=
  let ws := s.waitingWins
  let of := fun c => firstWin (s.svc.lastTenant.getD c 511) ((ws.filter (fun p => p.2 == c)).map (·.1))
  match (if 50 ≤ s.svc.credit then of 2 else none) with
  | some w => some (w, true)
  | none =>
    match of 0 with
    | some w => some (w, false)
    | none => match of 1 with
      | some w => some (w, false)
      | none => (of 2).map (fun w => (w, false))

/-- Take the command of a window: the round and the Freight credit advance (R45, R46). -/
def State.takeWin (s : State) (w : Nat) (floor : Bool) : State :=
  let freight := s.waitingWins.any (fun p => p.2 == 2)
  let left := s.waitingWins.any (fun p => p.2 == 2 && p.1 != w)
  let c := (if freight then s.svc.credit + 1 else 0) - (if floor then 50 else 0)
  s.onSvc (fun v => { v with lastTenant := if w < 512 then v.lastTenant.put (s.win w).cls w else v.lastTenant, credit := if left then c else 0 })

/-- The response header and body (Table 02-15). -/
def respBytes (st seq tod : Nat) (body : List Byte) : List Byte :=
  beBytes 2 st ++ beBytes 2 body.length ++ beBytes 4 seq ++ beBytes 8 (u64 tod) ++ body

/-- STATE becomes DONE with a response already in the window, and EV_MB is raised (R81, R89, R392). -/
def State.doneWin (s : State) (w st : Nat) (resp : List Byte) : State :=
  let n := s.win w
  let s := s.onWin w (fun n => { n with state := 2, result := st, resp := resp, inExec := false })
  let s := if n.cls = 0 then s.countLat 2 n.stamp else s
  if w = 513 then s else s.post n.tid 3 1 w

/-- The pending-command entry of the command a window holds, before it has any effect (R71, Table 02-5). -/
def Window.newEntry (n : Window) : PendEntry := { seq := n.reqSeq, code := n.cmd, req := n.req }

/-- The entry mirrored for the command a window holds, or a new one. -/
def Window.ownEntry (n : Window) : PendEntry :=
  match n.entry with
  | some e => if e.seq = n.reqSeq then e else n.newEntry
  | none => n.newEntry

/-- What a command changed of the instances since s becomes part of its completion record (R71, Table 02-5). -/
def State.noteChanges (t s : State) (w : Nat) : State :=
  if t.insts = s.insts then t
  else match (t.win w).entry with
    | some _ => t.onWin w (fun n => { n with entry := n.entry.map (fun e => { e with changes := t.insts.filter (fun p => s.insts.find p.1 != some p.2) }) })
    | none => t

/-- A command ends: LAST_DONE advances, its response is written and stored, and the in-doubt store drops what that settles (R71, R80, R81, R289). -/
def State.finishCmd (s : State) (w st : Nat) (body : List Byte) : State :=
  let n := s.win w
  let resp := respBytes st n.reqSeq s.now body
  let e : PendEntry := { n.ownEntry with done := some (st, u64 s.now, body) }
  ((s.onWin w (fun n => { n with lastDone := n.reqSeq, stored := some resp, entry := some e })).purgeDoubt).doneWin w st resp

/-- A unit's event ends the command that waits for it in a window; after a takeover the command runs again instead (R72, R73). -/
def State.endMb (s : State) (w st : Nat) (body : List Byte) : State := if (s.win w).inExec && s.serving w then s.finishCmd w st body else s

/-- Key of a sequence record: command and window (R394, R420). -/
def recKey (code w : Nat) : Nat := code * 1024 + w

/-- The response recorded under a request's sequence number (R394, R420). -/
def State.ranUnder (s : State) (code : Nat) (q : MReq) : Option Reply :=
  match Tab.find s.svc.seqRec (recKey code q.w) with
  | some (n, b) => if n = q.seq then some (fld b 0 2, b.drop 2) else none
  | none => none

/-- Record the response a command acted under. -/
def State.recordSeq (s : State) (code w seq : Nat) (r : Reply) : State :=
  s.onSvc (fun v => { v with seqRec := v.seqRec.put (recKey code w) (seq, beBytes 2 r.1 ++ r.2) })

/-- A command that acts once under its sequence number: a re-execution that finds its record takes no second action (R394, R420). -/
def oncePerSeq (code : Nat) (run : State → MReq → State × Option Reply) (s : State) (q : MReq) : State × Option Reply :=
  match s.ranUnder code q with
  | some r => (s, some r)
  | none =>
    match run s q with
    | (s, some r) => (if r.1 = stOk ∨ r.1 = stDeferred then s.recordSeq code q.w q.seq r else s, some r)
    | (s, none) => (s, none)

/-- The first failing check of R80, checks 2 to 4. -/
def State.checkCmd (s : State) (c : Command) (q : MReq) : Option Nat :=
  match mbRow (s.win q.w).cmd with
  | none => some stBadCommand
  | some (callers, _, _) =>
    if !s.offered (s.win q.w).cmd then some stBadCommand
    else if !bit callers (callerBit q.w) ∨ !c.own s q then some stNotPermitted
    else if q.rsv ≠ 0 ∨ !c.fmt s q then some stBadField
    else none

/-- Run a command: its pending-command entry is mirrored first (R71). -/
def State.runCmd (s : State) (c : Command) (q : MReq) : State :=
  let s := s.onWin q.w (fun n => { n with inExec := true, entry := some n.newEntry })
  match c.run s q with
  | (t, some (st, body)) => (t.noteChanges s q.w).finishCmd q.w st body
  | (t, none) => t.noteChanges s q.w

/-- The row is that of the window's command; an unassigned code is any row's. -/
def State.rowFits (s : State) (c : Command) (w : Nat) : Bool :=
  ((s.win w).cmd == c.code && c.sel (s.mreq w).body) || (mbRow (s.win w).cmd).isNone

/-- The command of window w: taken if it is the next one served, decided by R80, or continued if it is in execution (R79 to R82). -/
def State.serveCmd (s : State) (c : Command) (w : Nat) : State :=
  let n := s.win w
  let q := s.mreq w
  if n.state ≠ 1 ∨ !s.serving w ∨ !s.rowFits c w then s
  else if n.inExec then s.runCmd c q
  else
    match s.nextWindow with
    | none => s
    | some (v, floor) =>
      if v ≠ w ∨ s.svc.draining.isSome then s
      else
        let s := s.takeWin w floor
        if n.reqSeq = (n.lastDone + 1) % 2 ^ 32 then
          match s.checkCmd c q with
          | some st => s.finishCmd w st []
          | none => s.runCmd c q
        else
          match n.stored with
          | some r =>
            if n.reqSeq = n.lastDone then s.doneWin w (fld r 0 2) r
            else s.doneWin w stBadField (respBytes stBadField n.reqSeq s.now [])
          | none => s.doneWin w stBadField (respBytes stBadField n.reqSeq s.now [])

/-- A mailbox row. -/
def serve (c : Command) (w : Nat) (s : State) : Out := .next (s.serveCmd c w)

/-- An instance named at offset 0 is the caller's own where a tenant calls; a number that names none is check 4's (R80, R117). -/
def ownInst (_ : State) (q : MReq) : Bool := decide (512 ≤ q.w) || fld q.body 0 2 == q.w || decide (512 ≤ fld q.body 0 2)

/-! ### Notifications (R86 to R88) -/

/-- The instance in whose memory a window's ring lies (R86). -/
def State.ringInst (s : State) (w : Nat) : Nat := if w < 512 then w else s.mgr

/-- The ring can take an entry. -/
def Window.ringOpen (n : Window) : Bool := n.nrEnable && (n.nrTail + 1) % n.entries != n.nrHead

/-- A notification entry (Table 02-18). -/
def notifBytes (nseq : Nat) (e : Notif) : List Byte :=
  beBytes 8 nseq ++ beBytes 2 e.kind ++ beBytes 2 e.status ++ beBytes 4 e.subject ++ beBytes 8 (u64 e.tod) ++ beBytes 8 (u64 e.detail)

/-- Events the hub event FIFO holds; a later one waits in its unit (R75). -/
def fifoSize : Nat := 16384

/-- The notification an event makes. -/
def HubEvent.notif (e : HubEvent) : Notif := { kind := e.kind, status := e.status, subject := e.subject, tod := e.tod, detail := e.detail }

/-- Change the first element that satisfies a test. -/
def onFirst {α : Type} (p : α → Bool) (f : α → α) : List α → List α
  | [] => []
  | x :: t => if p x then f x :: t else x :: onFirst p f t

/-- The first event of a window in the FIFO from which no notification has been made (R75). -/
def State.nextEvent (s : State) (w : Nat) : Option HubEvent := (s.svc.fifo.take fifoSize).find? (fun e => e.win == w && !e.made)

/-- An event of a window leaves the FIFO: the first whose notification is held, or is not yet made (R75). -/
def State.leaveFifo (s : State) (w : Nat) (made : Bool) : State :=
  s.onSvc (fun v => { v with fifo := v.fifo.eraseP (fun e => e.win == w && e.made == made) })

/-- The notification of a window's next event is held, its event staying in the FIFO; beyond 64 it is dropped, event and all (R75, R88). -/
def State.holdNotif (s : State) (w : Nat) : State :=
  match s.nextEvent w with
  | none => s
  | some e =>
    if (s.win w).held.length < 64 then
      (s.onWin w (fun n => { n with held := n.held ++ [e.notif] })).onSvc (fun v => { v with fifo := onFirst (fun e => e.win == w && !e.made) (fun e => { e with made := true }) v.fifo })
    else (s.onWin w (fun n => { n with overflow := true })).leaveFifo w false

/-- Write one entry at TAIL, advance TAIL and raise EV_MB; none where the ring write fails (R86). -/
def State.writeNotif (s : State) (w : Nat) (e : Notif) : Option State :=
  let n := s.win w
  match s.hubPuts (s.ringInst w) 0 (n.nrBase + 32 * n.nrTail) (bytesWords (notifBytes (n.nseq + 1) e)) with
  | .error _ => none
  | .ok s =>
    let s := s.onWin w (fun n => { n with nseq := n.nseq + 1, nrTail := (n.nrTail + 1) % n.entries })
    some (if w = 513 then s else s.post n.nrTid 3 2 w)

/-- A failed ring write: FAULT is set and ENABLE cleared (Table 02-12). -/
def State.ringFails (s : State) (w : Nat) : State := s.onWin w (fun n => { n with nrFault := true, nrEnable := false })

/-- The ACTIVE SP makes one notification of a window: held ones first, in order. An event leaves the FIFO with the mirrored and written entry, or when its notification is dropped (R75, R86 to R88). -/
def State.notifyStep (s : State) (w : Nat) : State :=
  if !(s.phase = .running ∧ s.serving w) then s
  else if !(s.win w).ringOpen then s.holdNotif w
  else
    match (s.win w).held with
    | e :: t =>
      (match s.writeNotif w e with
       | some s => (s.onWin w (fun n => { n with held := t })).leaveFifo w true
       | none => s.ringFails w)
    | [] =>
      (match s.nextEvent w with
       | none => s
       | some e =>
         match s.writeNotif w e.notif with
         | some s => s.leaveFifo w false
         | none => (s.ringFails w).holdNotif w)

/-! ### Rows of the windows -/

/-- MAILBOX_DOORBELL: one write, or two in the same FCLK cycle, of which the one with the lower TID comes first (R78). Where the lower TID's write is not acceptable by itself, it is refused and the other is then decided by the same rule: the model's choice (DESIGN CHOICE, log entry 168). -/
def execMailboxDoorbell (w value tid : Nat) (other : Option (Nat × Nat)) (s : State) : Out :=
  .next (match other with
    | none => s.ringWindow w value tid
    | some (v, t) => if tid ≤ t then (s.ringWindow w value tid).ringWindow w v t else (s.ringWindow w v t).ringWindow w value tid)

/-- NR_CTL_ENABLE: a write of NR_CTL (Table 02-12). -/
def execNrCtlEnable (w value tid : Nat) (s : State) : Out := .next (s.nrCtl w value tid)

/-- NR_HEAD_WRITE (Table 02-12, R88). -/
def execNrHeadWrite (w value : Nat) (s : State) : Out := .next (s.nrHeadSet w value)

/-- NOTIFICATION_WRITE (R86 to R88). -/
def execNotificationWrite (w : Nat) (s : State) : Out := .next (s.notifyStep w)

/-- EtherType of console frames (R89). -/
def consoleType : Nat := 0x88B5

/-- The answer to a console frame goes to the frame's source from the fused MAC address (R89). It echoes OFFSET, and DATA of a write-done answer is the written datum, of a refused one 0: the model's choice (DESIGN CHOICE, log entry 169). -/
def State.answerFrame (s : State) (from_ op tag offset data : Nat) : State :=
  { s with console := some { dst := from_, src := s.fuses.mac, op := op, tag := tag, offset := offset, data := data } }

/-- CONSOLE_FRAME: one read or write of the console window over the service port; a frame of another EtherType is none (R89, Table 02-20). -/
def execConsoleFrame (op : FrameHead) (tag offset data : Nat) (s : State) : Out :=
  when (s.windowUp 513 && op.etherType == consoleType) s
    (if offset % 8 ≠ 0 ∨ 0x1000 ≤ offset then s.answerFrame op.source 0xFF tag offset 0
     else if op.op = 1 then s.answerFrame op.source 0x81 tag offset (s.winRead 513 offset)
     else if op.op = 2 then (s.winWrite 513 offset data 0).answerFrame op.source 0x82 tag offset data
     else s.answerFrame op.source 0xFF tag offset 0)

end Sys2Proof.Machine
end

