-- ==== Sys2Proof/Machine/Clocks.lean ====
section
/-! DEFINITION. Events of the die-to-die links, the reference clocks, PPS and the rate windows (R26 to R40, R109, R437, R439). -/
namespace Sys2Proof.Machine

/-- A reference by number. -/
def Clock.ref (c : Clock) (r : Nat) : Ref := if r = 0 then c.ref0 else c.ref1

/-- Change a reference. -/
def Clock.onRef (c : Clock) (r : Nat) (f : Ref → Ref) : Clock := if r = 0 then { c with ref0 := f c.ref0 } else { c with ref1 := f c.ref1 }

/-- Unit code of the clock unit (Table 13-7). -/
def clockUnit : Nat := 0x0E00

/-- Clocks and links are live: the device is neither held in reset nor stopped. -/
def State.clocked (s : State) : Bool :=
  match s.phase with
  | .held => false
  | .stopped => false
  | _ => true

/-- The PLL switches to a reference and SWITCHED is posted (R31, R34). -/
def State.switchRef (s : State) (r : Nat) : State :=
  ((s.onClock (fun c => { c with sel := r, holdover := false, relockAt := none })).clockEvent 3 r r).countA clockUnit

/-- The PLL enters holdover: recorded and posted, the clock unit DEGRADED (R33, R34). -/
def State.enterHoldover (s : State) (r : Nat) : State :=
  (((s.onClock (fun c => { c with holdover := true, relockAt := none })).clockEvent 4 r r).countB clockUnit).setHealth clockUnit 1 8

/-- A reference fails: the PLL takes the other one if it is valid, else enters holdover (R30 to R34). A failure of a failed reference starts its 1 ms again (R30). While the device is held only the failure is kept, and the PLL chooses at the release (R31). -/
def State.refFail (s : State) (r : Nat) : State :=
  if 2 ≤ r then s
  else
    let again := (s.clock.ref r).failed
    let s := s.onClock (fun c => c.onRef r (fun x => { x with failed := true, failedAt := c.tod }))
    if again || !s.clocked then s
    else
      let s := s.clockEvent 1 r r
      if s.clock.sel ≠ r ∨ s.clock.holdover then s
      else if (s.clock.ref (1 - r)).failed then s.enterHoldover r
      else s.switchRef (1 - r)

/-- A failed reference is valid again after 1 ms without a failure; out of holdover the PLL relocks to it, and to REFCLK0 where both become valid in one 1 ms check (R30, R33, R34). A stopped clock unit checks nothing (R27). -/
def State.refValid (s : State) (r : Nat) : State :=
  if 2 ≤ r ∨ !(s.clock.ref r).failed ∨ s.phase = .stopped then s
  else
    let s := s.advanceTo ((s.clock.ref r).failedAt + msT)
    let s := s.onClock (fun c => c.onRef r (fun x => { x with failed := false }))
    if !s.clocked then s
    else
      let s := s.clockEvent 2 r r
      if s.clock.holdover then
        let s := (s.onClock (fun c => { c with holdover := false })).clockEvent 5 r r
        let s := if s.clock.sel ≠ r then s.switchRef r else s
        (s.onClock (fun c => { c with relockAt := if r = 1 then some c.tod else none })).setHealth clockUnit 0 0
      else if r = 0 ∧ s.clock.sel = 1 ∧ s.clock.relockAt = some s.now then s.switchRef 0
      else s

/-- The PLL locks at the release of PORST_N: to REFCLK0 if it is valid, else to REFCLK1, else it starts in holdover; the failures found are recorded and posted (R31, R33, R34). -/
def State.lockPll (s : State) : State :=
  let f0 := s.clock.ref0.failed
  let f1 := s.clock.ref1.failed
  let s := s.onClock (fun c => { c with sel := b2n (f0 && !f1), holdover := false, relockAt := none })
  let s := if f0 then s.clockEvent 1 0 0 else s
  let s := if f1 then s.clockEvent 1 1 1 else s
  if f0 && f1 then s.enterHoldover 0 else s

/-- REFCLK_EDGE_LOSS: no edge for 40 ns (R30). -/
def execRefclkEdgeLoss (ref : Nat) (s : State) : Out := .next (s.refFail ref)

/-- REFCLK_FREQUENCY_FAIL: more than ±500 ppm over 10 µs (R30). -/
def execRefclkFrequencyFail (ref : Nat) (s : State) : Out := .next (s.refFail ref)

/-- REFCLK_VALID (R30, R33). -/
def execRefclkValid (ref : Nat) (s : State) : Out := .next (s.refValid ref)

/-- One TCLK edge with nothing to do: the clock advances; every unit of a stopped device has stopped, TOD too (R27, R35). -/
def State.tick (s : State) : State := if s.phase = .stopped then s else { s with clock := s.clock.tick }

/-- What happens on an empty queue: one TCLK edge, and the snoop filter of a running device may evict an entry (R35, R237, log entries 1 and 181). -/
def State.idle (s : State) : State := if s.runs then s.tick.snoop else s.tick

/-- Lanes in service beyond need on the link of a core die or an I/O die (Table 01-2). -/
def linkSpares : Nat := 4

/-- Spare lanes of a link: 0 to 3 the core dies, 4 and 5 the I/O dies, 6 the MRAM die, which has none (Table 01-2). -/
def sparesOf (link : Nat) : Nat := if link = 6 then 0 else linkSpares

/-- Unit code of a link; the MRAM link is told as the MRAM and Logbook unit (Table 13-7, log entry 165). -/
def linkUnit (link : Nat) : Nat := if link = 6 then unitCode 0x0F 0 else unitCode 0x0D link

/-- FLIT_CRC_FAILURE: replay; a failed lane is remapped, or the device stops (R26, R27). -/
def execFlitCrcFailure (link : Nat) (laneFailed : Bool) (s : State) : Out :=
  let u := linkUnit link
  let s1 := (s.countB u).logRec 9 u [link, 0]
  let lost := s.linkLost.getD link 0 + 1
  let s2 := { s1 with linkLost := s1.linkLost.put link lost }
  when (s.clocked && decide (link < 7)) s
    (if !laneFailed then s1
     else if sparesOf link < lost then (s2.setHealth u 4 5).deviceStop 1 u
     else ((s2.countA u).logRec 9 u [link, 2]).setHealth u 1 6)

/-- Source number of CLOCK_EVENT for a PPS source: 0 PPS_IN, 1 GPIO12 (R437). -/
def ppsIdx (src : Nat) : Nat := src - 1

/-- TOD ahead of the nearest whole second, in TOD units (R37, log entry 22). -/
def ppsError (tod : Nat) : Int :=
  let r := u64 tod % secT
  if r ≤ secT / 2 then (r : Int) else (r : Int) - secT

/-- This device disciplines TOD from its own PPS input: no other master is reachable (R357, R447). -/
def State.ownPps (s : State) : Bool := s.relay.sync == 0 || s.relay.sync == 3

/-- PPS_EDGE: the phase error is slewed away; above 1 ms it is reported too (R37, R437). -/
def execPpsEdge (src : Nat) (s : State) : Out :=
  let e := ppsError s.now
  let s1 := if s.clock.ppsLost then s.clockEvent 7 (ppsIdx src) (ppsIdx src) else s
  let s2 := if (msT : Int) < e ∨ e < -(msT : Int) then s1.clockEvent 8 (ppsIdx src) (i64 e) else s1
  let s3 := if s.ownPps then s2.onClock (fun c => { c with slew := -e }) else s2
  when (s.clocked && s.clock.todSet && s.clock.ppsSource == src && src != 0) s
    (s3.onClock (fun c => { c with lastPps := some c.tod, ppsLost := false }))

/-- PPS_LOST: no edge for 2 s after edges had arrived (R437). -/
def execPpsLost (src : Nat) (s : State) : Out :=
  match s.clock.lastPps with
  | none => .next s
  | some t =>
    when (s.clocked && s.clock.ppsSource == src && src != 0 && !s.clock.ppsLost) s
      (((s.advanceTo (t + 2 * secT)).onClock (fun c => { c with ppsLost := true })).clockEvent 6 (ppsIdx src) (ppsIdx src))

/-- PPS_OUT_PULSE: TOD passes a whole second; PPS_OUT rises for 100 ms unless it is high (R439). -/
def execPpsOutPulse (s : State) : Out :=
  let s1 := if s.clock.ppsOutSec < gridAt secT s.now then s else s.advanceTo (gridNext secT s.now)
  let high := match s.clock.ppsOutEnd with
    | some e => decide (s1.now < e)
    | none => false
  when (s.clocked && s.clock.todSet) s
    (s1.onClock (fun c => { c with ppsOutSec := gridAt secT c.tod, ppsOutEnd := if high then c.ppsOutEnd else some (c.tod + 100 * msT) }))

/-- PPS_OUT_END: PPS_OUT falls after 100 ms (R439); a stopped device drives it no further (R27). -/
def execPpsOutEnd (s : State) : Out :=
  match s.clock.ppsOutEnd with
  | none => .next s
  | some e => when (s.phase != .stopped) s ((s.advanceTo e).onClock (fun c => { c with ppsOutEnd := none }))

/-- RATE_WINDOW_START (R109, R422). -/
def execRateWindowStart (s : State) : Out :=
  when s.runs s (if s.clock.rateWindow < gridAt 400000 s.now then s else s.advanceTo (gridNext 400000 s.now)).startWindow

end Sys2Proof.Machine
end

