-- ==== Sys2Proof/Machine/RelayNet.lean ====
section
/-! DEFINITION. The Relay's graph and routes, the sending of flits, and the Ledger Lock Tables at their home (R353 to R365). -/
namespace Sys2Proof.Machine

/-- Change the Relay. -/
def State.onRelay (s : State) (f : Relay → Relay) : State := { s with relay := f s.relay }

/-! ### Graph and routes (R355) -/

/-- Two devices share a link. -/
def linked (g : List Link) (x y : Nat) : Bool := g.any (fun l => (l.a == x && l.b == y) || (l.a == y && l.b == x))

/-- One more round of distances: devices with a neighbour at distance d. -/
def distRound (g : List Link) (d : Nat) (t : Tab Nat) : Tab Nat :=
  (List.range 64).foldl (fun u x => if (Tab.find t x).isNone && t.any (fun p => p.2 == d && linked g p.1 x) then u.put x (d + 1) else u) t

/-- Distances in links to a device. -/
def distGo (g : List Link) : Nat → Nat → Tab Nat → Tab Nat
  | 0, _, t => t
  | f + 1, d, t => if t.any (fun p => p.2 == d) then distGo g f (d + 1) (distRound g d t) else t

/-- Links to every device reachable from one (R355). -/
def distFrom (g : List Link) (x : Nat) : Tab Nat := distGo g 64 0 [(x, 0)]

/-- The port carries a link of the graph: up, or retraining and not yet lost (R349, R355, R368). -/
def RPort.carries (p : RPort) : Bool := (p.state == 2 || p.state == 1) && p.peer != 0xFF

/-- The next-hop port toward a device: fewest links, then the lower neighbour, then the lower port (R355). -/
def State.nextHop (s : State) (dst : Nat) : Option Nat :=
  let d := distFrom s.relay.graph dst
  let ups := (List.range 6).filter (fun p => (s.rport p).carries && (Tab.find d (s.rport p).peer).isSome)
  minBy (fun p => (d.getD (s.rport p).peer 64) * 4096 + (s.rport p).peer * 8 + p) ups

/-- The device has a route. -/
def State.reaches (s : State) (dst : Nat) : Bool := dst == s.relay.self || (s.nextHop dst).isSome

/-- Devices of the connected set (R355). -/
def State.connected (s : State) : List Nat := (distFrom s.relay.graph s.relay.self).map (·.1)

/-! ### Sending (R351 to R354) -/

/-- Send credits of a class (R353). -/
def RPort.credit (p : RPort) (c : Nat) : Nat := if c = 0 then p.credits.1 else if c = 1 then p.credits.2.1 else p.credits.2.2

/-- Use one credit of a class. -/
def RPort.spend (p : RPort) (c : Nat) : RPort :=
  { p with credits := if c = 0 then (p.credits.1 - 1, p.credits.2) else if c = 1 then (p.credits.1, p.credits.2.1 - 1, p.credits.2.2) else (p.credits.1, p.credits.2.1, p.credits.2.2 - 1) }

/-- The instance a flit is sent for. -/
def flitInst (f : Flit) : Nat := f.tid / 65536 % 512

/-- The class served next: Freight by its floor, else the highest that waits (R45). -/
def RPort.nextClass (p : RPort) (ws : List Flit) : Option Nat :=
  if decide (50 ≤ p.arb.credit) && ws.any (fun f => f.cls == 2) then some 2 else minBy id (ws.map (·.cls))

/-- The flit of a class served next: transit first, but one injected flit after seven of transit; injected ones by R46 (R353). -/
def RPort.inClass (p : RPort) (self c : Nat) (ws : List Flit) : Option Flit :=
  let transit := ws.filter (fun f => f.cls == c && f.src != self)
  let mine := ws.filter (fun f => f.cls == c && f.src == self)
  if transit.isEmpty || (!mine.isEmpty && decide (7 ≤ p.transit.getD c 0)) then
    match p.arb.instOf c (mine.map flitInst) with
    | some i => mine.find? (fun f => flitInst f == i)
    | none => none
  else transit.head?

/-- The flit sent next, among those with a credit of their class (R353). -/
def RPort.pick (p : RPort) (self : Nat) : Option Flit :=
  let ws := p.out.filter (fun f => 0 < p.credit f.cls)
  match p.nextClass ws with
  | none => none
  | some c => p.inClass self c ws

/-- The port after it has sent a flit: its arbitration, its queue and its credits (R45, R46, R353). -/
def RPort.sendOne (p : RPort) (self : Nat) (weight : Nat → Nat) (f : Flit) : RPort :=
  let ws := p.out.filter (fun g => 0 < p.credit g.cls)
  let freight := (ws.filter (fun g => g.cls == 2)).length
  let floor := f.cls == 2 && decide (50 ≤ p.arb.credit)
  let left := if f.cls = 2 then freight - 1 else freight
  let credit := if left = 0 then 0 else p.arb.credit + 1 - (if floor then 50 else 0)
  let mine := (ws.filter (fun g => g.src == self)).map (fun g => (g.cls, flitInst g))
  let arb := if f.src = self then p.arb.serve (weight (flitInst f)) mine f.cls (flitInst f) false else p.arb
  ({ p with out := p.out.erase f, arb := { arb with credit := credit }, transit := p.transit.put f.cls (if f.src = self then 0 else p.transit.getD f.cls 0 + 1) }).spend f.cls

/-- Up to six flits for one frame. -/
def RPort.slots (self : Nat) (weight : Nat → Nat) : Nat → RPort → RPort × List Flit
  | 0, p => (p, [])
  | n + 1, p =>
    match p.pick self with
    | none => (p, [])
    | some f =>
      let r := RPort.slots self weight n (p.sendOne self weight f)
      (r.1, f :: r.2)

/-- Send frames while flits and credits last; at most 256 frames stay unacknowledged (R352). -/
def RPort.pump (self : Nat) (weight : Nat → Nat) : Nat → RPort → RPort
  | 0, p => p
  | n + 1, p =>
    if 256 ≤ p.sent.length then p
    else
      match RPort.slots self weight 6 p with
      | (_, []) => p
      | (q, fs) => RPort.pump self weight n { q with sent := q.sent ++ [(q.txSeq, fs)], txSeq := (q.txSeq + 1) % 65536 }

/-- RELAY_WEIGHT in force of an instance (R46, R97). -/
def State.relayWeight (s : State) (i : Nat) : Nat := (s.weights i).relay

/-- A port that is up, or DUPLICATE with TOPO alone, sends what it can (R355). -/
def State.pump (s : State) (p : Nat) : State :=
  if (s.rport p).state = 2 ∨ (s.rport p).state = 5 then s.onRport p (RPort.pump s.relay.self s.relayWeight 256) else s

/-- Put a flit on a port. -/
def State.portSend (s : State) (p : Nat) (f : Flit) : State :=
  (s.onRport p (fun x => { x with out := x.out ++ [f] })).pump p

/-- Send a flit toward its destination; one for this device is handled here; without a route it goes nowhere. -/
def State.sendFlit (s : State) (f : Flit) : State :=
  if f.dst = s.relay.self then s.onRelay (fun r => { r with rx := r.rx ++ [(6, f)] })
  else
    match s.nextHop f.dst with
    | some p => s.portSend p f
    | none => s

/-- A flit this device injects now. -/
def State.inject (s : State) (f : Flit) : State := s.sendFlit { f with src := s.relay.self, stamp := u64 s.now }

/-- The table and offset of a Relay control address (R367). -/
def lltOf (ra : Nat) : Nat × Nat := (ra / 0x1000 % 64, ra % 0x1000)

/-- A control window access is on its way: CREAD or CWRITE (R367). -/
def State.noteCreq (s : State) (tid home ra : Nat) (load : Bool) : State :=
  s.onRelay (fun r => { r with creqs := r.creqs ++ [(tid, home, (lltOf ra).1, (lltOf ra).2, load)] })

/-- CREAD of a control window (R367). -/
def State.sendCread (s : State) (cls home ra tid : Nat) : State :=
  (s.noteCreq tid home ra true).inject { type := 7, cls := cls, dst := home, llt := (lltOf ra).1, tid := tid, arg := (lltOf ra).2 }

/-- CWRITE of a control window (R367). -/
def State.sendCwrite (s : State) (cls home ra tid v : Nat) : State :=
  (s.noteCreq tid home ra false).inject { type := 6, cls := cls, dst := home, llt := (lltOf ra).1, tid := tid, arg := (lltOf ra).2, result := v }

/-- GONE to every device of the connected set: scope 0 task, 1 instance, 2 device (R365). -/
def State.sendGone (s : State) (scope tid : Nat) : State :=
  s.connected.foldl (fun s d => s.inject { type := 5, cls := 0, dst := d, tid := tid, arg := scope }) s

/-! ### Lock tables at their home (R359 to R365) -/

/-- Table 12-7. -/
def resultWord (resent : Bool) (held outcome : Nat) : Nat := b2n resent * 1024 + held * 256 + outcome

/-- HELD_MODE of a mode: 0 exclusive, 1 shared. -/
def heldMode (mode : Nat) : Nat := if mode = 0 then 2 else 1

/-- A hold of a mode is compatible with the current holds (R361). -/
def LKey.compat (k : LKey) (mode : Nat) : Bool := if mode = 0 then k.holds.isEmpty else k.holds.all (fun h => h.2.2 == 1)

/-- Entries in use: keys held or waited for (R359). -/
def Llt.used (t : Llt) : Nat := (t.keys.filter (fun p => !p.2.holds.isEmpty || !p.2.waits.isEmpty)).length

/-- Waiter records in use. -/
def Llt.waiters (t : Llt) : Nat := (t.keys.map (fun p => p.2.waits.length)).foldl (· + ·) 0

/-- Keep a key only while it is held, waited for or marked (R359, R365). -/
def Llt.setKey (t : Llt) (key : Nat) (k : LKey) : Llt :=
  { t with keys := if k.holds.isEmpty && k.waits.isEmpty && !k.abandoned then t.keys.del key else t.keys.put key k }

/-- The lock cache takes a key as its most recent (R359). -/
def State.touchKey (s : State) (n key : Nat) : State :=
  s.onRelay (fun r => { r with cache := ((n, key) :: r.cache.filter (· != (n, key))).take 32768 })

/-- Send an ANSWER (2) or GRANT (3) for a probe. -/
def State.lockReply (s : State) (type n key : Nat) (who : Nat × Nat) (arg cls res : Nat) : State :=
  s.inject { type := type, cls := cls, dst := who.2, llt := n, tid := who.1, key := key, arg := arg, result := res }

/-- Waiters whose limit has passed are removed and answered WAIT_EXPIRED (R362, R39). -/
def State.expireWaits (s : State) (n key : Nat) : State :=
  let t := s.llt n
  let k := t.keys.getD key {}
  let late := k.waits.filter (fun w => w.2.2.2.1 + t.waitUs * usT ≤ s.now)
  let s := s.onLlt n (fun t => { t.setKey key { k with waits := k.waits.filter (fun w => !(w.2.2.2.1 + t.waitUs * usT ≤ s.now)) } with expired := t.expired + late.length })
  late.foldl (fun s w => s.lockReply 2 n key (w.1, w.2.1) (w.2.2.1 * 4) w.2.2.2.2 (resultWord false 0 4)) s

/-- Waiters at the head of a queue that may be granted together (R361). -/
def LKey.grantable (k : LKey) : List (Nat × Nat × Nat × Nat × Nat) :=
  match k.waits with
  | [] => []
  | w :: _ => if w.2.2.1 = 0 then (if k.compat 0 then [w] else []) else if k.compat 1 then k.waits.takeWhile (fun w => w.2.2.1 == 1) else []

/-- Grant from the head of a key's queue (R361, R362, R365). -/
def State.grantQueue (s : State) (n key : Nat) : State :=
  let s := s.expireWaits n key
  let k := (s.llt n).keys.getD key {}
  let gs := k.grantable
  if gs.isEmpty then s
  else
    let k' : LKey := { holds := k.holds ++ gs.map (fun w => (w.1, w.2.1, w.2.2.1)), waits := k.waits.drop gs.length, abandoned := false }
    let s := s.onLlt n (fun t => { t.setKey key k' with grants := t.grants + gs.length })
    (gs.foldl (fun (p : State × Bool) w =>
      (p.1.lockReply 3 n key (w.1, w.2.1) (w.2.2.1 * 4) w.2.2.2.2 (resultWord false (heldMode w.2.2.1) (b2n p.2)), false)) (s, k.abandoned)).1

/-- The hold of a task on a key: its mode. -/
def LKey.holdOf (k : LKey) (tid dev : Nat) : Option Nat := (k.holds.find? (fun h => h.1 == tid && h.2.1 == dev)).map (·.2.2)

/-- The task waits for the key. -/
def LKey.waitsFor (k : LKey) (tid dev : Nat) : Bool := k.waits.any (fun w => w.1 == tid && w.2.1 == dev)

/-- A PROBE at its home: LLOCK, LTRY or LREL (R361, R362, R364). -/
def State.lockProbe (s : State) (f : Flit) : State :=
  let t := s.llt f.llt
  let mode := f.arg / 4 % 2
  let op := f.arg % 4
  let me := (f.tid, f.src)
  let answer := fun (s : State) (res : Nat) => s.lockReply 2 f.llt f.key me f.arg f.cls res
  if !t.live ∨ !t.allow.contains (f.src, f.tid / 65536) then answer s (resultWord false 0 9)
  else
    let s := (s.touchKey f.llt f.key).expireWaits f.llt f.key
    let t := s.llt f.llt
    let k := t.keys.getD f.key {}
    if op = 2 then
      if (k.holdOf f.tid f.src).isSome then
        (answer (s.onLlt f.llt (fun t => t.setKey f.key { k with holds := k.holds.filter (fun h => !(h.1 == f.tid && h.2.1 == f.src)) })) (resultWord false 0 5)).grantQueue f.llt f.key
      else if k.waitsFor f.tid f.src then
        (answer (s.onLlt f.llt (fun t => t.setKey f.key { k with waits := k.waits.filter (fun w => !(w.1 == f.tid && w.2.1 == f.src)) })) (resultWord false 0 7)).grantQueue f.llt f.key
      else answer s (if f.resent then resultWord true 0 5 else resultWord false 0 6)
    else
      match k.holdOf f.tid f.src with
      | some m => answer s (if f.resent then resultWord true (heldMode m) 0 else resultWord false (heldMode m) 2)
      | none =>
        if k.waitsFor f.tid f.src then answer s (if op = 0 then resultWord false 0 0xB else resultWord false 0 3)
        else if k.compat mode && k.waits.isEmpty then
          if k.holds.isEmpty ∧ 2 ^ t.log2 ≤ t.used then answer s (resultWord false 0 8)
          else
            answer (s.onLlt f.llt (fun t => { t.setKey f.key { k with holds := k.holds ++ [(f.tid, f.src, mode)], abandoned := false } with grants := t.grants + 1 }))
              (resultWord false (heldMode mode) (b2n k.abandoned))
        else if op = 1 then answer s (resultWord false 0 3)
        else if 2 ^ t.log2 ≤ t.waiters then answer s (resultWord false 0 8)
        else
          answer (s.onLlt f.llt (fun t => { t.setKey f.key { k with waits := k.waits ++ [(f.tid, f.src, mode, s.now, f.cls)] } with queued := t.queued + 1 }))
            (resultWord false 0 0xB)

/-- Remove the holds and waits of a key that a test selects; the next grant is marked (R365). -/
def State.dropKey (s : State) (n key : Nat) (sel : Nat → Nat → Bool) : State :=
  let k := (s.llt n).keys.getD key {}
  let gone := k.holds.filter (fun h => sel h.1 h.2.1)
  if gone.isEmpty && !(k.waits.any (fun w => sel w.1 w.2.1)) then s
  else
    let k' : LKey := { holds := k.holds.filter (fun h => !sel h.1 h.2.1), waits := k.waits.filter (fun w => !sel w.1 w.2.1), abandoned := k.abandoned || !gone.isEmpty }
    (s.onLlt n (fun t => { t.setKey key k' with abandonedN := t.abandonedN + gone.length })).grantQueue n key

/-- Remove holds and waits in every table of this device (R365). -/
def State.dropHolds (s : State) (sel : Nat → Nat → Bool) : State :=
  (s.relay.llts.flatMap (fun t => t.2.keys.map (fun k => (t.1, k.1)))).foldl (fun s p => s.dropKey p.1 p.2 sel) s

/-- A waiter leaves a key's queue: WITHDRAW (R362). -/
def State.withdrawWait (s : State) (n key tid dev : Nat) : State :=
  let k := (s.llt n).keys.getD key {}
  if k.waitsFor tid dev then
    (s.onLlt n (fun t => t.setKey key { k with waits := k.waits.filter (fun w => !(w.1 == tid && w.2.1 == dev)) })).grantQueue n key
  else s

end Sys2Proof.Machine
end

