-- ==== Sys2Proof/Machine/Flags.lean ====
section
/-! DEFINITION. The task status word, the condition flags and conditions, and reads and writes of G registers (R127, R153 to R157). -/
namespace Sys2Proof.Machine

/-- Replace bits [hi:lo] of a number. -/
def setBits (x hi lo v : Nat) : Nat := x - bits x hi lo * 2 ^ lo + v % 2 ^ (hi - lo + 1) * 2 ^ lo

/-- A number as a datum. -/
def word (x : Nat) : Word := BitVec.ofNat 64 x

/-- A G register: G0 reads as datum 0 tagged INT (R127). -/
def Regs.gpr (r : Regs) (n : Nat) : TWord := if n = 0 then ⟨0, Tag.int⟩ else r.g.toList.getD n {}

/-- Write a G register; writes to G0 are discarded (R127). -/
def Regs.setG (r : Regs) (n : Nat) (w : TWord) : Regs := if n = 0 then r else { r with g := r.g.setIfInBounds n w }

/-- Replace a field of TSW. -/
def Regs.setTsw (r : Regs) (hi lo v : Nat) : Regs := { r with tsw := word (setBits r.tsw.toNat hi lo v) }

/-- TSW.HER (Table 05-1). -/
def Regs.her (r : Regs) : Bool := bit r.tsw.toNat 63
/-- The enclave of TSW: ENCL where WORLD is 1, else 0. -/
def Regs.encl (r : Regs) : Nat := if bit r.tsw.toNat 62 then bits r.tsw.toNat 59 48 else 0
/-- TSW.IMASK. -/
def Regs.imask (r : Regs) : Nat := bits r.tsw.toNat 35 32
/-- TSW.FPA. -/
def Regs.fpa (r : Regs) : Bool := bit r.tsw.toNat 31
/-- TSW.MPROG. -/
def Regs.mprog (r : Regs) : Nat := bits r.tsw.toNat 28 24
/-- TSW [23:20]: N, Z, C and V. -/
def Regs.nzcv (r : Regs) : Nat := bits r.tsw.toNat 23 20

/-- FPSR.PEND (Table 06-4). -/
def Regs.pend (r : Regs) : Nat := bits r.fpsr.toNat 20 16

/-- N, Z, C and V as TSW [23:20] holds them. -/
def nzcvOf (n z c v : Bool) : Nat := b2n n * 8 + b2n z * 4 + b2n c * 2 + b2n v

/-- Write the condition flags. -/
def Regs.setNzcv (r : Regs) (f : Nat) : Regs := r.setTsw 23 20 f

/-- Flags of a + b + carry on 64-bit patterns (R156, R157). -/
def flagsAdd (a b c : Nat) : Nat :=
  let t := a + b + c
  let r := t % 2 ^ 64
  let sv := sext 64 a + sext 64 b + (c : Int)
  nzcvOf (bit r 63) (r == 0) (decide (2 ^ 64 ≤ t)) (decide (sext 64 r ≠ sv))

/-- Flags of a − b − borrow on 64-bit patterns: C is the inverse of the borrow (R156, R157). -/
def flagsSub (a b w : Nat) : Nat :=
  let r := (a + 2 ^ 64 * 2 - b - w) % 2 ^ 64
  let sv := sext 64 a - sext 64 b - (w : Int)
  nzcvOf (bit r 63) (r == 0) (decide (b + w ≤ a)) (decide (sext 64 r ≠ sv))

/-- Difference of two 64-bit patterns and a borrow, modulo 2^64. -/
def sub64 (a b w : Nat) : Nat := (a + 2 ^ 64 * 2 - b - w) % 2 ^ 64

/-- Flags of TST: N and Z of the AND, C and V clear (R154). -/
def flagsTst (x : Nat) : Nat := nzcvOf (bit x 63) (x == 0) false false

/-- A condition of Table 05-3 on N, Z, C and V. -/
def condHolds (cond f : Nat) : Bool :=
  let n := bit f 3; let z := bit f 2; let c := bit f 1; let v := bit f 0
  match cond with
  | 0 => z
  | 1 => !z
  | 2 => c
  | 3 => !c
  | 4 => n
  | 5 => !n
  | 6 => v
  | 7 => !v
  | 8 => c && !z
  | 9 => !c || z
  | 10 => n == v
  | 11 => n != v
  | 12 => !z && n == v
  | 13 => z || n != v
  | _ => true

end Sys2Proof.Machine
end

