-- ==== Sys2Proof/Machine/Drover.lean ====
section
/-! DEFINITION. The Drover: retirement groups, scheduling, taking an exception and ending a handler, Task Save Areas, migration, swap-in, event posts and wake hints (R166, R177 to R181, R197, R213 to R233, R330 to R340, R371 to R376). -/
namespace Sys2Proof.Machine

/-! ### Task Save Areas (R216, R217) -/

/-- Write a TSA word tagged INT; a write that faults changes nothing. -/
def State.tsaPut (s : State) (tid off v : Nat) : State :=
  match s.hubPut (tidInst tid) 0 (s.tsa tid + off) (TWord.int (word v)) with
  | .ok s => s
  | .error _ => s

/-- DSTATE (Table 07-4). -/
def dstate (lcore cls : Nat) (fsaved : Bool) (prio reason st : Nat) : Nat :=
  lcore * 65536 + cls * 4096 + b2n fsaved * 2048 + prio * 256 + reason * 16 + st

/-- Set STATE of DSTATE. -/
def State.setDstateState (s : State) (tid st : Nat) : State := s.tsaPut tid 0x10 (setBits (s.tsaGet tid 0x10) 3 0 st)

/-- The effective class of a task's requests (R219). -/
def State.evalClass (s : State) (tid req : Nat) : Nat :=
  let i := tidInst tid
  let mir := match s.instStage i 0 (s.tsa tid) false with
    | .mem ra => s.mirrored ra
    | _ => false
  if req = 0 then (if (s.inst i).eligible && mir then 0 else 1) else if req = 3 then 1 else req

/-- Special-register words of a save area from EVQ at 0x028 to CYC at 0x068 (Table 07-2). -/
def Regs.specials (r : Regs) (saved : Bool) : List TWord :=
  [TWord.ptr r.evq, TWord.ptr r.pc, TWord.int (if saved then word (setBits r.tsw.toNat 31 31 0) else r.tsw), TWord.int r.qtm, TWord.int (word r.wdt),
   TWord.int r.fpsr, TWord.ptr r.fpxa, TWord.int (word (b2n r.toa)), TWord.int (word r.cyc)]

/-- The 32 G words as saved: G0 as datum 0 tagged INT, or SEAL after a forced exit (Table 07-2, R339). -/
def Regs.gWords (r : Regs) : List TWord := (List.range 32).map (fun k => if k = 0 ∧ r.g.toList.head? = some TWord.sealed then TWord.sealed else r.gpr k)

/-- The 64 F words as saved: high half first (Table 07-2, R15). -/
def fWords (f : FFile) : List TWord := f.toList.flatMap (fun x => [x.hi, x.lo])

/-- F registers from 64 words. -/
def wordsF (l : List TWord) : FFile := Vector.ofFn (fun k : Fin 32 => ⟨l.getD (2 * k.val) {}, l.getD (2 * k.val + 1) {}⟩)

/-- n words from an instance address. -/
def State.readWords (s : State) (i e : Nat) : Nat → Nat → Except XFlt (List TWord)
  | _, 0 => .ok []
  | a, n + 1 =>
    match s.hubWord i e a with
    | .error f => .error f
    | .ok w =>
      match State.readWords s i e (a + 8) n with
      | .error f => .error f
      | .ok ws => .ok (w :: ws)

/-! ### Groups, banks and slots -/

/-- Sets of a core whose task can issue (R226). -/
def State.readySets (s : State) (core : Nat) : List Nat :=
  ((s.ctxs.between (core * 128) (core * 128 + 68)).filter (fun p => p.2.run == .ready && !p.2.halted)).map (fun p => p.1 % 128)

/-- The set holds an issue slot. -/
def State.holdsSlot (s : State) (core set : Nat) : Bool := (s.core core).slot0 == some set || (s.core core).slot1 == some set

/-- Context of a set: instance and enclave (R337). -/
def State.context (s : State) (core set : Nat) : Nat × Nat := ((s.ctx core set).inst, (s.ctx core set).regs.encl)

/-- Order of a set for an issue slot: a routine in execution, which nothing interrupts; handlers, priority, present holders by quantum used, then the rotation (R146, R177, R226). -/
def State.rank (s : State) (core set : Nat) : Nat :=
  let c := s.ctx core set
  if c.routine.isSome then 0
  else (if 64 ≤ set then 0 else 1 + c.prio) * 2 ^ 40 +
    (if s.holdsSlot core set then min c.used (2 ^ 29) else 2 ^ 30 + (set + 127 - (s.core core).lastSet) % 128)

/-- The two sets that hold the slots: the first in order, and the next of the same context (R226, R337). -/
def State.chosen (s : State) (core : Nat) : List Nat :=
  let rs := s.readySets core
  match minBy (s.rank core) rs with
  | none => []
  | some a =>
    match minBy (s.rank core) (rs.filter (fun k => k != a && s.context core k == s.context core a)) with
    | none => [a]
    | some b => [a, b]

/-- A set loses its slot: its group ends and its reservation is lost (R166, R371). -/
def State.leaveSlot (s : State) (core set : Nat) : State :=
  (s.endGroup core set).onCtx core set (fun c => { c with resv := none, issued := s.now })

/-- L1 is cleaned and invalidated when the core's context changes (R337). -/
def State.setContext (s : State) (core : Nat) (w : Nat × Nat) : State :=
  if (s.core core).world = some w then s
  else
    let p := (s.core core).phys
    ((s.dropUnits 0 p (p + 1)).dropUnits 1 p (p + 1)).onCore core (fun c => { c with world := some w })

/-- The slots take the chosen sets; a set that keeps its slot stays in it. -/
def State.fillSlots (s : State) (core : Nat) (new : List Nat) : State :=
  let old := [(s.core core).slot0, (s.core core).slot1]
  let s := (old.filterMap id).foldl (fun s k => if new.contains k then s else s.leaveSlot core k) s
  let fresh := new.filter (fun k => !old.contains (some k))
  let k0 := match (s.core core).slot0 with | some k => if new.contains k then some k else none | none => none
  let k1 := match (s.core core).slot1 with | some k => if new.contains k then some k else none | none => none
  let a0 := if k0.isSome then k0 else fresh.head?
  let a1 := if k1.isSome then k1 else if k0.isSome then fresh.head? else fresh.tail.head?
  let s := fresh.foldl (fun s k => s.onCtx core k (fun c => { c with used := 0 })) s
  let s := s.onCore core (fun c => { c with slot0 := a0, slot1 := a1, lastSet := (fresh.filter (· < 64)).getLast?.getD c.lastSet })
  match new.head? with
  | some k => s.setContext core (s.context core k)
  | none => s

/-! ### Holds (R345) -/

/-- Enclave tasks bound to thread slots, by TID. -/
def State.boundTids (s : State) : List Nat := s.encls.flatMap (fun p => p.2.bound.map (·.2))

/-- Enclave-world tasks homed on a core (R345). -/
def State.coreUsers (s : State) (core : Nat) : Nat := (s.boundTids.filter (fun t => bits (s.tsaGet t 0x10) 22 16 == core)).length

/-- An enclave-world task is about to be homed on a core: the hold begins unless one runs (R345). -/
def State.holdCore (s : State) (core : Nat) : State := if s.coreUsers core = 0 then s.onCore core (fun c => { c with heldSince := s.now }) else s

/-! ### Rollback and ending a task (R220, R339, R365, R373, R376) -/

/-- A probe that a leaving task waits for is withdrawn (R362). -/
def State.withdraw (s : State) (core set : Nat) : State :=
  match (s.ctx core set).await with
  | .probe _ _ home llt key _ _ _ cls => s.inject { type := 4, cls := cls, dst := home, llt := llt, tid := (s.ctx core set).tid, key := key }
  | _ => s

/-- A BENC or BDEC that a set waits for is discarded with it: it is executed again, and its answer is nobody's (R231, R306). -/
def State.dropAwait (s : State) (core set : Nat) : State := if (s.ctx core set).await = .cipher then s.dropBlock core set else s

/-- Free a set, its bank and its reservation. -/
def State.freeSet (s : State) (core set : Nat) : State :=
  ((s.dropAwait core set).onCtx core set (fun c => { resv := none, group := 0, cairnBad := false, issued := c.issued })).onCore core (fun c => { c with banks := c.banks.filter (fun b => b.owner != set) })

/-- A forced exit frees an enclave task's slot and writes a sealed TSA (R339). -/
def State.forcedExit (s : State) (core set : Nat) : State :=
  let c := s.ctx core set
  let i := tidInst c.tid
  let e := c.regs.encl
  let a := (s.encl i e).esa + c.thread * 0x1000
  let get := fun off => match s.hubWord i e (a + off) with | .ok w => w.datum | .error _ => 0
  let r : Regs := { c.regs with pc := get 0x18, fpsr := get 0x08, fpxa := 0, toa := bit (get 0x10).toNat 0, tsw := word (setBits (setBits c.regs.tsw.toNat 62 62 0) 59 48 0), g := Vector.replicate 32 TWord.sealed }
  let s := match s.hubPut i e a (TWord.int 0) with | .ok s => s | .error _ => s
  let s := s.onEncl i e (fun x => { x with bound := x.bound.del c.thread })
  (s.onCtx core set (fun c => { c with regs := r, fsaved := false })).onCore core (fun c => { c with banks := c.banks.filter (fun b => b.owner != set) })

/-- What stays with the Drover when a task leaves residence. -/
def Ctx.kept (c : Ctx) : Kept :=
  { byDecimal := c.byDecimal, waiting := c.waiting, info := c.info, saveFault := c.saveFault, fpUnavail := c.fpUnavail, replies := c.replies, routine := c.routine }

/-- Save a task to its TSA, or to its thread slot with a sealed TSA, and free its set; `lcore` and `st` go to DSTATE (R229, R335). -/
def State.saveTask (s : State) (core set lcore st : Nat) : Except XFlt State := do
  let s := s.endGroup core set
  let c := s.ctx core set
  let i := tidInst c.tid
  let e := c.regs.encl
  let a := s.tsa c.tid
  let bank := s.bankOf core set
  let sp := c.regs.specials true
  let s ← if e = 0 then do
      let s ← s.hubPuts i 0 (a + 0x28) sp
      let s ← s.hubPuts i 0 (a + 0x100) c.regs.gWords
      match bank with
      | some b => s.hubPuts i 0 (a + 0x200) (fWords b.f)
      | none => pure s
    else do
      let b := (s.encl i e).esa + c.thread * 0x1000
      let s ← s.hubPuts i e (b + 0x30) (sp.drop 1)
      let s ← s.hubPuts i e (b + 0x100) c.regs.gWords
      let s ← (match bank with
        | some k => s.hubPuts i e (b + 0x200) (fWords k.f)
        | none => pure s)
      let s ← s.hubPuts i 0 (a + 0x28) [sp.getD 0 {}, ⟨word c.thread, Tag.seal⟩, sp.getD 2 {}, sp.getD 3 {}, sp.getD 4 {}, TWord.sealed, TWord.sealed, TWord.sealed, sp.getD 8 {}]
      s.hubPuts i 0 (a + 0x100) (List.replicate 96 TWord.sealed)
  let s ← s.hubPut i 0 (a + 0x10) (TWord.int (word (dstate lcore c.cls (bank.isSome || c.fsaved) c.prio 0 st)))
  let s := if c.fresh then { s with fresh := s.fresh ++ [c.tid] } else s
  let s := match c.await with
    | .dev _ _ _ _ => { s with outcomes := s.outcomes.put c.tid c.await }
    | .datum _ => { s with outcomes := s.outcomes.put c.tid c.await }
    | .probe .. => { s with outcomes := s.outcomes.put c.tid c.await }
    | _ => s
  let s : State := if st = 6 ∨ c.kept = {} then s else { s with kept := s.kept.put c.tid c.kept }
  pure (s.freeSet core set)

/-- A task whose save faulted stays resident, waiting for events as it was or READY, with the fault due at its next instruction (R229). -/
def Ctx.saveFailed (c : Ctx) (f : XFlt) : Ctx :=
  { c with run := if c.run = .waitEvent ∨ c.waiting then .waitEvent else .ready, waiting := false, trap := none, target := none, saveFault := some (f.vec, f.xaddr, f.xinfo) }

/-- Save a task; a write that faults leaves it resident, with the fault due at its next instruction (R229). -/
def State.saveOr (s : State) (core set lcore st : Nat) : State :=
  match s.saveTask core set lcore st with
  | .ok s => s
  | .error f => s.onCtx core set (fun c => c.saveFailed f)

/-- The task ends: its group ends, it leaves without saving, STATE becomes ENDED, and GONE is sent; an enclave task leaves a sealed TSA (R220, R339, R365). -/
def State.endTask (s : State) (core set : Nat) : State :=
  let s := (s.withdraw core set).endGroup core set
  let tid := (s.ctx core set).tid
  let plain := fun (s : State) => (s.freeSet core set).setDstateState tid 6
  let s : State :=
    if (s.ctx core set).regs.encl = 0 then plain s
    else
      let s := ((s.forcedExit core set).dropAwait core set).onCtx core set (fun c => { c with await := .none })
      match s.saveTask core set core 6 with
      | .ok s => s
      | .error _ => plain s
  s.sendGone 0 tid

/-- STOP: the task is saved and STATE becomes STOPPED; an enclave task is forced out (R220, R339). -/
def State.stopTask (s : State) (core set : Nat) : State :=
  let s := s.withdraw core set
  let s := if (s.ctx core set).regs.encl ≠ 0 then s.forcedExit core set else s
  s.saveOr core set core 5

/-- The F bank of a set goes back to what its Cairn holds; a bank attached since then is detached, and the TSA still holds its registers (R200, R373). -/
def State.restoreBank (s : State) (core set : Nat) (f : Option FFile) : State :=
  let o := s.bankSet core set
  match f with
  | some f => s.onCore core (fun k => { k with banks := k.banks.map (fun b => if b.owner == o then { b with f := f } else b) })
  | none => (s.onCore core (fun k => { k with banks := k.banks.filter (fun b => b.owner != o) })).onCtx core o (fun c => { c with regs := c.regs.setTsw 31 31 0 })

/-- One task rolls back to its Cairn; a Cairn with an uncorrectable error ends it (R373, R376). -/
def State.restoreSet (s : State) (core set : Nat) : State :=
  let c := s.ctx core set
  if c.cairnBad then (s.logSealed 0x14 (unitCode 1 (s.core core).phys) [c.tid, core]).endTask core set
  else
    let s := (s.dropAwait core set).onCtx core set (fun c => { c with
      regs := c.cairn, group := 0, resv := if c.resvOpen then none else c.resv, resvOpen := false
      await := match c.await with | .cipher => .none | .block _ _ => .none | a => a })
    s.restoreBank core set c.cairnF

/-- The write buffer without the open groups of some sets. -/
def discardOpen (held : List Nat) (wb : List WbEnt) : List WbEnt :=
  (wb.map (fun e => if held.contains e.set then { e with words := e.words.filter (fun w => !w.isOpen) } else e)).filter (fun e => !e.words.isEmpty)

/-- Discard the open groups of the slot holders, with their stores, and restore both from their Cairns (R373). -/
def State.rollback (s : State) (core : Nat) : State :=
  let c := s.core core
  let held := [c.slot0, c.slot1].filterMap id
  let s := s.onCore core (fun c => { c with wb := discardOpen held c.wb })
  held.foldl (fun s k => s.restoreSet core k) s

/-! ### Taking an exception and returning from it (R177 to R181, R197, R215, R336) -/

/-- The vector base of a set: its enclave's in the enclave world, else its instance's (R175, R336). -/
def State.vbaOf (s : State) (core set : Nat) : Nat :=
  let c := s.ctx core set
  if c.regs.encl = 0 then (s.inst c.inst).vba else (s.encl c.inst c.regs.encl).evba

/-- Delivery of FP Imprecise clears PEND, XV and FPXA (R198). -/
def Regs.clearPend (r : Regs) : Regs := { r with fpsr := word (setBits r.fpsr.toNat 21 16 0), fpxa := 0 }

/-- The handler of an exception starts in trap set t: saved state, TSW and pc (R177, R178, Table 05-8). -/
def State.enterHandler (s : State) (core set t vec xaddr xinfo slot : Nat) : State :=
  let s := (s.endGroup core set).onCtx core set (fun c => { c with resv := none, routine := none, replies := [] })
  let c := s.ctx core set
  let base := s.vbaOf core set
  let h := s.ctx core t
  let tsw := word (setBits (setBits (setBits 0 62 62 (b2n (bit c.regs.tsw.toNat 62))) 59 48 (bits c.regs.tsw.toNat 59 48)) 35 32 0xF)
  let r : Regs := { g := h.regs.g, pc := word (base + vec * 0x40), tsw := tsw, xpc := c.regs.pc, xtsw := c.regs.tsw, xaddr := word xaddr, xinfo := word xinfo,
                    xvec := word (vec + slot * 64), xtid := word c.tid }
  let s := s.onCtx core t (fun _ => { run := .ready, regs := r, inst := c.inst, tid := c.tid, prio := c.prio, cls := c.cls, cairn := r, cairnF := c.cairnF, serves := set, thread := c.thread })
  let s := s.onCtx core set (fun c => { c with run := .trapped, since := s.now, regs := if vec = 9 then c.regs.clearPend else c.regs, cairn := if vec = 9 then c.regs.clearPend else c.regs })
  s.onCore core (fun k => { k with chain := t :: k.chain, fifth := none })

/-- The task that takes the first trap set when a chain ends, in the order of R215. -/
def State.trapWaiter (s : State) (core : Nat) : Option Nat :=
  minBy (fun k => match (s.ctx core k).trap with
      | some (_, _, _, _, at_) => at_
      | none => 0)
    (((s.ctxs.between (core * 128) (core * 128 + 64)).filter (fun p => p.2.run == .trapWait)).map (fun p => p.1 % 128))

/-- The chain has ended: the next task in TRAP_WAIT takes its exception in the first trap set, FP Imprecise in its place while PEND is nonzero (R197, R215). -/
def State.releaseTrap (s : State) (core : Nat) : State :=
  if (s.core core).chain ≠ [] then s
  else
    match s.trapWaiter core with
    | none => s
    | some k =>
      match (s.ctx core k).trap with
      | none => s
      | some (v, a, x, sl, _) =>
        let r := (s.ctx core k).regs
        let s := s.onCtx core k (fun c => { c with trap := none })
        if r.pend ≠ 0 then s.enterHandler core k 64 9 r.fpxa.toNat r.fpsr.toNat 0 else s.enterHandler core k 64 v a x sl

/-- Place of an exception raised now in the order of R215: its stamp, then how many exceptions of its slot wait with that stamp, then the slot. A slot raises one exception in a cycle (log entry 171). -/
def State.trapOrder (s : State) (core set : Nat) : Nat :=
  let sl := b2n ((s.core core).slot1 == some set)
  let same := (s.ctxs.between (core * 128) (core * 128 + 64)).filter (fun p => p.2.run == .trapWait && (match p.2.trap with
    | some (_, _, _, _, at_) => at_ / 256 == s.now && at_ % 2 == sl
    | none => false))
  s.now * 256 + same.length * 2 + sl

/-- The fifth nested exception rolls the core back; recurring on both retries it frees the trap sets, which ends the chain, and stops the task (R215, R375). -/
def State.fifthNested (s : State) (core set vec : Nat) : State :=
  let c := s.core core
  let at_ := (s.ctx core set).regs.pc.toNat
  let n := match c.fifth with
    | some (a, v, n) => if a = at_ ∧ v = vec then n + 1 else 1
    | none => 1
  if n < 3 then
    let s := (s.logRec 1 (unitCode 1 c.phys) [(s.ctx core set).tid, 0, at_, 0, 0, n]).countA (unitCode 1 c.phys)
    (s.rollback core).onCore core (fun c => { c with fifth := some (at_, vec, n) })
  else
    let first := (s.ctx core (c.chain.getLast?.getD 64)).serves
    let s := s.logRec 0x13 (unitCode 1 c.phys) [(s.ctx core first).tid, vec, at_]
    let s := c.chain.foldl (fun s t => (s.dropAwait core t).onCtx core t (fun _ => {})) s
    ((s.onCore core (fun c => { c with chain := [], fifth := none })).stopTask core first).releaseTrap core

/-- A set takes an exception: FP Imprecise in its place while PEND is nonzero; the first free trap set, TRAP_WAIT behind another chain, or the fifth nested case (R177, R197, R215). -/
def State.enterTrap (s : State) (core set : Nat) (f : XFlt) (slot : Nat) : State :=
  let r := (s.ctx core set).regs
  let g : XFlt := if r.pend ≠ 0 then ⟨9, r.fpxa.toNat, r.fpsr.toNat⟩ else f
  let sl := if r.pend ≠ 0 then 0 else slot
  let chain := (s.core core).chain
  if set < 64 ∧ chain ≠ [] then
    (s.endGroup core set).onCtx core set (fun c => { c with run := .trapWait, resv := none, routine := none, replies := [], trap := some (f.vec, f.xaddr, f.xinfo, slot, s.trapOrder core set) })
  else if chain.length = 4 then s.fifthNested core set g.vec
  else s.enterHandler core set (64 + chain.length) g.vec g.xaddr g.xinfo sl

/-- Fill the slots; a task that would lose its slot with PEND nonzero takes FP Imprecise first (R197, R226). -/
def State.reschedGo (core : Nat) : Nat → State → State
  | 0, s => s.fillSlots core (s.chosen core)
  | n + 1, s =>
    let new := s.chosen core
    match ([(s.core core).slot0, (s.core core).slot1].filterMap id).find? (fun k => !new.contains k && (s.ctx core k).run == .ready && (s.ctx core k).regs.pend != 0) with
    | some k => State.reschedGo core n (s.enterTrap core k ⟨9, 0, 0⟩ 0)
    | none => s.fillSlots core new

/-- The Drover fills a core's slots (R226). -/
def State.resched (s : State) (core : Nat) : State := State.reschedGo core 3 s

/-- A set raises an exception, and the slots are filled again (R177). -/
def State.takeException (s : State) (core set : Nat) (f : XFlt) (slot : Nat) : State := (s.enterTrap core set f slot).resched core

/-! ### Migration (R230, R231) -/

/-- Task sets the instance holds on a core (R103). -/
def State.share (s : State) (i core : Nat) : Nat := (s.inst i).sets.getD core 0

/-- Tasks of an instance resident on a core. -/
def State.resident (s : State) (i core : Nat) : Nat :=
  ((s.ctxs.between (core * 128) (core * 128 + 64)).filter (fun p => p.2.run != .empty && p.2.inst == i)).length

/-- A task of the instance is being loaded into a set of the core (R229). -/
def State.loading (s : State) (i core : Nat) : Bool := match (s.core core).swapping with | some (_, t) => tidInst t == i | none => false

/-- A task set that holds no task and into which none is being loaded. -/
def State.emptySet (s : State) (core : Nat) : Option Nat :=
  (List.range 64).find? (fun k => (s.ctx core k).run == .empty && (match (s.core core).swapping with | some (j, _) => j != k | none => true))

/-- A free task set of the instance on the core; only a RUNNING instance's tasks become resident (Table 03-1). -/
def State.freeTaskSet (s : State) (i core : Nat) : Option Nat :=
  if (s.inst i).state = 2 ∧ s.resident i core + b2n (s.loading i core) < s.share i core then s.emptySet core else none

/-- What takes a task from its core or its slot waits for the end of its exception chain or of a routine, and for FP Imprecise that is pending, which comes first; `due` and `note` say what waits (R146, R197, R220, Table 07-10). -/
def State.whenFree (s : State) (core set due : Nat) (note : Ctx → Ctx) (act : State → State) : State :=
  let c := s.ctx core set
  let noted := s.onCtx core set (fun c => { note c with due := c.due ||| due })
  if c.run = .trapped ∨ c.routine.isSome ∨ (c.run = .trapWait ∧ c.regs.pend ≠ 0) then noted
  else if c.regs.pend ≠ 0 then noted.enterTrap core set ⟨9, 0, 0⟩ 0
  else act s

/-- A MOVE of a task to a core may be performed (R220, R338). -/
def State.canMove (s : State) (core set target : Nat) : Bool :=
  let c := s.ctx core set
  target != core && decide (target < s.workCores) && !(s.core target).retired && decide (0 < s.share c.inst target) && (c.regs.encl == 0 || s.enclCore target)

/-- The task is on its way to another core: what it waits for is discarded, but for what is sent only once (R231). -/
def Ctx.depart (c : Ctx) (target now : Nat) : Ctx :=
  { c with
    run := .leaving, resv := none, sent := false, since := now, target := some target, waiting := c.run == .waitEvent, trap := none
    bars := []
    await := match c.await with | .line _ _ _ => Await.none | .iobar => Await.none | .cipher => Await.none | .block _ _ => Await.none | a => a }

/-- Migration step 1: issue stops, pending FP Imprecise first; in-flight cacheable loads are discarded (R231). -/
def State.startMove (s : State) (core set target : Nat) (byDec : Bool) : State :=
  s.whenFree core set 8 (fun c => { c with target := some target, byDecimal := byDec })
    (fun s => ((s.endGroup core set).dropAwait core set).onCtx core set (fun c => { c.depart target s.now with byDecimal := byDec }))

/-- END, once nothing comes before it (R220). -/
def State.endWhen (s : State) (core set : Nat) : State := s.whenFree core set 4 id (fun s => s.endTask core set)

/-- STOP, or with `due` 0x40 a watchdog stop, once nothing comes before it (R220, R227). -/
def State.stopWhen (s : State) (core set due : Nat) : State := s.whenFree core set due id (fun s => s.stopTask core set)

/-- STATE of DSTATE for a task that leaves residence: READY or WAITING (Table 07-4). -/
def Ctx.outState (c : Ctx) : Nat := if c.run = .waitEvent then 2 else 1

/-- The task leaves residence, once nothing comes before it (R104). -/
def State.leaveWhen (s : State) (core set : Nat) : State := s.whenFree core set 0x80 id (fun s => s.saveOr core set core (s.ctx core set).outState)

/-! ### The quantum (R226, R227) -/

/-- The holder of the other issue slot. -/
def State.peer (s : State) (core set : Nat) : Option Nat := if (s.core core).slot0 = some set then (s.core core).slot1 else (s.core core).slot0

/-- The next ready task of a holder's priority without a slot, in ascending set number after the one served last; a routine in the other slot lets no other context start (R146, R226). -/
def State.rotation (s : State) (core set : Nat) : Option Nat :=
  minBy (fun k => (k + 127 - (s.core core).lastSet) % 128) ((s.readySets core).filter (fun k =>
    decide (k < 64) && (s.ctx core k).prio == (s.ctx core set).prio && !s.holdsSlot core k &&
      (match s.peer core set with | some o => (s.ctx core o).routine.isNone || s.context core o == s.context core k | none => true)))

/-- A slot passes from a set to another; a holder of another context is released too, after FP Imprecise that it has pending (R197, R226, R337). -/
def State.rotate (s : State) (core set k : Nat) : State :=
  let drop := (s.peer core set).filter (fun o => s.context core o != s.context core k)
  match drop.filter (fun o => (s.ctx core o).regs.pend != 0) with
  | some o => s.takeException core o ⟨9, 0, 0⟩ 0
  | none =>
    let s := s.leaveSlot core set
    let s := match drop with | some o => s.leaveSlot core o | none => s
    let put := fun (x : Option Nat) => if x = some set then some k else if x = drop then none else x
    let s := s.onCore core (fun c => { c with slot0 := put c.slot0, slot1 := put c.slot1, lastSet := k })
    (s.onCtx core k (fun c => { c with used := 0 })).setContext core (s.context core k)

/-- The quantum of a slot holder has expired: the slot passes on; pending FP Imprecise comes first (R197, R226). -/
def State.quantumEnd (s : State) (core set : Nat) : State :=
  match s.rotation core set with
  | none => s.onCtx core set (fun c => { c with used := 0 })
  | some k => if (s.ctx core set).regs.pend ≠ 0 then s.takeException core set ⟨9, 0, 0⟩ 0 else s.rotate core set k

/-- What waited for the end of a task's exception chain or routine (R146, R227, Table 07-10). -/
def State.dueActs (s : State) (core set : Nat) : State :=
  let c := s.ctx core set
  let d := c.due
  let s := s.onCtx core set (fun c => { c with due := 0 })
  if bit d 2 then s.endWhen core set
  else if bit d 1 then s.stopWhen core set 2
  else if bit d 6 then s.stopWhen core set 0x40
  else if bit d 3 then (match c.target with | some t => s.startMove core set t c.byDecimal | none => s)
  else if bit d 7 then s.leaveWhen core set
  else if bit d 8 && s.holdsSlot core set then s.quantumEnd core set
  else s

/-- YIELD in a trap set ends the handler: the trapped task resumes at XPC with XTSW (R180). -/
def State.endHandler (s : State) (core t : Nat) : State :=
  let h := s.ctx core t
  let s := s.endGroup core t
  let s := (s.onCtx core t (fun c => { regs := { g := c.regs.g } })).onCore core (fun c => { c with chain := c.chain.filter (· != t), fifth := none })
  let s := s.onCtx core h.serves (fun c => { c with run := .ready, regs := { c.regs with pc := h.regs.xpc, tsw := word (setBits h.regs.xtsw.toNat 31 31 (b2n c.regs.fpa)) } })
  let s := s.endGroup core h.serves
  let s := if h.serves < 64 then s.dueActs core h.serves else s
  (s.releaseTrap core).resched core

/-! ### Watchdog, CONTROL and wake hints (R220, R223, R224, R227) -/

/-- The resident task of a TID on a core. -/
def State.findTid (s : State) (core tid : Nat) : Option Nat :=
  ((s.ctxs.between (core * 128) (core * 128 + 64)).find? (fun p => p.2.run != .empty && p.2.tid == tid)).map (fun p => p.1 % 128)

/-- The Drover acts on CONTROL in the order END, STOP, PRIO_SET, MOVE and clears each bit (R220). -/
def State.controlAct (s : State) (core set : Nat) : State :=
  let c := s.ctx core set
  let w := s.tsaGet c.tid 0x08
  let act := bits w 4 1
  if act = 0 then s
  else
    let s := s.tsaPut c.tid 0x08 (setBits w 4 1 0)
    let s := if bit w 4 then (s.onCtx core set (fun c => { c with prio := bits w 10 8 })).tsaPut c.tid 0x10 (setBits (s.tsaGet c.tid 0x10) 10 8 (bits w 10 8)) else s
    if bit w 2 then s.endWhen core set
    else if bit w 1 then s.stopWhen core set 2
    else if bit w 3 && s.canMove core set (bits w 22 16) then s.startMove core set (bits w 22 16) false
    else s

/-- W = POSTED AND NOT IMASK of a resident task (R224). -/
def State.wakeBits (s : State) (core set : Nat) : Nat :=
  let c := s.ctx core set
  (s.tsaGet c.tid 0x18 % 16) &&& (15 - c.regs.imask)

/-- Clear POSTED bits. -/
def State.clearPosted (s : State) (tid m : Nat) : State := let p := s.tsaGet tid 0x18; s.tsaPut tid 0x18 (p - (p &&& m))

/-- A task in WAIT_EVENT becomes READY if a hint makes W nonzero (R224). -/
def State.wake (s : State) (core set : Nat) : State :=
  let w := s.wakeBits core set
  if (s.ctx core set).run = .waitEvent ∧ w ≠ 0 then
    (((s.clearPosted (s.ctx core set).tid w).onCtx core set (fun c => { c with run := .ready, since := s.now })))
  else s

/-- A non-resident task enters the swap queue of its core, unless it is in it; while its instance is not RUNNING, or holds no set there, it waits in it (R104, R229). -/
def State.enqueue (s : State) (core tid : Nat) : State :=
  let st := s.tsaGet tid 0x10
  let c := s.core core
  if c.swapq.any (fun q => q.1 == tid) ∨ (st % 16 ≠ 1 ∧ st % 16 ≠ 2) then s
  else if 4096 ≤ c.swapq.length then s.onCore core (fun c => { c with hints := c.hints ++ [tid] })
  else
    let before := c.swapq.filter (fun q => q.2.1 ≤ bits st 10 8)
    let after := c.swapq.filter (fun q => bits st 10 8 < q.2.1)
    s.onCore core (fun c => { c with swapq := before ++ [(tid, bits st 10 8, s.now)] ++ after })

/-- The swap-in under way on a core is given up, and its task waits in the queue again. -/
def State.cancelSwap (s : State) (core : Nat) : State :=
  match (s.core core).swapping with
  | none => s
  | some (_, tid) => (s.onCore core (fun c => { c with swapping := none })).enqueue core tid

/-- The watchdog of a resident task expires: it is disarmed, and its guardian is told of the stop (R227). -/
def State.watchdog (s : State) (core set : Nat) : State :=
  let c := s.ctx core set
  let s := s.onCtx core set (fun c => { c with regs := { c.regs with wdt := 0 } })
  if c.guardian = c.tid then s.post c.tid 0 1 c.tid
  else (((s.post c.guardian 0 2 c.tid).stopWhen core set 0x40)).resched core

/-- A task's deadline has come: any event stamped now finds its watchdog expired (R39, R227). -/
def State.overdue (s : State) (core set : Nat) : Bool :=
  let c := s.ctx core set
  decide (set < 64) && c.regs.wdt != 0 && decide (c.regs.wdt ≤ s.now) && c.run != .empty && c.run != .leaving

/-- A watchdog whose deadline has come expires before anything else happens to its task (R39, R227, R228). -/
def State.expireWdt (s : State) (core set : Nat) : State := if s.overdue core set then s.watchdog core set else s

/-- A wake hint reaches a core (R220, R224, R229, R378, R413). -/
def State.wakeHint (s : State) (core tid ev : Nat) : State :=
  let c := s.core core
  if s.workCores ≤ core then s
  else if c.sparing.isSome ∨ c.reset.isSome then s.onCore core (fun c => { c with hints := c.hints ++ [tid] })
  else
    match s.findTid core tid with
    | some k =>
      if (s.ctx core k).run = .leaving then s
      else
        let s := s.expireWdt core k
        if (s.ctx core k).run = .empty then s
        else
          let s := if ev = 1 then s.controlAct core k else s
          (s.wake core k).resched core
    | none => s.enqueue core tid

/-! ### Placing a task (R218, R229, R231) -/

/-- Registers loaded from a save area's words: specials from 0x028, G from 0x100 (Table 07-2). -/
def loadRegs (sp g : List TWord) : Regs :=
  let d := fun k => (sp.getD k {}).datum
  { g := Vector.ofFn (fun k : Fin 32 => if k.val = 0 then ⟨0, Tag.int⟩ else g.getD k.val {}), evq := d 0, pc := d 1, tsw := d 2, qtm := d 3, wdt := (d 4).toNat, fpsr := d 5,
    fpxa := d 6, toa := bit (d 7).toNat 0, cyc := (d 8).toNat }

/-- Load a task into a set with what the hub holds for it, read POSTED and CONTROL, and write STATE = RESIDENT (R219, R220, R231 step 5, R335). -/
def State.placeTask (s : State) (core set tid : Nat) : Except XFlt State := do
  let i := tidInst tid
  let a := s.tsa tid
  let h ← s.readWords i 0 a 5
  let sp ← s.readWords i 0 (a + 0x28) 9
  let g ← s.readWords i 0 (a + 0x100) 32
  let ds := (h.getD 2 {}).datum.toNat
  let e := (loadRegs sp g).encl
  let k := (sp.getD 1 {}).datum.toNat % 64
  let r ← if e = 0 then pure (loadRegs sp g)
    else do
      let b := (s.encl i e).esa + k * 0x1000
      let sp' ← s.readWords i e (b + 0x30) 8
      let g' ← s.readWords i e (b + 0x100) 32
      pure { loadRegs (sp.getD 0 {} :: sp') g' with tsw := (loadRegs sp g).tsw, qtm := (loadRegs sp g).qtm, wdt := (loadRegs sp g).wdt, cyc := (loadRegs sp g).cyc }
  let cls := s.evalClass tid (bits (h.getD 1 {}).datum.toNat 25 24)
  let fr := s.fresh.contains tid
  let aw := s.outcomes.getD tid .none
  let kp := s.kept.getD tid {}
  let s : State := { s with fresh := s.fresh.filter (· != tid), outcomes := s.outcomes.del tid, kept := s.kept.del tid }
  let c : Ctx := { run := if ds % 16 = 2 ∨ (ds % 16 = 4 ∧ kp.waiting) then .waitEvent else .ready, regs := r, inst := i, tid := tid, prio := bits ds 10 8, cls := cls, fsaved := bit ds 11,
                   guardian := (h.getD 4 {}).datum.toNat, cairn := r, since := s.now, issued := s.now, await := aw, sent := aw != .none, thread := k, fresh := fr,
                   byDecimal := kp.byDecimal, info := kp.info, saveFault := kp.saveFault, fpUnavail := kp.fpUnavail, replies := kp.replies, routine := kp.routine }
  let s := s.onCtx core set (fun _ => c)
  let s ← s.hubPut i 0 (a + 0x10) (TWord.int (word (dstate core cls (bit ds 11) (bits ds 10 8) 0 3)))
  pure ((((s.wake core set).controlAct core set).expireWdt core set).resched core)

/-- The set a queued task takes: a free one, or the set of a victim of its instance (R228, R229). -/
def State.victim (s : State) (core i prio : Nat) : Option Nat :=
  let mine := (s.ctxs.between (core * 128) (core * 128 + 64)).filter (fun p => p.2.inst == i && p.2.regs.wdt == 0 && p.2.regs.pend == 0)
  match minBy (fun p => (7 - p.2.prio) * 2 ^ 80 + p.2.since) (mine.filter (fun p => p.2.run == .waitEvent)) with
  | some p => some (p.1 % 128)
  | none => (minBy (fun p => p.2.issued) (mine.filter (fun p => p.2.run == .ready && prio < p.2.prio && !s.holdsSlot core (p.1 % 128)))).map (fun p => p.1 % 128)

/-- The first queued task that can be placed, with its set and whether a victim must leave it (R229). -/
def State.placeable (s : State) (core : Nat) : List (Nat × Nat × Nat) → Option (Nat × Nat × Bool)
  | [] => none
  | (tid, prio, _) :: t =>
    let i := tidInst tid
    match s.freeTaskSet i core with
    | some k => some (tid, k, false)
    | none =>
      if s.share i core = 0 ∨ (s.inst i).state ≠ 2 then State.placeable s core t
      else
        match s.victim core i prio with
        | some k => some (tid, k, true)
        | none => State.placeable s core t

/-- The Drover picks the first placeable queued task; a victim is saved first (R229). -/
def State.swapIn (s : State) (core : Nat) : State :=
  match s.placeable core (s.core core).swapq with
  | none => s
  | some (tid, k, evict) =>
    let s := if evict then s.saveOr core k core (if (s.ctx core k).run = .waitEvent then 2 else 1) else s
    if (s.ctx core k).run ≠ .empty then s
    else
      s.onCore core (fun c => { c with swapping := some (k, tid), swapq := c.swapq.filter (fun q => q.1 != tid) })

/-- Hints the hub held because the queue was full enter it (R229). -/
def State.refill (s : State) (core : Nat) : State :=
  match (s.core core).hints with
  | [] => s
  | t :: ts => if (s.core core).swapq.length < 4096 then (s.onCore core (fun c => { c with hints := ts })).wakeHint core t 4 else s

/-- The swap-in under way completes: the task is loaded and READY; a load that faults leaves it non-resident (R229). -/
def State.swapDone (s : State) (core : Nat) : State :=
  match (s.core core).swapping with
  | none => s
  | some (k, tid) =>
    let s := s.onCore core (fun c => { c with swapping := none })
    match s.placeTask core k tid with
    | .ok s => s.refill core
    | .error _ => s.freeSet core k

/-! ### Event posts (R223) -/

/-- SIZE of an event queue is valid: LOG2 4 to 16 and other bits 0 (Table 07-6). -/
def evqSizeOk (z : Nat) : Bool := decide (4 ≤ z) && decide (z ≤ 16)

/-- The entry of a post (Table 07-6). -/
def Post.entry (p : Post) : List Byte := beBytes 1 (p.ev + 1) ++ beBytes 1 p.cause ++ beBytes 2 0 ++ beBytes 4 p.source ++ beBytes 8 p.tod

/-- Step 1 of a post: write the entry and advance TAIL, or set OVF (R223). -/
def State.postEntry (s : State) (i q : Nat) (p : Post) : Except XFlt State := do
  let h ← s.readWords i 0 q 4
  let d := fun k => (h.getD k {}).datum.toNat
  let n := 2 ^ d 2
  if evqSizeOk (d 2) ∧ (d 1 + 1) % n ≠ d 0 % n then do
    let s ← s.hubPuts i 0 (q + 0x40 + 16 * (d 1 % n)) (bytesWords p.entry)
    s.hubPut i 0 (q + 8) (TWord.int (word ((d 1 + 1) % n)))
  else s.hubPut i 0 (q + 0x18) (TWord.int (word (d 3 ||| 2 ^ p.ev)))

/-- Steps 2 and 3 of a post: POSTED and the wake hint (R223). -/
def State.postWake (s : State) (p : Post) : State :=
  let s := s.tsaPut p.tid 0x18 (s.tsaGet p.tid 0x18 ||| 2 ^ p.ev)
  s.wakeHint (bits (s.tsaGet p.tid 0x10) 22 16) p.tid p.ev

/-- The hub's event writer makes one post, or discards it (R223); one to a RESETTING instance meets its fence (R113). -/
def State.makePost (s : State) (p : Post) : State :=
  if (s.inst (tidInst p.tid)).state = 3 then s else
  match s.tsaWord p.tid 0 with
  | .error _ => s.countA 0xFF0C
  | .ok w =>
    if w.datum.toNat ≠ p.tid then s.countA 0xFF0C
    else
      let q := s.tsaGet p.tid 0x28
      if q = 0 then s.postWake p
      else
        match s.postEntry (tidInst p.tid) q p with
        | .ok s => s.postWake p
        | .error _ =>
          let s := match s.hubWord (tidInst p.tid) 0 (q + 0x18) with
            | .ok w => (match s.hubPut (tidInst p.tid) 0 (q + 0x18) (TWord.int (word (w.datum.toNat ||| 2 ^ p.ev))) with | .ok s => s | .error _ => s)
            | .error _ => s
          ((s.tsaPut p.tid 0x70 (s.tsaGet p.tid 0x70 ||| 2 ^ p.ev)).countB 0xFF0C).postWake p

/-! ### Creation (R218) -/

/-- A word of the TSA has the tag that MTS to its register accepts (R218). -/
def creationTags (h sp : List TWord) : Bool :=
  (h.drop 1).all (fun w => w.type == 1) && (sp.getD 0 {}).type == (if (sp.getD 0 {}).datum = 0 ∧ (sp.getD 0 {}).type = 1 then 1 else 2) &&
    [2, 3, 4, 5, 7, 8].all (fun k => (sp.getD k {}).type == 1)

/-- A written CONTROL, TSW, QTM, WDT, FPSR and AUTH hold no reserved field and no reserved value (R218 REASON 0x2). -/
def State.creationFields (s : State) (tid ctl : Nat) (sp : List TWord) : Bool :=
  let d := fun k => (sp.getD k {}).datum.toNat
  let miss := bits (d 3) 31 16
  ctl / 2 ^ 26 == 0 && bits ctl 25 24 != 3 && bits ctl 23 23 == 0 && bits ctl 15 11 == 0 && bits ctl 7 6 == 0 &&
    decide (bits ctl 22 16 < s.workCores) && decide (0 < s.share (tidInst tid) (bits ctl 22 16)) && !(s.core (bits ctl 22 16)).retired &&
    bits (d 0) 5 0 == 0 && bits (d 2) 61 60 == 0 && bits (d 2) 47 36 == 0 && bits (d 2) 30 29 == 0 && bits (d 2) 19 0 == 0 &&
    decide (d 3 < 2 ^ 32) && (miss == 0 || decide (64 ≤ miss)) &&
    bits (d 5) 63 31 == 0 && decide (bits (d 5) 30 28 ≤ 4) && bits (d 5) 27 27 == 0 && decide (bits (d 5) 26 24 ≤ 4) && bits (d 5) 23 22 == 0 && bits (d 5) 15 13 == 0 && bits (d 5) 7 5 == 0 &&
    decide (d 7 < 2)

/-- REASON of a refused creation, in the order of the codes (R218, Table 07-4). -/
def State.creationReason (s : State) (tid : Nat) (h sp : List TWord) : Nat :=
  let d := fun k => (sp.getD k {}).datum.toNat
  if (h.getD 0 {}).type ≠ 1 ∨ (h.getD 0 {}).datum.toNat ≠ tid then 1
  else if !creationTags h sp ∨ !s.creationFields tid (h.getD 1 {}).datum.toNat sp then 2
  else if (sp.getD 1 {}).type ≠ 2 ∨ d 1 % 4 ≠ 0 then 3
  else if bit (d 2) 62 ∨ bits (d 2) 59 48 ≠ 0 then 4
  else if (h.getD 4 {}).datum.toNat / 65536 ≠ tidInst tid then 5
  else 0

/-- A SIGNAL with RUN set creates or restarts the task: it is checked, its TSA brought to its starting values, and it enters the swap queue (R218). -/
def State.createTask (s : State) (tid from_ : Nat) (auth : Bool) : State :=
  let i := tidInst tid
  let a := s.tsa tid
  match s.readWords i 0 a 5, s.readWords i 0 (a + 0x28) 9 with
  | .ok h, .ok sp =>
    let ctl := (h.getD 1 {}).datum.toNat
    let ds := (h.getD 2 {}).datum.toNat
    let old := ds % 16
    if !bit ctl 0 ∨ !([0, 5, 6, 7].contains old) then s
    else
      let why := s.creationReason tid h sp
      let s := s.tsaPut tid 0x08 (setBits ctl 5 0 0)
      if why ≠ 0 then (s.tsaPut tid 0x10 (setBits (setBits ds 7 4 why) 3 0 7)).post from_ 1 2 tid
      else
        let d := fun k => (sp.getD k {}).datum.toNat
        let fs := if old = 5 then bit ds 11 else bit ctl 5
        let s := s.tsaPut tid 0x10 (dstate (bits ctl 22 16) (s.evalClass tid (bits ctl 25 24)) fs (bits ctl 10 8) 0 1)
        let s := s.tsaPut tid 0x38 (setBits (d 2) 31 31 0)
        let s := s.tsaPut tid 0x50 (setBits (d 5) 21 16 0)
        let s := match s.hubPut i 0 (a + 0x58) (TWord.ptr 0) with | .ok s => s | .error _ => s
        let s := s.tsaPut tid 0x60 (b2n (bit (d 7) 0 && auth))
        let s := s.tsaPut tid 0x68 (if old = 5 then d 8 else 0)
        { s with fresh := s.fresh ++ [tid], kept := if old = 5 then s.kept.upd tid {} (fun k => { info := k.info }) else s.kept.del tid }.enqueue (bits ctl 22 16) tid
  | _, _ => (s.post from_ 1 3 tid).countA 0xFF0C

/-! ### Decimal placement and core removal (R105, R203, R230) -/

/-- Counting-house cores the instance may go to, in ascending order (R105, R230, R338). -/
def State.decimalCores (s : State) (i e : Nat) : List Nat :=
  (List.range s.chCores).filter (fun n => decide (0 < s.share i n) && !(s.core n).retired && (e == 0 || s.enclCore n))

/-- The target of decimal placement: the lowest counting-house core with a free set, else the lowest with sets (R230). -/
def State.decimalTarget (s : State) (i e : Nat) : Option Nat :=
  match (s.decimalCores i e).find? (fun n => (s.freeTaskSet i n).isSome) with
  | some n => some n
  | none => (s.decimalCores i e).head?

/-- The target of core removal: the instance's core with the most free sets, ties to the lowest (R230). -/
def State.removalTarget (s : State) (i core : Nat) (byDec : Bool) (e : Nat) : Option Nat :=
  let all := (List.range s.workCores).filter (fun n => n != core && decide (0 < s.share i n) && !(s.core n).retired && (e == 0 || s.enclCore n))
  let ch := all.filter (fun n => n < s.chCores)
  minBy (fun n => 1000 - (s.share i n - s.resident i n)) (if byDec && !ch.isEmpty then ch else all)

/-! ### Failure of a path behind IOBAR (R262) -/

/-- An outstanding store of a task on a path (R262). -/
def DevStore.isOn (d : DevStore) (tid : Nat) (p : Nat × Nat) : Bool := d.tid == tid && d.kind == p.1 && d.num == p.2

/-- A flushing read on a path. -/
def Bar.isOn (b : Bar) (p : Nat × Nat) : Bool := b.kind == p.1 && b.num == p.2

/-- I/O Store Failed on a path: its outstanding stores are dropped from the task's count, and flushing reads on other paths go on (R262, Table 05-8). Pending FP Imprecise is taken in its place (R197). -/
def State.ioFail (s : State) (core set : Nat) (p : Nat × Nat) (down : Bool) : State :=
  let c := s.ctx core set
  let s := s.onCtx core set (fun c => { c with await := .none, run := .ready })
  if c.regs.pend ≠ 0 then s.takeException core set ⟨9, 0, 0⟩ 0
  else
    let a := match s.devStores.find? (fun d => d.isOn c.tid p) with | some d => d.addr | none => 0
    let s := s.onCtx core set (fun c => { c with bars := c.bars.filter (fun b => !b.isOn p) })
    ({ s with devStores := s.devStores.filter (fun d => !d.isOn c.tid p) }).takeException core set ⟨0xD, a, p.2 + p.1 * 256 + b2n down * 65536⟩ 0

/-- The task's IOBAR waits on a path. -/
def Ctx.barOn (c : Ctx) (p : Nat × Nat) : Bool := c.await == .iobar && c.bars.any (fun b => b.isOn p) && (c.run == .ready || c.run == .waitBar)

/-- A path goes down: every IOBAR that waits on it fails at once (R262). -/
def State.failBars (s : State) (p : Nat × Nat) : State :=
  ((s.ctxs.filter (fun c => c.2.barOn p)).map (·.1)).foldl (fun s k => s.ioFail (k / 128) (k % 128) p true) s

/-! ### Rows of the Drover -/

/-- The posts that wait for one TSA are made, oldest first (R223). -/
def State.makePosts (s : State) (tid : Nat) : State :=
  let mine := s.posts.filter (fun p => p.tid == tid)
  mine.foldl (fun s p => s.makePost p) { s with posts := s.posts.filter (fun p => p.tid != tid) }

/-- The hub holds a post for a task whose logical core is being spared (R378). -/
def State.postHeld (s : State) (p : Post) : Bool := (s.core (bits (s.tsaGet p.tid 0x10) 22 16)).sparing.isSome

/-- EVENT_POST: the event writer makes its oldest post that is not held (R223, R378). -/
def execEventPost (s : State) : Out :=
  match s.posts.find? (fun p => !s.postHeld p) with
  | none => .next s
  | some p => when s.runs s ({ s with posts := s.posts.erase p }.makePost p)

/-- TASK_CREATION: the oldest SIGNAL that may create a task (R218). -/
def execTaskCreation (s : State) : Out :=
  match s.creations with
  | [] => .next s
  | (tid, from_, auth) :: t => when s.runs s ({ s with creations := t }.createTask tid from_ auth)

/-- SWAP_IN (R229). -/
def execSwapIn (core : Nat) (s : State) : Out :=
  let c := s.core core
  when (s.runs && c.swapping.isNone && c.sparing.isNone && c.reset.isNone && c.gated == 0 && !c.retired) s (s.swapIn core)

/-- SWAP_IN_COMPLETE (R229). -/
def execSwapInComplete (core : Nat) (s : State) : Out := when s.runs s (s.swapDone core)

/-- QUANTUM_EXPIRY: the slot passes to the next ready task of the priority, after a routine in execution (R146, R226, R227). -/
def execQuantumExpiry (core slot : Nat) (s : State) : Out :=
  match (if slot = 0 then (s.core core).slot0 else (s.core core).slot1) with
  | none => .next s
  | some set =>
    let c := s.ctx core set
    when (s.runs && decide (set < 64) && bits c.regs.qtm.toNat 15 0 != 0 && c.run == .ready) s
      (if c.routine.isSome then s.onCtx core set (fun c => { c with due := c.due ||| 0x100 }) else s.quantumEnd core set)

/-- WATCHDOG_EXPIRY: TOD reaches the deadline of a resident task (R39, R227). -/
def execWatchdogExpiry (core set : Nat) (s : State) : Out :=
  let c := s.ctx core set
  when (s.runs && decide (set < 64) && c.run != .empty && c.run != .leaving && c.regs.wdt != 0) s ((s.advanceTo c.regs.wdt).watchdog core set)

end Sys2Proof.Machine
end

