-- ==== Sys2Proof/Machine/Sparing.lean ====
section
/-! DEFINITION. Moving tasks off a core, migration, core retry, sparing onto Outriders and retirement, and the standby self-tests of cores (R104, R219, R230, R231, R373 to R381, R385, R386, R413). -/
namespace Sys2Proof.Machine

/-! ### Moving tasks off a core (R104, R230, R381) -/

/-- Occupied task sets of a core, of one instance. -/
def State.setsOf (s : State) (i core : Nat) : List Nat :=
  ((s.ctxs.between (core * 128) (core * 128 + 64)).filter (fun p => p.2.run != .empty && p.2.inst == i)).map (fun p => p.1 % 128)

/-- Non-resident tasks of an instance whose home is the core: their TSAs say so (R216). -/
def State.homedTids (s : State) (i core : Nat) : List Nat :=
  ((List.range 65536).map (fun k => i * 65536 + k)).filter (fun t =>
    match s.tsaWord t 0, s.tsaWord t 0x10 with
    | .ok h, .ok d => h.type == 1 && h.datum.toNat == t && d.type == 1 && bits d.datum.toNat 22 16 == core && (d.datum.toNat % 16 == 1 || d.datum.toNat % 16 == 2)
    | _, _ => false)

/-- A non-resident task takes another home; its place in the swap queue, or the wake hint held for it, follows it (R104, R230). -/
def State.rehome (s : State) (core tid target : Nat) : State :=
  let queued := (s.core core).swapq.any (fun q => q.1 == tid) || (s.core core).hints.contains tid
  let s := s.tsaPut tid 0x10 (setBits (s.tsaGet tid 0x10) 22 16 target)
  let s := s.onCore core (fun c => { c with swapq := c.swapq.filter (fun q => q.1 != tid), hints := c.hints.filter (· != tid) })
  if queued then s.enqueue target tid else s

/-- A task leaves residence, unless it is leaving already (R104). -/
def State.leaveTask (s : State) (core set : Nat) : State := if (s.ctx core set).run = .leaving then s else s.leaveWhen core set

/-- A resident task migrates to the instance's core that core removal names, once its exception chain has ended; with no such core it leaves residence (R104, R230). -/
def State.removeTask (s : State) (core set : Nat) : State :=
  let c := s.ctx core set
  if c.run = .leaving then s
  else
    match s.removalTarget c.inst core c.byDecimal c.regs.encl with
    | some t => s.startMove core set t c.byDecimal
    | none => s.leaveTask core set

/-- A swap-in under way for the instance is given up where the core has no set left for it (R104). -/
def State.cancelOver (s : State) (i core : Nat) : State :=
  if s.loading i core ∧ s.share i core < s.resident i core + 1 then s.cancelSwap core else s

/-- Tasks beyond a core's new count leave residence, lowest Drover priority first; among equals the choice is free (R104). -/
def State.shrink (i core : Nat) : Nat → State → State
  | 0, s => s.cancelOver i core
  | n + 1, s =>
    let s := s.cancelOver i core
    let here := (s.setsOf i core).filter (fun k => (s.ctx core k).run != .leaving && !bit (s.ctx core k).due 7)
    if here.length ≤ s.share i core then s
    else
      let low := (here.map (fun k => (s.ctx core k).prio)).foldl max 0
      let ks := here.filter (fun k => (s.ctx core k).prio == low)
      State.shrink i core n (s.drawn.leaveTask core (ks.getD (s.freeNat % ks.length) 0))

/-- The non-resident tasks of an instance homed on a core go to the core that core removal names for each (R104, R230). -/
def State.rehomeAll (s : State) (i core : Nat) : State :=
  (s.homedTids i core).foldl (fun s tid => match s.removalTarget i core (s.kept.getD tid {}).byDecimal (b2n (bit (s.tsaGet tid 0x38) 62)) with
    | some t => s.rehome core tid t
    | none => s) s

/-- The non-resident tasks of an instance still homed on a core being retired are STOPPED (R381). -/
def State.stopHomed (s : State) (i core : Nat) : State :=
  (s.homedTids i core).foldl (fun s tid => (s.tsaPut tid 0x10 (setBits (s.tsaGet tid 0x10) 3 0 5)).onCore core
    (fun c => { c with swapq := c.swapq.filter (fun q => q.1 != tid), hints := c.hints.filter (· != tid) })) s

/-- The tasks of an instance leave a core on which it holds no more task sets (R104). -/
def State.removeFrom (s : State) (i core : Nat) : State :=
  let s := s.cancelOver i core
  let s : State := (s.setsOf i core).foldl (fun s k => s.removeTask core k) s
  (s.rehomeAll i core).resched core

/-! ### Migration (R231) -/

/-- Step 3 and 4: buffered stores are performed, the TSA written with STATE = MIGRATING, and MOVE sent; the hub keeps what the task has sent. -/
def State.moveOut (s : State) (core set t : Nat) : State :=
  let tid := (s.ctx core set).tid
  let s := (((s.core core).wb.filter (fun e => e.tid == tid && e.dev.isNone)).map (·.addr)).foldl (fun s la => State.drainGo core la (s.core core).wb.length s) s
  let c := s.ctx core set
  let s := if c.regs.encl = 0 then s else s.holdCore t
  match s.saveTask core set t 4 with
  | .error f => s.onCtx core set (fun c => c.saveFailed f)
  | .ok s =>
    (s.onCtx core set (fun _ => { run := .leaving, inst := c.inst, tid := c.tid, prio := c.prio, cls := c.cls, target := some t, waiting := c.waiting, sent := true, since := s.now })).onCore core
      (fun k => { k with forward := (c.tid, t) :: k.forward })

/-- Steps 5 and 6: the task becomes resident on its new core where a set is free, else non-resident there, WAITING if it waited for events; a bit in POSTED counts as a hint forwarded (R104, R224, R231). -/
def State.moveIn (s : State) (core set t : Nat) : State :=
  let c := s.ctx core set
  let away := fun (s : State) =>
    let s := s.tsaPut c.tid 0x10 (setBits (s.tsaGet c.tid 0x10) 3 0 (if c.waiting then 2 else 1))
    if c.waiting && s.tsaGet c.tid 0x18 % 16 == 0 then s else s.enqueue t c.tid
  let s : State := match (if (s.core t).sparing.isSome || (s.core t).retired then none else s.freeTaskSet c.inst t) with
    | some k =>
      (match s.placeTask t k c.tid with
       | .ok s => s
       | .error _ => away s)
    | none => away s
  let s := (s.freeSet core set).onCore core (fun k => { k with forward := k.forward.filter (fun f => f.1 != c.tid) })
  (s.refill core).resched core

/-- MIGRATION_MOVE: the old core saves the task and sends MOVE (R231). -/
def execMigrationMove (core set : Nat) (s : State) : Out :=
  match (s.ctx core set).target with
  | some t => when (s.runs && decide (set < 64) && (s.ctx core set).run == .leaving && !(s.ctx core set).sent) s (s.moveOut core set t)
  | none => .next s

/-- A CORE_ASSIGN that waits for migrations off a core ends when the last has passed its fence (R104). -/
def State.assignDone (s : State) (core : Nat) : State :=
  match (s.core core).assignWin with
  | none => s
  | some w =>
    let i := fld (s.mreq w).body 0 2
    if (s.setsOf i core).length ≤ s.share i core then
      (s.onCore core (fun k => { k with assignWin := none })).endMb w stOk []
    else s

/-- MIGRATION_ARRIVED: the new core has taken the task, and the old one discards its forwarding record (R231). -/
def execMigrationArrived (core set : Nat) (s : State) : Out :=
  match (s.ctx core set).target with
  | some t => when (s.runs && decide (set < 64) && (s.ctx core set).run == .leaving && (s.ctx core set).sent) s ((s.moveIn core set t).assignDone core)
  | none => .next s

/-- The class of a resident task evaluated again (R219). -/
def State.reclassSet (s : State) (key : Nat) : State :=
  let c := s.ctx (key / 128) (key % 128)
  if c.run = .empty ∨ 64 ≤ key % 128 then s
  else
    let n := s.evalClass c.tid (bits (s.tsaGet c.tid 0x08) 25 24)
    (s.onCtx (key / 128) (key % 128) (fun c => { c with cls := n })).tsaPut c.tid 0x10 (setBits (s.tsaGet c.tid 0x10) 13 12 n)

/-- The share epoch that holds TOD begins: weights last set come into force, and classes follow a COURIER_GRANT (R40, R46, R219). -/
def State.startEpoch (s : State) : State :=
  let s := (s.ctxs.filter (fun p => (s.inst p.2.inst).reclass)).foldl (fun s p => s.reclassSet p.1) s
  { s.onClock (fun c => { c with epoch := gridAt 40000 c.tod }) with
    insts := s.insts.map (fun p => (p.1, { p.2 with reclass := false, force := { p.2.set with cap := p.2.force.cap } })) }

/-- SHARE_EPOCH_START (R40, R46, R422). -/
def execShareEpochStart (s : State) : Out :=
  when s.runs s (if s.clock.epoch < gridAt 40000 s.now then s else s.advanceTo (gridNext 40000 s.now)).startEpoch

/-! ### Sparing (R377 to R381) -/

/-- An Outrider usable for a core: of the same kind, in STANDBY, its last completed self-test passed (R377, R386). -/
def State.usable (s : State) (ch : Bool) (p : Nat) : Bool := (s.pcore p).role == 2 && (s.pcore p).test == 1 && isChPhys p == ch

/-- The Outrider taken: the failing core's own die first, then the dies in ascending order (R377). -/
def State.pickOutrider (s : State) (phys : Nat) : Option Nat :=
  let d := phys / 20
  let die := fun (k : Nat) => (List.range 20).map (fun j => k * 20 + j)
  ((die d ++ ((List.range 4).filter (· != d)).flatMap die)).find? (s.usable (isChPhys phys))

/-- CAUSE of a health word for a cause of sparing (Tables 13-1, 13-6); 5 is a failed self-test of CORE_RESET (R413). -/
def spareCause (cause : Nat) : Nat := if cause = 3 then 4 else if cause = 4 then 0x0B else if cause = 5 then 3 else 1

/-- Every task whose Cairn holds an uncorrectable error is lost where Cairns are needed (R376). -/
def State.loseCairns (s : State) (core : Nat) : State :=
  ((s.ctxs.between (core * 128) (core * 128 + 68)).filter (fun p => p.2.run != .empty && p.2.cairnBad)).foldl (fun s p => s.restoreSet core (p.1 % 128)) s

/-- One task of a core being retired: it moves to another core of its instance, or is STOPPED (R381). -/
def State.retireTask (s : State) (core cause set : Nat) : State :=
  let c := s.ctx core set
  if c.run = .leaving then s
  else
    match s.removalTarget c.inst core c.byDecimal c.regs.encl with
    | some t => (s.dropAwait core set).onCtx core set (fun c => { c.depart t s.now with due := 0, info := some (0x11 + core * 256 + cause * 65536) })
    | none => (s.onCtx core set (fun c => { c with run := .ready, trap := none, due := 0 })).stopTask core set

/-- With no Outrider the logical core is retired (R381). -/
def State.retireCore (s : State) (core cause : Nat) : State :=
  let p := (s.core core).phys
  let s := (s.rollback core).loseCairns core
  let s := (s.core core).chain.foldl (fun s t => (s.dropAwait core t).onCtx core t (fun _ => {})) s
  let sets := ((s.ctxs.between (core * 128) (core * 128 + 64)).filter (fun p => p.2.run != .empty)).map (fun p => p.1 % 128)
  let moved := sets.filter (fun k => (s.removalTarget (s.ctx core k).inst core (s.ctx core k).byDecimal (s.ctx core k).regs.encl).isSome)
  let s := sets.foldl (fun s k => s.retireTask core cause k) s
  let holders := (s.insts.filter (fun q => decide (0 < q.2.sets.getD core 0))).map (·.1)
  let s := holders.foldl (fun s i => (s.rehomeAll i core).stopHomed i core) (s.cancelSwap core)
  let s := holders.foldl (fun s i => (s.onInst i (fun n => { n with sets := n.sets.put core 0 })).notify i 4 0 i 0x0A) s
  let s := ((s.flushUnits 2 p (p + 1)).dropUnits 0 p (p + 1)).dropUnits 1 p (p + 1)
  let s := s.onCore core (fun c => { c with retired := true, slot0 := none, slot1 := none, chain := [], fifth := none, tries := 0, swapping := none })
  let s := (s.onPCore p (fun k => { k with role := 4 })).setHealth (unitCode 1 p) 4 (spareCause cause)
  s.logSealed 3 (unitCode 1 p) [core, cause, moved.length, sets.length - moved.length]

/-- The hub fences the in-flight loads of a core being spared and discards their results: a load that waited for its line issues again (R378). A task that has left for another core is not of the core any more. -/
def Ctx.fenced (c : Ctx) : Ctx :=
  if c.run = .leaving then c
  else match c.await with
    | .line _ _ _ => { c with sent := false, await := .none, run := if c.run = .waitMem then .ready else c.run }
    | _ => { c with sent := false }

/-- Sparing begins: the core stops at its Cairns, and the Outrider aborts its own test (R378, R386). -/
def State.startSparing (s : State) (core cause : Nat) (win : Option Nat) : State :=
  let c := s.core core
  if c.sparing.isSome || c.retired then s
  else
    match s.pickOutrider c.phys with
    | none => s.retireCore core cause
    | some o =>
      let s := (s.rollback core).loseCairns core
      let s := (s.onPCore o (fun k => { k with testing := false })).onCore core
        (fun c => { c with sparing := some (o, cause), tries := 0, spareWin := win, firstErr := if cause = 1 then c.firstErr else s.now })
      { s with ctxs := s.ctxs.map (fun p => if p.1 / 128 = core then (p.1, p.2.fenced) else p) }

/-- The Outrider takes CACHE_CTL and the enclave enablement of the core it replaces, whose register is then as after a reset (R343, R378). -/
def State.passCacheCtl (s : State) (p o : Nat) : State :=
  let k := s.pcore p
  let s := s.onPCore p (fun k => { k with l1i := true, l1d := true, l2 := true, enclWays := false })
  let s := if k.enclWays then s.reserveWays o else s
  s.onPCore o (fun x => { x with l1i := k.l1i, l1d := k.l1d, l2 := k.l2, enclWays := k.enclWays })

/-- Sparing completes: the Outrider holds the logical core number and issues (R7, R378 to R380). -/
def State.sparingDone (s : State) (core : Nat) : State :=
  match (s.core core).sparing with
  | none => s
  | some (o, cause) =>
    let c := s.core core
    let p := c.phys
    let s := ((s.flushUnits 2 p (p + 1)).dropUnits 0 p (p + 1)).dropUnits 1 p (p + 1)
    let s := s.onCore core (fun c => { c with phys := o, sparing := none, tlb := [], hwins := [], fills := [], world := none, hints := [], retries := [], spareWin := none, injected := false })
    let s := s.passCacheCtl p o
    let s := (s.onPCore o (fun k => { k with role := 1 })).onPCore p (fun k => { k with role := 3, testing := cause == 4 })
    let s := (s.setHealth (unitCode 1 o) 0 0).setHealth (unitCode 1 p) (if cause = 4 then 3 else 4) (spareCause cause)
    let s : State := { s with ctxs := s.ctxs.map (fun q => if q.1 / 128 = core ∧ q.1 % 128 < 64 ∧ q.2.run ≠ .empty then (q.1, { q.2 with info := some (0x10 + core * 256 + cause * 65536) }) else q) }
    let s := (s.asInjected (c.injected && cause == 1) (fun s => s.logSealed 2 (unitCode 1 p) [core, p, o, cause, (s.now - c.firstErr) / 4])).countB (unitCode 1 p)
    let s := ((s.insts.filter (fun q => decide (0 < q.2.sets.getD core 0))).map (·.1)).foldl (fun s i => s.notify i 2 0 core o) (s.notify 512 2 0 core o)
    let s : State := match c.spareWin with | some w => s.endMb w stOk [] | none => s
    (c.hints.foldl (fun s t => s.wakeHint core t 1) s).resched core

/-- SPARING_COMPLETE (R378). -/
def execSparingComplete (core : Nat) (s : State) : Out := when (s.runs && (s.core core).sparing.isSome) s (s.sparingDone core)

/-- A retried group has ended: the retry is counted, and eight within an hour start sparing (R374). -/
def State.retryDone (s : State) (core : Nat) : State :=
  let c := s.core core
  if c.tries = 0 then s
  else
    let r := s.now :: c.retries.filter (fun t => decide (s.now < t + 3600 * secT))
    let s := s.onCore core (fun c => { c with tries := 0, retries := r, fifth := none, injected := false })
    if 8 ≤ r.length then s.startSparing core 2 none else s

/-- A check fails at retirement: the core rolls back, or is spared after a first execution and two retries in a row (R373, R374). -/
def State.checkFailure (s : State) (core check : Nat) : State :=
  let c := s.core core
  let h := [c.slot0, c.slot1].map (fun k => match k with
    | some k => ((s.ctx core k).tid, (s.ctx core k).regs.pc.toNat)
    | none => (0, 0))
  let s := s.onCore core (fun c => { c with firstErr := if c.tries = 0 then s.now else c.firstErr, injected := s.log.injected || (c.tries != 0 && c.injected) })
  if 2 ≤ c.tries then s.startSparing core 1 none
  else
    let s := (s.logRec 1 (unitCode 1 c.phys) ((h.map (·.1)) ++ (h.map (·.2)) ++ [check, c.tries + 1])).countA (unitCode 1 c.phys)
    (s.rollback core).onCore core (fun c => { c with tries := c.tries + 1 })

/-- The core retires instructions, so that its checks can fail (R373). -/
def State.coreChecks (s : State) (core : Nat) : Bool :=
  let c := s.core core
  s.runs && decide (core < s.workCores) && !c.retired && c.sparing.isNone && c.gated == 0 && (match c.reset with | some (_, _, _, wait) => wait | none => true)

/-- CORE_CHECK_FAILURE (R373). -/
def execCoreCheckFailure (core check : Nat) (s : State) : Out := when (s.coreChecks core) s (s.checkFailure core check)

/-! ### Self-tests of cores (R380, R385, R386) -/

/-- OUTRIDER_SELF_TEST: a test of an Outrider begins (R385). -/
def execOutriderSelfTest (phys : Nat) (s : State) : Out :=
  when (s.runs && (s.pcore phys).role == 2 && !(s.pcore phys).testing) s (s.onPCore phys (fun k => { k with testing := true }))

/-- The result of a core's self-test: an Outrider that fails becomes FAILED; a core spared by CORE_SPARE that passes becomes an Outrider (R380, R385). -/
def State.coreTested (s : State) (p : Nat) (pass : Bool) : State :=
  let k := s.pcore p
  if !k.testing then s
  else
    let s := s.onPCore p (fun k => { k with testing := false, test := if pass then 1 else 2, role := if pass then 2 else 3 })
    if pass then s.setHealth (unitCode 1 p) 2 0
    else (s.setHealth (unitCode 1 p) 4 3).logRec 0x12 (unitCode 1 p) [unitCode 1 p]

end Sys2Proof.Machine
end

