-- ==== Sys2Proof/Machine/Issue.lean ====
section
/-! DEFINITION. Issue and retirement of one instruction: fetch, the order of checks of Table 04-11, register operands, memory accesses, and the end of a retirement group (R121 to R131, R142, R162 to R171, R176, R178, R264, R371). -/
namespace Sys2Proof.Machine

/-- Where an instruction executes. -/
structure Env where
  core : Nat
  set : Nat
  /-- The instruction word (XINFO of Illegal Operation). -/
  w : Nat
  /-- AM of the leaf that mapped the fetched instruction (R257). -/
  am : Nat
  /-- Slot of a pair, for XVEC [6]. -/
  slot : Nat := 0
  /-- It is a micro-operation of a custom instruction, which nothing interrupts (R146). -/
  whole : Bool := false

/-- Why an instruction does not retire. -/
inductive Stop where
  /-- It raises an exception, at a slot of a pair. -/
  | fault (f : XFlt) (slot : Nat)
  /-- It waits; the state says for what. -/
  | wait
deriving DecidableEq, Repr

/-- The execution of an instruction. -/
abbrev M := EStateM Stop State

/-- Raise an exception. -/
def Env.fail {α : Type} (e : Env) (f : XFlt) : M α := throw (.fault f e.slot)

/-- Raise the exception a computation names. -/
def Env.lift {α : Type} (e : Env) : Except XFlt α → M α
  | .ok x => pure x
  | .error f => e.fail f

/-- The task of the instruction. -/
def Env.ctx (e : Env) : M Ctx := do return (← get).ctx e.core e.set

/-- Its registers. -/
def Env.regs (e : Env) : M Regs := do return ((← get).ctx e.core e.set).regs

/-- Change its registers. -/
def Env.setRegs (e : Env) (f : Regs → Regs) : M PUnit := modify (fun s => s.onCtx e.core e.set (fun c => { c with regs := f c.regs }))

/-- Write a G register. -/
def Env.setG (e : Env) (n : Nat) (w : TWord) : M PUnit := e.setRegs (fun r => r.setG n w)

/-- Tag-override authority (R121). -/
def authority (set : Nat) (r : Regs) : Bool := decide (64 ≤ set) || r.toa

/-! ### Register operands: step 7 of Table 04-11 -/

/-- A register operand: its word, its code in Table 05-8, the types accepted, and whether the instruction reads POISON (R126). -/
structure Opd where
  w : TWord
  no : Nat
  ok : List Nat
  poison : Bool := false
deriving DecidableEq, Repr

/-- The operand's type is accepted: any in Heritage state but SEAL, which needs its place in the list (R130, R340). -/
def Opd.accepted (o : Opd) (her : Bool) : Bool := o.ok.contains o.w.type || (her && o.w.type != 9)

/-- Tag found and operand code as XINFO [11:0] holds them. -/
def tagInfo (t : Tag) (no : Nat) : Nat := t.toNat + no * 256

/-- Tag Reserved over the operands in order, then Machine Check on POISON, then Tag Check (R126, R129, R142). -/
def checkTags (her : Bool) (os : List Opd) : Except XFlt PUnit :=
  match os.find? (fun o => decide (10 ≤ o.w.type)) with
  | some o => .error ⟨4, 0, tagInfo o.w.tag o.no⟩
  | none =>
    match os.find? (fun o => o.w.type == 8 && !o.poison) with
    | some o => .error (mcFault 3 0 o.w)
    | none =>
      match os.find? (fun o => !o.accepted her) with
      | some o => .error ⟨3, 0, tagInfo o.w.tag o.no⟩
      | none => .ok ()

/-- Types 0x0 to 0x9. -/
def anyType : List Nat := [0, 1, 2, 3, 4, 5, 6, 7, 8, 9]
/-- INT. -/
def tyInt : List Nat := [1]
/-- PTR. -/
def tyPtr : List Nat := [2]
/-- INT or RAW. -/
def tyIntRaw : List Nat := [0, 1]
/-- INT or PTR. -/
def tyIntPtr : List Nat := [1, 2]

/-- The tag of a result: RAW in Heritage state (R128, R131). -/
def resTag (her : Bool) (t : Tag) : Tag := if her then Tag.raw else t

/-- Check the operands of the instruction. -/
def Env.check (e : Env) (os : List Opd) : M PUnit := do
  let r ← e.regs
  e.lift (checkTags r.her os)

/-! ### Fetch (R126, R128, R130, R133, R173) -/

/-- The instruction word a fetch finds: one overwritten without an ISYNC by its writer is the old or the new one (R173). -/
def State.fetchWord (s : State) (tid wi : Nat) : State × TWord :=
  match s.ms.stale.find? (fun x => x.1 == wi && x.2.2 == tid) with
  | some x => (s.drawn, if s.freeBool then x.2.1 else s.wordNow wi)
  | none => (s, s.wordNow wi)

/-- Fetch at the PC of a set: the 32-bit word and the AM of its leaf (steps 1 and 8 of Table 04-11 for the fetch). -/
def State.fetchIns (s : State) (core set : Nat) : State × Except XFlt (Nat × Nat) :=
  let c := s.ctx core set
  let pc := c.regs.pc.toNat
  let s := s.inClass c.cls
  if pc % 4 ≠ 0 then (s, .error ⟨5, pc, 2⟩)
  else
    match s.translate core c.inst c.regs.encl 2 pc with
    | (s, .error f) => (s, .error f)
    | (s, .ok (ra, am)) =>
      match (s.fillFor 0 (s.core core).phys (ra / 256)).fetchWord c.tid (ra / 8) with
      | (s, w) =>
        if 10 ≤ w.type then (s, .error ⟨4, 0, tagInfo w.tag 0⟩)
        else if w.type = 8 then (s, .error (mcFault 2 (ra / 8) w))
        else if w.type = 6 ∨ (w.type = 0 ∧ c.regs.her) then
          (s, .ok (if ra % 8 = 4 then w.datum.toNat % 2 ^ 32 else w.datum.toNat / 2 ^ 32, am))
        else (s, .error ⟨3, 0, tagInfo w.tag 0⟩)

/-! ### Addresses and memory words: steps 8 and 9 -/

/-- The address in device space. -/
def inDev (ra : Nat) : Bool := decide (devBase ≤ ra)

/-- Alignment, the address mode and both stages; the real address (R163, R164, R257). -/
def Env.address (e : Env) (acc ea size : Nat) : M Nat := do
  if ea % size ≠ 0 then e.fail ⟨5, ea, acc⟩
  let c ← e.ctx
  let s ← get
  let a ← e.lift (s.formAddr e.core c.inst c.regs.her e.am acc ea)
  let r := s.translate e.core c.inst c.regs.encl acc a
  modify (fun _ => r.1)
  match r.2 with
  | .ok x => return x.1
  | .error f => e.fail (if f.vec = 0x3F then f else { f with xaddr := ea })

/-- Tag checks of a memory word: Tag Reserved, POISON for a load, type (R126, R129, R130, R340). -/
def memTags (her load : Bool) (ok : List Nat) (ea wi : Nat) (w : TWord) : Except XFlt PUnit :=
  if 10 ≤ w.type then .error ⟨4, ea, tagInfo w.tag 4⟩
  else if w.type = 8 && load then .error (mcFault 1 wi w)
  else if ok.contains w.type || (her && w.type != 9) then .ok ()
  else .error ⟨3, ea, tagInfo w.tag 4⟩

/-- Step 9 over the words of one access, each with its effective address and word number: Tag Reserved over all, then POISON, then type (R129, R142). -/
def memTagsAll (her load : Bool) (ok : List Nat) (ws : List (Nat × Nat × TWord)) : Except XFlt PUnit :=
  match ws.find? (fun x => decide (10 ≤ x.2.2.type)) with
  | some x => .error ⟨4, x.1, tagInfo x.2.2.tag 4⟩
  | none =>
    match ws.find? (fun x => load && x.2.2.type == 8) with
    | some x => .error (mcFault 1 x.2.1 x.2.2)
    | none =>
      match ws.find? (fun x => !(ok.contains x.2.2.type || (her && x.2.2.type != 9))) with
      | some x => .error ⟨3, x.1, tagInfo x.2.2.tag 4⟩
      | none => .ok ()

/-- The newest value of a word for a task of a core: its own buffered stores over memory (R260). -/
def State.wordFor (s : State) (core tid wi : Nat) : TWord :=
  ((s.core core).wb.filter (fun e => e.tid == tid && e.dev.isNone && e.addr == wi / 32)).foldl
    (fun w e => e.words.foldl (fun w x => if x.idx = wi % 32 then x.onto w else w) w) (s.wordNow wi)

/-- Another task could take the slot that a set gives up: one that the Drover would choose, which its context allows (R226, R337). -/
def State.otherReady (s : State) (core set : Nat) : Bool :=
  ((s.onCtx core set (fun c => { c with run := .waitMem, routine := none })).chosen core).any (fun k => !s.holdsSlot core k)

/-- QTM.MISS. -/
def Regs.miss (r : Regs) : Nat := bits r.qtm.toNat 31 16

/-- The task releases its slot to wait; pending FP Imprecise comes first (R197, R226). -/
def Env.release (e : Env) (run : Run) (aw : Await) : M PUnit := do
  let r ← e.regs
  if r.pend ≠ 0 then e.fail ⟨9, 0, 0⟩
  modify (fun s => (s.onCtx e.core e.set (fun c => { c with run := run, await := aw, since := s.now })).resched e.core)
  throw .wait

/-- EV_MISS: a load predicted slower than QTM.MISS releases the slot if another task can issue, unless its data has come (R222, R226). -/
def Env.missCheck (e : Env) (la k : Nat) : M PUnit := do
  let s ← get
  let c := s.ctx e.core e.set
  if !c.sent && !e.whole && decide (e.set < 64) && c.regs.miss ≠ 0 && decide (c.regs.miss < srcCycles (s.source (s.core e.core).phys la).1) && s.otherReady e.core e.set then
    e.release .waitMem (.line la k c.cls)

/-- The line in flight to a core (R238). -/
def State.fillOf (s : State) (core la : Nat) : Option Fill := (s.core core).fills.find? (fun x => x.la == la)

/-- A word of a line in flight has arrived: words come from the first on, with wrap-around (R238). -/
def Fill.has (f : Fill) (k : Nat) : Bool := decide ((k + 32 - f.first % 32) % 32 < f.got)

/-- The load waits for its word of a line in flight, out of its slot where EV_MISS would release it (R226, R238). -/
def Env.awaitWord (e : Env) (la k : Nat) : M PUnit := do
  let s ← get
  let c := s.ctx e.core e.set
  if !e.whole && decide (e.set < 64) && c.regs.miss ≠ 0 && s.otherReady e.core e.set then e.release .waitMem (.line la k c.cls)
  modify (fun s => (s.endGroup e.core e.set).onCtx e.core e.set (fun c => { c with await := .line la k c.cls }))
  throw .wait

/-- Load a memory word: from a line in flight once the word has arrived; else its line is installed (R238). -/
def Env.loadWord (e : Env) (ra : Nat) : M TWord := do
  let s ← get
  match s.fillOf e.core (ra / 256) with
  | some f => if !f.has (ra / 8 % 32) then e.awaitWord (ra / 256) (ra / 8 % 32)
  | none => do
    e.missCheck (ra / 256) (ra / 8 % 32)
    modify (fun s => s.fillFor 1 (s.core e.core).phys (ra / 256))
  let s ← get
  return s.wordFor e.core (s.ctx e.core e.set).tid (ra / 8)

/-- The task waits with its slot: its group ends, so that what it waits for can be performed. -/
def Env.stall {α : Type} (e : Env) : M α := do
  modify (fun s => s.endGroup e.core e.set)
  throw .wait

/-- A committed store of another task holds the line (R122). -/
def State.withheld (s : State) (tid la : Nat) : Bool :=
  s.cores.any (fun p => p.2.wb.any (fun e => e.dev.isNone && e.addr == la && e.tid != tid))

/-- A store to the line coalesces into the youngest entry of the task (R264). -/
def State.coalesces (s : State) (core tid la : Nat) : Bool :=
  match ((s.core core).wb.filter (fun e => e.tid == tid)).getLast? with
  | some e => e.dev.isNone && e.addr == la
  | none => false

/-- A store waits for an entry of the buffer, for the whole of a line in flight, or for a line that another task's store holds (R122, R238, R264). -/
def Env.storeReady (e : Env) (la : Nat) : M PUnit := do
  let s ← get
  let tid := (s.ctx e.core e.set).tid
  if s.withheld tid la || (s.fillOf e.core la).isSome || (decide (32 ≤ (s.core e.core).wb.length) && !s.coalesces e.core tid la) then e.stall

/-- LOCK check of a store's target word (R122). -/
def lockCheck (force : Bool) (ea : Nat) (w : TWord) : Except XFlt PUnit :=
  if w.tag.lock && !force then .error ⟨3, ea, tagInfo w.tag 4 + 2 ^ 12⟩ else .ok ()

/-- Add a word to the last entry of a task in a write buffer. -/
def addWord (tid : Nat) (x : WbWord) : List WbEnt → List WbEnt
  | [] => []
  | e :: t => if e.tid = tid && !(t.any (fun f => f.tid == tid)) then { e with words := e.words ++ [x] } :: t else e :: addWord tid x t

/-- Commit a cacheable store (R264); a store other than STCOND to the granule loses the task's own reservation (R166). -/
def State.commitStore (s : State) (core set la : Nat) (x : WbWord) (cond : Bool) : State :=
  let tid := (s.ctx core set).tid
  let s := if s.coalesces core tid la then s.onCore core (fun c => { c with wb := addWord tid x c.wb })
    else s.onCore core (fun c => { c with wb := c.wb ++ [{ tid := tid, set := set, dev := none, addr := la, words := [x], cls := (s.ctx core set).cls }] })
  if !cond && (s.ctx core set).resv == some la then s.onCtx core set (fun c => { c with resv := none }) else s

/-- Path of a device-space address: kind and number (Table 05-8: 1 CXL/PCIe port, 2 hub window, 3 Relay control and its home). -/
def devPath (ra : Nat) : Nat × Nat :=
  let o := ra - devBase
  if 0x1000000000000 ≤ o then (1, (o - 0x1000000000000) / 0x100000000000)
  else if 0x300000000 ≤ o ∧ o < 0x300000000 + 0x1000000 then (3, (o - 0x300000000) / 0x40000)
  else (2, 0)

/-- Commit a device-space store: only the datum is sent (R54). The group before it ends first (R371). -/
def State.commitDev (s : State) (core set ra : Nat) (d : Word) : State :=
  let s := s.endGroup core set
  s.onCore core (fun c => { c with wb := c.wb ++ [{ tid := (s.ctx core set).tid, set := set, dev := some (devPath ra), addr := ra, words := [{ idx := 0, datum := d, tag := none, mask := 255, isOpen := true }], cls := (s.ctx core set).cls }] })

/-- A device-space store waits for a free entry of the buffer. -/
def Env.devReady (e : Env) : M PUnit := do
  let s ← get
  if 32 ≤ (s.core e.core).wb.length then e.stall

/-- A device-space load: sent once, alone in its group, and completed with the datum that the hub gives; pending FP Imprecise comes before the slot is given up (R54, R197, R231, R371). -/
def Env.devLoad (e : Env) (ra : Nat) : M Word := do
  let s ← get
  let c := s.ctx e.core e.set
  match c.replies with
  | w :: t =>
    modify (fun s => s.onCtx e.core e.set (fun c => { c with replies := t }))
    return word w
  | [] =>
  match c.await with
  | .datum w => return word w
  | .dev _ _ _ _ => throw .wait
  | _ =>
    let p := devPath ra
    let leaves := decide (e.set < 64) && !e.whole && c.regs.miss != 0 && s.otherReady e.core e.set
    if leaves && c.regs.pend != 0 then e.fail ⟨9, 0, 0⟩
    modify (fun s => (s.endGroup e.core e.set).onCtx e.core e.set (fun c => { c with await := .dev p.1 p.2 ra c.cls }))
    if p.1 = 3 then
      modify (fun s => s.sendCread c.cls p.2 ra c.tid)
    if leaves then
      modify (fun s => (s.onCtx e.core e.set (fun c => { c with run := .waitMem, since := s.now })).resched e.core)
    throw .wait

/-! ### Retirement (R171, R257, R371, R372) -/

/-- An address formed under the instruction's mode as a fetch address: a branch target, a successor or a link (R257). -/
def Env.form (e : Env) (ea : Nat) : M Nat := do
  let c ← e.ctx
  let s ← get
  e.lift (s.formAddr e.core c.inst c.regs.her e.am 2 (u64 ea))

/-- The address of the next instruction in sequence. -/
def Env.next (e : Env) : M Nat := do
  let r ← e.regs
  e.form (r.pc.toNat + 4)

/-- Entries of a core that hold stores of open groups. -/
def State.openEntries (s : State) (core : Nat) : Nat := ((s.core core).wb.filter (·.isOpen)).length

/-- Close groups after a retirement: the one that ends, and those of both slot holders at 24 open entries (R371); a completed group ends a run of retries (R374). -/
def State.closeAfter (s : State) (core set : Nat) (ends : Bool) : State :=
  let s := if ends || decide (64 ≤ (s.ctx core set).group) then (s.endGroup core set).retryDone core else s
  if 24 ≤ s.openEntries core then ([(s.core core).slot0, (s.core core).slot1].filterMap id).foldl (fun s k => s.endGroup core k) s else s

/-- An instruction retires: PC, MPROG and the issue cycles, whose number is free (R171, Table 05-7). -/
def State.retire (s : State) (core set pc : Nat) (keepMprog ends : Bool) : State :=
  let n := s.freeNat
  (s.drawn.onCtx core set (fun c => { c with
    regs := { (if keepMprog then c.regs else c.regs.setTsw 28 24 0) with pc := word pc, cyc := u64 (c.regs.cyc + n) },
    group := c.group + 1, used := c.used + n, await := .none, sent := false, fresh := false, replies := [], routine := none })).closeAfter core set ends

/-- Retire at an address. -/
def Env.retire (e : Env) (pc : Nat) (keepMprog : Bool := false) (ends : Bool := false) : M PUnit :=
  modify (fun s => s.retire e.core e.set pc keepMprog ends)

/-! ### The row of an instruction -/

/-- The core issues instructions. -/
def State.coreLive (s : State) (core : Nat) : Bool :=
  let c := s.core core
  s.runs && decide (core < s.workCores) && !c.retired && c.gated == 0 && c.sparing.isNone && (match c.reset with | none => true | some (_, _, _, w) => w)

/-- The set holds an issue slot and can issue (R226). -/
def State.canIssue (s : State) (core set : Nat) : Bool :=
  s.coreLive core && decide (set < 68) && s.holdsSlot core set && (s.ctx core set).run == .ready && !(s.ctx core set).halted

/-- Instance and real address of a fetch target, where both stages lead to memory. -/
def State.targetOf (s : State) (i t : Nat) : Option (Nat × Nat) :=
  match s.taskStage i 2 t with
  | .error _ => none
  | .ok l =>
    match s.instStage i 0 l.ia false with
    | .mem ra => some (l.ia, ra)
    | _ => none

/-- An instruction address of an instance lies in an enclave granule. -/
def State.inEnclave (s : State) (i t : Nat) : Bool :=
  match s.targetOf i t with
  | some (_, ra) => (s.emap.find (ra / 65536)).isSome
  | none => false

/-- The set's task was restarted in the normal world at an address of an enclave granule. -/
def State.atGate (s : State) (core set : Nat) : Bool :=
  let c := s.ctx core set
  c.fresh && c.regs.encl == 0 && s.inEnclave c.inst c.regs.pc.toNat

/-- An exception due before the next instruction: a save fault, FP Unavailable, an informational Machine Check; pending FP Imprecise is taken in its place. A routine in execution ends first (R146, R181, R197, R229, R233). -/
def State.dueFault (s : State) (core set : Nat) : Option State :=
  let c := s.ctx core set
  let go := fun (f : XFlt) (clear : Ctx → Ctx) => some ((if c.regs.pend ≠ 0 then s else s.onCtx core set clear).takeException core set f 0)
  if c.routine.isSome then none
  else match c.saveFault with
  | some (v, a, x) => go ⟨v, a, x⟩ (fun c => { c with saveFault := none })
  | none =>
    match c.fpUnavail with
    | some (a, v) => go ⟨0xC, a, v⟩ (fun c => { c with fpUnavail := none })
    | none =>
      match c.info with
      | some x => go ⟨0x3F, 0, x⟩ (fun c => { c with info := none })
      | none => none

/-- The image a custom instruction runs: that of the routine in execution, which an unload does not stop, or that of its slot (R146, R151). -/
def State.imageFor (s : State) (c : Ctx) (slot : Nat) : Option (List Byte) :=
  match c.routine with
  | some b => some b
  | none => (s.decode.find slot).map (·.image)

/-- Steps 2 and 3 of Table 04-11 that need the state: world instructions in Heritage state, Heritage state in an enclave, and the decode table (R132, R144, R146, R336). -/
def State.legal (s : State) (x : Ctx) (i : Ins) : Bool :=
  let r := x.regs
  if r.her && r.encl ≠ 0 then false
  else
    match i with
    | .tgate => !r.her
    | .texit _ _ => !r.her
    | .custom n _ _ _ c =>
      match s.imageFor x n with
      | none => false
      | some b => (!r.her || bit (fld b 7 1) 0) && (fld b 0x14 2 != 0 || c == 0)
    | _ => true

/-- Fetch and decode at PC: the instruction with its word and mode, or the exception and its slot. -/
def State.front (s : State) (core set : Nat) : State × Except (XFlt × Nat) (Ins × Nat × Nat) :=
  match s.fetchIns core set with
  | (s, .error f) => (s, .error (f, 0))
  | (s, .ok (w, am)) =>
    match decodeIns w with
    | .error k => (s, .error (⟨1, 0, w⟩, k))
    | .ok i => if s.legal (s.ctx core set) i then (s, .ok (i, w, am)) else (s, .error (⟨1, 0, w⟩, 0))

/-- The end of an execution: the state it leaves, or the exception taken. -/
def finish (core set : Nat) : EStateM.Result Stop State PUnit → State
  | .ok _ s => s
  | .error .wait s => s
  | .error (.fault f k) s => s.takeException core set f k

/-- The row of an instruction: the one at PC issues if it is of the row's kind; exceptions up to step 3 are any row's (log entries 4, 11). A watchdog whose deadline has come expires first (R227). -/
def State.issue (s : State) (core set : Nat) (fits : Ins → Bool) (body : Env → Ins → M PUnit) : State :=
  let s := if s.coreLive core then s.expireWdt core set else s
  if s.canIssue core set && !s.atGate core set then
    match s.dueFault core set with
    | some t => t
    | none =>
      match s.front core set with
      | (t, .error (f, k)) => t.takeException core set f k
      | (t, .ok (i, w, am)) => if fits i then finish core set (body { core := core, set := set, w := w, am := am } i t) else s
  else s

end Sys2Proof.Machine
end

