-- ==== Sys2Proof/Machine/Operands.lean ====
section
/-! DEFINITION. Operand forms and results of the integer, logical and tag instructions, long and short: the operands checked, the value computed, the tag and flags written (Tables 04-4, 04-10 and 05-2, R127 to R131, R156 to R159). -/
namespace Sys2Proof.Machine

/-- What an instruction will write once nothing can stop it any more. -/
abbrev Effect := M (State → State)

/-- An effect on the task's registers. -/
def Env.onRegs (e : Env) (f : Regs → Regs) : State → State := fun s => s.onCtx e.core e.set (fun c => { c with regs := f c.regs })

/-- Perform an instruction's effect and retire at the next address (R161, R176). -/
def Env.commit (e : Env) (x : Effect) (keepMprog : Bool := false) (ends : Bool := false) : M PUnit := do
  let f ← x
  let n ← e.next
  modify (fun s => (f s).retire e.core e.set n keepMprog ends)

/-- The word of a second source. -/
def Regs.src (r : Regs) : Src → TWord
  | .reg n => r.gpr n
  | .imm v => ⟨word v, Tag.int⟩

/-! ### Arithmetic -/

/-- Operands of ADD, SUB and the other arithmetic (Table 04-4); `na` and `nb` are their codes. -/
def arithOpds (op : AOp) (na nb : Nat) (a b : TWord) : List Opd :=
  match op with
  | .add => [⟨a, na, tyIntPtr, false⟩, ⟨b, nb, tyInt, false⟩]
  | .sub => [⟨a, na, tyIntPtr, false⟩, ⟨b, nb, if a.type = 2 then tyIntPtr else tyInt, false⟩]
  | .neg => [⟨a, na, tyInt, false⟩]
  | _ => [⟨a, na, tyInt, false⟩, ⟨b, nb, tyInt, false⟩]

/-- The 64-bit result (Table 05-2, R156). -/
def arithVal (op : AOp) (a b : Nat) : Nat :=
  match op with
  | .add => u64 (a + b)
  | .sub => sub64 a b 0
  | .neg => sub64 0 a 0
  | .min => if sext 64 a ≤ sext 64 b then a else b
  | .max => if sext 64 b ≤ sext 64 a then a else b
  | .minu => if a ≤ b then a else b
  | .maxu => if b ≤ a then a else b
  | .mul => u64 (a * b)

/-- N, Z, C and V after the operation, where Table 05-2 marks it (R154). -/
def arithFlags (op : AOp) (old a b : Nat) : Nat :=
  match op with
  | .add => flagsAdd a b 0
  | .sub => flagsSub a b 0
  | .neg => flagsSub 0 a 0
  | _ => old

/-- The result tag: PTR for address arithmetic, else INT; RAW in Heritage state. -/
def arithTag (op : AOp) (her : Bool) (a b : TWord) : Tag :=
  resTag her (match op with
    | .add => if a.type = 2 then Tag.ptr else Tag.int
    | .sub => if a.type = 2 ∧ b.type ≠ 2 then Tag.ptr else Tag.int
    | _ => Tag.int)

/-- The result word. -/
def arithRes (op : AOp) (her : Bool) (a b : TWord) : TWord := ⟨word (arithVal op a.datum.toNat b.datum.toNat), arithTag op her a b⟩

/-- Long arithmetic; the immediate form writes no flags (R154). -/
def Env.arith (e : Env) (op : AOp) (d a : Nat) (b : Src) : Effect := do
  let r ← e.regs
  let x := r.gpr a
  let y := r.src b
  e.check (arithOpds op 1 2 x y)
  let fl := match b with | .reg _ => arithFlags op r.nzcv x.datum.toNat y.datum.toNat | .imm _ => r.nzcv
  return e.onRegs (fun r => (r.setG d (arithRes op r.her x y)).setNzcv fl)

/-- ADDC and SUBB (R157). -/
def Env.carry (e : Env) (sub : Bool) (d a b : Nat) : Effect := do
  let r ← e.regs
  let x := r.gpr a
  let y := r.gpr b
  e.check [⟨x, 1, tyInt, false⟩, ⟨y, 2, tyInt, false⟩]
  let c := b2n (bit r.nzcv 1)
  let xv := x.datum.toNat
  let yv := y.datum.toNat
  let v := if sub then sub64 xv yv (1 - c) else u64 (xv + yv + c)
  let fl := if sub then flagsSub xv yv (1 - c) else flagsAdd xv yv c
  return e.onRegs (fun r => (r.setG d ⟨word v, resTag r.her Tag.int⟩).setNzcv fl)

/-- MULW and MULWU: the high half to D, the low half to D + 1 (R158). -/
def Env.mulw (e : Env) (signed : Bool) (d a b : Nat) : Effect := do
  let r ← e.regs
  let x := r.gpr a
  let y := r.gpr b
  e.check [⟨x, 1, tyInt, false⟩, ⟨y, 2, tyInt, false⟩]
  let p : Nat := if signed then (sext 64 x.datum.toNat * sext 64 y.datum.toNat % (2 ^ 128 : Nat)).toNat else x.datum.toNat * y.datum.toNat
  return e.onRegs (fun r => (r.setG d ⟨word (p / 2 ^ 64), resTag r.her Tag.int⟩).setG (d + 1) ⟨word p, resTag r.her Tag.int⟩)

/-- The XINFO of Divide Check, if the division raises it (R159). -/
def divCheck (signed : Bool) (a b : Nat) : Option Nat :=
  if b = 0 then some 0 else if signed ∧ a = 2 ^ 63 ∧ b = 2 ^ 64 - 1 then some 1 else none

/-- Quotient or remainder, truncated toward zero (R159). -/
def divVal (signed rem : Bool) (a b : Nat) : Nat :=
  if signed then i64 (if rem then Int.tmod (sext 64 a) (sext 64 b) else Int.tdiv (sext 64 a) (sext 64 b))
  else if rem then a % b else a / b

/-- DIV, DIVU, REM and REMU (R159). -/
def Env.div (e : Env) (signed rem : Bool) (d a b : Nat) : Effect := do
  let r ← e.regs
  let x := r.gpr a
  let y := r.gpr b
  e.check [⟨x, 1, tyInt, false⟩, ⟨y, 2, tyInt, false⟩]
  match divCheck signed x.datum.toNat y.datum.toNat with
  | some i => e.fail ⟨8, 0, i⟩
  | none => return e.onRegs (fun r => r.setG d ⟨word (divVal signed rem x.datum.toNat y.datum.toNat), resTag r.her Tag.int⟩)

/-! ### Logic -/

/-- Leading zero bits of a 64-bit pattern. -/
def clz64 (a : Nat) : Nat := if a = 0 then 64 else 63 - Nat.log2 a

/-- One bits of a 64-bit pattern. -/
def popc64 (a : Nat) : Nat := (maskBits a 64).length

/-- Rotate left. -/
def rol64 (a n : Nat) : Nat := u64 (a * 2 ^ n) + a / 2 ^ (64 - n)

/-- Logical, shift, rotate and bit-count results (Table 05-2). -/
def logicVal (op : LOp) (a b : Nat) : Nat :=
  let n := b % 64
  match op with
  | .and => Nat.land a b
  | .or => Nat.lor a b
  | .xor => Nat.xor a b
  | .andn => Nat.land a (2 ^ 64 - 1 - b)
  | .nor => 2 ^ 64 - 1 - Nat.lor a b
  | .shl => u64 (a * 2 ^ n)
  | .shr => a / 2 ^ n
  | .sar => i64 (sext 64 a / (2 ^ n : Nat))
  | .rol => if n = 0 then a else rol64 a n
  | .ror => if n = 0 then a else rol64 a (64 - n)
  | .clz => clz64 a
  | .popc => popc64 a
  | .bswap => beNat (beBytes 8 a).reverse

/-- INT if every source is INT, else RAW (Table 04-4); RAW in Heritage state. -/
def logicTag (her : Bool) (a b : TWord) : Tag := resTag her (if a.type = 1 ∧ b.type = 1 then Tag.int else Tag.raw)

/-- The result word of a logical operation. -/
def logicRes (op : LOp) (her : Bool) (a b : TWord) : TWord := ⟨word (logicVal op a.datum.toNat b.datum.toNat), logicTag her a b⟩

/-- Long logical operations. -/
def Env.logic (e : Env) (op : LOp) (d a : Nat) (b : Src) : Effect := do
  let r ← e.regs
  let x := r.gpr a
  let y := r.src b
  e.check [⟨x, 1, tyIntRaw, false⟩, ⟨y, 2, tyIntRaw, false⟩]
  return e.onRegs (fun r => r.setG d (logicRes op r.her x y))

/-! ### Compare and constants -/

/-- Operands of a compare: INT, INT or PTR, PTR (Table 04-4). -/
def cmpOpds (na nb : Nat) (a b : TWord) : List Opd := [⟨a, na, tyIntPtr, false⟩, ⟨b, nb, if a.type = 2 then tyPtr else tyInt, false⟩]

/-- CMP and CMPI (R156). CMPI accepts INT alone: its immediate is an INT source. -/
def Env.cmp (e : Env) (a : Nat) (b : Src) : Effect := do
  let r ← e.regs
  let x := r.gpr a
  let y := r.src b
  e.check (match b with | .reg _ => cmpOpds 1 2 x y | .imm _ => [⟨x, 1, tyInt, false⟩])
  return e.onRegs (fun r => r.setNzcv (flagsSub x.datum.toNat y.datum.toNat 0))

/-- LUI (R156). -/
def Env.lui (e : Env) (d imm : Nat) : Effect := do
  return e.onRegs (fun r => r.setG d ⟨word imm, resTag r.her Tag.int⟩)

/-! ### Tags -/

/-- GTAG: the tag of any register, without a check (R129). -/
def Env.gtag (e : Env) (d a : Nat) : Effect := do
  let r ← e.regs
  return e.onRegs (fun s => s.setG d ⟨word (r.gpr a).tag.toNat, resTag s.her Tag.int⟩)

/-- STAG: the tag named in B [7:0], under the authority checks (R126, R129, R130). A fault on the tag named reports it as the tag found of operand 2: DESIGN CHOICE, log entry 175. -/
def Env.stag (e : Env) (d a b : Nat) : Effect := do
  let r ← e.regs
  let x := r.gpr a
  let y := r.gpr b
  let t : Tag := BitVec.ofNat 8 y.datum.toNat
  if (x.type < 10 ∧ y.type < 10) ∧ 10 ≤ t.type then e.fail ⟨4, 0, tagInfo t 2⟩
  e.check [⟨x, 1, anyType, true⟩, ⟨y, 2, tyInt, true⟩]
  if (t.type = 8 ∨ t.type = 9) && !authority e.set r then e.fail ⟨3, 0, tagInfo t 2⟩
  return e.onRegs (fun s => s.setG d ⟨x.datum, t⟩)

end Sys2Proof.Machine
end

