-- ==== Sys2Proof/Machine/Memory.lean ====
section
/-! DEFINITION. Loads, stores, reservations, store and load multiple, and the tag accesses to memory (R122, R126, R129, R163 to R170). -/
namespace Sys2Proof.Machine

/-- The open group takes no further instruction: a device-space access, SIGNAL or a lock probe stands alone in its group (R371). -/
def Env.alone (e : Env) : State → State := fun s => s.onCtx e.core e.set (fun c => { c with group := 63 })

/-- Write a G register. -/
def Env.gets (e : Env) (d : Nat) (w : TWord) : State → State := e.onRegs (fun r => r.setG d w)

/-- Word types a word load accepts: 0x0 to 0x7 and SEAL (Table 04-4, R340). -/
def loadTypes : List Nat := [0, 1, 2, 3, 4, 5, 6, 7, 9]

/-- Word types a sub-word load accepts. -/
def subTypes : List Nat := [0, 1, 2, 3, 4, 5, 6, 7]

/-- Target types of a sub-word store: RAW, INT and PDEC (Table 04-4). -/
def stsTypes : List Nat := [0, 1, 3]

/-! ### Loads -/

/-- Load an 8-byte tagged word at an effective address into a register (R54, R163). -/
def Env.load8 (e : Env) (d ea : Nat) : Effect := do
  let ra ← e.address 0 ea 8
  if inDev ra then
    let w ← e.devLoad ra
    return fun s => e.alone (e.gets d ⟨w, Tag.int⟩ s)
  else
    let w ← e.loadWord ra
    let r ← e.regs
    e.lift (memTags r.her true loadTypes ea (ra / 8) w)
    return e.gets d w

/-- LD; `no` is the base's operand code. -/
def Env.ld (e : Env) (d a disp no : Nat) : Effect := do
  let r ← e.regs
  e.check [⟨r.gpr a, no, tyPtr, false⟩]
  e.load8 d (u64 ((r.gpr a).datum.toNat + disp))

/-- The bytes [k, k + size) of a datum, as a number (R165). -/
def subVal (d : Word) (k size : Nat) : Nat := d.toNat / 2 ^ (8 * (8 - k - size)) % 2 ^ (8 * size)

/-- LDZ and LDS (R165). -/
def Env.ldx (e : Env) (signed : Bool) (size d a disp : Nat) : Effect := do
  let r ← e.regs
  e.check [⟨r.gpr a, 1, tyPtr, false⟩]
  let ea := u64 ((r.gpr a).datum.toNat + disp)
  let ra ← e.address 0 ea size
  if inDev ra then e.fail ⟨5, ea, 0⟩
  let w ← e.loadWord ra
  e.lift (memTags r.her true subTypes ea (ra / 8) w)
  let v := subVal w.datum (ra % 8) size
  return e.gets d ⟨word (if signed then sx (8 * size) v else v), resTag r.her Tag.int⟩

/-- LDRES: LD that sets the reservation on the word's granule (R166). -/
def Env.ldres (e : Env) (d a disp : Nat) : Effect := do
  let r ← e.regs
  e.check [⟨r.gpr a, 1, tyPtr, false⟩]
  let ea := u64 ((r.gpr a).datum.toNat + disp)
  let ra ← e.address 0 ea 8
  if inDev ra then e.fail ⟨0xF, ea, 0⟩
  let w ← e.loadWord ra
  e.lift (memTags r.her true loadTypes ea (ra / 8) w)
  return fun s => (e.gets d w s).onCtx e.core e.set (fun c => { c with resv := some (ra / 256), resvOpen := true })

/-- LDTAG: the tag of a memory word without a check of any kind; never in device space (R129, R164). Its base register is checked as any operand is, so a base of type 0xA to 0xF raises Tag Reserved: DESIGN CHOICE, log entry 174. -/
def Env.ldtag (e : Env) (d a : Nat) : Effect := do
  let r ← e.regs
  e.check [⟨r.gpr a, 1, tyPtr, false⟩]
  let ea := (r.gpr a).datum.toNat
  let ra ← e.address 0 ea 8
  if inDev ra then e.fail ⟨7, ea, 4⟩
  let w ← e.loadWord ra
  return e.gets d ⟨word w.tag.toNat, resTag r.her Tag.int⟩

/-! ### Stores -/

/-- The target word of a store, once the buffer can take it: its tag checks and the LOCK check (R122, R129, R264). -/
def Env.target (e : Env) (ea ra : Nat) (ok : List Nat) (force : Bool) : M TWord := do
  e.storeReady (ra / 256)
  let s ← get
  let c := s.ctx e.core e.set
  let w := s.wordFor e.core c.tid (ra / 8)
  e.lift (memTags c.regs.her false ok ea (ra / 8) w)
  e.lift (lockCheck force ea w)
  return w

/-- A whole-word entry of the buffer. -/
def wholeWord (ra : Nat) (w : TWord) : WbWord := { idx := ra / 8 % 32, datum := w.datum, tag := some w.tag, mask := 255, isOpen := true }

/-- An entry of the low `size` bytes of a datum at byte k of its word (R165). -/
def subWord (ra size : Nat) (d : Word) (tag : Option Tag) : WbWord :=
  { idx := ra / 8 % 32, datum := word (d.toNat % 2 ^ (8 * size) * 2 ^ (8 * (8 - ra % 8 - size))), tag := tag, mask := (2 ^ size - 1) * 2 ^ (8 - ra % 8 - size), isOpen := true }

/-- Commit a store. -/
def Env.commitTo (e : Env) (ra : Nat) (x : WbWord) (cond : Bool := false) : State → State := fun s => s.commitStore e.core e.set (ra / 256) x cond

/-- Store a tagged word; `no` is the data operand's code (R54, R122, R340). -/
def Env.store8 (e : Env) (ea : Nat) (w : TWord) (no : Nat) (force : Bool) : Effect := do
  let ra ← e.address 1 ea 8
  if inDev ra then
    if w.type = 9 then e.fail ⟨3, 0, tagInfo w.tag no⟩
    e.devReady
    return fun s => e.alone (s.commitDev e.core e.set ra w.datum)
  else
    let _ ← e.target ea ra anyType force
    return e.commitTo ra (wholeWord ra w)

/-- ST; `nb` and `no` are the codes of base and data (R126, R163). -/
def Env.st (e : Env) (s a disp nb no : Nat) : Effect := do
  let r ← e.regs
  e.check (if nb ≤ no then [⟨r.gpr a, nb, tyPtr, true⟩, ⟨r.gpr s, no, anyType, true⟩] else [⟨r.gpr s, no, anyType, true⟩, ⟨r.gpr a, nb, tyPtr, true⟩])
  e.store8 (u64 ((r.gpr a).datum.toNat + disp)) (r.gpr s) no false

/-- The tag a sub-word store leaves: the target's, or RAW in Heritage state for another type (R131). -/
def stsTag (her : Bool) (t : Tag) : Option Tag := if her && !stsTypes.contains t.type then some Tag.raw else none

/-- STS (R54, R165). -/
def Env.sts (e : Env) (size s a disp : Nat) : Effect := do
  let r ← e.regs
  e.check [⟨r.gpr a, 1, tyPtr, false⟩, ⟨r.gpr s, 5, tyIntRaw, false⟩]
  let ea := u64 ((r.gpr a).datum.toNat + disp)
  let ra ← e.address 1 ea size
  if inDev ra then e.fail ⟨5, ea, 1⟩
  let w ← e.target ea ra stsTypes false
  return e.commitTo ra (subWord ra size (r.gpr s).datum (stsTag r.her w.tag))

/-- STCOND: every check precedes the test of the reservation; Z tells the outcome (R167). -/
def Env.stcond (e : Env) (s a disp : Nat) : Effect := do
  let r ← e.regs
  e.check [⟨r.gpr a, 1, tyPtr, false⟩, ⟨r.gpr s, 5, anyType, false⟩]
  let ea := u64 ((r.gpr a).datum.toNat + disp)
  let ra ← e.address 1 ea 8
  if inDev ra then e.fail ⟨0xF, ea, 0⟩
  let _ ← e.target ea ra anyType false
  return fun st =>
    let live := (st.ctx e.core e.set).resv == some (ra / 256)
    let st := if live then e.commitTo ra (wholeWord ra (r.gpr s)) true st else st
    st.onCtx e.core e.set (fun c => { c with resv := none, regs := c.regs.setNzcv (nzcvOf false live false false) })

/-- STTX: with tag-override authority a LOCKed word may be overwritten (R122). In Heritage state it stores the source's tag as it is, as word stores do: DESIGN CHOICE, log entry 177. -/
def Env.sttx (e : Env) (a b : Nat) : Effect := do
  let r ← e.regs
  e.check [⟨r.gpr a, 1, tyPtr, false⟩, ⟨r.gpr b, 2, anyType, false⟩]
  e.store8 (r.gpr a).datum.toNat (r.gpr b) 2 (authority e.set r)

/-! ### Store and load multiple (R169 to R171) -/

/-- Registers of a mask from MPROG on. -/
def maskFrom (mask mprog : Nat) : List Nat := (maskBits mask 32).filter (fun i => mprog ≤ i)

/-- Address of the element of register i. -/
def elemAddr (ea mask i : Nat) : Nat := u64 (ea + 8 * (maskBits mask i).length)

/-- Set MPROG. -/
def Env.mprog (e : Env) (i : Nat) : M PUnit := e.setRegs (fun r => r.setTsw 28 24 i)

/-- The checks before the first element, and the mask and address (R137, R169). -/
def Env.multi (e : Env) (load : Bool) (m a disp : Nat) : M (Nat × Nat) := do
  let r ← e.regs
  e.check [⟨r.gpr a, 1, tyPtr, false⟩, ⟨r.gpr m, 5, tyIntRaw, false⟩]
  let mask := (r.gpr m).datum.toNat % 2 ^ 32
  if load && (bit mask a || bit mask m) then e.fail ⟨1, 0, e.w⟩
  let ea := u64 ((r.gpr a).datum.toNat + disp)
  if ea % 8 ≠ 0 then e.fail ⟨5, ea, if load then 0 else 1⟩
  return (mask, ea)

/-- A Drover event can come for the task while one of its instructions runs: a post on its way, an armed watchdog, or a ready task that waits for a slot (R170, R226, R227). -/
def State.eventsNear (s : State) (core set : Nat) : Bool :=
  let c := s.ctx core set
  decide (set < 64) && (s.posts.any (fun p => p.tid == c.tid) || c.regs.wdt != 0 || (s.readySets core).any (fun k => !s.holdsSlot core k))

/-- Between elements: an event that is pending, a free choice where one can come, ends the instruction here with MPROG at the next masked register (R170, log entries 2, 45). -/
def Env.element (e : Env) (first : Bool) : M PUnit := do
  let s ← get
  if !first && s.eventsNear e.core e.set then
    modify State.drawn
    if s.freeBool then e.stall

/-- Store the elements of STM in order; MPROG names the one in progress. -/
def Env.stmGo (e : Env) (mask ea : Nat) (first : Bool) : List Nat → M PUnit
  | [] => pure ()
  | i :: t => do
    e.mprog i
    e.element first
    let r ← e.regs
    e.check [⟨r.gpr i, 8, anyType, true⟩]
    let f ← e.store8 (elemAddr ea mask i) (r.gpr i) 8 false
    modify f
    Env.stmGo e mask ea false t

/-- Load the elements of LDM in order. -/
def Env.ldmGo (e : Env) (mask ea : Nat) (first : Bool) : List Nat → M PUnit
  | [] => pure ()
  | i :: t => do
    e.mprog i
    e.element first
    let f ← e.load8 i (elemAddr ea mask i)
    modify (fun s => (f s).onCtx e.core e.set (fun c => { c with await := .none }))
    Env.ldmGo e mask ea false t

/-- STM (R169, R170). -/
def Env.stm (e : Env) (m a disp : Nat) : Effect := do
  let p ← e.multi false m a disp
  let r ← e.regs
  Env.stmGo e p.1 p.2 true (maskFrom p.1 r.mprog)
  return id

/-- LDM (R169, R170). -/
def Env.ldm (e : Env) (m a disp : Nat) : Effect := do
  let p ← e.multi true m a disp
  let r ← e.regs
  Env.ldmGo e p.1 p.2 true (maskFrom p.1 r.mprog)
  return id

/-! ### Rows -/

/-- LD (R163). -/
def execLd (core set : Nat) (s : State) : Out :=
  .next (s.issue core set (fun i => match i with | .ld _ _ _ => true | _ => false)
    (fun e i => match i with | .ld d a x => e.commit (e.ld d a x 1) | _ => pure ()))

/-- LDZ_LDS (R165). -/
def execLdzLds (core set : Nat) (s : State) : Out :=
  .next (s.issue core set (fun i => match i with | .ldx _ _ _ _ _ => true | _ => false)
    (fun e i => match i with | .ldx sg n d a x => e.commit (e.ldx sg n d a x) | _ => pure ()))

/-- ST (R122). -/
def execSt (core set : Nat) (s : State) : Out :=
  .next (s.issue core set (fun i => match i with | .st _ _ _ => true | _ => false)
    (fun e i => match i with | .st v a x => e.commit (e.st v a x 1 5) | _ => pure ()))

/-- STS (R165). -/
def execSts (core set : Nat) (s : State) : Out :=
  .next (s.issue core set (fun i => match i with | .sts _ _ _ _ => true | _ => false)
    (fun e i => match i with | .sts n v a x => e.commit (e.sts n v a x) | _ => pure ()))

/-- LDRES (R166). -/
def execLdres (core set : Nat) (s : State) : Out :=
  .next (s.issue core set (fun i => match i with | .ldres _ _ _ => true | _ => false)
    (fun e i => match i with | .ldres d a x => e.commit (e.ldres d a x) | _ => pure ()))

/-- STCOND: a group ends after it (R167, R371). -/
def execStcond (core set : Nat) (s : State) : Out :=
  .next (s.issue core set (fun i => match i with | .stcond _ _ _ => true | _ => false)
    (fun e i => match i with | .stcond v a x => e.commit (e.stcond v a x) false true | _ => pure ()))

/-- STM (R169). -/
def execStm (core set : Nat) (s : State) : Out :=
  .next (s.issue core set (fun i => match i with | .stm _ _ _ => true | _ => false)
    (fun e i => match i with | .stm m a x => e.commit (e.stm m a x) | _ => pure ()))

/-- LDM (R169). -/
def execLdm (core set : Nat) (s : State) : Out :=
  .next (s.issue core set (fun i => match i with | .ldm _ _ _ => true | _ => false)
    (fun e i => match i with | .ldm m a x => e.commit (e.ldm m a x) | _ => pure ()))

/-- LDTAG (R129). -/
def execLdtag (core set : Nat) (s : State) : Out :=
  .next (s.issue core set (fun i => match i with | .ldtag _ _ => true | _ => false)
    (fun e i => match i with | .ldtag d a => e.commit (e.ldtag d a) | _ => pure ()))

/-- STTX (R122). -/
def execSttx (core set : Nat) (s : State) : Out :=
  .next (s.issue core set (fun i => match i with | .sttx _ _ => true | _ => false)
    (fun e i => match i with | .sttx a b => e.commit (e.sttx a b) | _ => pure ()))

end Sys2Proof.Machine
end

