-- ==== Sys2Proof/Machine/Branch.lean ====
section
/-! DEFINITION. Branches, calls and returns, Toll Gates and TEXIT, and the F banks a world change touches (R161, R162, R329 to R334, R337). -/
namespace Sys2Proof.Machine

/-! ### F banks -/

/-- Instance address and enclave of the F area of a set's task: its TSA's, or its thread slot's in the enclave world (R232, R335). -/
def State.fArea (s : State) (core set : Nat) : Nat × Nat :=
  let c := s.ctx core (s.bankSet core set)
  let e := c.regs.encl
  (if e = 0 then s.tsa c.tid + 0x200 else (s.encl c.inst e).esa + c.thread * 0x1000 + 0x200, e)

/-- Save and free the bank of a set: FPA becomes 0 and FSAVED 1 (R232). -/
def State.saveBank (s : State) (core set : Nat) : Except XFlt State :=
  match s.bankOf core set with
  | none => .ok s
  | some b =>
    let c := s.ctx core set
    let a := s.fArea core set
    match s.hubPuts c.inst a.2 a.1 (fWords b.f) with
    | .error f => .error f
    | .ok s =>
      let s := s.tsaPut c.tid 0x10 (setBits (s.tsaGet c.tid 0x10) 11 11 1)
      let s := s.onCtx core set (fun c => { c with fsaved := true, regs := c.regs.setTsw 31 31 0, cairn := c.cairn.setTsw 31 31 0, cairnF := none })
      .ok (s.onCore core (fun k => { k with banks := k.banks.filter (fun b => b.owner != set) }))

/-! ### Branch targets -/

/-- The half of a word that an address names (R133). -/
def halfWord (w : TWord) (a : Nat) : Nat := if a % 8 = 4 then w.datum.toNat % 2 ^ 32 else w.datum.toNat / 2 ^ 32

/-- The lowest free thread slot of an enclave (R332). -/
def Encl.freeSlot (n : Encl) : Option Nat := (List.range n.threads).find? (fun k => (n.bound.find k).isNone)

/-- The conditions of R330 for a normal-world task of instance i on a core: the slot the entry binds. -/
def State.gateSlot (s : State) (core i : Nat) (her : Bool) (ia ra : Nat) (m : MapEnt) : Option Nat :=
  let n := s.encl i m.encl
  let w := s.wordNow (ra / 8)
  if !her && m.inst == i && n.state == 2 && m.iaddr == ia / 65536 && m.code && halfWord w ra == 0x48000000 && w.type == 6 && s.enclCore core
  then n.freeSlot else none

/-- The task has crossed into another world: the holder of the other slot, if its context is another one, is released after FP Imprecise that it has pending, and the new context starts (R197, R337). -/
def State.cross (s : State) (core set : Nat) : State :=
  let w := s.context core set
  match (s.peer core set).filter (fun o => s.context core o != w) with
  | none => s.setContext core w
  | some o =>
    let s := if (s.ctx core o).regs.pend ≠ 0 then s.enterTrap core o ⟨9, 0, 0⟩ 0 else s.leaveSlot core o
    let put := fun (x : Option Nat) => if x = some o then none else x
    (s.onCore core (fun c => { c with slot0 := put c.slot0, slot1 := put c.slot1 })).setContext core w

/-- The steps of R332 at a Toll Gate: the slot is bound, the world changes, and the TGATE retires. -/
def State.enterGate (s : State) (core set t e k : Nat) : State :=
  let c := s.ctx core set
  let i := c.inst
  let n := s.encl i e
  let slot := [TWord.int (word c.tid), TWord.int c.regs.fpsr, TWord.int (word (b2n c.regs.toa)), TWord.ptr (word t)]
  let s := match s.hubPuts i e (n.esa + k * 0x1000) slot with | .ok s => s | .error _ => s
  let s := (s.holdCore core).onEncl i e (fun n => { n with bound := n.bound.put k c.tid })
  let tsw := setBits (setBits (setBits (setBits c.regs.tsw.toNat 62 62 1) 59 48 e) 31 31 0) 23 20 0
  let s := s.onCtx core set (fun c => { c with resv := none, thread := k, regs := { c.regs with tsw := word tsw, fpsr := 0, fpxa := 0, toa := false } })
  ((s.retire core set (t + 4) false true).cross core set).resched core

/-- The address a branch goes to under the instruction's mode, or the fault of step 8: Alignment, then Translation (R133, R162, R164, R257). -/
def Env.aim (e : Env) (s : State) (ea : Nat) : Except XFlt Nat :=
  let c := s.ctx e.core e.set
  match s.formAddr e.core c.inst c.regs.her e.am 2 (u64 ea) with
  | .ok t => if t % 4 ≠ 0 then .error ⟨5, t, 2⟩ else .ok t
  | .error f => if ea % 4 ≠ 0 then .error ⟨5, u64 ea, 2⟩ else .error f

/-- A branch to an address, with the register that takes the link (R161, R162, R330, R331). The result retires the branch. -/
def Env.jump (e : Env) (ea : Nat) (link : Option Nat) : Effect := do
  let c ← e.ctx
  let s ← get
  let t ← e.lift (e.aim s ea)
  let l ← e.next
  let go : State → State := fun s =>
    ((match link with | some d => e.gets d ⟨word l, resTag c.regs.her Tag.ptr⟩ s | none => s).retire e.core e.set t false false)
  let s ← get
  match s.targetOf c.inst t with
  | none => if c.regs.encl ≠ 0 then e.fail ⟨0xE, t, 0⟩ else return go
  | some (ia, ra) =>
    if c.regs.encl ≠ 0 then
      if (s.emap.find (ra / 65536)).isSome && s.enclOk c.inst c.regs.encl 2 ia ra then return go else e.fail ⟨0xE, t, 0⟩
    else
      match s.emap.find (ra / 65536) with
      | none => return go
      | some m =>
        match s.gateSlot e.core c.inst c.regs.her ia ra m with
        | none => e.fail ⟨0xE, t, 0⟩
        | some k =>
          if c.regs.pend ≠ 0 then e.fail ⟨9, 0, 0⟩
          let s ← e.lift (s.saveBank e.core e.set)
          modify (fun _ => s)
          return fun s => (go s).enterGate e.core e.set t m.encl k

/-- Perform a branch. -/
def Env.leap (_e : Env) (x : Effect) : M PUnit := do
  let f ← x
  modify f

/-- B and BC (R161). -/
def Env.branch (e : Env) (cond disp : Nat) : M PUnit := do
  let r ← e.regs
  if condHolds cond r.nzcv then e.leap (e.jump (r.pc.toNat + disp) none) else e.commit (pure id)

/-- CALL (R161). -/
def Env.call (e : Env) (disp : Nat) : M PUnit := do
  let r ← e.regs
  e.leap (e.jump (r.pc.toNat + disp) (some 31))

/-- BR, CALLR and RET: the target is G A, read before the link is written (R161). -/
def Env.branchReg (e : Env) (a : Nat) (link : Option Nat) : M PUnit := do
  let r ← e.regs
  e.check [⟨r.gpr a, 1, tyPtr, false⟩]
  e.leap (e.jump (r.gpr a).datum.toNat link)

/-! ### World instructions -/

/-- TGATE as an instruction: no effect inside its enclave; in the normal world a violation at its own address (R331). -/
def Env.tgate (e : Env) : M PUnit := do
  let r ← e.regs
  if r.encl = 0 then e.fail ⟨0xE, r.pc.toNat, 0⟩
  e.commit (pure id) false true

/-- Registers that the export mask leaves out become datum 0 with tag SEAL (R334). -/
def sealG (g : GFile) (mask : Nat) : GFile := Vector.ofFn (fun k : Fin 32 => if k.val = 0 ∨ bit mask k.val then g.toList.getD k.val {} else TWord.sealed)

/-- The steps of R334: registers sealed, bank and slot freed, FPSR and AUTH restored, the normal world entered. -/
def State.leaveEnclave (s : State) (core set mask t : Nat) : State :=
  let c := s.ctx core set
  let i := c.inst
  let e := c.regs.encl
  let a := (s.encl i e).esa + c.thread * 0x1000
  let get := fun off => match s.hubWord i e (a + off) with | .ok w => w.datum | .error _ => 0
  let tsw := setBits (setBits (setBits (setBits c.regs.tsw.toNat 62 62 0) 59 48 0) 31 31 0) 23 20 0
  let r : Regs := { c.regs with g := sealG c.regs.g mask, fpsr := get 8, fpxa := 0, toa := bit (get 0x10).toNat 0, tsw := word tsw }
  let s := match s.hubPut i e a (TWord.int 0) with | .ok s => s | .error _ => s
  let s := s.onEncl i e (fun n => { n with bound := n.bound.del c.thread })
  let s := s.onCore core (fun k => { k with banks := k.banks.filter (fun b => b.owner != set) })
  let s := s.onCtx core set (fun c => { c with regs := r, resv := none })
  ((s.retire core set t false true).cross core set).resched core

/-- TEXIT (R334). In the normal world, where the manual gives it no slot to leave, it is a violation too (log entry 24). -/
def Env.texit (e : Env) (a b : Nat) : M PUnit := do
  let c ← e.ctx
  let r := c.regs
  e.check [⟨r.gpr a, 1, tyInt, false⟩, ⟨r.gpr b, 2, tyPtr, false⟩]
  let t := (r.gpr b).datum.toNat
  let s ← get
  let inGranule := match s.targetOf c.inst t with
    | some (_, ra) => (s.emap.find (ra / 65536)).isSome
    | none => false
  if decide (64 ≤ e.set) || r.encl == 0 || inGranule then e.fail ⟨0xE, t, 0⟩
  if t % 4 ≠ 0 then e.fail ⟨5, t, 2⟩
  if r.pend ≠ 0 then e.fail ⟨9, 0, 0⟩
  modify (fun s => s.leaveEnclave e.core e.set (r.gpr a).datum.toNat t)

/-! ### Rows -/

/-- B (R161). -/
def execB (core set : Nat) (s : State) : Out :=
  .next (s.issue core set (fun i => match i with | .b _ _ => true | _ => false)
    (fun e i => match i with | .b c x => e.branch c x | _ => pure ()))

/-- CALL (R161). -/
def execCall (core set : Nat) (s : State) : Out :=
  .next (s.issue core set (fun i => match i with | .call _ => true | _ => false)
    (fun e i => match i with | .call x => e.call x | _ => pure ()))

/-- BR (R161). -/
def execBr (core set : Nat) (s : State) : Out :=
  .next (s.issue core set (fun i => match i with | .br _ => true | _ => false)
    (fun e i => match i with | .br a => e.branchReg a none | _ => pure ()))

/-- CALLR (R161). -/
def execCallr (core set : Nat) (s : State) : Out :=
  .next (s.issue core set (fun i => match i with | .callr _ _ => true | _ => false)
    (fun e i => match i with | .callr d a => e.branchReg a (some d) | _ => pure ()))

/-- RET (R161). -/
def execRet (core set : Nat) (s : State) : Out :=
  .next (s.issue core set (fun i => match i with | .ret _ => true | _ => false)
    (fun e i => match i with | .ret a => e.branchReg a none | _ => pure ()))

/-- TEXIT (R334). -/
def execTexit (core set : Nat) (s : State) : Out :=
  .next (s.issue core set (fun i => match i with | .texit _ _ => true | _ => false)
    (fun e i => match i with | .texit a b => e.texit a b | _ => pure ()))

end Sys2Proof.Machine
end

