-- ==== Sys2Proof/Machine/Deflate.lean ====
section
/-! DEFINITION. The Deflate Unit's function: expansion of raw, zlib and gzip streams, and the framing of what it compresses (R317, R318, Table 09-6). -/
namespace Sys2Proof.Machine

/-- What expansion has produced: the output so far, history first, and its length beyond the history; the bits that remain, as bytes and a bit position. -/
structure Infl where
  /-- Output with the preset history before it, newest byte first. -/
  rev : List Byte := []
  /-- Bytes produced. -/
  n : Nat := 0
  /-- Bytes of history and output available to distances. -/
  avail : Nat := 0
  /-- Blocks that have ended, newest first: type, bits, and bytes produced at its end. -/
  blocks : List (Nat × Nat × Nat) := []
deriving DecidableEq, Repr

/-- Bit k of a byte string, least significant bit of each byte first (RFC 1951). -/
def bitOf (l : Array Byte) (k : Nat) : Option Nat := (l[k / 8]?).map (fun b => b2n (bit b.toNat (k % 8)))

/-- n bits from position k, least significant first. -/
def bitsOf (l : Array Byte) : Nat → Nat → Option Nat
  | _, 0 => some 0
  | k, n + 1 =>
    match bitOf l k, bitsOf l (k + 1) n with
    | some b, some r => some (b + 2 * r)
    | _, _ => none

/-- How many symbols have each code length. -/
def lenCount (ls : List Nat) (n : Nat) : Nat := (ls.filter (· == n)).length

/-- Code lengths are over-subscribed (RFC 1951, 3.2.2). -/
def overFull (ls : List Nat) : Bool :=
  decide (2 ^ 15 < ((List.range 15).map (fun k => lenCount ls (k + 1) * 2 ^ (14 - k))).foldl (· + ·) 0)

/-- Decode one symbol: code, first code and first index of length n; the symbols are in order of code. -/
def huffGo (l : Array Byte) (cnt syms : Array Nat) : Nat → Nat → Nat → Nat → Nat → Nat → Option (Nat × Nat)
  | 0, _, _, _, _, _ => none
  | f + 1, pos, n, code, first, idx =>
    match bitOf l pos with
    | none => none
    | some b =>
      let code := 2 * code + b
      let c := cnt.getD n 0
      if code - first < c ∧ first ≤ code then (syms[idx + (code - first)]?).map (fun x => (x, pos + 1))
      else huffGo l cnt syms f (pos + 1) (n + 1) (code) (2 * (first + c)) (idx + c)

/-- A code as counts by length and symbols in order of code. -/
structure Huff where
  cnt : Array Nat
  syms : Array Nat

/-- The canonical code of lengths (RFC 1951, 3.2.2). -/
def huffOf (ls : List Nat) : Huff :=
  { cnt := ((List.range 16).map (fun n => if n = 0 then 0 else lenCount ls n)).toArray
    syms := ((List.range 15).flatMap (fun k => (List.range ls.length).filter (fun i => ls.getD i 0 == k + 1))).toArray }

/-- The symbol at a bit position, and the position after it. -/
def Huff.next (h : Huff) (l : Array Byte) (pos : Nat) : Option (Nat × Nat) := huffGo l h.cnt h.syms 15 pos 1 0 0 0

/-- Extra bits and base of length codes 257 to 285. -/
def lenBase : List (Nat × Nat) :=
  [(0, 3), (0, 4), (0, 5), (0, 6), (0, 7), (0, 8), (0, 9), (0, 10), (1, 11), (1, 13), (1, 15), (1, 17), (2, 19), (2, 23), (2, 27),
   (2, 31), (3, 35), (3, 43), (3, 51), (3, 59), (4, 67), (4, 83), (4, 99), (4, 115), (5, 131), (5, 163), (5, 195), (5, 227), (0, 258)]

/-- Extra bits and base of distance codes 0 to 29. -/
def distBase : List (Nat × Nat) :=
  [(0, 1), (0, 2), (0, 3), (0, 4), (1, 5), (1, 7), (2, 9), (2, 13), (3, 17), (3, 25), (4, 33), (4, 49), (5, 65), (5, 97), (6, 129),
   (6, 193), (7, 257), (7, 385), (8, 513), (8, 769), (9, 1025), (9, 1537), (10, 2049), (10, 3073), (11, 4097), (11, 6145), (12, 8193),
   (12, 12289), (13, 16385), (13, 24577)]

/-- Produce one byte, unless CAP is reached. -/
def Infl.put (s : Infl) (cap : Nat) (b : Byte) : Except Nat Infl :=
  if cap ≤ s.n then .error 5 else .ok { rev := b :: s.rev, n := s.n + 1, avail := s.avail + 1 }

/-- Copy n bytes from a distance back. -/
def Infl.copy (cap d : Nat) : Nat → Infl → Infl × Option Nat
  | 0, s => (s, none)
  | n + 1, s =>
    match s.put cap (s.rev.getD (d - 1) 0#8) with
    | .error c => (s, some c)
    | .ok s => Infl.copy cap d n s

/-- Symbols of one compressed block, with distances up to a window: the output, the position after the block, or the condition (R318). -/
def inflSyms (l : Array Byte) (lit dst : Huff) (cap win : Nat) : Nat → Nat → Infl → Infl × Except Nat Nat
  | 0, _, s => (s, .error 6)
  | f + 1, pos, s =>
    match lit.next l pos with
    | none => (s, .error 6)
    | some (y, pos) =>
      if y < 256 then
        match s.put cap (BitVec.ofNat 8 y) with
        | .error c => (s, .error c)
        | .ok s => inflSyms l lit dst cap win f pos s
      else if y = 256 then (s, .ok pos)
      else
        match lenBase[y - 257]? with
        | none => (s, .error 6)
        | some (xb, base) =>
          match bitsOf l pos xb, dst.next l (pos + xb) with
          | some x, some (dy, pos) =>
            match distBase[dy]? with
            | none => (s, .error 6)
            | some (db, dbase) =>
              match bitsOf l pos db with
              | none => (s, .error 6)
              | some dx =>
                let d := dbase + dx
                if s.avail < d ∨ win < d then (s, .error 6)
                else
                  match Infl.copy cap d (base + x) s with
                  | (s, some c) => (s, .error c)
                  | (s, none) => inflSyms l lit dst cap win f (pos + db) s
          | _, _ => (s, .error 6)

/-- Lengths of the fixed codes. -/
def fixedLit : List Nat := List.replicate 144 8 ++ List.replicate 112 9 ++ List.replicate 24 7 ++ List.replicate 8 8

/-- Order of the code length codes. -/
def clOrder : List Nat := [16, 17, 18, 0, 8, 7, 9, 6, 10, 5, 11, 4, 12, 3, 13, 2, 14, 1, 15]

/-- Code lengths of a dynamic block, n of them in all. -/
def readLens (l : Array Byte) (h : Huff) (n : Nat) : Nat → Nat → List Nat → Option (List Nat × Nat)
  | 0, _, _ => none
  | f + 1, pos, rev =>
    if n < rev.length then none
    else if rev.length = n then some (rev.reverse, pos)
    else
      match h.next l pos with
      | none => none
      | some (y, pos) =>
        if y < 16 then readLens l h n f pos (y :: rev)
        else if y = 16 then
          match bitsOf l pos 2, rev with
          | some x, p :: _ => readLens l h n f (pos + 2) (List.replicate (3 + x) p ++ rev)
          | _, _ => none
        else if y = 17 then (bitsOf l pos 3).bind (fun x => readLens l h n f (pos + 3) (List.replicate (3 + x) 0 ++ rev))
        else (bitsOf l pos 7).bind (fun x => readLens l h n f (pos + 7) (List.replicate (11 + x) 0 ++ rev))

/-- The codes of a dynamic block. -/
def dynCodes (l : Array Byte) (pos : Nat) : Option (Huff × Huff × Nat) :=
  match bitsOf l pos 5, bitsOf l (pos + 5) 5, bitsOf l (pos + 10) 4 with
  | some a, some b, some c =>
    if 286 < a + 257 ∨ 30 < b + 1 then none
    else
      let cls := (List.range (c + 4)).map (fun k => (bitsOf l (pos + 14 + 3 * k) 3).getD 0)
      let ls := (List.range 19).map (fun y => match clOrder.idxOf? y with | some k => cls.getD k 0 | none => 0)
      if overFull ls ∨ l.size * 8 < pos + 14 + 3 * (c + 4) then none
      else
        match readLens l (huffOf ls) (a + 257 + b + 1) 400 (pos + 14 + 3 * (c + 4)) [] with
        | none => none
        | some (all, p) =>
          let lit := all.take (a + 257)
          let dst := all.drop (a + 257)
          if overFull lit ∨ overFull dst ∨ lit.getD 256 0 = 0 then none else some (huffOf lit, huffOf dst, p)
  | _, _, _ => none

/-- Stored bytes. -/
def inflStored (l : Array Byte) (cap : Nat) : Nat → Nat → Infl → Infl × Except Nat Nat
  | 0, at_, s => (s, .ok (at_ * 8))
  | n + 1, at_, s =>
    match l[at_]? with
    | none => (s, .error 6)
    | some b =>
      match s.put cap b with
      | .error c => (s, .error c)
      | .ok s => inflStored l cap n (at_ + 1) s

/-- Blocks up to the final one: the output, and the bit position after it or the condition 5 or 6 (R318). -/
def inflBlocks (l : Array Byte) (cap win : Nat) : Nat → Nat → Infl → Infl × Except Nat Nat
  | 0, _, s => (s, .error 6)
  | f + 1, pos, s =>
    match bitsOf l pos 1, bitsOf l (pos + 1) 2 with
    | some last, some t =>
      let r : Infl × Except Nat Nat :=
        if t = 0 then
          let at_ := (pos + 3 + 7) / 8
          match bitsOf l (at_ * 8) 16, bitsOf l (at_ * 8 + 16) 16 with
          | some n, some m => if n + m = 65535 then inflStored l cap n (at_ + 4) s else (s, .error 6)
          | _, _ => (s, .error 6)
        else if t = 1 then inflSyms l (huffOf fixedLit) (huffOf (List.replicate 30 5)) cap win (l.size * 8 + 1) (pos + 3) s
        else if t = 2 then
          match dynCodes l (pos + 3) with
          | some (a, b, p) => inflSyms l a b cap win (l.size * 8 + 1) p s
          | none => (s, .error 6)
        else (s, .error 6)
      match r with
      | (s, .ok p) =>
        let s := { s with blocks := (t, p - pos, s.n) :: s.blocks }
        if last = 1 then (s, .ok p) else inflBlocks l cap win f p s
      | x => x
    | _, _ => (s, .error 6)

/-- The result of an expansion: the bytes produced, and the condition: 0, 5 or 6. -/
structure Expanded where
  bytes : List Byte
  cond : Nat
deriving DecidableEq, Repr

/-- The last 32,768 bytes of a history. -/
def history (d : List Byte) : Infl := { rev := d.reverse.take 32768, avail := min d.length 32768 }

/-- Expand raw DEFLATE from a byte offset with a preset history: the output, and the byte offset after it or the condition. -/
def inflRaw (l : List Byte) (off cap : Nat) (dict : List Byte) : List Byte × Except Nat Nat :=
  let a := l.toArray
  match inflBlocks a cap 32768 (a.size * 8 + 1) (off * 8) (history dict) with
  | (s, .ok p) => ((s.rev.take s.n).reverse, .ok ((p + 7) / 8))
  | (s, .error c) => ((s.rev.take s.n).reverse, .error c)

/-- Little-endian number of n bytes. -/
def leNat (l : List Byte) (off n : Nat) : Nat := beNat (bytesAt l off n).reverse

/-- Skip a zero-terminated field of a gzip header. -/
def skipZ (l : List Byte) : Nat → Nat → Option Nat
  | 0, _ => none
  | f + 1, k => match l[k]? with
    | none => none
    | some b => if b = 0#8 then some (k + 1) else skipZ l f (k + 1)

/-- The end of a gzip header, with FEXTRA, FNAME and FCOMMENT skipped and FHCRC checked (R318). -/
def gzipHead (l : List Byte) : Option Nat :=
  let flg := fld l 3 1
  if l.length < 10 ∨ fld l 0 3 ≠ 0x1F8B08 ∨ 32 ≤ flg then none
  else
    let a := if bit flg 2 then (if l.length < 12 then none else some (12 + leNat l 10 2)) else some 10
    let b := if bit flg 3 then a.bind (skipZ l (l.length + 1)) else a
    let c := if bit flg 4 then b.bind (skipZ l (l.length + 1)) else b
    c.bind (fun k => if l.length < k then none
      else if bit flg 1 then (if k + 2 ≤ l.length ∧ leNat l k 2 = crc32 (l.take k) % 65536 then some (k + 2) else none)
      else some k)

/-- EXPAND: one stream in a framing, with at most CAP bytes written (R318). -/
def expand (framing cap : Nat) (dict : List Byte) (l : List Byte) : Expanded :=
  let fin := fun (r : List Byte × Except Nat Nat) (check : Nat → List Byte → Bool) =>
    match r with
    | (b, .ok p) => (⟨b, if check p b then 0 else 6⟩ : Expanded)
    | (b, .error c) => ⟨b, c⟩
  if framing = 0 then fin (inflRaw l 0 cap dict) (fun _ _ => true)
  else if framing = 1 then
    let fdict := bit (fld l 1 1) 5
    if l.length < 2 ∨ fld l 0 2 % 31 ≠ 0 ∨ fld l 0 1 % 16 ≠ 8 ∨ 7 < fld l 0 1 / 16 then ⟨[], 6⟩
    else if fdict && (dict.isEmpty || fld l 2 4 != adler32 dict) then ⟨[], 6⟩
    else fin (inflRaw l (if fdict then 6 else 2) cap (if fdict then dict else [])) (fun p b => decide (p + 4 ≤ l.length) && fld l p 4 == adler32 b)
  else
    match gzipHead l with
    | none => ⟨[], 6⟩
    | some k => fin (inflRaw l k cap dict) (fun p b => decide (p + 8 ≤ l.length) && leNat l p 4 == crc32 b && leNat l (p + 4) 4 == b.length % 2 ^ 32)

/-- Bytes of a stored block, the last of its stream or not (RFC 1951, 3.2.4). -/
def storedBlock (last : Bool) (l : List Byte) : List Byte :=
  BitVec.ofNat 8 (b2n last) :: (beBytes 2 l.length).reverse ++ (beBytes 2 (65535 - l.length)).reverse ++ l

/-- A stream of stored blocks of 65,535 bytes and what is left: the layout of LEVEL 0 (R317, log entry 9). -/
def storedStream : Nat → List Byte → List Byte
  | 0, l => storedBlock true l
  | n + 1, l => if l.length ≤ 65535 then storedBlock true l else storedBlock false (l.take 65535) ++ storedStream n (l.drop 65535)

/-- No block with a code is longer than the same bytes stored (R317); blocks come newest first. -/
def blocksShort : List (Nat × Nat × Nat) → Bool
  | [] => true
  | (t, bits, n) :: r =>
    let k := n - ((r.head?).map (·.2.2)).getD 0
    (t == 0 || decide (bits ≤ 8 * (k + 5 * max 1 (ceilDiv k 65535)))) && blocksShort r

/-- A block ends in each segment of 64 KiB (R317). -/
def segmentsEnd (n : Nat) (bs : List (Nat × Nat × Nat)) : Bool :=
  (List.range (ceilDiv n 65536)).all (fun k => bs.any (fun b => decide (k * 65536 < b.2.2) && decide (b.2.2 ≤ (k + 1) * 65536)))

/-- A string is a stream that R317 lets a unit emit for an input: it expands to the input under the window, a block ends in each segment, and no block with a code is longer than stored. -/
def streamOk (wbits : Nat) (dict l body : List Byte) : Bool :=
  let a := body.toArray
  match inflBlocks a l.length (2 ^ wbits) (a.size * 8 + 1) 0 (history dict) with
  | (s, .ok p) => (s.rev.take s.n).reverse == l && (p + 7) / 8 == body.length && segmentsEnd l.length s.blocks && blocksShort s.blocks
  | _ => false

/-- The DEFLATE bits of COMPRESS (R317): stored at LEVEL 0; else the unit's choice, where it is a stream of the input that R317 allows, and stored otherwise (log entry 9). -/
def deflateBody (level wbits : Nat) (dict l : List Byte) : List Byte :=
  let c := Config.deflateStream level wbits dict l
  if level ≠ 0 ∧ streamOk wbits dict l c then c else storedStream l.length l

/-- COMPRESS: one stream in a framing (R317). -/
def compress (framing level wbits : Nat) (dict l : List Byte) : List Byte :=
  let body := deflateBody level wbits dict l
  if framing = 0 then body
  else if framing = 1 then
    let cmf := (wbits - 8) * 16 + 8
    let flg := level * 64 + (if dict.isEmpty then 0 else 32)
    beBytes 1 cmf ++ beBytes 1 (flg + (31 - (cmf * 256 + flg) % 31) % 31) ++ (if dict.isEmpty then [] else beBytes 4 (adler32 dict)) ++ body ++ beBytes 4 (adler32 l)
  else
    [0x1F#8, 0x8B#8, 0x08#8, 0#8, 0#8, 0#8, 0#8, 0#8, (if level = 1 then 4#8 else if level = 3 then 2#8 else 0#8), 0xFF#8] ++ body ++
      (beBytes 4 (crc32 l)).reverse ++ (beBytes 4 (l.length % 2 ^ 32)).reverse

/-- CHECK of a completion: CRC-32 of the uncompressed data, Adler-32 for zlib framing (Table 10-12). -/
def checkOf (framing : Nat) (l : List Byte) : Nat := if framing = 1 then adler32 l else crc32 l

end Sys2Proof.Machine
end

