-- ==== Sys2Proof/Machine/Instances.lean ====
section
/-! DEFINITION. The commands of instances, shares, memory regions, eligibility, timeouts, the Manager role and PCIe endpoints (R93 to R112, R117, R118, R450). -/
namespace Sys2Proof.Machine

/-! ### Runs of subchannels (R110) -/

/-- A number lies in a run. -/
def runsHas (l : List (Nat × Nat)) (n : Nat) : Bool := l.any (fun r => r.1 ≤ n && n < r.1 + r.2)

/-- Remove [f, f + c) from runs. -/
def runsDel (l : List (Nat × Nat)) (f c : Nat) : List (Nat × Nat) :=
  (l.flatMap (fun r => [(r.1, min r.2 (f - r.1)), (max r.1 (f + c), (r.1 + r.2) - max r.1 (f + c))])).filter (fun r => 0 < r.2)

/-- How many numbers of [f, f + c) lie in runs that do not overlap. -/
def runsIn (l : List (Nat × Nat)) (f c : Nat) : Nat :=
  (l.map (fun r => min (r.1 + r.2) (f + c) - max r.1 f)).foldl (· + ·) 0

/-! ### Common parts -/

/-- INSTANCE at offset 0 (R117). -/
def MReq.target (q : MReq) : Nat := fld q.body 0 2

/-- LENGTH is right and INSTANCE names an instance (R80, R117). -/
def MReq.fits (q : MReq) (n : Nat) : Bool := q.len == n && decide (q.target < 512)

/-- A share or configuration command on a RESETTING instance ends with BUSY (R116). -/
def unlessResetting (run : State → MReq → State × Option Reply) (s : State) (q : MReq) : State × Option Reply :=
  if (s.inst q.target).state = 3 then (s, some (stBusy, [])) else run s q

/-- A share of an instance has changed: SHARE_CHANGE (R99). -/
def State.shareChange (s : State) (i kind : Nat) : State := s.notify i 4 0 i kind

/-- Task sets of an instance over all cores. -/
def Inst.allSets (n : Inst) : Nat := (n.sets.map (·.2)).foldl (· + ·) 0

/-- GiB of an instance's regions. -/
def Inst.allGib (n : Inst) : Nat := (n.regions.map (·.gib)).foldl (· + ·) 0

/-! ### Status and configuration -/

/-- The INST_STATUS response body (Table 03-6). -/
def State.instStatusBody (s : State) (i : Nat) : List Byte :=
  let n := s.inst i
  beBytes 1 n.state ++ beBytes 1 (b2n (s.mgr == i) + 2 * b2n n.eligible) ++ beBytes 2 n.allSets ++ beBytes 4 n.waybills ++ beBytes 4 n.requests ++
    beBytes 4 ((s.indoubt.filter (fun r => r.inst == i && r.state == 6)).length +
      ((s.subchs.map (fun p => (p.2.slots.filter (fun x => x.2.inst == i && x.2.state == 6)).length)).foldl (· + ·) 0)) ++
    beBytes 4 n.capUsed ++ beBytes 4 0 ++ beBytes 8 n.demotions ++ beBytes 8 (u64 n.fence) ++ beBytes 8 (u64 n.resetDone)

/-- INST_STATUS (0x0100). -/
def cmdInstStatus : Command where
  code := 0x0100
  own := ownInst
  fmt := fun _ q => q.fits 8 && zeros q.body 2 6
  run := fun s q => (s, some (stOk, s.instStatusBody q.target))

/-- The configuration body (Table 03-7). -/
def State.configBody (s : State) (i : Nat) : List Byte :=
  let n := s.inst i
  beBytes 2 i ++ beBytes 1 (b2n (n.state != 0) + 2 * b2n n.migDec) ++ beBytes 1 n.boardCpus ++ beBytes 4 0 ++ beBytes 8 n.bootAddr ++ beBytes 8 0

/-- INST_CONFIG_GET (0x0101). -/
def cmdInstConfigGet : Command where
  code := 0x0101
  fmt := fun _ q => q.fits 8 && zeros q.body 2 6
  run := fun s q => (s, some (stOk, s.configBody q.target))

/-- The instance holds nothing that keeps it from being disabled (Table 03-2). -/
def State.instEmpty (s : State) (i : Nat) : Bool :=
  let n := s.inst i
  n.allSets == 0 && n.regions.isEmpty && n.scCount == 0 && !(s.pages.any (fun p => p.2.state != 0 && p.2.inst == i)) &&
    !((s.encls.between (i * 4096) (i * 4096 + 4096)).any (fun p => p.2.state != 0)) && !(s.ms.ports.any (fun p => p.2.owner == some i))

/-- INST_CONFIG_SET (0x0102; R94, Table 03-2). -/
def cmdInstConfigSet : Command where
  code := 0x0102
  fmt := fun _ q => q.fits 0x18 && decide (fld q.body 2 1 < 4) && decide (fld q.body 3 1 ≤ 16) && zeros q.body 4 4 && fld q.body 8 8 % 4 == 0 && zeros q.body 0x10 8
  run := unlessResetting (fun s q =>
    let i := q.target
    let n := s.inst i
    let en := bit (fld q.body 2 1) 0
    let cpus := fld q.body 3 1
    let boot := fld q.body 8 8
    if !en && s.mgr == i then (s, some (stNotPermitted, []))
    else if n.state = 2 ∧ (!en ∨ cpus ≠ n.boardCpus ∨ boot ≠ n.bootAddr) then (s, some (stBusy, []))
    else if !en && n.state == 1 && !s.instEmpty i then (s, some (stBusy, []))
    else
      (s.onInst i (fun n => { n with
        state := if en then (if n.state = 0 then 1 else n.state) else 0
        migDec := bit (fld q.body 2 1) 1
        boardCpus := cpus
        bootAddr := boot }), some (stOk, [])))

/-! ### Shares (R97 to R102) -/

/-- The word of a share kind in SHARE_GET (R97, R117). -/
def Inst.shareWord (n : Inst) (kind : Nat) : Nat :=
  match kind with
  | 0x01 => n.set.che
  | 0x02 => n.set.bcu
  | 0x03 => n.set.dfu
  | 0x04 => n.set.mem
  | 0x05 => n.set.relay
  | 0x06 => n.cpages
  | 0x07 => n.wbLimit
  | 0x08 => n.reqLimit
  | 0x09 => n.set.cap
  | 0x0A => n.allSets
  | 0x0B => n.allGib
  | 0x0C => n.scFirst * 2 ^ 32 + n.scCount
  | 0x0D => b2n n.eligible
  | _ => 0

/-- SHARE_GET (0x0103). -/
def cmdShareGet : Command where
  code := 0x0103
  own := ownInst
  fmt := fun _ q => q.fits 8 && zeros q.body 2 6
  run := fun s q => (s, some (stOk, ((List.range 13).map (· + 1)).flatMap (fun k => beBytes 8 ((s.inst q.target).shareWord k))))

/-- Range of a share set by SHARE_SET (Table 03-3). -/
def shareRange (kind v : Nat) : Bool :=
  if 1 ≤ kind ∧ kind ≤ 5 then decide (1 ≤ v ∧ v ≤ 255)
  else if kind = 6 then decide (v ≤ 4096)
  else if kind = 7 then decide (v ≤ 16777215)
  else if kind = 8 then decide (v ≤ 65535)
  else false

/-- Set a share of kind 0x01 to 0x09. -/
def Inst.setShare (n : Inst) (kind v : Nat) : Inst :=
  match kind with
  | 0x01 => { n with set := { n.set with che := v } }
  | 0x02 => { n with set := { n.set with bcu := v } }
  | 0x03 => { n with set := { n.set with dfu := v } }
  | 0x04 => { n with set := { n.set with mem := v } }
  | 0x05 => { n with set := { n.set with relay := v } }
  | 0x06 => { n with cpages := v }
  | 0x07 => { n with wbLimit := v }
  | 0x08 => { n with reqLimit := v }
  | 0x09 => { n with set := { n.set with cap := v } }
  | _ => n

/-- A share takes a value; SHARE_CHANGE is posted if it changes (R99). -/
def State.setShare (s : State) (i kind v : Nat) : State :=
  if (s.inst i).shareWord kind = v then s else (s.onInst i (fun n => n.setShare kind v)).shareChange i kind

/-- SHARE_SET (0x0104). -/
def cmdShareSet : Command where
  code := 0x0104
  fmt := fun _ q => q.fits 0x10 && zeros q.body 3 5 && shareRange (fld q.body 2 1) (fld q.body 8 8)
  run := unlessResetting (fun s q => (s.setShare q.target (fld q.body 2 1) (fld q.body 8 8), some (stOk, [])))

/-- COURIER_CAP_SET (0x0109; R109). -/
def cmdCourierCapSet : Command where
  code := 0x0109
  fmt := fun _ q => q.fits 8 && zeros q.body 2 2 && decide (fld q.body 4 4 ≤ 65535)
  run := unlessResetting (fun s q => (s.setShare q.target 9 (fld q.body 4 4), some (stOk, [])))

/-- IO_TIMEOUT_SET (0x010A; R112). -/
def cmdIoTimeoutSet : Command where
  code := 0x010A
  fmt := fun _ q => q.fits 8 && zeros q.body 6 2 && decide (50 ≤ fld q.body 2 2 ∧ fld q.body 2 2 ≤ 50000) && decide (10 ≤ fld q.body 4 2 ∧ fld q.body 4 2 ≤ 60000)
  run := unlessResetting (fun s q => (s.onInst q.target (fun n => { n with complUs := fld q.body 2 2, abortMs := fld q.body 4 2 }), some (stOk, [])))

/-! ### Cores (R103 to R105) -/

/-- An enclave-world task homed on a core would be left without an enclave-enabled core of its instance (R338). -/
def State.strandsEnclave (s : State) (i core : Nat) : Bool :=
  ((s.setsOf i core).any (fun k => (s.ctx core k).regs.encl != 0) ||
    (s.homedTids i core).any (fun t => bit (s.tsaGet t 0x38) 62)) && (s.removalTarget i core false 1).isNone

/-- Task sets held on a core by instances other than i. -/
def State.othersSets (s : State) (i core : Nat) : Nat := ((s.insts.filter (fun p => p.1 != i)).map (fun p => p.2.sets.getD core 0)).foldl (· + ·) 0

/-- CORE_ASSIGN (0x0105; R103, R104, R338, R381, R421): the row repeats until the last task has left or arrived. -/
def cmdCoreAssign : Command where
  code := 0x0105
  fmt := fun s q => q.fits 8 && decide (fld q.body 2 2 < s.workCores) && (fld q.body 4 1 == 0 || decide (8 ≤ fld q.body 4 1 ∧ fld q.body 4 1 ≤ 64)) && zeros q.body 5 3
  run := fun s q =>
    let i := q.target
    let core := fld q.body 2 2
    let k := fld q.body 4 1
    if (s.core core).assignWin = some q.w then
      if (s.setsOf i core).length ≤ s.share i core then (s.onCore core (fun c => { c with assignWin := none }), some (stOk, [])) else (s, none)
    else if (s.inst i).state = 3 then (s, some (stBusy, []))
    else if (s.core core).retired then (s, some (stBadField, []))
    else if (s.core core).gated ≠ 0 then (s, some (stBusy, []))
    else if 64 < s.othersSets i core + k then (s, some (stQueueFull, []))
    else if k = 0 ∧ (s.inst i).state = 2 ∧ (s.inst i).allSets = s.share i core then (s, some (stBadField, []))
    else if k = 0 ∧ 0 < s.share i core ∧ s.strandsEnclave i core then (s, some (stBusy, []))
    else
      let s : State := if s.share i core = k then s else (s.onInst i (fun n => { n with sets := n.sets.put core k })).shareChange i 0x0A
      let s : State := if k = 0 then s.removeFrom i core else (State.shrink i core 64 s).resched core
      if (s.setsOf i core).length ≤ k then (s, some (stOk, []))
      else (s.onCore core (fun c => { c with assignWin := some q.w }), none)

/-! ### Memory regions and subchannel ranges (R106, R107, R111) -/

/-- Ranges [a, a + n) and [b, b + m) have a number in common. -/
def overlaps (a n b m : Nat) : Bool := decide (max a b < min (a + n) (b + m))

/-- The region lies inside one region configured at start-up, and not in the SYSTEM region (R106, R251). -/
def State.inConfigured (s : State) (real gib : Nat) : Bool :=
  s.ms.regions.any (fun r => r.ok && !r.sys && decide (r.real ≤ real) && decide (real + gib * gibB ≤ r.real + r.dataBytes))

/-- MEMREGION_ADD (0x0106, OP 0x01; R106). -/
def cmdMemregionAdd : Command where
  code := 0x0106
  sel := fun b => fld b 2 1 != 2
  fmt := fun _ q => q.fits 0x18 && fld q.body 2 1 == 1 && zeros q.body 3 1 && decide (1 ≤ fld q.body 4 4) && fld q.body 8 8 % gibB == 0 && fld q.body 0x10 8 % gibB == 0
  run := unlessResetting (fun s q =>
    let i := q.target
    let r : IRegion := { real := fld q.body 8 8, gib := fld q.body 4 4, base := fld q.body 0x10 8 }
    let rs := (s.inst i).regions
    if rs.contains r then (s, some (stOk, []))
    else if 64 ≤ rs.length ∨ !s.inConfigured r.real r.gib ∨ devBase < r.base + r.gib * gibB
        ∨ s.insts.any (fun p => p.2.regions.any (fun x => overlaps r.real (r.gib * gibB) x.real (x.gib * gibB)))
        ∨ rs.any (fun x => overlaps r.base (r.gib * gibB) x.base (x.gib * gibB)) then (s, some (stBadField, []))
    else ((s.onInst i (fun n => { n with regions := n.regions ++ [r] })).shareChange i 0x0B, some (stOk, [])))

/-- MEMREGION_REMOVE (0x0106, OP 0x02; R106, R111). -/
def cmdMemregionRemove : Command where
  code := 0x0106
  sel := fun b => fld b 2 1 == 2
  fmt := fun _ q => q.fits 0x18 && zeros q.body 3 1 && decide (1 ≤ fld q.body 4 4) && fld q.body 8 8 % gibB == 0 && fld q.body 0x10 8 % gibB == 0
  run := unlessResetting (fun s q =>
    let i := q.target
    let r : IRegion := { real := fld q.body 8 8, gib := fld q.body 4 4, base := fld q.body 0x10 8 }
    let rest := (s.inst i).regions.erase r
    if !(s.inst i).regions.contains r then (s, some (stBadField, []))
    else if (s.inst i).state = 2 then (s, some (stBusy, []))
    else if (s.inst i).eligible && s.mirrored r.real && !(rest.any (fun x => s.mirrored x.real)) then (s, some (stBusy, []))
    else ((s.onInst i (fun n => { n with regions := rest })).shareChange i 0x0B, some (stOk, [])))

/-- SUBCH_RANGE_ASSIGN (0x0107; R107). Numbers that leave the range by a change with COUNT above 0 keep their eligibility: DESIGN CHOICE, log entry 172. -/
def cmdSubchRangeAssign : Command where
  code := 0x0107
  fmt := fun _ q => q.fits 0x10 && zeros q.body 2 2 && fld q.body 4 4 % 64 == 0 && fld q.body 8 4 % 64 == 0 && decide (fld q.body 4 4 + fld q.body 8 4 ≤ 1048576) && zeros q.body 0xC 4
  run := unlessResetting (fun s q =>
    let i := q.target
    let n := s.inst i
    let f := fld q.body 4 4
    let c := fld q.body 8 4
    let out := fun k => decide (k < f) || decide (f + c ≤ k)
    if s.insts.any (fun p => p.1 != i && overlaps f c p.2.scFirst p.2.scCount) then (s, some (stBadField, []))
    else if s.subchs.any (fun p => p.2.live && p.2.inst == i && out p.1) ∨ s.rings.any (fun p => p.2.live && p.2.inst == i && out p.1) then (s, some (stBusy, []))
    else if n.scFirst = f ∧ n.scCount = c then (s, some (stOk, []))
    else
      ((s.onInst i (fun n => { n with scFirst := f, scCount := c, scElig := if c = 0 then runsDel n.scElig n.scFirst n.scCount else n.scElig })).shareChange i 0x0C,
        some (stOk, [])))

/-! ### Courier eligibility (R108 to R111) -/

/-- COURIER_GRANT's request (Table 03-10): SCOPE and the range it covers. -/
def fmtGrant (s : State) (q : MReq) : Bool :=
  q.fits 0x10 && zeros q.body 0xC 4 && decide (fld q.body 3 1 ≤ 1) &&
    (if fld q.body 2 1 = 0 then zeros q.body 4 8
     else fld q.body 2 1 == 1 && decide ((s.inst q.target).scFirst ≤ fld q.body 4 4) &&
       decide (fld q.body 4 4 + fld q.body 8 4 ≤ (s.inst q.target).scFirst + (s.inst q.target).scCount))

/-- Grant or revoke; classes of tasks follow at the next share epoch (R110, R111, R219). -/
def courierSet (grant : Bool) (s : State) (q : MReq) : State × Option Reply :=
  let i := q.target
  let n := s.inst i
  let f := fld q.body 4 4
  let c := fld q.body 8 4
  if grant && !(n.regions.any (fun r => s.mirrored r.real)) then (s, some (stBadField, []))
  else if fld q.body 2 1 = 0 then
    let s1 := s.onInst i (fun n => { n with eligible := grant, reclass := true })
    (if n.eligible = grant then s1 else s1.shareChange i 0x0D, some (stOk, []))
  else
    let have_ := runsIn n.scElig f c
    if have_ = (if grant then c else 0) then (s.onInst i (fun n => { n with reclass := true }), some (stOk, []))
    else
      let l := runsDel n.scElig f c
      ((s.onInst i (fun n => { n with scElig := if grant then l ++ [(f, c)] else l, reclass := true })).shareChange i 0x0D, some (stOk, []))

/-- COURIER_GRANT with GRANT 0x01 (0x0108). -/
def cmdCourierGrant : Command where
  code := 0x0108
  sel := fun b => fld b 3 1 != 0
  fmt := fmtGrant
  run := unlessResetting (courierSet true)

/-- COURIER_GRANT with GRANT 0x00 (0x0108). -/
def cmdCourierRevoke : Command where
  code := 0x0108
  sel := fun b => fld b 3 1 == 0
  fmt := fmtGrant
  run := unlessResetting (courierSet false)

/-! ### Manager role and endpoints (R96, R118, R450) -/

/-- MANAGER_TRANSFER (0x010C; R118). -/
def cmdManagerTransfer : Command where
  code := 0x010C
  fmt := fun _ q => q.fits 8 && zeros q.body 2 6
  run := fun s q =>
    let t := q.target
    if (s.inst t).state ≠ 2 then (s, some (stBadField, []))
    else if s.mgr = t then (s, some (stOk, []))
    else
      let s1 := (s.onWin 512 (fun n => { n with nrEnable := false })).onInst t (fun n => { n with mgrView := false })
      let s2 := if q.w = 512 then s1.onInst s.mgr (fun n => { n with mgrView := true }) else s1
      ({ s2 with mgr := t }, some (stOk, []))

/-- The request of ENDPOINT_ASSIGN. -/
def fmtEndpoint (_ : State) (q : MReq) : Bool := q.fits 8 && decide (fld q.body 2 1 ≤ 11) && decide (1 ≤ fld q.body 3 1 ∧ fld q.body 3 1 ≤ 2) && zeros q.body 4 4

/-- A path of a subchannel of the instance uses a CXP port (R450). -/
def State.cxpPathUsed (s : State) (i port : Nat) : Bool :=
  s.subchs.any (fun p => p.2.live && p.2.inst == i && p.2.paths.any (fun x => x.2.state != 0 && x.2.kind == 4 && x.2.port == port))

/-- ENDPOINT_ASSIGN with OP 0x01 (0x010D; R450). -/
def cmdEndpointAssign : Command where
  code := 0x010D
  sel := fun b => fld b 3 1 != 2
  fmt := fmtEndpoint
  run := unlessResetting (fun s q =>
    let p := fld q.body 2 1
    if !(s.port p).pcie then (s, some (stBadField, []))
    else match (s.port p).owner with
      | some i => (s, some (if i = q.target then stOk else stBusy, []))
      | none => (s.onPort p (fun x => { x with owner := some q.target }), some (stOk, [])))

/-- ENDPOINT_ASSIGN with OP 0x02 (0x010D; R450). -/
def cmdEndpointRelease : Command where
  code := 0x010D
  sel := fun b => fld b 3 1 == 2
  fmt := fmtEndpoint
  run := unlessResetting (fun s q =>
    let p := fld q.body 2 1
    if !(s.port p).pcie then (s, some (stBadField, []))
    else if (s.port p).owner ≠ some q.target then (s, some (stOk, []))
    else if s.cxpPathUsed q.target p then (s, some (stBusy, []))
    else (s.onPort p (fun x => { x with owner := none }), some (stOk, [])))

/-! ### Rows -/

/-- INST_STATUS (R117). -/
def execInstStatus (w : Nat) (s : State) : Out := serve cmdInstStatus w s
/-- INST_CONFIG_GET (R117). -/
def execInstConfigGet (w : Nat) (s : State) : Out := serve cmdInstConfigGet w s
/-- INST_CONFIG_SET (R94). -/
def execInstConfigSet (w : Nat) (s : State) : Out := serve cmdInstConfigSet w s
/-- SHARE_GET (R117). -/
def execShareGet (w : Nat) (s : State) : Out := serve cmdShareGet w s
/-- SHARE_SET (R99). -/
def execShareSet (w : Nat) (s : State) : Out := serve cmdShareSet w s
/-- CORE_ASSIGN (R104). -/
def execCoreAssign (w : Nat) (s : State) : Out := serve cmdCoreAssign w s
/-- MEMREGION_ADD (R106). -/
def execMemregionAdd (w : Nat) (s : State) : Out := serve cmdMemregionAdd w s
/-- MEMREGION_REMOVE (R106). -/
def execMemregionRemove (w : Nat) (s : State) : Out := serve cmdMemregionRemove w s
/-- SUBCH_RANGE_ASSIGN (R107). -/
def execSubchRangeAssign (w : Nat) (s : State) : Out := serve cmdSubchRangeAssign w s
/-- COURIER_GRANT (R110). -/
def execCourierGrant (w : Nat) (s : State) : Out := serve cmdCourierGrant w s
/-- COURIER_REVOKE (R110). -/
def execCourierRevoke (w : Nat) (s : State) : Out := serve cmdCourierRevoke w s
/-- COURIER_CAP_SET (R109). -/
def execCourierCapSet (w : Nat) (s : State) : Out := serve cmdCourierCapSet w s
/-- IO_TIMEOUT_SET (R112). -/
def execIoTimeoutSet (w : Nat) (s : State) : Out := serve cmdIoTimeoutSet w s
/-- MANAGER_TRANSFER (R118). -/
def execManagerTransfer (w : Nat) (s : State) : Out := serve cmdManagerTransfer w s
/-- ENDPOINT_ASSIGN (R450). -/
def execEndpointAssign (w : Nat) (s : State) : Out := serve cmdEndpointAssign w s
/-- ENDPOINT_RELEASE (R450). -/
def execEndpointRelease (w : Nat) (s : State) : Out := serve cmdEndpointRelease w s

end Sys2Proof.Machine
end

