-- ==== Sys2Proof/Machine/Chan.lean ====
section
/-! DEFINITION. The channel subsystem's shared operations: the reset configuration's fields, ports, completion rings, journal records and their ends, paths, aborts, engines and Routes (R266 to R294). -/
namespace Sys2Proof.Machine

/-! ### Ports and the configuration in force -/

/-- RELAY_ALT of the configuration in force (Table 15-6). -/
def State.relayAlt (s : State) : Nat := fld s.fw.inForce 0x0C 1

/-- RLY4 or RLY5 runs as Ethernet (Table 01-7). -/
def State.rlyEth (s : State) (p : Nat) : Bool := (p == 4 && bit s.relayAlt 0) || (p == 5 && bit s.relayAlt 1)

/-- An Ethernet port exists (Table 01-7). -/
def State.ethExists (s : State) (p : Nat) : Bool :=
  decide (p < 8) || (decide (p < 10) && bit s.relayAlt 0) || (decide (10 ≤ p) && decide (p < 12) && bit s.relayAlt 1)

/-- Key of a port of a path kind in the table of ports: FC by number, Ethernet by 64 + number, CXP by 128 + number. -/
def ioKey (kind port : Nat) : Nat := if kind = 1 then port else if kind = 4 then 128 + port else 64 + port

/-- Output stage of a port: FC 0 to 31, Ethernet 32 to 43, CXP 44 to 55 (R291). -/
def stageOf (kind port : Nat) : Nat := if kind = 1 then port else if kind = 4 then 44 + port else 32 + port

/-- Output stages that exist: 52, or 56 with ETH8 to ETH11 (R292). -/
def State.stages (s : State) : List Nat :=
  (List.range 56).filter (fun k => decide (k < 32) || decide (44 ≤ k) || s.ethExists (k - 32))

/-- The link of a path's port is up. -/
def State.portUp (s : State) (kind port : Nat) : Bool :=
  if kind = 4 then (s.port port).link == 1 || (s.port port).link == 2 else (s.ioport (ioKey kind port)).up

/-- A frame discarded at a port is counted against it (R283, R292). -/
def State.discardAt (s : State) (kind port : Nat) : State := s.onIoport (ioKey kind port) (fun p => { p with discards := p.discards + 1 })

/-- INCARN of a subchannel number (R279, R419). -/
def State.incarnOf (s : State) (n : Nat) : Nat := s.incarns.getD n s.incarnBase

/-! ### Records -/

/-- The attempt of a record is active at a target: DISPATCHED or ACKED. -/
def JRec.active (r : JRec) : Bool := r.state == 2 || r.state == 3

/-- The record counts as outstanding: ACCEPTED to COMPLETE (R100). -/
def JRec.outstanding (r : JRec) : Bool := decide (1 ≤ r.state) && decide (r.state ≤ 4)

/-- An abort of the attempt is pending (Table 09-9). -/
def JRec.aborting (r : JRec) : Bool := r.abortRes == 1 && r.active

/-- The command in progress, or the first not ended. -/
def JRec.cmd (r : JRec) : Cmd := r.cmds.getD r.done { code := 0, flags := 0, xidx := 0, devarg := 0, ext := 0, areas := [], first := 0 }

/-- COUNT of a command: the sum over its WBEs (R274). -/
def Cmd.count (c : Cmd) : Nat := (c.areas.map (·.2)).foldl (· + ·) 0
/-- CPH (Table 09-5). -/
def Cmd.cph (c : Cmd) : Bool := bit c.flags 7
/-- CMP. -/
def Cmd.cmp (c : Cmd) : Bool := bit c.flags 6
/-- NOTIFY. -/
def Cmd.notify (c : Cmd) : Bool := bit c.flags 5
/-- DISCARD. -/
def Cmd.discard (c : Cmd) : Bool := bit c.flags 4
/-- LENOK. -/
def Cmd.lenok (c : Cmd) : Bool := bit c.flags 3
/-- The command moves data from memory to the device (Table 09-14). -/
def Cmd.isOut (c : Cmd) : Bool := c.code == 2 || c.code == 3 || c.code == 8
/-- The command moves data from the device to memory. -/
def Cmd.isIn (c : Cmd) : Bool := c.code == 1 || c.code == 9
/-- Fields of the Transform Block: XFLAGS, DICT, CAP, CTR. -/
def Cmd.tb (c : Cmd) : Nat × Nat × Nat × Nat := c.xf.getD (0, 0xFF, 0, 0)
/-- CGUARD. -/
def Cmd.guarded (c : Cmd) : Bool := c.cph && bit c.tb.1 3
/-- The dictionary a command names, or 0xFF (Table 09-4, Table 09-6). -/
def Cmd.dict (c : Cmd) : Nat := if !c.cmp then 0xFF else if c.cph then c.tb.2.1 else if c.xidx = 0xFFFF then 0xFF else c.xidx

/-- Device bytes the command should transfer: its COUNT, or what compression produced (R275, R276). -/
def JRec.transfer (r : JRec) : Nat :=
  let c := r.cmd
  if c.isIn then c.count
  else if c.isOut then (match r.comp.find r.done with | some b => b.length | none => c.count)
  else 0

/-- A completion entry without its phase (Table 09-7). -/
def complBytes (wsn st path flags residual devstat subidx sense : Nat) : List Byte :=
  beBytes 8 wsn ++ beBytes 2 st ++ beBytes 1 path ++ beBytes 1 flags ++ beBytes 4 residual ++ beBytes 4 devstat ++ beBytes 4 subidx ++ beBytes 8 sense

/-- The final completion entry of a record. -/
def JRec.entry (r : JRec) (st : Nat) : List Byte := complBytes r.wsn st (r.attempts % 16 * 16 + r.path) 0 r.residual r.devstat r.subidx r.sense

/-- The 128 bytes of a journal record (Table 09-9). -/
def JRec.bytes (r : JRec) : List Byte :=
  beBytes 8 r.wsn ++ beBytes 4 r.sc ++ beBytes 4 r.incarn ++ beBytes 2 r.inst ++ beBytes 1 r.state ++ beBytes 1 r.cls ++ beBytes 1 r.attempts ++ beBytes 1 r.path ++
    beBytes 2 r.status ++ beBytes 8 r.user ++ beBytes 8 r.wbAddr ++ beBytes 4 r.subidx ++ beBytes 4 r.residual ++ beBytes 4 r.devstat ++ beBytes 4 r.exch ++
    beBytes 8 (u64 r.tAccept) ++ beBytes 8 (u64 r.tDispatch) ++ beBytes 8 (u64 r.tFinal) ++ beBytes 8 (u64 r.tRetire) ++ beBytes 8 r.sense ++ beBytes 1 r.abortKind ++
    beBytes 1 r.abortRes ++ beBytes 1 r.curWbe ++ beBytes 1 r.rflags ++ beBytes 4 r.resolveSeq ++ beBytes 8 (u64 r.tAbort) ++ beBytes 8 r.prevWsn ++ beBytes 4 r.prevIncarn ++ beBytes 4 0

/-- The instance is RESETTING: nothing more is written for it (R113). -/
def State.resetting (s : State) (i : Nat) : Bool := (s.inst i).state == 3

/-! ### Completion rings (R271 to R273) -/

/-- One waybill less is outstanding (R100). -/
def State.lessWaybill (s : State) (i : Nat) : State := s.onInst i (fun n => { n with waybills := n.waybills - 1 })

/-- A record's final entry has been written: COMPLETE becomes RETIRED, and T_RETIRE is set (Tables 09-9, 09-11). DESIGN CHOICE (log 173): a record that is COMPLETE at F, whose entry R114 discards, takes F as T_RETIRE too. -/
def State.entryWritten (s : State) (sc wsn : Nat) : State :=
  match s.jrec sc wsn with
  | some r =>
    let s := s.onRec sc wsn (fun r => { r with tRetire := s.now })
    let s := if r.cls = 0 then s.countLat 1 r.tFinal else s
    if r.state = 4 then
      ((s.onRec sc wsn (fun r => { r with state := 5, status := stOk })).lessWaybill r.inst).onSub sc (fun x => { x with retired := x.retired + 1 })
    else s
  | none => { s with indoubt := s.indoubt.map (fun r => if r.sc = sc ∧ r.wsn = wsn ∧ r.incarn = (s.sub sc).incarn then { r with tRetire := s.now } else r) }

/-- Write one completion entry at CQ_TAIL, advance it and post EV_IO (R271, R273). -/
def State.putCompl (s : State) (sc : Nat) (c : Compl) : State :=
  let x := s.sub sc
  let b := putBytes c.bytes 0x0B (beBytes 1 (fld c.bytes 0x0B 1 + 128 * b2n x.phase))
  let s := ((s.inClass c.cls).engWrite x.inst 0 (x.cq + 32 * x.cqTail) b).1
  let wrap := x.cqTail + 1 = x.depth
  let s := s.onSub sc (fun y => { y with cqTail := if wrap then 0 else y.cqTail + 1, phase := if wrap then !y.phase else y.phase })
  let s := s.post x.evTid 2 1 sc
  if c.retire = 0 then s else s.entryWritten sc c.retire

/-- The completion ring is full (R269). -/
def Subch.cqFull (x : Subch) : Bool := (x.cqTail + 1) % x.depth == x.cqHead

/-- A completion of the request in hand: written, or held in order while the ring is full (R43, R272); none is written for a RESETTING instance (R113). -/
def State.complete (s : State) (sc : Nat) (c : Compl) : State :=
  let x := s.sub sc
  let c := { c with cls := s.ms.cls }
  if s.resetting x.inst then (if c.retire = 0 then s else s.entryWritten sc c.retire)
  else if !x.held.isEmpty || x.cqFull then s.onSub sc (fun y => { y with held := y.held ++ [c] })
  else s.putCompl sc c

/-- Write held completions while the ring has room (R272). -/
def State.flushHeld (sc : Nat) : Nat → State → State
  | 0, s => s
  | n + 1, s =>
    match (s.sub sc).held with
    | [] => s
    | c :: t => if (s.sub sc).cqFull then s else State.flushHeld sc n ((s.onSub sc (fun y => { y with held := t })).putCompl sc c)

/-! ### Paths (R285) -/

/-- Attempts active on a path of a subchannel. -/
def Subch.activeOn (x : Subch) (p : Nat) : Nat := (x.slots.filter (fun k => k.2.active && k.2.path == p)).length

/-- A DRAINING path whose last attempt has ended becomes EMPTY (PATH_REMOVE). -/
def State.settlePath (s : State) (sc p : Nat) : State :=
  let x := s.sub sc
  if (x.paths.getD p {}).state = 4 ∧ x.activeOn p = 0 then s.onSub sc (fun y => { y with paths := y.paths.del p }) else s

/-- The association or login of a path is up (R285). -/
def Path.up (q : Path) : Bool := q.state == 2 || q.state == 4

/-- Change a path. -/
def State.onPath (s : State) (sc p : Nat) (f : Path → Path) : State := s.onSub sc (fun x => { x with paths := x.paths.upd p {} f })

/-- The path of the next attempt: OPERATIONAL, another than the one to avoid where one qualifies, lowest PREF, fewest active attempts, lowest index (R285). -/
def Subch.pickPath (x : Subch) (r : JRec) : Option Nat :=
  let ops := (x.paths.filter (fun p => p.2.state == 2)).map (fun p => (p.1, p.2.pref * 2 ^ 40 + x.activeOn p.1 * 8 + p.1))
  let other := ops.filter (fun p => r.avoid != some p.1)
  (minBy (·.2) (if other.isEmpty then ops else other)).map (·.1)

/-- Some path of the subchannel is OPERATIONAL. -/
def Subch.hasPath (x : Subch) : Bool := x.paths.any (fun p => p.2.state == 2)

/-- ABORT of an instance in TOD units (R112). -/
def State.abortT (s : State) (i : Nat) : Nat := (s.inst i).abortMs * msT

/-- A record waits as ACCEPTED from now: the no-path interval starts unless a path is OPERATIONAL (R281). -/
def State.waitPath (s : State) (sc wsn : Nat) : State :=
  s.onRec sc wsn (fun r => { r with noPathEnd := if (s.sub sc).hasPath then 0 else s.now + s.abortT r.inst })

/-! ### Inline transforms (R276, R311, R399) -/

/-- Bytes an inline cipher transform of the waybill has left, if one is asked for. -/
def State.inlineLeft (s : State) (sc wsn : Nat) : Option Nat := (s.bcuReqs.find? (inlineOf sc wsn)).map (·.left)

/-- An inline transform of the waybill's attempt is in progress at a unit. -/
def State.inlineBusy (s : State) (sc wsn : Nat) : Bool := s.bcuReqs.any (inlineOf sc wsn) || s.dfuReqs.any (inlineOf sc wsn)

/-! ### Ends of records (Table 09-11) -/

/-- A channel condition as DEVSTAT (Table 09-8). -/
def condStat (cond : Nat) : Nat := if cond = 0 then 0 else 0x03000000 + cond

/-- The record ends CANCELLED with a status, at a stamp (Table 09-11). -/
def State.cancelRec (s : State) (sc wsn st : Nat) (at_ : Nat := s.now) : State :=
  match s.jrec sc wsn with
  | none => s
  | some r =>
    let s := (s.inClass r.cls).dropInline sc wsn
    let s := (s.onRec sc wsn (fun r => { r with state := 7, status := st, tFinal := at_ })).lessWaybill r.inst
    let s := s.settlePath sc r.path
    match s.jrec sc wsn with
    | some r => s.complete sc { bytes := r.entry st, retire := wsn }
    | none => s

/-- The record enters IN_DOUBT: WAYBILL_IN_DOUBT is posted, its completion written, and it is copied to the store (R280, R281). -/
def State.doubtRec (s : State) (sc wsn : Nat) (at_ : Nat := s.now) : State :=
  match s.jrec sc wsn with
  | none => s
  | some r =>
    let s := (s.inClass r.cls).dropInline sc wsn
    let s := (s.onRec sc wsn (fun r => { r with state := 6, status := stInDoubt, tFinal := at_, doubtNo := s.doubts + 1 })).lessWaybill r.inst
    let s : State := { s with doubts := s.doubts + 1 }
    let s := (s.settlePath sc r.path).notify r.inst 1 stInDoubt sc wsn
    let s := match s.jrec sc wsn with
      | some r => s.complete sc { bytes := r.entry stInDoubt, retire := wsn }
      | none => s
    s.storeDoubt sc wsn

/-- The last command has its final response: COMPLETE, and the completion entry is written (Table 09-11). -/
def State.completeRec (s : State) (sc wsn : Nat) : State :=
  match s.jrec sc wsn with
  | none => s
  | some r =>
    let s := (s.inClass r.cls).onRec sc wsn (fun r => { r with state := 4, tFinal := s.now, abortRes := if r.abortRes = 1 then 3 else r.abortRes })
    let s := s.settlePath sc r.path
    match s.jrec sc wsn with
    | some r => s.complete sc { bytes := r.entry stOk, retire := wsn }
    | none => s

/-! ### Failure of attempts and aborts (R281, R287, R288) -/

/-- Another OPERATIONAL path of the subchannel to the same target port (Table 09-15). -/
def Subch.otherPath (x : Subch) (p : Nat) : Bool :=
  x.paths.any (fun q => q.1 != p && q.2.state == 2 && q.2.kind == 1 && fld q.2.target 0 16 == fld (x.paths.getD p {}).target 0 16)

/-- The kind of the first abort of an attempt on a path (Table 09-15). -/
def State.abortKindOf (s : State) (sc p : Nat) : Nat :=
  let x := s.sub sc
  let q := x.paths.getD p {}
  if q.kind ≠ 1 then 2 else if s.portUp q.kind q.port then 1 else if x.otherPath p then 3 else 4

/-- The Route of an engine (R25). -/
def routeOf (n : Nat) : Nat := n / 2

/-- The other engine of a Route. -/
def mate (n : Nat) : Nat := if n % 2 = 0 then n + 1 else n - 1

/-- The claim an output stage stores for a Route; 1 at system reset (R291). -/
def State.claim (s : State) (stage r : Nat) : Nat := s.claims.getD (stage * 16 + r) 1

/-- The first frame of the new engine ends the gap of a switchover, which its Logbook record gives (R292). -/
def State.endGap (s : State) (r : Nat) : State :=
  let o := s.route r
  match o.gap with
  | none => s
  | some (old, last, inj) =>
    let g := (s.now - last) / 4
    (s.onRoute r (fun x => { x with gap := none, lastGap := g })).asInjected inj (fun s => s.logSealed 7 (unitCode 6 old) [r, old, mate old, o.claim, g])

/-- A frame with a claim reaches an output stage: accepted and on the wire, or discarded (R291). -/
def State.frameOut (s : State) (stage r c : Nat) : State :=
  if s.claim stage r = c then { (s.endGap r).onRoute r (fun x => { x with lastFrame := s.now }) with wire := (stage, r, c) :: s.wire } else s

/-- The path whose port sends an abort of a kind: its own for kinds 1 and 2 while it can, another to the same target port for kind 3; a PLOGI goes out when the link returns (Table 09-15). -/
def State.abortPath (s : State) (sc p kind : Nat) : Option Path :=
  let x := s.sub sc
  let q := x.paths.getD p {}
  if kind = 1 then (if s.portUp q.kind q.port then some q else none)
  else if kind = 2 then (if q.up then some q else none)
  else if kind = 3 then (x.paths.find? (fun k => k.1 != p && k.2.state == 2 && k.2.kind == 1 && fld k.2.target 0 16 == fld q.target 0 16)).map (·.2)
  else none

/-- An abort is sent at a stamp; the ABORT interval runs from the first of an attempt (R287, R288). DESIGN CHOICE (log 182): an abort that waits for its association or link counts from the failure. -/
def State.sendAbort (s : State) (sc wsn kind : Nat) (at_ : Nat := s.now) : State :=
  let p := ((s.jrec sc wsn).map (·.path)).getD 0
  let r := (s.sub sc).route
  let s := match s.abortPath sc p kind with
    | some q => s.frameOut (stageOf q.kind q.port) r (s.route r).claim
    | none => s
  s.onRec sc wsn (fun r => { r with
    abortKind := kind
    tAbort := at_
    abortEnd := if r.abortRes = 1 then r.abortEnd else at_ + s.abortT r.inst
    abortRes := 1 })

/-- An attempt fails at a stamp: condStatus 0 for the path or the target, else the final status that a confirmed abort gives, with a channel condition (R281). Timeouts on its path are then no longer consecutive (R285). -/
def State.failAttempt (s : State) (sc wsn condStatus cond : Nat) (at_ : Nat := s.now) : State :=
  match s.jrec sc wsn with
  | none => s
  | some r =>
    if !r.active || r.aborting then s
    else
      let s := (s.inClass r.cls).dropInline sc wsn
      let s := s.onRec sc wsn (fun r => { r with condStatus := condStatus, cond := if cond = 0 then r.cond else cond, devstat := if cond = 0 then r.devstat else condStat cond, inData := false, resp := none })
      let s := s.onPath sc r.path (fun p => { p with fails := p.fails + 1, timeouts := 0 })
      s.sendAbort sc wsn (s.abortKindOf sc r.path) at_

/-- The records of a subchannel that a test selects. -/
def Subch.wsns (x : Subch) (sel : JRec → Bool) : List Nat := (x.slots.filter (fun k => sel k.2)).map (fun k => k.2.wsn)

/-- A path becomes LOST at a stamp, and its attempts fail (R281, R285). -/
def State.losePath (s : State) (sc p : Nat) (at_ : Nat := s.now) : State :=
  let q := (s.sub sc).paths.getD p {}
  if q.state = 0 ∨ q.state = 3 then s
  else
    let s := s.onPath sc p (fun q => { q with state := if q.state = 4 then 4 else 3, change := at_, loginAt := at_, timeouts := 0 })
    ((s.sub sc).wsns (fun r => r.active && r.path == p)).foldl (fun s w => s.failAttempt sc w 0 0 at_) s

/-- The journal lets a failed attempt be sent again (R281). -/
def State.mayRedrive (s : State) (r : JRec) : Bool :=
  r.condStatus == 0 && decide (r.attempts < (s.sub r.sc).maxAtt) && (r.cmds.drop r.done).all (fun c => c.code != 8) && !s.resetting r.inst

/-- A record that waits for an attempt has nothing prepared for it (R276). -/
def JRec.fresh (r : JRec) : JRec := { r with comp := [], need := [], prepEnd := none }

/-- The abort of an attempt is confirmed (Tables 03-5, 09-11). The status of a record that an instance reset cancels after an attempt is free among the codes of Table 02-21. -/
def State.confirmAbort (s : State) (sc wsn : Nat) : State :=
  match s.jrec sc wsn with
  | none => s
  | some r =>
    if !r.aborting then s
    else
      let s := s.onRec sc wsn (fun r => { r with abortRes := 2 })
      if s.resetting r.inst then s.drawn.cancelRec sc wsn (s.freeNat % 16)
      else if r.condStatus ≠ 0 then s.cancelRec sc wsn r.condStatus
      else if s.mayRedrive r then
        let s := s.onRec sc wsn (fun r => { r with state := 1, avoid := some r.path }.fresh)
        (s.waitPath sc wsn).settlePath sc r.path
      else s.doubtRec sc wsn

/-- An abort is rejected or goes unanswered: the next kind that Table 09-15 allows for the path (R288). -/
def State.rejectAbort (s : State) (sc wsn : Nat) : State :=
  match s.jrec sc wsn with
  | none => s
  | some r =>
    if !r.aborting then s
    else
      let x := s.sub sc
      let q := x.paths.getD r.path {}
      if r.abortKind = 1 then s.sendAbort sc wsn (if !s.portUp q.kind q.port && x.otherPath r.path then 3 else 4)
      else if r.abortKind = 3 then s.sendAbort sc wsn 4
      else s

/-! ### Routes and engines (R290 to R294) -/

/-- The active engine of a Route (R290). -/
def State.activeEng (s : State) (r : Nat) : Option Nat := [2 * r, 2 * r + 1].find? (fun n => (s.engine n).state == 1)

/-- Health STATE and CAUSE of an engine (Table 13-6). -/
def State.engHealth (s : State) (n cause : Nat) : Nat × Nat :=
  let st := (s.engine n).state
  if st = 1 then (if (s.engine (mate n)).state = 3 then (0, 0) else (1, 9))
  else if st = 2 ∨ st = 3 then (2, 0)
  else if st = 5 then (3, 0)
  else (4, cause)

/-- An engine changes state; both health words of the Route follow (R387). -/
def State.toEngine (s : State) (n st cause : Nat) : State :=
  let s := s.onEngine n (fun e => { e with state := st })
  let h := s.engHealth n cause
  let s := s.setHealth (unitCode 6 n) h.1 h.2
  let k := s.engHealth (mate n) (s.health (unitCode 6 (mate n))).cause
  s.setHealth (unitCode 6 (mate n)) k.1 k.2

/-- The subchannels of a Route. -/
def State.routeSubs (s : State) (r : Nat) : List (Nat × Subch) := s.subchs.filter (fun p => p.2.live && p.2.route == r)

/-- Waybills in the in-flight table of a Route (R290). -/
def State.inflight (s : State) (r : Nat) : Nat := ((s.routeSubs r).map (fun p => (p.2.slots.filter (fun k => k.2.active)).length)).foldl (· + ·) 0

/-- Records of a Route that a test selects, as (subchannel, WSN). -/
def State.routeRecs (s : State) (r : Nat) (sel : JRec → Bool) : List (Nat × Nat) :=
  (s.routeSubs r).flatMap (fun p => (p.2.wsns sel).map (fun w => (p.1, w)))

/-- The standby's takeover begins: the next claim is written to every output stage (R292). -/
def State.beginSwitch (s : State) (r n : Nat) (byCmd : Bool) : State :=
  s.onRoute r (fun x => { x with switching := some (n, byCmd), unacked := s.stages.map (fun k => (k, s.now)) })

/-- Every output stage stores a claim of a Route. -/
def State.setClaims (s : State) (r c : Nat) : State := { s with claims := s.stages.foldl (fun t k => t.put (k * 16 + r) c) s.claims }

/-- The hub settles the records of a Route that stops (R294). -/
def State.stopRoute (s : State) (r : Nat) : State :=
  let s := s.onRoute r (fun x => { x with stopped := true, switching := none, unacked := [], held := [], quiesce := false })
  let s := (s.routeRecs r (fun x => x.state == 1 && x.attempts == 0)).foldl (fun s p => s.cancelRec p.1 p.2 stRetrySafe) s
  (s.routeRecs r (fun x => x.state == 1 || x.active)).foldl (fun s p => s.doubtRec p.1 p.2) s

/-- A ROUTE_SWITCH in execution ends. -/
def State.endSwitchCmd (s : State) (r st : Nat) : State :=
  match (s.route r).win with
  | none => s
  | some w => (s.onRoute r (fun x => { x with win := none, quiesce := false })).endMb w st []

/-- An engine fails: a switchover, the end of one, or the stop of its Route (R292 to R294). -/
def State.failEngine (s : State) (n cause : Nat) : State :=
  let r := routeOf n
  let was := (s.engine n).state
  let s := (s.onEngine n (fun e => { e with tested := false })).toEngine n 4 cause
  match (s.route r).switching with
  | some (m, _) =>
    if m = n then
      -- the target of the switchover fails: the other engine goes on if it is still active, with a claim above the one written
      let s := s.endSwitchCmd r stNotPermitted
      if (s.engine (mate n)).state = 1 then
        let c := (s.route r).claim + 2
        (s.onRoute r (fun x => { x with switching := none, unacked := [], quiesce := false, claim := c % 2 ^ 32 })).setClaims r (c % 2 ^ 32)
      else s.stopRoute r
    else s.onRoute r (fun x => { x with switching := some (m, false) })
  | none =>
    if was ≠ 1 then (if (s.engine (mate n)).state = 1 then s.endSwitchCmd r stNotPermitted else s)
    else if (s.engine (mate n)).state = 3 then s.beginSwitch r (mate n) false
    else (s.endSwitchCmd r stNotPermitted).stopRoute r

end Sys2Proof.Machine
end

