-- ==== Sys2Proof/Machine/Units.lean ====
section
/-! DEFINITION. What channel and cipher events share: cipher pages and dictionaries as a requester sees them, and the faults and withdrawal of Block Cipher Units and Deflate Units (R298, R312, R319, R320). -/
namespace Sys2Proof.Machine

/-- A page serves the instance (encl 0) or one of its enclaves (R298). -/
def State.pageServes (s : State) (i e n : Nat) : Bool := (s.page n).state != 0 && (s.page n).inst == i && (s.page n).encl == e

/-- A dictionary of an instance, if loaded (R320). -/
def State.dictOf (s : State) (i k : Nat) : Option (List Byte) := s.dicts.find (i * 64 + k)

/-- The unit code of a Block Cipher Unit or a Deflate Unit (Table 13-7). -/
def unitOf (dfu : Bool) (n : Nat) : Nat := unitCode (if dfu then 8 else 7) n

/-- A Block Cipher Unit or a Deflate Unit. -/
def State.unit (s : State) (dfu : Bool) (n : Nat) : Unit := if dfu then s.dfu n else s.bcu n

/-- Change a Block Cipher Unit or a Deflate Unit. -/
def State.onUnit (s : State) (dfu : Bool) (n : Nat) (f : Unit → Unit) : State := if dfu then s.onDfu n f else s.onBcu n f

/-- A unit in service takes requests: not withdrawn, in self-test or gated (R311, R421). -/
def Unit.serves (u : Unit) : Bool := u.state == 1 && u.gated == 0

/-- Units in service. -/
def State.unitsUp (s : State) (dfu : Bool) : List Nat := (List.range 8).filter (fun n => (s.unit dfu n).serves)

/-- Requests return to the front of their pool (R312, R319). -/
def State.toPool (s : State) (dfu : Bool) (qs : List Req) : State :=
  if dfu then { s with dfuPool := qs ++ s.dfuPool } else { s with bcuPool := qs ++ s.bcuPool }

/-- A BENC or BDEC is answered, if its task still waits for it (R305, R306). -/
def State.answerBlock (s : State) (q : Req) (ok : Bool) (v : Nat) : State :=
  let c := s.ctx q.ring q.subidx
  if c.run = .empty ∨ c.tid ≠ q.user ∨ c.await ≠ .cipher then s
  else
    let s := s.onCtx q.ring q.subidx (fun c => { c with await := .block ok v, run := if c.run = .waitMem then .ready else c.run })
    s.resched q.ring

/-- With no Block Cipher Unit in service, every waiting BENC and BDEC raises Protection (R305, R307). -/
def State.failBlocks (s : State) : State :=
  if (s.unitsUp false).isEmpty then
    (s.bcuPool.filter (fun q => q.src == 2)).foldl (fun s q => s.answerBlock q false 0) (s.dropReqs (fun q => q.src == 2))
  else s

/-- A unit is withdrawn: the requests it still holds return to the pool (R312, R313, R319). Reason of the record: 1 mismatches, 2 DRBG health, 3 parity. -/
def State.withdrawUnit (s : State) (dfu : Bool) (n reason : Nat) : State :=
  let u := s.unit dfu n
  if u.state = 2 then s
  else
    let back := u.running.toList ++ u.waiting.toList
    let s := (s.onUnit dfu n (fun u => { u with state := 2, running := none, waiting := none })).toPool dfu back
    let c := unitOf dfu n
    ((((s.countB c).setHealth c 5 7).notify 512 8 0 c 0).logSealed 5 c [reason, back.length]).failBlocks

/-- A mismatch is counted against a unit; a second within 1 s withdraws it (R312, R319). -/
def State.unitMiss (s : State) (dfu : Bool) (n : Nat) : State :=
  let u := s.unit dfu n
  let again := decide (0 < u.faults) && decide (s.now < u.faultEnd)
  let s := (s.onUnit dfu n (fun u => { u with faults := (u.faults + 1) % 2 ^ 32, lastFault := s.now, faultEnd := s.now + secT })).countA (unitOf dfu n)
  let s := if dfu then s else s.logSealed 0xF (unitOf dfu n) [n]
  if again then s.withdrawUnit dfu n 1 else s

end Sys2Proof.Machine
end

