-- ==== Sys2Proof/Machine/Channel.lean ====
section
/-! DEFINITION. Events of the channel subsystem: doorbells, admission, chains, dispatch, frames, failures and aborts, paths, engines and Routes (R266 to R294). -/
namespace Sys2Proof.Machine

/-! ### Doorbells (R269, R270, R272) -/

/-- The number names a live subchannel or ring whose instance accepts doorbells: not STOPPED or RESETTING (R93, R113). -/
def State.doorOpen (s : State) (n : Nat) : Bool :=
  let i := if (s.sub n).live then (s.sub n).inst else (s.ring n).inst
  ((s.sub n).live || (s.ring n).live) && (s.inst i).state == 2

/-- A write of SQ_TAIL of a subchannel (Table 09-1). -/
def State.sqWrite (s : State) (sc value : Nat) : State :=
  let v := value % 65536
  let x := s.sub sc
  if !x.live || !s.doorOpen sc then s
  else if x.depth ≤ v then s.onSub sc (fun x => { x with idxErr := true })
  else s.onSub sc (fun x => { x with sqTail := v, rungAt := s.now })

/-- A write of CQ_HEAD of a subchannel: held completions are written (Table 09-1, R272). -/
def State.cqWrite (s : State) (sc value : Nat) : State :=
  let v := value % 65536
  let x := s.sub sc
  if !x.live then s
  else if x.depth ≤ v then s.onSub sc (fun x => { x with idxErr := true })
  else State.flushHeld sc 65536 (s.onSub sc (fun x => { x with cqHead := v }))

/-! ### Chains (R274, R276, R286) -/

/-- LINK of a Waybill Entry (Table 09-5). -/
def wbeLink (b : List Byte) : Nat := fld b 1 1 % 4

/-- The chain as consecutive 32-byte entries, up to LINK 0b00; n bounds the entries. -/
def State.readChain (s : State) (i : Nat) : Nat → Nat → Except Nat (List (List Byte))
  | 0, _ => .error stBadField
  | n + 1, a =>
    match s.engWords i 0 a 4 with
    | .error c => .error (if c = 1 then stNotPermitted else stBadField)
    | .ok b =>
      if wbeLink b = 3 ∨ bit (fld b 1 1) 2 then .error stBadField
      else if wbeLink b = 0 then .ok [b]
      else
        match State.readChain s i n (a + 32) with
        | .error c => .error c
        | .ok t => .ok (b :: t)

/-- A command begun by an entry. -/
def wbeCmd (idx : Nat) (b : List Byte) : Cmd :=
  { code := fld b 0 1, flags := fld b 1 1, xidx := fld b 2 2, devarg := fld b 0x10 8, ext := fld b 0x18 8, areas := [(fld b 8 8, fld b 4 4)], first := idx }

/-- The commands of a chain: continuations give their areas to the entry before (R274). -/
def groupWbes (idx : Nat) : List (List Byte) → List Cmd
  | [] => []
  | b :: t =>
    let r := groupWbes (idx + 1) t
    if wbeLink b = 1 then
      match r with
      | c :: cs => { wbeCmd idx b with areas := (wbeCmd idx b).areas ++ c.areas } :: cs
      | [] => [wbeCmd idx b]
    else wbeCmd idx b :: r

/-- Continuations hold nothing but LINK, COUNT and DATA_ADDR (R274). -/
def contsOk : Bool → List (List Byte) → Bool
  | _, [] => true
  | cont, b :: t => (!cont || (zeros b 0 1 && decide (fld b 1 1 < 4) && zeros b 2 2 && zeros b 0x10 16)) && contsOk (wbeLink b == 1) t

/-- Round up to a multiple. -/
def upTo (n k : Nat) : Nat := ceilDiv n k * k

/-- The rules of R274 and Table 09-14 for one command, apart from its Transform Block. -/
def Cmd.formOk (c : Cmd) (prof blk : Nat) : Bool :=
  let n := c.count
  let x := c.cmp || c.cph
  decide (1 ≤ c.code ∧ c.code ≤ 9) && (!c.discard || (c.code == 1 && !x)) && (!x || c.code == 1 || c.code == 2 || c.code == 3) && (!c.cmp || c.areas.length == 1) &&
    (if c.cph then decide (c.xidx < 4096) else if c.cmp then decide (c.xidx < 64) || c.xidx == 0xFFFF else c.xidx == 0) &&
    c.areas.all (fun a => a.2 ≤ 16777216) &&
    (if c.code = 5 then n == 0 && c.devarg == 0
     else if c.code = 8 then n == 2 * blk
     else if c.code = 9 then n == (if prof = 1 then 32 else 4096) && c.devarg == 0
     else n % blk == 0 && decide (blk ≤ n) && decide (n ≤ 16777216)) &&
    (if x then c.ext % 32 == 0 else c.ext == 0)

/-- The Transform Block is valid, for the block size (Table 09-6, R276). -/
def Cmd.blockOk (c : Cmd) (blk : Nat) (t : List Byte) : Bool :=
  let xf := fld t 0 1
  let d := fld t 1 1
  decide (xf < 16) && xf % 4 != 3 && (d == 0xFF || (c.cmp && c.cph && decide (d < 64))) && zeros t 2 2 && zeros t 0xC 4 &&
    (!(c.cmp && c.isOut) || decide (upTo (c.count + 5 * ceilDiv c.count 65535 + 18) blk ≤ fld t 4 4))

/-- The instance holds the page and the dictionary a command names, with INLINE, and GUARD_ONLY is kept (R276, R298, R316). -/
def State.cmdHeld (s : State) (i : Nat) (c : Cmd) : Bool :=
  (!c.cph || (s.pageServes i 0 c.xidx && bit (s.page c.xidx).perm 4 && (!bit (s.page c.xidx).perm 5 || c.guarded))) &&
    (c.dict == 0xFF || (s.dictOf i c.dict).isSome)

/-- Check one command of a chain and take in its Transform Block. -/
def State.checkCmdOf (s : State) (i prof blk : Nat) (c : Cmd) : Except Nat Cmd :=
  if !c.formOk prof blk then .error stBadField
  else if !(c.cmp || c.cph) then .ok c
  else
    match s.engWords i 0 c.ext 4 with
    | .error k => .error (if k = 1 then stNotPermitted else stBadField)
    | .ok t =>
      let c' := { c with xf := some (fld t 0 1, fld t 1 1, fld t 4 4, fld t 0x10 16) }
      if !c.blockOk blk t then .error stBadField
      else if !s.cmdHeld i c' then .error stNotPermitted
      else .ok c'

/-- The chain check of Table 09-3 step 4. -/
def State.chain (s : State) (sc a : Nat) : Except Nat (List Cmd) :=
  let x := s.sub sc
  match s.readChain x.inst 256 a with
  | .error c => .error c
  | .ok bs => if contsOk false bs then (groupWbes 0 bs).mapM (s.checkCmdOf x.inst x.profile (2 ^ x.block)) else .error stBadField

/-! ### Admission (R270) -/

/-- Steps 2 to 4 of Table 09-3. -/
def State.admitChain (s : State) (sc a : Nat) : Except Nat (List Cmd) :=
  let x := s.sub sc
  if x.exhausted then .error stSeqExhausted
  else if (s.inst x.inst).wbLimit ≤ (s.inst x.inst).waybills then .error stQueueFull
  else s.chain sc a

/-- The slot of the next WSN holds a record that is not settled (Table 09-3 step 5). -/
def Subch.slotBusy (x : Subch) : Bool :=
  match x.slots.find (x.nextWsn % x.depth) with
  | some r => decide (1 ≤ r.state ∧ r.state ≤ 4) || r.state == 6
  | none => false

/-- The class fixed at admission; scOk says that the number's own eligibility allows Courier (R43, R108, R109). -/
def State.fixClass (s : State) (i : Nat) (scOk : Bool) (req : Nat) : State × Nat :=
  if req ≠ 0 then (s, req)
  else
  let s := s.inWindow
  let n := s.inst i
  if n.eligible && scOk && decide (n.capUsed < n.force.cap) then (s.onInst i (fun n => { n with capUsed := n.capUsed + 1 }), 0)
  else (s.onInst i (fun n => { n with demotions := n.demotions + 1 }), 1)

/-- Write a record as ACCEPTED in its slot under the next WSN (Table 09-3 step 6, R279). -/
def State.acceptRec (s : State) (sc : Nat) (r : JRec) : State :=
  let x := s.sub sc
  let w := x.nextWsn
  let s := (s.onInst x.inst (fun n => { n with waybills := n.waybills + 1 })).onSub sc (fun x => { x with
    nextWsn := (w + 1) % 2 ^ 64
    exhausted := w + 1 = 2 ^ 64
    stalled := false
    slots := x.slots.put (w % x.depth) { r with wsn := w, sc := sc, incarn := x.incarn, state := 1, rflags := r.rflags % 2 + (if r.cmds.any (fun c => c.code == 8) then 2 else 0) } })
  s.waitPath sc w

/-- A refused entry: 0 as its WSN, and its only trace, the completion entry (R266, R270). -/
def State.refuseEntry (s : State) (sc idx st : Nat) : State :=
  let x := s.sub sc
  let s := (s.engWrite x.inst 0 (x.sq + 32 * idx + 0x10) (beBytes 8 0)).1
  (s.onSub sc (fun x => { x with refused := x.refused + 1, stalled := false })).complete sc { bytes := complBytes 0 st 0 0 0 0 idx 0 }

/-- The entry at SQ_HEAD is decided by Table 09-3. -/
def State.admitEntry (s : State) (sc : Nat) : State :=
  let x := s.sub sc
  let idx := x.sqHead
  let take := fun (s : State) => s.onSub sc (fun x => { x with sqHead := (idx + 1) % x.depth })
  if (s.route x.route).stopped then (take s).refuseEntry sc idx stRetrySafe
  else
    match s.engWords x.inst 0 (x.sq + 32 * idx) 4 with
    | .error c => (take s).refuseEntry sc idx (if c = 1 then stNotPermitted else stBadField)
    | .ok e =>
      if 3 ≤ fld e 8 1 ∨ !zeros e 9 7 ∨ fld e 0 8 % 32 ≠ 0 then (take s).refuseEntry sc idx stBadField
      else
        let s := s.inClass (fld e 8 1)
        match s.admitChain sc (fld e 0 8) with
        | .error st => (take s).refuseEntry sc idx st
        | .ok cmds =>
          if x.slotBusy then s.onSub sc (fun x => { x with stalled := true })
          else
            let c := (take s).fixClass x.inst (runsHas (s.inst x.inst).scElig sc) (fld e 8 1)
            let s := (c.1.inClass c.2).acceptRec sc { inst := x.inst, cls := c.2, user := fld e 0x18 8, wbAddr := fld e 0 8, subidx := idx, tAccept := s.now, cmds := cmds, bell := x.rungAt }
            (s.engWrite x.inst 0 (x.sq + 32 * idx + 0x10) (beBytes 8 x.nextWsn)).1

/-! ### Dispatch (R276, R281, R285) -/

/-- A device status other than good (R277). -/
def devBad (d : Nat) : Bool := if d / 2 ^ 24 = 1 then d % 256 != 0 else d / 2 ^ 24 == 2 && d % 32768 != 0

/-- DEVSTAT after an answer or a condition: a device status other than good first, then a condition, then a good answer (R277). -/
def mergeDev (old new cond : Nat) : Nat :=
  if devBad old then old else if devBad new then new else if cond ≠ 0 then condStat cond else if old / 2 ^ 24 = 3 then old else if new = 0 then old else new

/-- A record's condition is noted. -/
def State.noteCond (s : State) (sc wsn cond : Nat) : State :=
  s.onRec sc wsn (fun r => { r with cond := if r.cond = 0 then cond else r.cond, devstat := mergeDev r.devstat 0 cond })

/-- The bytes of a command's areas, or the condition met (Table 09-8). -/
def State.readAreas (s : State) (i : Nat) : List (Nat × Nat) → Except Nat (List Byte)
  | [] => .ok []
  | (a, n) :: t =>
    match s.engRead i 0 a n with
    | .error c => .error c
    | .ok b =>
      match State.readAreas s i t with
      | .error c => .error c
      | .ok bs => .ok (b ++ bs)

/-- Commands not ended, with their indices. -/
def JRec.left (r : JRec) : List (Nat × Cmd) := (r.cmds.zipIdx.drop r.done).map (fun p => (p.2, p.1))

/-- The memory a command's data takes: its areas, or the CAP bytes at DATA_ADDR that a READ with CMP may write (R276). DEDUCED (log 81). -/
def Cmd.memAreas (c : Cmd) : List (Nat × Nat) := if c.isIn && c.cmp then c.areas.map (fun a => (a.1, c.tb.2.2.1)) else c.areas

/-- The dispatch checks of one command: status and condition (Table 09-11, R301, R311, R320). -/
def State.cmdFault (s : State) (i : Nat) (c : Cmd) : Option (Nat × Nat) :=
  let p := s.page c.xidx
  if (c.isOut || (c.isIn && !c.discard)) && !c.memAreas.all (fun a => a.2 == 0 || s.engRange i 0 a.1 a.2) then some (stNotPermitted, 1)
  else if c.cph && (!s.pageServes i 0 c.xidx || p.state == 1) then some (stNotPermitted, 0)
  else if c.cph && p.state == 3 then some (stKeyErased, 0)
  else if c.cph && p.state == 4 then some (stExhausted, 0)
  else if c.dict != 0xFF && (s.dictOf i c.dict).isNone then some (stNotPermitted, 0)
  else none

/-- WRITEs with CMP left in the waybill whose output is not at hand (R276). -/
def JRec.toCompress (r : JRec) : List (Nat × Cmd) := r.left.filter (fun k => k.2.cmp && k.2.isOut && (r.comp.find k.1).isNone)

/-- The request of an inline compression: DATA_ADDR's bytes in, OUT_LEN at the Transform Block (R276). -/
def compressReq (r : JRec) (k : Nat) (c : Cmd) (b : List Byte) : Req :=
  { src := 4, op := 1, subidx := k, inst := r.inst, cls := r.cls, sc := r.sc, wsn := r.wsn, framing := c.tb.1 % 4, verify := bit c.tb.1 2, level := Config.inlineLevel % 4, wbits := 9 + Config.inlineWbits % 7,
    dict := c.dict, input := b, len := b.length, to_ := c.ext + 8 }

/-- The data of WRITEs with CMP is read and given to the Deflate Units' pool, before the first frame (R276). The condition met, or 0. -/
def State.prepare (r : JRec) : List (Nat × Cmd) → State → State × Nat
  | [], s => (s, 0)
  | (k, c) :: t, s =>
    match s.readAreas r.inst c.areas with
    | .error e => (s, e)
    | .ok b => State.prepare r t ({ s with dfuPool := s.dfuPool ++ [compressReq r k c b] }.onRec r.sc r.wsn (fun r => { r with need := k :: r.need }))

/-- Counter-guard marks after a waybill's guarded commands, or none for NONCE_REUSE (R276, R303). -/
def State.guardMarks (s : State) (comp : Tab (List Byte)) : List (Nat × Cmd) → Tab Nat → Option (Tab Nat)
  | [], m => some m
  | (k, c) :: t, m =>
    if !c.guarded then State.guardMarks s comp t m
    else
      let n := match comp.find k with | some b => b.length | none => c.count
      let ctr := c.tb.2.2.2
      if m.getD c.xidx (s.page c.xidx).mark < ctr then State.guardMarks s comp t (m.put c.xidx ((ctr + ceilDiv n 16 - 1) % 2 ^ 128)) else none

/-- A page's mark advances; at all-ones the page is EXHAUSTED (Table 10-2). -/
def State.setMark (s : State) (p m : Nat) : State := s.onPage p (fun x => { x with mark := m, state := if m = 2 ^ 128 - 1 then 4 else x.state })

/-- The device command of a profile and code (Table 09-14). -/
def devOp (prof code : Nat) : DevOp :=
  if prof = 1 then
    match code with
    | 1 => .read16
    | 2 => .write16 false
    | 3 => .write16 true
    | 4 => .verify16
    | 5 => .syncCache16
    | 6 => .writeSame16
    | 7 => .unmap
    | 8 => .compareAndWrite
    | _ => .readCapacity16
  else
    match code with
    | 1 => .nvmeRead
    | 2 => .nvmeWrite false
    | 3 => .nvmeWrite true
    | 4 => .nvmeVerify
    | 5 => .nvmeFlush
    | 6 => .nvmeWriteZeroes
    | 7 => .nvmeDeallocate
    | 8 => .nvmeFusedCompareWrite
    | _ => .nvmeIdentify

/-- A command as the device receives it: DEVARG is its first logical block, the bytes are whole blocks, and the logical unit or namespace is the path's (R286, Tables 09-14, 09-19). -/
def Cmd.toDevice (c : Cmd) (prof block bytes : Nat) (target : List Byte) : DevCmd :=
  let whole := c.code == 5 || c.code == 9
  { op := devOp prof c.code
    lba := if whole then 0 else c.devarg
    blocks := if whole then 0 else if c.code = 8 then 1 else bytes / 2 ^ block
    unit := if prof = 1 then fld target 0x18 8 else fld target 0x14 4 }

/-- The command in progress is sent: data read, and given to the cipher pool where it is enciphered or deciphered (R276, R277). -/
def State.sendCmd (s : State) (sc wsn : Nat) : State :=
  match s.jrec sc wsn with
  | none => s
  | some r =>
    let c := r.cmd
    let x := s.sub sc
    let n := match r.comp.find r.done with | some b => b.length | none => c.count
    let cmd := c.toDevice x.profile x.block n (x.paths.getD r.path {}).target
    let s := s.onRec sc wsn (fun r => { r with curWbe := c.first, moved := 0, buf := [], out := [], resp := none, cond := 0, fed := 0, wrote := 0, dict := none, sent := some cmd })
    let k := (r.keys.find? (fun x => x.1 == c.xidx)).getD (c.xidx, 0, [])
    let req : Req := { src := 3, inst := r.inst, cls := r.cls, page := c.xidx, guard := c.guarded, key := k.2.2, gen := k.2.1, sc := sc, wsn := wsn }
    if c.isOut then
      match (match r.comp.find r.done with | some b => (Except.ok b : Except Nat (List Byte)) | none => s.readAreas r.inst c.areas) with
      | .error e => s.failAttempt sc wsn stNotPermitted e
      | .ok d =>
        if c.cph then { s with bcuPool := s.bcuPool ++ [{ req with op := 1, left := d.length, input := d }] }
        else s.onRec sc wsn (fun r => { r with out := d })
    else if c.isIn && c.cph then { s with bcuPool := s.bcuPool ++ [{ req with op := 2, left := c.count }] }
    else s

/-- The record ends CANCELLED with a status and a condition. -/
def State.cancelCond (s : State) (sc wsn st cond : Nat) : State := (s.noteCond sc wsn cond).cancelRec sc wsn st

/-- A second verify mismatch before the first frame (R276). -/
def State.verifyLost (s : State) (sc wsn attempts : Nat) : State :=
  if attempts = 0 then s.cancelCond sc wsn stRetrySafe 7 else (s.noteCond sc wsn 7).doubtRec sc wsn

/-- The first frame of an attempt is placed in an output stage: DISPATCHED (Table 09-11). -/
def State.firstFrame (s : State) (sc wsn p exch : Nat) : State :=
  match s.jrec sc wsn with
  | none => s
  | some r =>
    let x := s.sub sc
    let q := x.paths.getD p {}
    let stage := stageOf q.kind q.port
    let c := (s.route x.route).claim
    if s.claim stage x.route ≠ c then s
    else
      let keys := (r.left.filter (fun k => k.2.cph)).map (fun k => (k.2.xidx, (s.page k.2.xidx).gen, (s.page k.2.xidx).key))
      let s := if r.cls = 0 ∧ r.attempts = 0 then s.countLat 0 r.bell else s
      let s := (s.frameOut stage x.route c).onRec sc wsn (fun r => { r with
        state := 2, attempts := r.attempts + 1, path := p, tDispatch := s.now, tEnd := s.now + (s.sub sc).timeoutMs * msT, exch := exch % 2 ^ 32, avoid := none, noPathEnd := 0
        abortKind := 0, abortRes := 0, tAbort := 0, abortEnd := 0, condStatus := 0, inData := false, keys := keys })
      s.sendCmd sc wsn

/-- Dispatch one ACCEPTED record on its path: the checks, compression of what is to be compressed, the counter guard, then the first frame (R276, R281). -/
def State.dispatchRec (s : State) (sc wsn exch : Nat) : State :=
  match s.jrec sc wsn with
  | none => s
  | some r =>
    let s := s.inClass r.cls
    match (s.sub sc).pickPath r, r.left.findSome? (fun k => s.cmdFault r.inst k.2) with
    | none, _ => s
    | some _, some (st, cond) => s.cancelCond sc wsn st cond
    | some p, none =>
      match r.prepEnd with
      | some (st, cond) => if st = 0 then s.verifyLost sc wsn r.attempts else s.cancelCond sc wsn st cond
      | none =>
        if !r.need.isEmpty then s
        else if !r.toCompress.isEmpty then
          (match State.prepare r r.toCompress s with
           | (s, 0) => s
           | (s, e) => s.cancelCond sc wsn stNotPermitted e)
        else
          match (if r.attempts = 0 then s.guardMarks r.comp r.left [] else some []) with
          | none => s.cancelCond sc wsn stNonceReuse 0
          | some marks => (marks.foldl (fun s k => s.setMark k.1 k.2) s).firstFrame sc wsn p exch

/-- The Route's engine has work for an ACCEPTED record: nothing asked of the Deflate Units is open (R276). -/
def JRec.ready (r : JRec) : Bool := r.state == 1 && (r.need.isEmpty || r.prepEnd.isSome)

/-- ACCEPTED records of a Route that can be dispatched. -/
def State.dispatchable (s : State) (route : Nat) : List JRec :=
  (s.routeSubs route).flatMap (fun p => ((p.2.slots.map (·.2)).filter (fun r =>
    r.ready && (p.2.pickPath r).isSome && !s.resetting r.inst)))

/-- The Route's engine takes the next waybill under R45 and R46; asking for its compression is no grant of the Route. -/
def State.dispatchNext (s : State) (route exch : Nat) : State :=
  let c := s.dispatchable route
  let ws := c.map (fun r => (r.cls, r.inst))
  match (s.route route).arb.pick ws with
  | none => s
  | some (cl, i, fl) =>
    match minBy (·.tAccept) (c.filter (fun r => r.cls == cl && r.inst == i)) with
    | none => s
    | some r =>
      if r.prepEnd.isNone && !r.toCompress.isEmpty then s.dispatchRec r.sc r.wsn exch
      else (s.onRoute route (fun x => { x with arb := x.arb.serve (s.weights i).che ws cl i fl })).dispatchRec r.sc r.wsn exch

/-! ### Frames from a target (R276, R278, R281, R283) -/

/-- Where device bytes from an offset on lie in a command's areas. -/
def areaParts : List (Nat × Nat) → Nat → List Byte → List (Nat × List Byte)
  | [], _, _ => []
  | (a, n) :: t, off, bs => if n ≤ off then areaParts t (off - n) bs else (a + off, bs.take (n - off)) :: areaParts t 0 (bs.drop (n - off))

/-- Write parts in order; condition 1 stops, condition 3 goes on (R278). -/
def State.writeParts (i : Nat) : List (Nat × List Byte) → State × Nat → State × Nat
  | [], x => x
  | (a, b) :: t, x =>
    if x.2 = 1 then x
    else
      let w := x.1.engWrite i 0 a b
      State.writeParts i t (w.1, if w.2 = 0 then x.2 else w.2)

/-- Device bytes, in clear, are delivered to memory from an offset (R278). -/
def State.deliver (s : State) (sc wsn off : Nat) (bs : List Byte) : State :=
  match s.jrec sc wsn with
  | none => s
  | some r =>
    let w := State.writeParts r.inst (areaParts r.cmd.areas off bs) (s, 0)
    if w.2 = 1 then w.1.failAttempt sc wsn stNotPermitted 1 else if w.2 = 3 then w.1.noteCond sc wsn 3 else w.1

/-- Device bytes of a READ with CMP that are not expanded go to the Deflate Units' pool, one request at a time (R276, R278). -/
def State.feed (s : State) (sc wsn : Nat) : State :=
  match s.jrec sc wsn with
  | none => s
  | some r =>
    let c := r.cmd
    if r.out.length ≤ r.fed ∨ s.dfuReqs.any (inlineOf sc wsn) then s
    else { s with dfuPool := s.dfuPool ++ [{ src := 4, op := 2, subidx := r.done, inst := r.inst, cls := r.cls, sc := sc, wsn := wsn, framing := c.tb.1 % 4, cap := c.tb.2.2.1, dict := c.dict,
                                             dictBytes := r.dict.getD [], stamp := b2n r.dict.isSome }] }

/-- Change the requests of a waybill's inline cipher transform. -/
def State.onInline (s : State) (sc wsn : Nat) (f : Req → Req) : State :=
  let g := fun (q : Req) => if inlineOf sc wsn q then f q else q
  { s with bcuPool := s.bcuPool.map g, bcus := s.bcus.map (fun u => (u.1, { u.2 with running := u.2.running.map g, waiting := u.2.waiting.map g })) }

/-- A data frame of a READ (R276, R278). -/
def State.dataIn (s : State) (sc wsn : Nat) (bs : List Byte) : State :=
  match s.jrec sc wsn with
  | none => s
  | some r =>
    let c := r.cmd
    if r.aborting ∧ (r.condStatus ≠ 0 ∨ c.cph ∨ c.cmp) then s
    else
      let s := s.onRec sc wsn (fun r => { r with state := 3, inData := !r.aborting, moved := r.moved + (if c.isIn then bs.length else 0) })
      if !c.isIn || c.discard then s
      else if c.cph then s.onRec sc wsn (fun r => { r with buf := r.buf ++ bs })
      else if c.cmp then (s.onRec sc wsn (fun r => { r with out := r.out ++ bs })).feed sc wsn
      else s.deliver sc wsn r.moved bs

/-- What a READ with CMP has received, expanded (R276, R278). -/
def JRec.expanded (r : JRec) : Expanded := expand (r.cmd.tb.1 % 4) r.cmd.tb.2.2.1 (r.dict.getD []) r.out

/-- A READ with CMP has all its data: OUT_LEN is written; the condition met (R276, R278). -/
def State.expandEnd (s : State) (r : JRec) : State × Nat :=
  let o := s.engWrite r.inst 0 (r.cmd.ext + 8) (beBytes 4 r.expanded.bytes.length)
  (o.1, if o.2 = 1 then 1 else r.expanded.cond)

/-- Sense data goes to its slot's area (R277); the address, or 0. -/
def State.putSense (s : State) (sc wsn : Nat) (sense : List Byte) : State × Nat :=
  let x := s.sub sc
  if x.sense = 0 ∨ sense = [] then (s, 0)
  else
    let a := x.sense + wsn % x.depth * 0x100
    ((s.engWrite x.inst 0 a (beBytes 2 (min 252 sense.length) ++ sense.take 252)).1, a)

/-- A device's answer as DEVSTAT (Table 09-8). -/
def devStat (prof v : Nat) : Nat := if prof = 1 then 0x01000000 + v % 65536 else 0x02000000 + v % 32768

/-- Residual bytes of the command in progress of a record, with bytes moved (Table 09-7). -/
def JRec.rest (r : JRec) (moved : Nat) : Nat := r.transfer - (if r.cmd.isIn then r.moved else moved)

/-- A NOTIFY command that is not the waybill's last writes a progress entry when its final response arrives (R275). -/
def State.progress (s : State) (sc wsn : Nat) (r : JRec) : State :=
  if r.cmd.notify && decide (r.done + 1 < r.cmds.length) then
    match s.jrec sc wsn with
    | some q => s.complete sc { bytes := complBytes q.wsn stOk (q.attempts % 16 * 16 + q.path) 0x40 r.cmd.first q.devstat q.subidx q.sense }
    | none => s
  else s

/-- The final response of the command in progress takes effect: incorrect length, progress entry, the next command, or COMPLETE (R275, Table 09-11). -/
def State.endCmd (s : State) (sc wsn dev moved : Nat) (sense : List Byte) : State :=
  match s.jrec sc wsn with
  | none => s
  | some r =>
    let x := s.sub sc
    let c := r.cmd
    let e := if c.isIn && c.cmp then s.expandEnd r else (s, 0)
    let mv := if c.isIn then r.moved else moved
    let lenBad := !c.lenok && (c.isIn || c.isOut) && mv != r.transfer
    let cond := if r.cond ≠ 0 then r.cond else if e.2 ≠ 0 then e.2 else if lenBad then 4 else 0
    let n := e.1.putSense sc wsn sense
    let s := (n.1.onPath sc r.path (fun p => { p with timeouts := 0 })).onRec sc wsn (fun r => { r with
      devstat := mergeDev r.devstat (devStat x.profile dev) cond, residual := r.transfer - mv, sense := if n.2 = 0 then r.sense else n.2
      cond := cond, inData := false, resp := none, buf := [], out := [] })
    let s := s.progress sc wsn r
    if lenBad ∨ r.cmds.length ≤ r.done + 1 then s.completeRec sc wsn
    else (s.onRec sc wsn (fun r => { r with state := 2, done := r.done + 1 })).sendCmd sc wsn

/-- The command's data is in memory and its final response takes effect, or the response waits for the rest of its expansion (R278). -/
def State.finish (s : State) (sc wsn dev moved : Nat) (sense : List Byte) : State :=
  match s.jrec sc wsn with
  | none => s
  | some r =>
    if r.cmd.isIn && r.cmd.cmp && decide (r.fed < r.out.length) then
      (s.feed sc wsn).onRec sc wsn (fun r => { r with resp := some (dev, moved, sense), inData := false, state := 3 })
    else s.endCmd sc wsn dev moved sense

/-- A final response: it ends an abort, waits for its data to be deciphered, or ends the command (R276, R282). -/
def State.finalIn (s : State) (sc wsn dev moved : Nat) (sense : List Byte) : State :=
  match s.jrec sc wsn with
  | none => s
  | some r =>
    if r.aborting then
      let n := s.putSense sc wsn sense
      (((n.1.onPath sc r.path (fun p => { p with timeouts := 0 })).onRec sc wsn (fun r => { r with
        devstat := mergeDev r.devstat (devStat (s.sub sc).profile dev) 0, residual := r.rest moved
        sense := if n.2 = 0 then r.sense else n.2 })).progress sc wsn r).completeRec sc wsn
    else
      match s.inlineLeft sc wsn with
      | none => s.finish sc wsn dev moved sense
      | some l =>
        let todo := r.moved - (r.cmd.count - l)
        if r.cmd.isOut ∨ todo = 0 then (s.dropReqs (inlineOf sc wsn)).finish sc wsn dev moved sense
        else (s.onInline sc wsn (fun q => { q with left := todo })).onRec sc wsn (fun r => { r with resp := some (dev, moved, sense), inData := false, state := 3 })

/-- Pending aborts that one confirmation ends: every exchange of the lost N_Port at the target port for TPRLO and implicit logout, else the attempt's own (Table 09-15). -/
def State.confirmed (s : State) (sc wsn : Nat) : List (Nat × Nat) :=
  match s.jrec sc wsn with
  | none => []
  | some r =>
    let q := (s.sub sc).paths.getD r.path {}
    if r.abortKind = 3 ∨ r.abortKind = 4 then
      s.subchs.flatMap (fun p => (p.2.wsns (fun t => t.aborting && t.abortKind == r.abortKind &&
        (let u := p.2.paths.getD t.path {}; u.kind == q.kind && u.port == q.port && fld u.target 0 16 == fld q.target 0 16))).map (fun w => (p.1, w)))
    else [(sc, wsn)]

/-- An abort of the attempt can be answered now: kinds 1 and 4 need the link, kind 2 the association (Table 09-15). -/
def State.answerable (s : State) (sc : Nat) (r : JRec) : Bool :=
  let q := (s.sub sc).paths.getD r.path {}
  if r.abortKind = 2 then q.state == 2 || q.state == 4
  else if r.abortKind = 3 then (s.sub sc).otherPath r.path
  else s.portUp q.kind q.port

/-- A frame held in a switchover answers the attempt: its stamp decides, and it lies before any timeout not yet taken (R282). -/
def State.heldAnswer (s : State) (sc wsn : Nat) : Bool :=
  (s.route (s.sub sc).route).held.any (fun b => b.sc == sc && b.wsn == wsn && (b.what == 2 || b.what == 3 || b.what == 5))

/-- The record has an attempt that has not failed, with no final response at hand. -/
def State.attempting (s : State) (sc wsn : Nat) : Option JRec := (s.jrec sc wsn).filter (fun r => r.active && !r.aborting && r.resp.isNone && !s.heldAnswer sc wsn)

/-- An attempt times out at a stamp; the third in a row loses the path (R281, R285). -/
def State.timeoutAttempt (s : State) (sc wsn : Nat) (at_ : Nat) : State :=
  match s.attempting sc wsn with
  | none => s
  | some r =>
    let n := ((s.sub sc).paths.getD r.path {}).timeouts + 1
    let s := (s.failAttempt sc wsn 0 0 at_).onPath sc r.path (fun p => { p with timeouts := n })
    if 3 ≤ n then s.losePath sc r.path at_ else s

/-- An ABORT interval ends without a confirmation (R281, R288). -/
def State.abortLost (s : State) (sc wsn : Nat) (at_ : Nat) : State := (s.onRec sc wsn (fun r => { r with abortRes := 4 })).doubtRec sc wsn at_

/-- No path was OPERATIONAL throughout the interval (R281). -/
def State.noPath (s : State) (sc wsn attempts : Nat) (at_ : Nat) : State := if attempts = 0 then s.cancelRec sc wsn stRetrySafe at_ else s.doubtRec sc wsn at_

/-- The first interval of a record that a stamp lies at or after the end of has expired (R39, R282). -/
def State.expireOne (s : State) (sc wsn stamp : Nat) : State :=
  match s.jrec sc wsn with
  | none => s
  | some r =>
    let past := fun (n : Nat) => n != 0 && decide (n ≤ stamp)
    if (s.attempting sc wsn).isSome && past r.tEnd then s.timeoutAttempt sc wsn r.tEnd
    else if r.aborting && !s.heldAnswer sc wsn && past r.abortEnd then s.abortLost sc wsn r.abortEnd
    else if r.state == 1 && past r.noPathEnd then s.noPath sc wsn r.attempts r.noPathEnd
    else s

/-- What a record's timeouts have decided for an event of a stamp: the TIMEOUT of its attempt, then the ABORT interval that followed (R39, R282). -/
def State.expireRec (s : State) (sc wsn stamp : Nat) : State := (s.expireOne sc wsn stamp).expireOne sc wsn stamp

/-- The record is the one IN_DOUBT under an identity. -/
def JRec.inDoubt (r : JRec) (sc incarn wsn : Nat) : Bool := r.state == 6 && r.sc == sc && r.incarn == incarn && r.wsn == wsn

/-- A response is kept as evidence of a record IN_DOUBT, in its slot or in the store: DEVSTAT, RESIDUAL, SENSE and LATE_RESPONSE (R283). None if no such record is held. -/
def State.evidence (s : State) (sc incarn wsn dev : Nat) (residual : JRec → Nat) (sense : List Byte) : Option State :=
  let x := s.sub sc
  let n := if x.live && x.incarn == incarn then s.putSense sc wsn sense else (s, 0)
  let f := fun (r : JRec) => { r with devstat := dev, residual := residual r % 2 ^ 32, sense := if n.2 = 0 then r.sense else n.2, rflags := r.rflags ||| 1 }
  if ((s.jrec sc wsn).map (fun r => r.inDoubt sc incarn wsn)).getD false then some (n.1.onRec sc wsn f)
  else if s.indoubt.any (fun r => r.inDoubt sc incarn wsn) then some { n.1 with indoubt := n.1.indoubt.map (fun r => if r.inDoubt sc incarn wsn then f r else r) }
  else none

/-- A frame from a target reaches the engine that serves it, with its stamp (R281 to R283). -/
def State.takeFrame (s : State) (b : Inb) : State :=
  let s := s.expireRec b.sc b.wsn b.stamp
  let late := if b.what = 2 then s.evidence b.sc (s.sub b.sc).incarn b.wsn (devStat (s.sub b.sc).profile b.devstat) (fun r => r.rest b.moved) b.bytes else none
  match late, s.jrec b.sc b.wsn with
  | some t, _ => t
  | none, none => s
  | none, some r =>
    let q := (s.sub b.sc).paths.getD r.path {}
    let s := s.inClass r.cls
    if !r.active then s.discardAt q.kind q.port
    else if b.what = 0 then s.onRec b.sc b.wsn (fun r => { r with state := 3 })
    else if b.what = 1 then s.dataIn b.sc b.wsn b.bytes
    else if b.what = 2 then s.finalIn b.sc b.wsn b.devstat b.moved b.bytes
    else if b.what = 4 then s.rejectAbort b.sc b.wsn
    else
      -- a final response of the same cycle wins for its own attempt; the others that the confirmation ends follow (R282)
      let l := if r.aborting && s.answerable b.sc r then s.confirmed b.sc b.wsn else []
      let s := if b.what = 5 then s.finalIn b.sc b.wsn b.devstat b.moved b.bytes else s
      l.foldl (fun s p => (s.expireRec p.1 p.2 b.stamp).confirmAbort p.1 p.2) s

/-- A frame from a target reaches its port: delivered, held during a switchover, or discarded (R283, R292). -/
def State.arrive (s : State) (b : Inb) : State :=
  match s.jrec b.sc b.wsn with
  | none => s.takeFrame { b with stamp := s.now }
  | some r =>
    let x := s.sub b.sc
    let q := x.paths.getD r.path {}
    let b := { b with stage := stageOf q.kind q.port, stamp := s.now }
    let o := s.route x.route
    if o.stopped then s.discardAt q.kind q.port
    else
      match o.switching with
      | none => s.takeFrame b
      | some (n, _) =>
        if s.claim b.stage x.route = (o.claim + 1) % 2 ^ 32 then
          (if (o.held.filter (fun h => h.stage == b.stage)).length < 512 then s.onRoute x.route (fun o => { o with held := o.held ++ [b] })
           else (s.discardAt q.kind q.port).failAttempt b.sc b.wsn 0 0)
        else if (s.engine (mate n)).state = 1 then s.takeFrame b
        else s.discardAt q.kind q.port

/-! ### Engines and Routes -/

/-- A stopped Route starts again on an engine that has passed its self-test, with the next claim (R294). -/
def State.startRoute (s : State) (n : Nat) : State :=
  let r := routeOf n
  let c := ((s.route r).claim + 1) % 2 ^ 32
  ((s.setClaims r c).onRoute r (fun x => { x with claim := c, stopped := false, beat := s.now })).toEngine n 1 0

/-- An engine's self-test has passed outside a switchover: standby, or the active engine of a stopped Route (R293, R294). -/
def State.enginePassed (s : State) (n : Nat) : State :=
  if (s.route (routeOf n)).stopped then s.startRoute n else s.toEngine n 2 0

/-- A data phase of an attempt is in progress: data frames, or an inline transform whose bytes are in the engine's buffers (R292, R293). -/
def State.phaseOf (s : State) (sc wsn : Nat) : Bool := s.inlineBusy sc wsn || ((s.jrec sc wsn).map (·.inData)).getD false

/-- Steps 2 to 4 of R292, once every output stage has acknowledged (R292, R293). -/
def State.takeOver (s : State) (r n : Nat) (byCmd : Bool) : State :=
  let old := mate n
  let o := s.route r
  let c := (o.claim + 1) % 2 ^ 32
  let s := s.onRoute r (fun x => { x with claim := c, switching := none, held := [], switchovers := x.switchovers + 1, lastSwitch := s.now, gap := some (old, o.lastFrame, o.injected), beat := s.now, quiesce := false, injected := false })
  -- what the old engine's buffers held is lost: data phases in progress, and compressed data of waybills not yet dispatched
  let s := if byCmd then s else (s.routeRecs r (fun x => x.active && !x.aborting)).foldl (fun s p => if s.phaseOf p.1 p.2 then s.failAttempt p.1 p.2 0 0 else s) s
  let s := (s.routeRecs r (fun x => x.state == 1)).foldl (fun s p => (s.dropInline p.1 p.2).onRec p.1 p.2 JRec.fresh) s
  let s := if (s.engine old).state = 1 then s.toEngine old 2 0 else if (s.engine old).state = 4 ∧ !(s.engine old).tested then s.toEngine old 5 0 else s
  let s := (s.toEngine n 1 0).endSwitchCmd r stOk
  let s := (s.notify 512 6 0 r c).countB 0xFF01
  o.held.foldl (fun s b => s.takeFrame b) (s.countA (unitCode 6 old))

/-- Ports and paths: every path on a port is lost (R285). -/
def State.losePaths (s : State) (kind port : Nat) : State :=
  (s.subchs.flatMap (fun p => (p.2.paths.filter (fun q => q.2.state != 0 && ioKey q.2.kind q.2.port == ioKey kind port)).map (fun q => (p.1, q.1)))).foldl
    (fun s p => s.losePath p.1 p.2) s

/-- The unit code of a port (Table 13-7). -/
def portUnit (kind port : Nat) : Nat := unitCode (if kind = 1 then 9 else if kind = 4 then 5 else 0xA) port

/-- The port exists as a port of that path kind. -/
def State.portIs (s : State) (kind port : Nat) : Bool :=
  if kind = 1 then decide (port < 32) else if kind = 4 then decide (port < 12) && (s.port port).pcie else (kind == 2 || kind == 3) && s.ethExists port

/-- Logins or associations of a port: distinct remote ports for Fibre Channel, paths otherwise (Table 09-12, LOGIN_QUERY). -/
def State.logins (s : State) (kind port : Nat) : Nat :=
  let l := s.subchs.flatMap (fun p => (p.2.paths.filter (fun q => (q.2.state == 2 || q.2.state == 4) && ioKey q.2.kind q.2.port == ioKey kind port)).map (fun q => fld q.2.target 0 16))
  if kind = 1 then l.eraseDups.length else l.length

/-- A login or association succeeds: OPERATIONAL; NVMe aborts that waited for the association are sent, waiting records may go, and implicit logouts are confirmed (R281, R285, R287, Table 09-15). -/
def State.loginOk (s : State) (sc p : Nat) : State :=
  let s := ((s.sub sc).wsns (fun r => r.state == 1 || (r.active && r.path == p))).foldl (fun s w => s.expireRec sc w s.now) s
  let s := s.onPath sc p (fun q => { q with state := 2, change := s.now, timeouts := 0 })
  let s := ((s.sub sc).wsns (fun r => r.aborting && r.abortKind == 2 && r.path == p)).foldl (fun s w => s.sendAbort sc w 2) s
  let s := ((s.sub sc).wsns (fun r => r.state == 1)).foldl (fun s w => s.onRec sc w (fun r => { r with noPathEnd := 0 })) s
  match (s.sub sc).wsns (fun r => r.aborting && r.abortKind == 4 && r.path == p) with
  | [] => s
  | w :: _ => (s.confirmed sc w).foldl (fun s k => s.confirmAbort k.1 k.2) s

/-! ### Rows -/

/-- SUBCHANNEL_DOORBELL: a write of SQ_TAIL (R269, R270). -/
def execSubchannelDoorbell (sc value : Nat) (s : State) : Out := when s.runs s (s.sqWrite sc value)

/-- WAYBILL_ADMISSION: the engine takes the entry at SQ_HEAD (R270). -/
def execWaybillAdmission (sc : Nat) (s : State) : Out :=
  let x := s.sub sc
  when (s.runs && x.live && x.sqHead != x.sqTail && !s.resetting x.inst && (s.route x.route).switching.isNone) s (s.admitEntry sc)

/-- WAYBILL_DISPATCH: the Route's active engine sends the first frame of the next attempt (R281, R285, R290). The exchange identifiers that the port and the target agree on are an operand (Table 09-9). -/
def execWaybillDispatch (route exch : Nat) (s : State) : Out :=
  let o := s.route route
  when (s.runs && !o.stopped && o.switching.isNone && !o.quiesce && (s.activeEng route).isSome && decide (s.inflight route < 65536)) s (s.dispatchNext route exch)

/-- TARGET_FIRST_FRAME (Table 09-11). -/
def execTargetFirstFrame (sc wsn : Nat) (s : State) : Out := when s.runs s (s.arrive { stage := 0, what := 0, sc := sc, wsn := wsn })

/-- DATA_FRAME (R278). -/
def execDataFrame (sc wsn : Nat) (bytes : List Byte) (s : State) : Out := when s.runs s (s.arrive { stage := 0, what := 1, sc := sc, wsn := wsn, bytes := bytes })

/-- FINAL_RESPONSE (Table 09-11). -/
def execFinalResponse (sc wsn devstat moved : Nat) (sense : List Byte) (s : State) : Out :=
  when s.runs s (s.arrive { stage := 0, what := 2, sc := sc, wsn := wsn, devstat := devstat, moved := moved, bytes := sense })

/-- ABORT_CONFIRMATION (R288, Table 09-15); a final response of the same TCLK cycle wins the tie for its attempt (R282): device status, bytes moved, sense. -/
def execAbortConfirmation (sc : Nat) (wsn : Confirmed) (s : State) : Out :=
  when s.runs s (s.arrive (match wsn.tie with
    | none => { stage := 0, what := 3, sc := sc, wsn := wsn.wsn }
    | some (dev, moved, sense) => { stage := 0, what := 5, sc := sc, wsn := wsn.wsn, devstat := dev, moved := moved, bytes := sense }))

/-- ABORT_REJECTED (R288). -/
def execAbortRejected (sc wsn : Nat) (s : State) : Out := when s.runs s (s.arrive { stage := 0, what := 4, sc := sc, wsn := wsn })

/-- ATTEMPT_TIMEOUT: no final response within TIMEOUT; the third in a row loses the path (R281, R285). -/
def execAttemptTimeout (sc wsn : Nat) (s : State) : Out :=
  match s.attempting sc wsn with
  | none => .next s
  | some r => when s.runs s ((s.advanceTo r.tEnd).timeoutAttempt sc wsn r.tEnd)

/-- TRANSPORT_ERROR (R281). -/
def execTransportError (sc wsn : Nat) (s : State) : Out := when (s.runs && (s.attempting sc wsn).isSome) s ((s.expireRec sc wsn s.now).failAttempt sc wsn 0 0)

/-- ABORT_TIMEOUT: the ABORT interval ends without a confirmation (R281, R288). -/
def execAbortTimeout (sc wsn : Nat) (s : State) : Out :=
  match s.jrec sc wsn with
  | none => .next s
  | some r => when (s.runs && r.aborting && !s.heldAnswer sc wsn) s ((s.advanceTo r.abortEnd).abortLost sc wsn r.abortEnd)

/-- NO_PATH_TIMEOUT: no path was OPERATIONAL throughout the interval (R281). -/
def execNoPathTimeout (sc wsn : Nat) (s : State) : Out :=
  match s.jrec sc wsn with
  | none => .next s
  | some r => when (s.runs && r.state == 1 && r.noPathEnd != 0) s ((s.advanceTo r.noPathEnd).noPath sc wsn r.attempts r.noPathEnd)

/-- The kind and number of an output stage's port (R291). -/
def stagePort (k : Nat) : Nat × Nat := if k < 32 then (1, k) else if k < 44 then (2, k - 32) else (4, k - 44)

/-- LATE_RESPONSE: evidence for a record IN_DOUBT, or a frame for no exchange, counted against its port: FC 0 to 31, Ethernet from 32, CXP from 44 (R283). -/
def execLateResponse (sc incarn wsn devstat residual port : Nat) (sense : List Byte) (s : State) : Out :=
  when s.runs s ((s.evidence sc incarn wsn (devStat (if devstat / 2 ^ 24 % 2 = 1 then 1 else 2) devstat) (fun _ => residual) sense).getD (s.discardAt (stagePort port).1 (stagePort port).2))

/-- COMPLETION_RING_HEAD_WRITE of a subchannel (R272). -/
def State.cqHeadSub (s : State) (sc value : Nat) : State := if s.runs then s.cqWrite sc value else s

/-- PATH_SIGNAL_LOSS: signal or synchronisation has been lost for 1 ms (R285). -/
def execPathSignalLoss (kind port : Nat) (s : State) : Out :=
  let s1 := if kind = 4 then s.onPort port (fun p => { p with link := 0, downAt := s.now, change := s.now })
    else s.onIoport (ioKey kind port) (fun p => { p with up := false, signal := false, lostAt := s.now - msT, change := s.now })
  when (s.runs && s.portIs kind port && s.portUp kind port) s
    ((fun (s : State) => if kind = 4 then s.failBars (1, port) else s) ((((s1.countB (portUnit kind port)).setHealth (portUnit kind port) 4 5).logRec 9 (portUnit kind port) [port, 3]).losePaths kind port))

/-- PORT_SIGNAL_RESTORED: the link is up again (R285, LOGIN_QUERY). -/
def execPortSignalRestored (kind port rate : Nat) (s : State) : Out :=
  let s1 := if kind = 4 then s.onPort port (fun p => { p with link := 1, rate := rate, change := s.now })
    else s.onIoport (ioKey kind port) (fun p => { p with up := true, signal := true, rate := rate, retrains := p.retrains + 1, change := s.now })
  when (s.runs && s.portIs kind port && !s.portUp kind port) s (((s1.countA (portUnit kind port)).setHealth (portUnit kind port) 0 0).logRec 9 (portUnit kind port) [port, 2])

/-- PATH_LOGOUT: the login or association ends (R285). -/
def execPathLogout (sc path : Nat) (s : State) : Out :=
  let q := (s.sub sc).paths.getD path {}
  when (s.runs && (s.sub sc).live && (q.state == 2 || q.state == 4)) s (s.losePath sc path)

/-- LOGIN_RESULT (R285): it needs the port's link and one of its 4,096 logins. -/
def execLoginResult (sc path : Nat) (ok : Bool) (s : State) : Out :=
  let q := (s.sub sc).paths.getD path {}
  let fits := decide (s.logins q.kind q.port < 4096)
  when (s.runs && (s.sub sc).live && (q.state == 1 || q.state == 3) && (!ok || s.portUp q.kind q.port)) s
    (if ok && fits then s.loginOk sc path else s.losePath sc path)

/-- LOGIN_TIMEOUT: the first login was not answered within 1 s (R285). -/
def execLoginTimeout (sc path : Nat) (s : State) : Out :=
  let q := (s.sub sc).paths.getD path {}
  when (s.runs && (s.sub sc).live && q.state == 1) s ((s.advanceTo (q.loginAt + secT)).losePath sc path)

/-- LOGIN_RETRY: a LOST path tries again every 1 s (R285). -/
def execLoginRetry (sc path : Nat) (s : State) : Out :=
  let q := (s.sub sc).paths.getD path {}
  let s1 := s.advanceTo (q.loginAt + secT)
  when (s.runs && (s.sub sc).live && q.state == 3) s (s1.onPath sc path (fun q => { q with loginAt := s1.now }))

/-- ENGINE_HEARTBEAT: every 1,000 ECLK cycles (R292). -/
def execEngineHeartbeat (route : Nat) (s : State) : Out :=
  let s1 := s.advanceTo ((s.route route).beat + 4000)
  when (s.runs && (s.activeEng route).isSome && (s.route route).switching.isNone) s (s1.onRoute route (fun x => { x with beat := s1.now }))

/-- HEARTBEAT_LOSS: none received by a standby in STANDBY_READY for 4,000 ECLK cycles (R292). -/
def execHeartbeatLoss (route : Nat) (s : State) : Out :=
  match s.activeEng route with
  | none => .next s
  | some n => when (s.runs && (s.route route).switching.isNone && (s.engine (mate n)).state == 3) s ((s.advanceTo ((s.route route).beat + 16000)).failEngine n 2)

/-- ENGINE_CHECKER_FAULT (R292 to R294). -/
def execEngineCheckerFault (engine : Nat) (s : State) : Out := when (s.runs && [1, 2, 3].contains (s.engine engine).state) s (s.failEngine engine 2)

/-- CLAIM_WRITE: accepted where it is ahead of the stored claim, and acknowledged (R291, R292). -/
def State.claimWrite (s : State) (route stage claim : Nat) : State :=
  let d := (claim + 2 ^ 32 - s.claim stage route) % 2 ^ 32
  let s := if 1 ≤ d ∧ d < 2 ^ 31 then { s with claims := s.claims.put (stage * 16 + route) (claim % 2 ^ 32) } else s
  let o := s.route route
  if s.claim stage route = (o.claim + 1) % 2 ^ 32 then s.onRoute route (fun x => { x with unacked := x.unacked.filter (fun u => u.1 != stage) }) else s

/-- CLAIM_WRITE (R291). -/
def execClaimWrite (route stage claim : Nat) (s : State) : Out :=
  when (s.runs && s.stages.contains stage) s (s.claimWrite route stage claim)

/-- CLAIM_WRITE_RESEND: a claim write unacknowledged after 500 ECLK cycles is sent again (R292). -/
def execClaimWriteResend (route stage : Nat) (s : State) : Out :=
  match (s.route route).unacked.find? (fun u => u.1 == stage) with
  | none => .next s
  | some u =>
    let s1 := s.advanceTo (u.2 + 2000)
    when s.runs s (s1.onRoute route (fun x => { x with unacked := x.unacked.map (fun v => if v.1 = stage then (stage, s1.now) else v) }))

/-- CLAIMS_ACKNOWLEDGED: every output stage has stored the new claim (R292, R293). -/
def execClaimsAcknowledged (route : Nat) (s : State) : Out :=
  match (s.route route).switching with
  | none => .next s
  | some (n, byCmd) => when (s.runs && (s.route route).unacked.isEmpty) s (s.takeOver route n byCmd)

/-- OUTPUT_STAGE_FRAME: a frame with a claim reaches an output stage (R291). -/
def execOutputStageFrame (stage route claim : Nat) (s : State) : Out := when (s.runs && s.stages.contains stage) s (s.frameOut stage route claim)

/-- STANDBY_LOOPBACK: every 10 ms; a lost or corrupted frame fails the standby (R294). -/
def execStandbyLoopback (route : Nat) (ok : Bool) (s : State) : Out :=
  let s1 := s.advanceTo ((s.route route).loop + 10 * msT)
  let s2 := s1.onRoute route (fun x => { x with loop := s1.now })
  match [2 * route, 2 * route + 1].find? (fun n => (s.engine n).state == 2 || (s.engine n).state == 3) with
  | none => .next s
  | some n =>
    when (s.runs && (s.route route).switching.isNone) s
      (if ok then s2 else ((((s2.onEngine n (fun e => { e with loopFails := (e.loopFails + 1) % 2 ^ 32 })).countB (unitCode 6 n)).logRec 0x12 (unitCode 6 n) [n]).failEngine n 3))

/-- ENGINE_SELF_TEST_RESULT: the one self-test after a failure (R293, R294). -/
def execEngineSelfTestResult (engine : Nat) (pass : Bool) (s : State) : Out :=
  let e := s.engine engine
  when (s.runs && (e.state == 4 || e.state == 5) && !e.tested && e.win.isNone && (s.route (routeOf engine)).switching.isNone) s
    (if pass then s.enginePassed engine
     else ((s.onEngine engine (fun e => { e with tested := true })).logRec 0x12 (unitCode 6 engine) [engine]).toEngine engine 4 3)

/-- ENGINE_MIRROR_COPY_COMPLETE: the standby holds a full mirror copy (R293). -/
def execEngineMirrorCopyComplete (engine : Nat) (s : State) : Out :=
  when (s.runs && (s.engine engine).state == 2 && (s.engine (mate engine)).state == 1) s (s.toEngine engine 3 0)

end Sys2Proof.Machine
end

