-- ==== Sys2Proof/Machine/ChanCmd.lean ====
section
/-! DEFINITION. The commands of the channel subsystem (R268, R285, R289, R293, R295). -/
namespace Sys2Proof.Machine

/-- SUBCH at request offset 0x00 (R295). -/
def MReq.sc (q : MReq) : Nat := fld q.body 0 4

/-- From a tenant window the subchannel lies in its range; a value above 0xF_FFFF is check 4's (R295). -/
def ownSc (s : State) (q : MReq) : Bool :=
  let n := s.inst q.w
  decide (512 ≤ q.w) || decide (0xFFFFF < q.sc) || (decide (n.scFirst ≤ q.sc) && decide (q.sc < n.scFirst + n.scCount))

/-- LENGTH and a subchannel number that exists. -/
def MReq.scLen (q : MReq) (n : Nat) : Bool := q.len == n && decide (q.sc ≤ 0xFFFFF)

/-- A TID of a task of the instance (Table 09-17, Table 10-14). -/
def ownTid (i tid : Nat) : Bool := tid / 65536 == i

/-- Journal slots in use, those of records that keep their slot memory with them, against the journal pool (R280, R284, R409). -/
def State.journalRoom (s : State) (depth : Nat) : Bool :=
  decide (((s.subchs.filter (fun p => p.2.live)).map (fun p => p.2.depth)).foldl (· + ·) 0 + (s.indoubt.filter (fun r => r.kept && r.state == 6)).length + depth ≤ fld s.fw.inForce 0x10 4 * 8192)

/-- SUBCH_CREATE (0x0200; Table 09-17). -/
def cmdSubchCreate : Command where
  code := 0x0200
  own := ownSc
  fmt := fun _ q =>
    let b := q.body
    q.scLen 0x40 && decide (4 ≤ fld b 4 1 ∧ fld b 4 1 ≤ 16) && decide (1 ≤ fld b 5 1 ∧ fld b 5 1 ≤ 2) && (fld b 6 1 == 9 || fld b 6 1 == 12) && decide (fld b 7 1 < 16) &&
      fld b 8 8 % 4096 == 0 && fld b 0x10 8 % 4096 == 0 && fld b 0x18 8 % 4096 == 0 && ownTid q.w (fld b 0x20 8) &&
      decide (1 ≤ fld b 0x28 4 ∧ fld b 0x28 4 ≤ 600000) && decide (1 ≤ fld b 0x2C 1 ∧ fld b 0x2C 1 ≤ 8) && zeros b 0x2D 19
  run := fun s q =>
    let b := q.body
    let n := q.sc
    let x := s.sub n
    if x.live then (s, some (if x.params = b then (stOk, beBytes 4 x.incarn ++ beBytes 4 0) else (stBusy, [])))
    else if (s.ring n).live then (s, some (stBusy, []))
    else if !s.journalRoom (2 ^ fld b 4 1) then (s, some (stQueueFull, []))
    else
      let c := (s.incarnOf n + 1) % 2 ^ 32
      let y : Subch := { live := true, inst := q.w, log2 := fld b 4 1, profile := fld b 5 1, block := fld b 6 1, route := fld b 7 1, sq := fld b 8 8, cq := fld b 0x10 8,
                         sense := fld b 0x18 8, evTid := fld b 0x20 8, timeoutMs := fld b 0x28 4, maxAtt := fld b 0x2C 1, incarn := c, params := b }
      ({ s with subchs := s.subchs.put n y, incarns := s.incarns.put n c }, some (stOk, beBytes 4 c ++ beBytes 4 0))

/-- Records of a subchannel that a test selects. -/
def Subch.hasRec (x : Subch) (sel : JRec → Bool) : Bool := x.slots.any (fun k => sel k.2)

/-- SUBCH_DESTROY (0x0201). -/
def cmdSubchDestroy : Command where
  code := 0x0201
  own := ownSc
  fmt := fun _ q => q.scLen 8 && zeros q.body 4 4
  run := fun s q =>
    let x := s.sub q.sc
    if !x.live then (s, some (stOk, []))
    else if x.hasRec (fun r => r.outstanding || r.state == 6) then (s, some (stBusy, []))
    else ({ s with subchs := s.subchs.del q.sc }, some (stOk, []))

/-- SCSTAT.STATE (Table 09-1). -/
def Subch.stateCode (x : Subch) : Nat := if !x.live then 0 else if x.exhausted then 2 else 1

/-- The subchannel's own eligibility mark (R110). -/
def State.scEligible (s : State) (n : Nat) : Bool := s.insts.any (fun p => decide (p.2.scFirst ≤ n) && decide (n < p.2.scFirst + p.2.scCount) && runsHas p.2.scElig n)

/-- Records of an incarnation that are IN_DOUBT, in slots and in the store. -/
def State.doubtsOf (s : State) (sc incarn : Nat) : Nat :=
  ((s.sub sc).slots.filter (fun k => k.2.state == 6)).length + (s.indoubt.filter (fun r => r.sc == sc && r.incarn == incarn && r.state == 6)).length

/-- The SUBCH_QUERY response body (Table 09-18). -/
def State.subchBody (s : State) (n : Nat) : List Byte :=
  let x := s.sub n
  beBytes 1 x.stateCode ++ beBytes 1 x.log2 ++ beBytes 1 x.profile ++ beBytes 1 x.block ++ beBytes 1 x.route ++
    beBytes 1 (b2n (x.stalled && x.slotBusy) + 2 * b2n (!x.held.isEmpty) + 4 * b2n (s.scEligible n)) ++ beBytes 2 0 ++ beBytes 4 (s.incarnOf n) ++
    beBytes 4 (x.slots.filter (fun k => k.2.outstanding)).length ++ beBytes 8 (if x.live then x.nextWsn else 0) ++ beBytes 8 x.retired ++
    beBytes 8 (s.doubtsOf n (s.incarnOf n)) ++ beBytes 8 x.refused

/-- SUBCH_QUERY (0x0202). -/
def cmdSubchQuery : Command where
  code := 0x0202
  own := ownSc
  fmt := fun _ q => q.scLen 8 && zeros q.body 4 4
  run := fun s q => (s, some (stOk, s.subchBody q.sc))

/-! ### Paths -/

/-- A path kind serves a profile (Table 09-12). -/
def kindFits (kind prof : Nat) : Bool := kind == 1 || prof == 2

/-- NUL-padded text: nothing after the first NUL. -/
def padded (l : List Byte) : Bool := (l.dropWhile (· != 0#8)).all (· == 0#8)

/-- Fields of PATH_ADD that depend on the profile and kind (Table 09-19). -/
def pathForm (prof : Nat) (b : List Byte) : Bool :=
  let k := fld b 5 1
  kindFits k prof && (if k = 1 then zeros b 0x10 8 && zeros b 0x18 2 else if k = 4 then zeros b 8 18 else true) &&
    (if prof = 1 then zeros b 0x1C 4 && zeros b 0x28 256 else zeros b 0x20 8 && (if k = 4 then zeros b 0x28 256 else padded (bytesAt b 0x28 256)))

/-- PATH_ADD (0x0203; Table 09-19). -/
def cmdPathAdd : Command where
  code := 0x0203
  own := ownSc
  fmt := fun _ q =>
    let b := q.body
    q.scLen 0x128 && decide (fld b 4 1 < 8) && decide (1 ≤ fld b 5 1 ∧ fld b 5 1 ≤ 4) && decide (fld b 6 1 < (if fld b 5 1 = 1 then 32 else 12)) && decide (fld b 7 1 < 4) && zeros b 0x1A 2
  run := fun s q =>
    let b := q.body
    let x := s.sub q.sc
    let k := fld b 5 1
    let p := fld b 6 1
    let cur := x.paths.getD (fld b 4 1) {}
    let new : Path := { state := 1, kind := k, port := p, pref := fld b 7 1, target := bytesAt b 8 0x120, change := s.now, loginAt := s.now }
    if !x.live || !pathForm x.profile b then (s, some (stBadField, []))
    else if (k = 2 ∨ k = 3) ∧ !s.ethExists p then (s, some (stClaimed, []))
    else if k = 4 ∧ !(s.port p).pcie then (s, some (stBadField, []))
    else if k = 4 ∧ (s.port p).owner ≠ some q.w then (s, some (stNotPermitted, []))
    else if cur.state = 0 then (s.onSub q.sc (fun x => { x with paths := x.paths.put (fld b 4 1) new }), some (stOk, []))
    else if cur.state ≠ 4 ∧ cur.kind = k ∧ cur.port = p ∧ cur.pref = new.pref ∧ cur.target = new.target then (s, some (stOk, []))
    else (s, some (stBusy, []))

/-- PATH_REMOVE (0x0204). -/
def cmdPathRemove : Command where
  code := 0x0204
  own := ownSc
  fmt := fun _ q => q.scLen 8 && decide (fld q.body 4 1 < 8) && zeros q.body 5 3
  run := fun s q =>
    let p := fld q.body 4 1
    let cur := (s.sub q.sc).paths.getD p {}
    if !(s.sub q.sc).live ∨ cur.state = 0 ∨ cur.state = 4 then (s, some (stOk, []))
    else ((s.onPath q.sc p (fun x => { x with state := 4, change := s.now })).settlePath q.sc p, some (stOk, []))

/-- PATH_QUERY (0x0205). -/
def cmdPathQuery : Command where
  code := 0x0205
  own := ownSc
  fmt := fun _ q => q.scLen 8 && zeros q.body 4 4
  run := fun s q =>
    let x := s.sub q.sc
    (s, some (stOk, (List.range 8).flatMap (fun k =>
      let p := x.paths.getD k {}
      beBytes 1 p.kind ++ beBytes 1 p.port ++ beBytes 1 p.state ++ beBytes 1 p.pref ++ beBytes 4 (x.activeOn k) ++ beBytes 8 p.fails ++ beBytes 8 (u64 p.change))))

/-- PROFILE_SET (0x0206; R286). -/
def cmdProfileSet : Command where
  code := 0x0206
  own := ownSc
  fmt := fun _ q => q.scLen 8 && decide (1 ≤ fld q.body 4 1 ∧ fld q.body 4 1 ≤ 2) && (fld q.body 5 1 == 9 || fld q.body 5 1 == 12) && zeros q.body 6 2
  run := fun s q =>
    let x := s.sub q.sc
    if !x.live then (s, some (stBadField, []))
    else if x.hasRec JRec.outstanding then (s, some (stBusy, []))
    else if x.paths.any (fun p => p.2.state != 0 && !kindFits p.2.kind (fld q.body 4 1)) then (s, some (stBadField, []))
    else (s.onSub q.sc (fun x => { x with profile := fld q.body 4 1, block := fld q.body 5 1 }), some (stOk, []))

/-! ### The journal -/

/-- The record of a WSN of the current incarnation: from its slot, or from the in-doubt store. -/
def State.findRec (s : State) (sc wsn : Nat) : Option JRec :=
  match s.jrec sc wsn with
  | some r => some r
  | none => s.indoubt.reverse.find? (fun r => r.sc == sc && r.incarn == (s.sub sc).incarn && r.wsn == wsn)

/-- JOURNAL_QUERY (0x0207). -/
def cmdJournalQuery : Command where
  code := 0x0207
  own := ownSc
  fmt := fun _ q => q.scLen 0x10 && zeros q.body 4 4
  run := fun s q =>
    let x := s.sub q.sc
    let w := fld q.body 8 8
    if !x.live ∨ w = 0 ∨ (!x.exhausted ∧ x.nextWsn ≤ w) then (s, some (stBadField, []))
    else
      match s.findRec q.sc w with
      | some r => (s, some (stOk, r.bytes))
      | none => (s, some (stOk, ({ wsn := w, sc := q.sc, incarn := x.incarn } : JRec).bytes))

/-- IN_DOUBT records of an instance, and of one subchannel unless all are asked for, in the order they entered (INDOUBT_LIST). -/
def State.doubtList (s : State) (i sc : Nat) : List JRec :=
  let all := s.indoubt ++ s.subchs.flatMap (fun p => p.2.slots.map (·.2))
  sortBy (·.doubtNo) (all.filter (fun r => r.state == 6 && r.inst == i && (sc == 0xFFFFFFFF || r.sc == sc)))

/-- INDOUBT_LIST (0x0208). -/
def cmdIndoubtList : Command where
  code := 0x0208
  own := ownInst
  fmt := fun _ q => q.len == 0x10 && decide (fld q.body 0 2 < 512) && zeros q.body 2 2 && (fld q.body 4 4 == 0xFFFFFFFF || decide (fld q.body 4 4 ≤ 0xFFFFF))
  run := fun s q =>
    let l := (s.doubtList (fld q.body 0 2) (fld q.body 4 4)).filter (fun r => decide (fld q.body 8 8 < r.doubtNo))
    let p := l.take 55
    let next := if l.length ≤ 55 then 0 else (p.getLast?.map (·.doubtNo)).getD 0
    (s, some (stOk, beBytes 4 p.length ++ beBytes 4 0 ++ beBytes 8 next ++
      p.flatMap (fun r => beBytes 4 r.sc ++ beBytes 4 r.incarn ++ beBytes 8 r.wsn ++ beBytes 8 r.user ++ beBytes 8 (u64 r.tFinal))))

/-- The response of INDOUBT_RESOLVE: the identity after the action. -/
def resolveBody (incarn wsn : Nat) : List Byte := beBytes 4 incarn ++ beBytes 4 0 ++ beBytes 8 wsn

/-- The record of a request of INDOUBT_RESOLVE. -/
def namedRec (q : MReq) (r : JRec) : Bool := r.state == 6 && r.sc == q.sc && r.incarn == fld q.body 4 4 && r.wsn == fld q.body 8 8

/-- Change the IN_DOUBT record that a request names, in the store or in its slot. -/
def State.settle (s : State) (q : MReq) (f : JRec → JRec) : State :=
  let g := fun (r : JRec) => if namedRec q r then f { r with resolveSeq := q.seq, resolveWin := q.w } else r
  ({ s with indoubt := s.indoubt.map g }).onSub q.sc (fun x => { x with slots := x.slots.map (fun (k : Nat × JRec) => (k.1, g k.2)) })

/-- REDRIVE of an IN_DOUBT record (R289). -/
def State.redrive (s : State) (q : MReq) (r : JRec) : State × Option Reply :=
  let x := s.sub r.sc
  if !x.live ∨ x.inst ≠ r.inst ∨ x.incarn < r.incarn then (s, some (stBadField, []))
  else if x.incarn = r.incarn then
    let k := r.wsn % x.depth
    let free := match x.slots.find k with
      | some t => decide (t.state = 0 ∨ t.state = 5 ∨ t.state = 7) || namedRec q t
      | none => true
    if !free then (s, some (stBusy, []))
    else
      let new := { r with state := 1, status := 0, resolveSeq := q.seq, resolveWin := q.w, avoid := some r.path, kept := false }.fresh
      let s := s.settle q (fun r => { r with state := 1, status := 0 })
      let s := (s.onSub r.sc (fun x => { x with slots := x.slots.put k new })).onInst r.inst (fun n => { n with waybills := n.waybills + 1 })
      (s.waitPath r.sc r.wsn, some (stOk, resolveBody r.incarn r.wsn))
  else
    match s.admitChain r.sc r.wbAddr with
    | .error st => (s, some (st, []))
    | .ok cmds =>
      if x.slotBusy then (s, some (stBusy, []))
      else
        let w := x.nextWsn
        let c := s.fixClass r.inst (runsHas (s.inst r.inst).scElig r.sc) r.cls
        let mv := fun (r : JRec) => { r with
          state := 1, status := 0, wsn := w, incarn := x.incarn, cls := c.2, subidx := 0xFFFFFFFF, prevWsn := r.wsn, prevIncarn := r.incarn, cmds := cmds
          done := if r.done < cmds.length then r.done else 0, avoid := none, comp := [], need := [], prepEnd := none, rflags := r.rflags % 2 + (if cmds.any (fun c => c.code == 8) then 2 else 0), bell := s.now }
        let s := (c.1.settle q mv).acceptRec r.sc (mv { r with resolveSeq := q.seq, resolveWin := q.w, kept := false })
        (s, some (stOk, resolveBody x.incarn w))

/-- INDOUBT_RESOLVE of one ACTION (R289). -/
def State.resolve (action : Nat) (s : State) (q : MReq) : State × Option Reply :=
  let s := s.purgeDoubt
  let all := s.indoubt ++ (s.sub q.sc).slots.map (·.2)
  match all.find? (fun r => r.state != 6 && r.sc == q.sc && r.resolveSeq == q.seq && r.resolveWin == q.w && r.resolveSeq != 0) with
  | some r => (s, some (stOk, resolveBody r.incarn r.wsn))
  | none =>
    match all.find? (namedRec q) with
    | none => (s, some (stBadField, []))
    | some r =>
      if r.inst ≠ q.w then (s, some (stNotPermitted, []))
      else if action = 3 then s.redrive q r
      else
        let s := s.settle q (fun r => { r with state := if action = 1 then 5 else 7, status := if action = 1 then stOk else stRetrySafe, tRetire := s.now })
        let s := if action = 1 ∧ (s.sub q.sc).live ∧ (s.sub q.sc).incarn = r.incarn then s.onSub q.sc (fun x => { x with retired := x.retired + 1 }) else s
        (s, some (stOk, resolveBody r.incarn r.wsn))

/-- INDOUBT_RESOLVE (0x0209). -/
def cmdResolve (action : Nat) : Command where
  code := 0x0209
  sel := fun b => if action = 1 then fld b 0x10 1 != 2 && fld b 0x10 1 != 3 else fld b 0x10 1 == action
  own := ownSc
  fmt := fun _ q => q.scLen 0x18 && decide (1 ≤ fld q.body 0x10 1 ∧ fld q.body 0x10 1 ≤ 3) && zeros q.body 0x11 7
  run := State.resolve action

/-! ### Ports and Routes -/

/-- LOGIN_QUERY (0x020A). -/
def cmdLoginQuery : Command where
  code := 0x020A
  fmt := fun _ q => q.len == 8 && decide (1 ≤ fld q.body 0 1 ∧ fld q.body 0 1 ≤ 4) && decide (fld q.body 1 1 < (if fld q.body 0 1 = 1 then 32 else 12)) && zeros q.body 2 6
  run := fun s q =>
    let k := fld q.body 0 1
    let n := fld q.body 1 1
    let p := s.ioport (ioKey k n)
    let c := s.port n
    let rate := if k = 1 then p.rate / 8 else if k = 4 then c.rate else p.rate / 100
    if (k = 2 ∨ k = 3) ∧ !s.ethExists n then (s, some (stClaimed, []))
    else (s, some (stOk, beBytes 1 (b2n (s.portUp k n)) ++ beBytes 1 rate ++ beBytes 2 (s.logins k n) ++ beBytes 4 (if k = 1 then p.localId else 0) ++
      beBytes 8 (if k = 4 then 0 else p.name) ++ beBytes 8 (if k = 4 then (s.log.live.ctr.getD (unitCode 5 n) {}).a else p.retrains) ++ beBytes 8 (u64 (if k = 4 then c.change else p.change))))

/-- ROUTE_STATUS (0x020B; R290). -/
def cmdRouteStatus : Command where
  code := 0x020B
  fmt := fun _ q => q.len == 8 && decide (fld q.body 0 1 < 16) && zeros q.body 1 7
  run := fun s q =>
    let r := fld q.body 0 1
    let o := s.route r
    let e := s.engine (2 * r)
    let f := s.engine (2 * r + 1)
    (s, some (stOk, beBytes 1 ((s.activeEng r).getD 0xFF) ++ beBytes 1 e.state ++ beBytes 1 f.state ++ beBytes 1 0 ++ beBytes 4 o.claim ++ beBytes 4 (s.inflight r) ++
      beBytes 4 ((e.loopFails + f.loopFails) % 2 ^ 32) ++ beBytes 8 o.switchovers ++ beBytes 8 (u64 o.lastSwitch) ++ beBytes 8 o.lastGap))

/-- A data phase of the Route is in progress (R293). -/
def State.inPhase (s : State) (r : Nat) : Bool := (s.routeRecs r (fun x => x.active && !x.aborting)).any (fun p => s.phaseOf p.1 p.2)

/-- ROUTE_SWITCH (0x020C; R293): the row repeats while the active engine finishes its data phases. -/
def cmdRouteSwitch : Command where
  code := 0x020C
  fmt := fun _ q => q.len == 8 && decide (fld q.body 0 1 < 16) && routeOf (fld q.body 1 1) == fld q.body 0 1 && zeros q.body 2 6
  run := fun s q =>
    let r := fld q.body 0 1
    let t := fld q.body 1 1
    let go := fun (s : State) => if (s.route r).switching.isSome ∨ s.inPhase r then s else s.beginSwitch r t true
    if (s.route r).win = some q.w then (go s, none)
    else
      match (s.engine t).state with
      | 1 => (s, some (stOk, []))
      | 4 => (s, some (stNotPermitted, []))
      | 3 => if (s.route r).win.isSome then (s, some (stBusy, [])) else (go (s.onRoute r (fun o => { o with win := some q.w, quiesce := true })), none)
      | _ => (s, some (stBusy, []))

/-! ### Rows -/

/-- SUBCH_CREATE (R268). -/
def execSubchCreate (w : Nat) (s : State) : Out := serve cmdSubchCreate w s
/-- SUBCH_DESTROY (R268). -/
def execSubchDestroy (w : Nat) (s : State) : Out := serve cmdSubchDestroy w s
/-- SUBCH_QUERY (R295). -/
def execSubchQuery (w : Nat) (s : State) : Out := serve cmdSubchQuery w s
/-- PATH_ADD (R285). -/
def execPathAdd (w : Nat) (s : State) : Out := serve cmdPathAdd w s
/-- PATH_REMOVE (R295). -/
def execPathRemove (w : Nat) (s : State) : Out := serve cmdPathRemove w s
/-- PATH_QUERY (R295). -/
def execPathQuery (w : Nat) (s : State) : Out := serve cmdPathQuery w s
/-- PROFILE_SET (R286). -/
def execProfileSet (w : Nat) (s : State) : Out := serve cmdProfileSet w s
/-- JOURNAL_QUERY (R295). -/
def execJournalQuery (w : Nat) (s : State) : Out := serve cmdJournalQuery w s
/-- INDOUBT_LIST (R295). -/
def execIndoubtList (w : Nat) (s : State) : Out := serve cmdIndoubtList w s
/-- INDOUBT_RESOLVE_DONE (R289). -/
def execIndoubtResolveDone (w : Nat) (s : State) : Out := serve (cmdResolve 1) w s
/-- INDOUBT_RESOLVE_NOT_DONE (R289). -/
def execIndoubtResolveNotDone (w : Nat) (s : State) : Out := serve (cmdResolve 2) w s
/-- INDOUBT_RESOLVE_REDRIVE (R289). -/
def execIndoubtResolveRedrive (w : Nat) (s : State) : Out := serve (cmdResolve 3) w s
/-- LOGIN_QUERY (R295). -/
def execLoginQuery (w : Nat) (s : State) : Out := serve cmdLoginQuery w s
/-- ROUTE_STATUS (R290). -/
def execRouteStatus (w : Nat) (s : State) : Out := serve cmdRouteStatus w s
/-- ROUTE_SWITCH (R293). -/
def execRouteSwitch (w : Nat) (s : State) : Out := serve cmdRouteSwitch w s

end Sys2Proof.Machine
end

