-- ==== Sys2Proof/Machine/Cipher.lean ====
section
/-! DEFINITION. Request rings, the cipher and deflate pools, and the events of Block Cipher Units and Deflate Units (R296 to R320, R399). -/
namespace Sys2Proof.Machine

/-! ### Request rings (R308 to R310) -/

/-- DEPTH (R308). -/
def Ring.depth (x : Ring) : Nat := 2 ^ x.log2

/-- A request completion entry without its phase (Table 10-12). -/
def rcompl (user st unit idx gen cond len check : Nat) : List Byte :=
  beBytes 8 user ++ beBytes 2 st ++ beBytes 1 0 ++ beBytes 1 unit ++ beBytes 4 idx ++ beBytes 4 gen ++ beBytes 2 cond ++ beBytes 2 0 ++ beBytes 4 len ++ beBytes 4 check

/-- The completion ring is full. -/
def Ring.cqFull (x : Ring) : Bool := (x.cqTail + 1) % x.depth == x.cqHead

/-- Write one completion entry of a ring, and post EV_IO; an admitted request is then no longer outstanding (R100, R271, R273, R308). -/
def State.putRcompl (s : State) (n : Nat) (c : Compl) : State :=
  let x := s.ring n
  let s := ((s.inClass c.cls).engWrite x.inst x.encl (x.cq + 32 * x.cqTail) (putBytes c.bytes 0x0A (beBytes 1 (128 * b2n x.phase)))).1
  let wrap := x.cqTail + 1 = x.depth
  let s := s.onRing n (fun y => { y with cqTail := if wrap then 0 else y.cqTail + 1, phase := if wrap then !y.phase else y.phase })
  let s := s.post x.evTid 2 1 n
  if c.retire = 0 then s else s.onInst x.inst (fun i => { i with requests := i.requests - 1 })

/-- A completion of a ring, in the class of the request in hand: written, or held in order while the ring is full (R43, R272, R308). -/
def State.rcomplete (s : State) (n : Nat) (c : Compl) : State :=
  let x := s.ring n
  let c := { c with cls := s.ms.cls }
  if s.resetting x.inst || !x.live then s
  else if !x.held.isEmpty || x.cqFull then s.onRing n (fun y => { y with held := y.held ++ [c] })
  else s.putRcompl n c

/-- Write held completions while the ring has room. -/
def State.flushRing (n : Nat) : Nat → State → State
  | 0, s => s
  | k + 1, s =>
    match (s.ring n).held with
    | [] => s
    | c :: t => if (s.ring n).cqFull then s else State.flushRing n k ((s.onRing n (fun y => { y with held := t })).putRcompl n c)

/-- A write of SQ_TAIL of a ring (Table 10-8). -/
def State.ringSq (s : State) (n value : Nat) : State :=
  let v := value % 65536
  let x := s.ring n
  if !x.live || !s.doorOpen n then s
  else if x.depth ≤ v then s.onRing n (fun x => { x with idxErr := true })
  else s.onRing n (fun x => { x with sqTail := v })

/-- A write of CQ_HEAD of a ring (Table 10-8). -/
def State.ringCq (s : State) (n value : Nat) : State :=
  let v := value % 65536
  let x := s.ring n
  if !x.live then s
  else if x.depth ≤ v then s.onRing n (fun x => { x with idxErr := true })
  else State.flushRing n 4096 (s.onRing n (fun x => { x with cqHead := v }))

/-- Step 1 of Table 10-11 for a cipher request. -/
def cipherForm (e : List Byte) : Bool :=
  let fl := fld e 1 1
  (fld e 0 1 == 1 || fld e 0 1 == 2) && decide (fl < 8) && fl % 4 != 3 && (!bit fl 2 || fld e 0 1 == 1) && decide (fld e 2 2 < 4096) &&
    decide (1 ≤ fld e 4 4 ∧ fld e 4 4 ≤ 4096) && fld e 8 8 % 16 == 0 && fld e 0x10 8 % 16 == 0 && zeros e 0x20 32

/-- Step 1 of Table 10-11 for a deflate request. -/
def deflateForm (e : List Byte) : Bool :=
  let fl := fld e 1 1
  let c := fld e 0 1 == 1
  (c || fld e 0 1 == 2) && decide (fl < 32) && fl % 4 != 3 && fl / 4 % 4 != 3 && (!bit fl 4 || c) &&
    (if c then decide (fld e 2 1 ≤ 3) && decide (9 ≤ fld e 4 1 ∧ fld e 4 1 ≤ 15) else fld e 2 1 == 0 && fld e 4 1 == 0 && decide (1 ≤ fld e 8 4)) &&
    (fld e 3 1 == 0xFF || decide (fld e 3 1 < 64)) && zeros e 5 3 && decide (fld e 8 4 ≤ 16777216) && decide (1 ≤ fld e 0xC 4 ∧ fld e 0xC 4 ≤ 16777216) && zeros e 0x28 24

/-- The request an entry makes (Tables 10-9, 10-10). -/
def entryReq (x : Ring) (n idx : Nat) (e : List Byte) : Req :=
  if x.kind = 0 then
    { src := 0, ring := n, subidx := idx, inst := x.inst, op := fld e 0 1, guard := bit (fld e 1 1) 2, page := fld e 2 2, len := 16 * fld e 4 4, from_ := fld e 8 8, to_ := fld e 0x10 8,
      user := fld e 0x18 8 }
  else
    { src := 1, ring := n, subidx := idx, inst := x.inst, encl := x.encl, op := fld e 0 1, framing := fld e 1 1 / 4 % 4, verify := bit (fld e 1 1) 4, level := fld e 2 1, dict := fld e 3 1,
      wbits := fld e 4 1, len := fld e 8 4, cap := fld e 0xC 4, from_ := fld e 0x10 8, to_ := fld e 0x18 8, user := fld e 0x20 8 }

/-- Step 3 of Table 10-11. -/
def State.reqHeld (s : State) (q : Req) : Bool :=
  let p := (s.page q.page).perm
  if q.src = 0 then s.pageServes q.inst 0 q.page && bit p 3 && bit p (q.op - 1)
  else q.dict == 0xFF || (s.dictOf q.inst q.dict).isSome

/-- USER of an entry that as a whole cannot be read, or 0 where its own word cannot (R309). -/
def State.userOf (s : State) (x : Ring) (idx : Nat) : Nat :=
  match s.engWord x.inst x.encl (x.sq + 64 * idx + (if x.kind = 0 then 0x18 else 0x20)) with
  | .ok w => w.datum.toNat
  | .error _ => 0

/-- The entry at SQ_HEAD of a ring is decided by Table 10-11. -/
def State.admitReq (s : State) (n : Nat) : State :=
  let x := s.ring n
  let idx := x.sqHead
  let s := s.onRing n (fun y => { y with sqHead := (idx + 1) % x.depth })
  let no := fun (user st cond : Nat) => s.rcomplete n { bytes := rcompl user st 0 idx 0 cond 0 0 }
  match s.engWords x.inst x.encl (x.sq + 64 * idx) 8 with
  | .error c => if c = 1 then no (s.userOf x idx) stNotPermitted (if x.encl = 0 then 0 else 1) else no (s.userOf x idx) stBadField 0
  | .ok e =>
    let q := entryReq x n idx e
    let s := s.inClass (fld e 1 1 % 4)
    let no := fun (user st cond : Nat) => s.rcomplete n { bytes := rcompl user st 0 idx 0 cond 0 0 }
    if !(if x.kind = 0 then cipherForm e else deflateForm e) then no q.user stBadField 0
    else if (s.inst x.inst).reqLimit ≤ (s.inst x.inst).requests then no q.user stQueueFull 0
    else if !s.reqHeld q then no q.user stNotPermitted 0
    else
      let c := s.fixClass x.inst true (fld e 1 1 % 4)
      let s := c.1.onInst x.inst (fun i => { i with requests := i.requests + 1 })
      if q.src = 0 then { s with bcuPool := s.bcuPool ++ [{ q with cls := c.2 }] } else { s with dfuPool := s.dfuPool ++ [{ q with cls := c.2 }] }

/-- An admitted request ends: its completion (Table 10-12). -/
def State.endReq (s : State) (q : Req) (st unit cond len check : Nat) : State :=
  (s.inClass q.cls).rcomplete q.ring { bytes := rcompl q.user st unit q.subidx q.gen cond len check, retire := 1 }

/-! ### Dispatch to a Block Cipher Unit (R311, R314, R316) -/

/-- The 16-byte blocks of a request. -/
def blocksOf (l : List Byte) : List (List Byte) := chunks 16 (l.length / 16) l

/-- Counter blocks rise strictly from a mark (R314). -/
def risingFrom : Nat → List (List Byte) → Bool
  | _, [] => true
  | m, b :: t => decide (m < beNat b) && risingFrom (beNat b) t

/-- GUARD_ONLY refuses an unguarded encryption of any block but zero (R316). -/
def guardOnlyBars (perm : Nat) (enc guard : Bool) (input : List Byte) : Bool := bit perm 5 && enc && !guard && !input.all (· == 0#8)

/-- What a dispatch finds: the request as it runs, or its end: status and condition. PERM decided a block when it was issued (R321). -/
def State.checkReq (s : State) (q : Req) : Except (Nat × Nat) Req :=
  let p := s.page q.page
  let latch := fun (q : Req) => { q with key := p.key, gen := p.gen, stamp := max 1 s.now }
  if q.src = 3 ∨ q.stamp ≠ 0 then .ok { q with stamp := max 1 q.stamp }
  else if q.src = 2 then
    if !s.pageServes q.inst q.encl q.page || p.state != 2 then .error (stNotPermitted, 0) else .ok (latch q)
  else if !s.pageServes q.inst 0 q.page ∨ p.state = 1 then .error (stNotPermitted, 0)
  else if p.state = 3 then .error (stKeyErased, 0)
  else if p.state = 4 then .error (stExhausted, 0)
  else
    match (s.inClass q.cls).engRead q.inst 0 q.from_ q.len with
    -- a fault on DST decides before a POISON word of the input (R310)
    | .error c => .error (stNotPermitted, if s.engRange q.inst 0 q.to_ q.len then c else 1)
    | .ok b =>
      if guardOnlyBars p.perm (q.op == 1) q.guard b then .error (stNotPermitted, 0)
      else if q.guard && !risingFrom p.mark (blocksOf b) then .error (stNonceReuse, 0)
      else .ok { latch q with input := b }

/-- A unit starts a request: its checks, the latched key and the counter guard, at D (R301, R303, R311, R314). -/
def State.startReq (s : State) (n : Nat) (q : Req) : State :=
  match s.checkReq q with
  | .error (st, cond) => if q.src = 2 then s.answerBlock q false 0 else s.endReq { q with gen := 0 } st n cond 0 0
  | .ok r =>
    let s := if q.stamp = 0 then s.onPage q.page (fun p => { p with inflight := p.inflight + 1 }) else s
    let s := if q.src = 0 ∧ q.guard ∧ q.stamp = 0 then s.setMark q.page (beNat ((blocksOf r.input).getLastD [])) else s
    let r := if q.src = 3 ∧ q.stamp = 0 then { r with stamp := max 1 s.now } else r
    s.onBcu n (fun u => { u with running := some r, heldSince := if q.src = 2 ∧ q.encl ≠ 0 then s.now else u.heldSince })

/-- Remove one request of a class and instance from a pool: the first that waits. -/
def takeReq (sel : Req → Bool) : List Req → Option (Req × List Req)
  | [] => none
  | q :: t => if sel q then some (q, t) else (takeReq sel t).map (fun x => (x.1, q :: x.2))

/-- The first unit in service from a number on, with wrap-around (R307). -/
def State.unitFrom (s : State) (m : Nat) : Option Nat :=
  let us := s.unitsUp false
  match minBy id (us.filter (fun k => m ≤ k)) with
  | some k => some k
  | none => minBy id us

/-- A unit may take a request of its pool: not the one that failed it (R319), and of a block sent on after a mismatch only the next in service (R307). -/
def State.unitMayTake (s : State) (n : Nat) (q : Req) : Bool :=
  q.avoid != some n && (match q.only with | some m => s.unitFrom m == some n | none => true)

/-- The pool arbiter gives a unit the next request (R45, R46, R311, R317). -/
def State.fromPool (s : State) (dfu : Bool) (n : Nat) : Option (Req × State) :=
  let pool := if dfu then s.dfuPool else s.bcuPool
  let fit := pool.filter (s.unitMayTake n)
  let ws := fit.map (fun q => (q.cls, q.inst))
  match (if dfu then s.dfuArb else s.bcuArb).pick ws with
  | none => none
  | some (c, i, fl) =>
    match takeReq (fun q => s.unitMayTake n q && q.cls == c && q.inst == i) pool with
    | none => none
    | some (q, rest) =>
      let f := s.weights i
      some (q, if dfu then { s with dfuPool := rest, dfuArb := s.dfuArb.serve f.dfu ws c i fl } else { s with bcuPool := rest, bcuArb := s.bcuArb.serve f.bcu ws c i fl })

/-- A free unit starts its waiting request, or the next of the pool; a busy one takes a request into its waiting place (R311, R399). -/
def State.dispatchUnit (s : State) (dfu : Bool) (n : Nat) (start : State → Nat → Req → State) : State :=
  let u := s.unit dfu n
  match u.running, u.waiting with
  | none, some q => start (s.onUnit dfu n (fun u => { u with waiting := none })) n q
  | none, none => match s.fromPool dfu n with
    | some (q, s) => start s n q
    | none => s
  | some _, none => match s.fromPool dfu n with
    | some (q, s) => s.onUnit dfu n (fun u => { u with waiting := some q })
    | none => s
  | some _, some _ => s

/-! ### Release (R307, R310, R312) -/

/-- A request leaves its unit and its page's count. -/
def State.leaveUnit (s : State) (n : Nat) (q : Req) (blocks : Nat) : State :=
  (s.onBcu n (fun u => { u with running := none, work := u.work + blocks })).onPage q.page (fun p => { p with inflight := p.inflight - 1 })

/-- The output of a ring request: every block enciphered or deciphered (R311). -/
def reqOut (q : Req) (dec : Bool) : List Byte := (blocksOf q.input).flatMap (fun b => if dec then aesDec q.key b else aesEnc q.key b)

/-- A ring request passes its checks and its output is written (R310, R312). -/
def State.releaseRing (s : State) (n : Nat) (q : Req) : State :=
  let s := s.leaveUnit n q (q.len / 16)
  if !s.engRange q.inst 0 q.to_ q.len then s.endReq q stNotPermitted n 1 0 0
  else
    let w := (s.inClass q.cls).engWrite q.inst 0 q.to_ (reqOut q (q.op == 2))
    w.1.endReq q stOk n w.2 q.len 0

/-- A block that failed its check goes to the next unit in service in ascending number with wrap-around, and waits for it in the pool while both its places are taken; with none left the instruction raises Protection (R307). -/
def State.retryBlock (s : State) (n : Nat) (q : Req) : State :=
  match s.unitFrom (n + 1) with
  | none => (s.endOnPage q).answerBlock q false 0
  | some m =>
    if (s.bcu m).running.isNone then s.onBcu m (fun u => { u with running := some q })
    else if (s.bcu m).waiting.isNone then s.onBcu m (fun u => { u with waiting := some q })
    else s.toPool false [{ q with only := some m }]

/-- Device bytes of an inline transform done so far (R276). -/
def JRec.ciphered (r : JRec) : Nat := if r.cmd.isOut then r.out.length else r.moved - r.buf.length

/-- The bytes of the next segment: 64 KiB or what is left (R399). -/
def Req.segment (q : Req) : Nat := min q.left 65536

/-- The device bytes of the segment in progress are at hand. -/
def State.segReady (s : State) (q : Req) : Bool :=
  match s.jrec q.sc q.wsn with
  | some r => r.cmd.isOut || decide (q.segment ≤ r.buf.length)
  | none => false

/-- Encipher or decipher one segment, in the waybill's class, and hand it on: to the device, to memory, or to expansion (R276). -/
def State.cipherSegment (s : State) (q : Req) : State :=
  match s.jrec q.sc q.wsn with
  | none => s
  | some r =>
    let s := s.inClass r.cls
    let off := r.ciphered
    let k := q.segment
    let c := r.cmd
    let b := if c.isOut then (q.input.drop off).take k else r.buf.take k
    let o := aesCtr q.key (ceilDiv k 16) ((c.tb.2.2.2 + off / 16) % 2 ^ 128) b
    if c.isOut then s.onRec q.sc q.wsn (fun r => { r with out := r.out ++ o })
    else
      let s := s.onRec q.sc q.wsn (fun r => { r with buf := r.buf.drop k })
      if c.cmp then (s.onRec q.sc q.wsn (fun r => { r with out := r.out ++ o })).feed q.sc q.wsn else s.deliver q.sc q.wsn off o

/-- A final response that waited takes effect once no cipher transform of the command is open (R276, R278). -/
def State.takeResp (s : State) (sc wsn : Nat) : State :=
  match (s.jrec sc wsn).bind (·.resp), s.inlineLeft sc wsn with
  | some (dev, moved, sense), none => s.finish sc wsn dev moved sense
  | _, _ => s

/-- The last segment of an inline transform: a final response that waited takes effect (R276). -/
def State.releaseInline (s : State) (n : Nat) (q : Req) : State :=
  ((s.leaveUnit n q (ceilDiv q.segment 16)).cipherSegment q).takeResp q.sc q.wsn

/-- A request fails its fault check: withheld, counted, and ended or sent on (R307, R312). -/
def State.mismatch (s : State) (n : Nat) (q : Req) : State :=
  let s := (s.onBcu n (fun u => { u with running := none, inject := false })).asInjected (s.bcu n).inject (fun s => s.unitMiss false n)
  if q.src = 2 then s.retryBlock n q
  else
    let s := s.onPage q.page (fun p => { p with inflight := p.inflight - 1 })
    if q.src = 0 then s.endReq q stCipherFault n 0 0 0 else s.failAttempt q.sc q.wsn stCipherFault 0

/-- The running request has its last block checked and is released (R307, R310, R312). -/
def State.release (s : State) (n : Nat) (mismatch : Bool) : State :=
  let u := s.bcu n
  match u.running with
  | none => s
  | some q =>
    if q.src = 3 && (decide (65536 < q.left) || !s.segReady q) then s
    else if mismatch || u.inject then s.mismatch n q
    else if q.src = 0 then s.releaseRing n q
    else if q.src = 2 then (s.leaveUnit n q 1).answerBlock q true (beNat (if q.op = 1 then aesDec q.key q.input else aesEnc q.key q.input))
    else s.releaseInline n q

/-- A segment ends and more is left: the transform returns to the waiting place, behind a request that waits there (R399). -/
def State.segmentEnd (s : State) (n : Nat) : State :=
  match (s.bcu n).running with
  | none => s
  | some q =>
    if q.src ≠ 3 ∨ q.left ≤ 65536 ∨ !s.segReady q then s
    else
      let r := { q with left := q.left - 65536 }
      let s := (s.onBcu n (fun u => { u with work := u.work + 4096 })).cipherSegment q
      -- the attempt may have failed on its data: its request is then gone
      if ((s.bcu n).running.map (inlineOf q.sc q.wsn)) ≠ some true then s
      else
        match (s.bcu n).waiting with
        | none => s.onBcu n (fun u => { u with running := some r })
        | some w => (s.onBcu n (fun u => { u with running := none, waiting := some r })).startReq n w

/-! ### Deflate Units (R317 to R320) -/

/-- Bytes an engine reads up to the first word it cannot: those bytes, and the condition met. -/
def State.engPrefix (s : State) (i e : Nat) : Nat → Nat → Nat → List Byte × Nat
  | 0, _, _ => ([], 0)
  | _ + 1, _, 0 => ([], 0)
  | f + 1, ia, n =>
    match s.engWord i e ia with
    | .error c => ([], c)
    | .ok w =>
      let b := (((List.range 8).map (datumByte w.datum)).drop (ia % 8)).take n
      let r := State.engPrefix s i e f (ia + b.length) (n - b.length)
      (b ++ r.1, r.2)

/-- Bytes of a range an engine can write before the first it cannot. -/
def State.engReach (s : State) (i e ia n : Nat) : Nat := ((List.range n).takeWhile (fun k => (s.engAddr i e (ia + k)).isSome)).length

/-- What a compression of a waybill found that ends it before its first frame (R276, Table 09-11). -/
def State.prepFails (s : State) (q : Req) (st cond : Nat) : State := s.onRec q.sc q.wsn (fun r => { r with need := r.need.erase q.subidx, prepEnd := some (st, cond) })

/-- An inline request names a dictionary that is not loaded (R320). -/
def State.noDict (s : State) (q : Req) : State := if q.op = 1 then s.prepFails q stNotPermitted 0 else s.failAttempt q.sc q.wsn stNotPermitted 0

/-- A Deflate Unit starts a request: its dictionary is latched (R317, R320). -/
def State.startDfu (s : State) (n : Nat) (q : Req) : State :=
  let d := if q.dict = 0xFF then some [] else if q.stamp ≠ 0 then some q.dictBytes else s.dictOf q.inst q.dict
  match d with
  | none => if q.src = 4 then s.noDict q else s.endReq q stNotPermitted n 0 0 0
  | some b =>
    let s := if q.src = 4 ∧ q.op = 2 then s.onRec q.sc q.wsn (fun r => { r with dict := some b }) else s
    s.onDfu n (fun u => { u with running := some { q with dictBytes := b, stamp := max 1 s.now }, heldSince := if q.encl ≠ 0 then s.now else u.heldSince })

/-- Output of a deflate request on an input: bytes and condition 0, 5 or 6 (R310, R317, R318). -/
def deflateOut (q : Req) (input : List Byte) : List Byte × Nat :=
  if q.op = 1 then
    let o := compress q.framing q.level q.wbits q.dictBytes input
    (o.take q.cap, if q.cap < o.length then 5 else 0)
  else
    let e := expand q.framing q.cap q.dictBytes input
    (e.bytes, e.cond)

/-- A deflate request ends early with part of its output written, how much is free: the first finding of R310 decides, and one of the part written comes before a verify mismatch. -/
def State.endPart (s : State) (n : Nat) (q : Req) (o : List Byte × Nat) (st cond : Nat) : State :=
  let k := min (s.freeNat % (o.1.length + 1)) (s.engReach q.inst q.encl q.to_ o.1.length)
  let w := s.drawn.engWrite q.inst q.encl q.to_ (o.1.take k)
  if cond = 7 ∧ w.2 ≠ 0 then w.1.endReq q stOk n w.2 k 0
  else if cond = 7 ∧ o.2 = 5 ∧ k = q.cap then w.1.endReq q stOk n 5 k 0
  else w.1.endReq q st n cond k 0

/-- A deflate ring request has run: the first finding of R310 in order decides. missed: the second unit's verify mismatch. -/
def State.dfuRing (s : State) (n : Nat) (q : Req) (missed : Bool) : State :=
  let r := s.engPrefix q.inst q.encl (q.len + 1) q.from_ q.len
  let o := deflateOut q r.1
  let k := s.engReach q.inst q.encl q.to_ o.1.length
  let s := s.onDfu n (fun u => { u with work := u.work + r.1.length })
  if r.2 ≠ 0 then s.endPart n q o stNotPermitted (if k < o.1.length then 1 else r.2)
  else if k < o.1.length then (s.engWrite q.inst q.encl q.to_ (o.1.take k)).1.endReq q stNotPermitted n 1 k 0
  else if missed then s.endPart n q o stCipherFault 7
  else
    let w := s.engWrite q.inst q.encl q.to_ o.1
    w.1.endReq q stOk n (if w.2 ≠ 0 then w.2 else o.2) k (checkOf q.framing (if q.op = 1 then r.1 else o.1))

/-- An inline compression has run: its output, padded to whole blocks, is at hand for the first frame, and OUT_LEN is written (R276). -/
def State.compressed (s : State) (n : Nat) (q : Req) (missed : Bool) : State :=
  let s := s.onDfu n (fun u => { u with work := u.work + q.input.length })
  if missed then s.prepFails q 0 7
  else
    let o := compress q.framing q.level q.wbits q.dictBytes q.input
    let w := s.engWrite q.inst 0 q.to_ (beBytes 4 o.length)
    if w.2 = 1 then w.1.prepFails q stNotPermitted 1
    else w.1.onRec q.sc q.wsn (fun r => { r with need := r.need.erase q.subidx, comp := r.comp.put q.subidx (bytesAt o 0 (upTo o.length (2 ^ (s.sub q.sc).block))) })

/-- An inline expansion has run over what the device has delivered: the bytes it adds are written, a LOCKed word is left, and a fault stops the data phase (R278, R281). -/
def State.expandMore (s : State) (n : Nat) (q : Req) : State :=
  match s.jrec q.sc q.wsn with
  | none => s
  | some r =>
    let s := s.onDfu n (fun u => { u with work := u.work + (r.out.length - r.fed) })
    let b := r.expanded.bytes
    let w := s.engWrite q.inst 0 ((r.cmd.areas.headD (0, 0)).1 + r.wrote) (b.drop r.wrote)
    let s := w.1.onRec q.sc q.wsn (fun r => { r with fed := r.out.length, wrote := b.length })
    if w.2 = 1 then s.failAttempt q.sc q.wsn stNotPermitted 1
    else (if w.2 = 3 then s.noteCond q.sc q.wsn 3 else s).takeResp q.sc q.wsn

/-- The running deflate request ends; a first verify mismatch restarts it on another unit (R310, R319). -/
def State.dfuEnd (s : State) (n : Nat) (mismatch : Bool) : State :=
  let u := s.dfu n
  match u.running with
  | none => s
  | some q =>
    let s := (s.inClass q.cls).onDfu n (fun u => { u with running := none })
    let missed := (mismatch || u.inject) && q.op == 1 && q.verify
    let s := if missed then (s.onDfu n (fun u => { u with inject := false })).asInjected u.inject (fun s => s.unitMiss true n) else s
    if missed && q.misses == 0 then s.toPool true [{ q with misses := 1, avoid := some n }]
    else if q.src = 4 then (if q.op = 1 then s.compressed n q missed else s.expandMore n q)
    else s.dfuRing n q missed

/-! ### Rows -/

/-- REQUEST_RING_DOORBELL (R309). -/
def execRequestRingDoorbell (ring value : Nat) (s : State) : Out := when s.runs s (s.ringSq ring value)

/-- COMPLETION_RING_HEAD_WRITE: of a subchannel, or of a request ring at that number (R272, R308). -/
def execCompletionRingHeadWrite (sc value : Nat) (s : State) : Out :=
  .next (if (s.ring sc).live then (if s.runs then s.ringCq sc value else s) else s.cqHeadSub sc value)

/-- REQUEST_ADMISSION: the hub takes the entry at SQ_HEAD (R309). -/
def execRequestAdmission (ring : Nat) (s : State) : Out :=
  let x := s.ring ring
  when (s.runs && x.live && x.sqHead != x.sqTail && !s.resetting x.inst) s (s.admitReq ring)

/-- BCU_DISPATCH (R311). -/
def execBcuDispatch (unit : Nat) (s : State) : Out := when (s.runs && (s.bcu unit).serves) s (s.dispatchUnit false unit State.startReq)

/-- BCU_RELEASE (R312). -/
def execBcuRelease (unit : Nat) (mismatch : Bool) (s : State) : Out := when s.runs s (s.release unit mismatch)

/-- INLINE_SEGMENT_END (R399). -/
def execInlineSegmentEnd (unit : Nat) (s : State) : Out := when s.runs s (s.segmentEnd unit)

/-- DRBG_RESEED: every 1 ms; a failed health test withdraws the unit (R313). -/
def execDrbgReseed (unit : Nat) (healthy : Bool) (s : State) : Out :=
  let s1 := s.advanceTo ((s.bcu unit).lastSeed + msT)
  when (s.runs && (s.bcu unit).state == 1) s
    (if healthy then s1.onBcu unit (fun u => { u with reseeds := u.reseeds + 1, lastSeed := s1.now }) else s1.withdrawUnit false unit 2)

/-- DFU_DISPATCH (R317). -/
def execDfuDispatch (unit : Nat) (s : State) : Out := when (s.runs && (s.dfu unit).serves) s (s.dispatchUnit true unit State.startDfu)

/-- DFU_COMPLETION (R310, R319). -/
def execDfuCompletion (unit : Nat) (mismatch : Bool) (s : State) : Out := when s.runs s (s.dfuEnd unit mismatch)

/-- DFU_PARITY_FAILURE: the unit is withdrawn at once, and its requests start again on another (R319). -/
def execDfuParityFailure (unit : Nat) (s : State) : Out := when (s.runs && (s.dfu unit).state == 1) s (s.withdrawUnit true unit 3)

/-- The key of a page is erased: KEYED and EXHAUSTED become ERASED (Table 10-2). -/
def State.erasePage (s : State) (p : Nat) : State :=
  if (s.page p).state = 2 ∨ (s.page p).state = 4 then s.onPage p (fun x => { x with state := 3, key := [] }) else s

/-- Requests dispatched on a page and not released are aborted with KEY_ERASED, with the attempts whose inline transforms on it are unfinished (R302, Table 01-6). -/
def State.abortOn (s : State) (p : Nat) : State :=
  let mine := fun (q : Req) => q.page == p && q.stamp != 0 && q.src != 3
  let qs := s.bcuReqs.filter mine
  let s := s.dropReqs mine
  let s := (qs.filter (fun q => q.src == 0)).foldl (fun s q => s.endReq q stKeyErased 0 0 0 0) s
  let s := (qs.filter (fun q => q.src == 2)).foldl (fun s q => s.answerBlock q false 0) s
  let recs := s.subchs.flatMap (fun x => (x.2.wsns (fun r => r.active && !r.aborting &&
    ((r.cmd.cph && r.cmd.xidx == p && (s.inlineLeft x.1 r.wsn).isSome) || (r.left.drop 1).any (fun k => k.2.cph && k.2.xidx == p)))).map (fun w => (x.1, w)))
  recs.foldl (fun s k => s.failAttempt k.1 k.2 stKeyErased 0) s

/-- The erase of R302: the key is cleared, and what is in flight on the page ends. -/
def State.eraseKey (s : State) (p : Nat) : State := if (s.page p).state = 2 ∨ (s.page p).state = 4 then (s.erasePage p).abortOn p else s

/-- The erase that a free begins with, whatever the page's state (R305). -/
def State.freeErase (s : State) (p : Nat) : State := (s.erasePage p).abortOn p

/-- CIPHER_PAGE_STORAGE_ERROR: the key is erased, and the requests in flight on the page end with KEY_ERASED (R297, Table 01-6). -/
def execCipherPageStorageError (page : Nat) (s : State) : Out := when (s.runs && decide (page < 4096)) s (s.eraseKey page)

end Sys2Proof.Machine
end

