-- ==== Sys2Proof/Machine/CipherCmd.lean ====
section
/-! DEFINITION. The commands of cipher pages, request rings, dictionaries and unit status (R296 to R302, R308, R320, R321, R342). -/
namespace Sys2Proof.Machine

/-- PAGE at request offset 0x00 (R321). -/
def MReq.page (q : MReq) : Nat := fld q.body 0 2

/-- The instance holds the page, for itself or for one of its enclaves; a number above 4,095 is check 4's (R321). -/
def ownPage (s : State) (q : MReq) : Bool := decide (4095 < q.page) || ((s.page q.page).state != 0 && (s.page q.page).inst == q.w)

/-- The KCV of a page: the first 4 bytes of the SHA-384 digest of its key, or 0 (Table 10-4). -/
def CPage.kcv (p : CPage) : Nat := if p.key = [] then 0 else fld (sha384 p.key) 0 4

/-- A window register of a page (Table 10-4). -/
def CPage.reg (p : CPage) (off : Nat) : Nat :=
  if off = 0 then p.gen * 2 ^ 32 + b2n p.test * 2 ^ 31 + p.perm * 2 ^ 16 + p.keylen * 2 ^ 8 + p.state
  else if off = 8 then p.encl * 2 ^ 16 + p.inst
  else if off = 0x10 then p.mark / 2 ^ 64
  else if off = 0x18 then p.mark % 2 ^ 64
  else if off = 0x20 then p.kcv
  else if off = 0x28 then p.inflight
  else 0

/-- A page takes a key: KEYED, mark 0 (R301, Table 10-2). -/
def CPage.rekey (p : CPage) (key : List Byte) (len gen : Nat) (test : Bool) : CPage := { p with state := 2, key := key, keylen := len, gen := gen, test := test, mark := 0 }

/-- The TSK keys a page of an enclave from the enclave's measurement (R342). -/
def State.enclKey (s : State) (n : Nat) : State :=
  let p := s.page n
  s.onPage n (fun p' => p'.rekey (hkdf384 Config.sealingSecret ((s.encl p.inst p.encl).meas ++ beBytes 1 p.perm) 32) 3 1 false)

/-- Pages an instance holds (R98). -/
def State.pagesHeld (s : State) (i : Nat) : Nat := (s.pages.filter (fun p => p.2.state != 0 && p.2.inst == i)).length

/-- CPAGE_ALLOC (0x0300; R98, R298, R342). -/
def cmdCpageAlloc : Command where
  code := 0x0300
  fmt := fun _ q => q.len == 8 && decide (fld q.body 2 1 < 64) && zeros q.body 3 5
  run := fun s q =>
    let e := fld q.body 0 2
    let reply := fun (n : Nat) => some (stOk, beBytes 2 n ++ beBytes 6 0)
    match s.pages.find? (fun p => p.2.state != 0 && p.2.allocSeq == some (q.seq, q.w)) with
    | some p => (s, reply p.1)
    | none =>
      if 4096 ≤ e ∨ (e ≠ 0 ∧ (s.encl q.w e).state = 0) then (s, some (stNotPermitted, []))
      else if (s.inst q.w).cpages ≤ s.pagesHeld q.w then (s, some (stQueueFull, []))
      else
        match (List.range 4096).find? (fun n => (s.page n).state == 0) with
        | none => (s, some (stQueueFull, []))
        | some n =>
          let s := s.onPage n (fun _ => { state := 1, inst := q.w, encl := e, perm := fld q.body 2 1, allocSeq := some (q.seq, q.w) })
          (if e ≠ 0 ∧ (s.encl q.w e).state = 2 then s.enclKey n else s, reply n)

/-- CPAGE_FREE (0x0301; R305, R321): the page is free when INFLIGHT is 0. -/
def cmdCpageFree : Command where
  code := 0x0301
  own := fun s q => ownPage s q || ((s.page q.page).state == 0 && (s.page q.page).freeSeq == some (q.seq, q.w))
  fmt := fun _ q => q.len == 8 && decide (q.page < 4096) && zeros q.body 2 6
  run := fun s q =>
    if (s.page q.page).state = 0 then (s, some (stOk, []))
    else
      let s := s.freeErase q.page
      if (s.page q.page).inflight = 0 then (s.onPage q.page (fun _ => { freeSeq := some (q.seq, q.w) }), some (stOk, [])) else (s, none)

/-- The key words at an instance address: tagged INT or RAW (CPAGE_KEY_WRITE). -/
def State.keyAt (s : State) (i a : Nat) : Nat → Option (List Byte)
  | 0 => some []
  | n + 1 =>
    match s.hubWord i 0 a with
    | .error _ => none
    | .ok w => if w.type ≤ 1 then (s.keyAt i (a + 8) n).map (fun t => (List.range 8).map (datumByte w.datum) ++ t) else none

/-- CPAGE_KEY_WRITE (0x0302; R301, Table 10-13). -/
def cmdCpageKeyWrite : Command where
  code := 0x0302
  own := ownPage
  fmt := fun _ q => q.len == 0x10 && decide (q.page < 4096) && decide (1 ≤ fld q.body 2 1 ∧ fld q.body 2 1 ≤ 3) && decide (fld q.body 3 1 < 2) && fld q.body 8 8 % 8 == 0
  run := fun s q =>
    let p := s.page q.page
    let kl := fld q.body 2 1
    let test := fld q.body 3 1 == 1
    let gen := fld q.body 4 4
    match s.keyAt q.w (fld q.body 8 8) (kl + 1) with
    | none => (s, some (stBadField, []))
    | some key =>
      let reply := some (stOk, (sha384 key).take 4 ++ beBytes 4 0)
      if p.encl ≠ 0 then (s, some (stBadField, []))
      else if p.gen < gen then (s.onPage q.page (fun p => p.rekey key kl gen test), reply)
      else if gen = p.gen ∧ p.key = key ∧ p.keylen = kl ∧ p.test = test then (s, reply)
      else (s, some (stBadField, []))

/-- CPAGE_KEY_ERASE (0x0303; R302): DONE when INFLIGHT is 0. -/
def cmdCpageKeyErase : Command where
  code := 0x0303
  own := ownPage
  fmt := fun _ q => q.len == 8 && decide (q.page < 4096) && zeros q.body 2 6
  run := fun s q =>
    let s := s.eraseKey q.page
    (s, if (s.page q.page).inflight = 0 then some (stOk, []) else none)

/-- CPAGE_QUERY (0x0304). -/
def cmdCpageQuery : Command where
  code := 0x0304
  own := ownPage
  fmt := fun _ q => q.len == 8 && decide (q.page < 4096) && zeros q.body 2 6
  run := fun s q => (s, some (stOk, [0, 8, 0x10, 0x18, 0x20, 0x28].flatMap (fun o => beBytes 8 ((s.page q.page).reg o))))

/-- CPAGE_PERM_SET (0x0305). -/
def cmdCpagePermSet : Command where
  code := 0x0305
  own := ownPage
  fmt := fun _ q => q.len == 8 && decide (q.page < 4096) && decide (fld q.body 2 1 < 64) && zeros q.body 3 5
  run := fun s q => (s.onPage q.page (fun p => { p with perm := fld q.body 2 1 }), some (stOk, []))

/-! ### Rings and dictionaries -/

/-- The enclave of the instance whose granule holds an instance address, or 0 (R341). -/
def State.granuleEncl (s : State) (i ia : Nat) : Nat :=
  match s.instStage i 0 ia false with
  | .mem ra => (match s.emap.find (ra / 65536) with
    | some m => if m.inst = i then m.encl else 0
    | none => 0)
  | _ => 0

/-- CRING_CREATE (0x0306; R308, R341, Table 10-14). -/
def cmdCringCreate : Command where
  code := 0x0306
  own := ownSc
  fmt := fun _ q =>
    let b := q.body
    q.scLen 0x28 && decide (1 ≤ fld b 4 1 ∧ fld b 4 1 ≤ 2) && decide (4 ≤ fld b 5 1 ∧ fld b 5 1 ≤ 12) && zeros b 6 2 && fld b 8 8 % 4096 == 0 && fld b 0x10 8 % 4096 == 0 &&
      ownTid q.w (fld b 0x18 8) && zeros b 0x20 8
  run := fun s q =>
    let b := q.body
    let x := s.ring q.sc
    if (s.sub q.sc).live then (s, some (stBusy, []))
    else if x.live then (s, some (if x.params = b then stOk else stBusy, []))
    else
      let k := fld b 4 1 - 1
      ({ s with rings := s.rings.put q.sc { live := true, inst := q.w, encl := if k = 1 then s.granuleEncl q.w (fld b 8 8) else 0, kind := k, log2 := fld b 5 1, sq := fld b 8 8, cq := fld b 0x10 8,
                                            evTid := fld b 0x18 8, params := b } }, some (stOk, []))

/-- Requests of a ring that are admitted and not completed. -/
def State.ringBusy (s : State) (n : Nat) : Bool :=
  let of := fun (q : Req) => decide (q.src < 2) && q.ring == n
  (s.bcuReqs ++ s.dfuReqs).any of || (s.ring n).held.any (fun c => c.retire != 0)

/-- CRING_DESTROY (0x0307). -/
def cmdCringDestroy : Command where
  code := 0x0307
  own := ownSc
  fmt := fun _ q => q.scLen 8 && zeros q.body 4 4
  run := fun s q =>
    if !(s.ring q.sc).live then (s, some (stOk, []))
    else if s.ringBusy q.sc then (s, some (stBusy, []))
    else ({ s with rings := s.rings.del q.sc }, some (stOk, []))

/-- DICT_LOAD (0x0308; R320). -/
def cmdDictLoad : Command where
  code := 0x0308
  fmt := fun _ q => q.len == 0x10 && decide (fld q.body 0 1 < 64) && zeros q.body 1 3 && decide (1 ≤ fld q.body 4 4 ∧ fld q.body 4 4 ≤ 32768)
  run := fun s q =>
    match s.engRead q.w 0 (fld q.body 8 8) (fld q.body 4 4) with
    | .error _ => (s, some (stBadField, []))
    | .ok b =>
      let reply := some (stOk, beBytes 4 (adler32 b) ++ beBytes 4 0)
      match s.dictOf q.w (fld q.body 0 1) with
      | some d => (s, if d = b then reply else some (stBusy, []))
      | none => ({ s with dicts := s.dicts.put (q.w * 64 + fld q.body 0 1) b }, reply)

/-- DICT_FREE (0x0309; R320). -/
def cmdDictFree : Command where
  code := 0x0309
  fmt := fun _ q => q.len == 8 && decide (fld q.body 0 1 < 64) && zeros q.body 1 7
  run := fun s q => ({ s with dicts := s.dicts.del (q.w * 64 + fld q.body 0 1) }, some (stOk, []))

/-- DICT_QUERY (0x030A). -/
def cmdDictQuery : Command where
  code := 0x030A
  fmt := fun _ q => q.len == 0
  run := fun s q =>
    let d := fun k => (s.dictOf q.w k).getD []
    let mask := ((List.range 64).map (fun k => if (d k).isEmpty then 0 else 2 ^ k)).foldl (· + ·) 0
    (s, some (stOk, beBytes 8 mask ++ (List.range 64).flatMap (fun k => if (d k).isEmpty then beBytes 8 0 else beBytes 4 (d k).length ++ beBytes 4 (adler32 (d k)))))

/-- A CIPHER_UNIT_STATUS entry (Table 10-15). -/
def Unit.entry (u : Unit) : List Byte := beBytes 1 u.state ++ beBytes 3 0 ++ beBytes 4 u.faults ++ beBytes 8 (u64 u.lastFault) ++ beBytes 8 u.work ++ beBytes 8 0

/-- CIPHER_UNIT_STATUS (0x030B). -/
def cmdCipherUnitStatus : Command where
  code := 0x030B
  fmt := fun _ q => q.len == 0
  run := fun s _ => (s, some (stOk, (List.range 8).flatMap (fun n => (s.bcu n).entry) ++ (List.range 8).flatMap (fun n => (s.dfu n).entry)))

/-! ### Rows -/

/-- CPAGE_ALLOC (R298). -/
def execCpageAlloc (w : Nat) (s : State) : Out := serve cmdCpageAlloc w s
/-- CPAGE_FREE (R302). -/
def execCpageFree (w : Nat) (s : State) : Out := serve cmdCpageFree w s
/-- CPAGE_KEY_WRITE (R301). -/
def execCpageKeyWrite (w : Nat) (s : State) : Out := serve cmdCpageKeyWrite w s
/-- CPAGE_KEY_ERASE (R302). -/
def execCpageKeyErase (w : Nat) (s : State) : Out := serve cmdCpageKeyErase w s
/-- CPAGE_QUERY (R321). -/
def execCpageQuery (w : Nat) (s : State) : Out := serve cmdCpageQuery w s
/-- CPAGE_PERM_SET (R321). -/
def execCpagePermSet (w : Nat) (s : State) : Out := serve cmdCpagePermSet w s
/-- CRING_CREATE (R308). -/
def execCringCreate (w : Nat) (s : State) : Out := serve cmdCringCreate w s
/-- CRING_DESTROY (R308). -/
def execCringDestroy (w : Nat) (s : State) : Out := serve cmdCringDestroy w s
/-- DICT_LOAD (R320). -/
def execDictLoad (w : Nat) (s : State) : Out := serve cmdDictLoad w s
/-- DICT_FREE (R320). -/
def execDictFree (w : Nat) (s : State) : Out := serve cmdDictFree w s
/-- DICT_QUERY (R320). -/
def execDictQuery (w : Nat) (s : State) : Out := serve cmdDictQuery w s
/-- CIPHER_UNIT_STATUS (R321). -/
def execCipherUnitStatus (w : Nat) (s : State) : Out := serve cmdCipherUnitStatus w s

end Sys2Proof.Machine
end

