-- ==== Sys2Proof/Machine/Integer.lean ====
section
/-! DEFINITION. The rows of the integer, logical, compare and tag instructions (R129, R154 to R159). -/
namespace Sys2Proof.Machine

/-- INTEGER_ARITHMETIC (R156). -/
def execIntegerArithmetic (core set : Nat) (s : State) : Out :=
  .next (s.issue core set (fun i => match i with | .arith _ _ _ _ => true | _ => false)
    (fun e i => match i with | .arith op d a b => e.commit (e.arith op d a b) | _ => pure ()))

/-- ADDC_SUBB (R157). -/
def execAddcSubb (core set : Nat) (s : State) : Out :=
  .next (s.issue core set (fun i => match i with | .carry _ _ _ _ => true | _ => false)
    (fun e i => match i with | .carry sub d a b => e.commit (e.carry sub d a b) | _ => pure ()))

/-- MULW (R158). -/
def execMulw (core set : Nat) (s : State) : Out :=
  .next (s.issue core set (fun i => match i with | .mulw _ _ _ _ => true | _ => false)
    (fun e i => match i with | .mulw sg d a b => e.commit (e.mulw sg d a b) | _ => pure ()))

/-- DIV (R159). -/
def execDiv (core set : Nat) (s : State) : Out :=
  .next (s.issue core set (fun i => match i with | .div _ _ _ _ _ => true | _ => false)
    (fun e i => match i with | .div sg rem d a b => e.commit (e.div sg rem d a b) | _ => pure ()))

/-- LOGICAL_SHIFT_ROTATE (R156). -/
def execLogicalShiftRotate (core set : Nat) (s : State) : Out :=
  .next (s.issue core set (fun i => match i with | .logic _ _ _ _ => true | _ => false)
    (fun e i => match i with | .logic op d a b => e.commit (e.logic op d a b) | _ => pure ()))

/-- CMP (R156). -/
def execCmp (core set : Nat) (s : State) : Out :=
  .next (s.issue core set (fun i => match i with | .cmp _ _ => true | _ => false)
    (fun e i => match i with | .cmp a b => e.commit (e.cmp a b) | _ => pure ()))

/-- LUI (R156). -/
def execLui (core set : Nat) (s : State) : Out :=
  .next (s.issue core set (fun i => match i with | .lui _ _ => true | _ => false)
    (fun e i => match i with | .lui d v => e.commit (e.lui d v) | _ => pure ()))

/-- GTAG (R129). -/
def execGtag (core set : Nat) (s : State) : Out :=
  .next (s.issue core set (fun i => match i with | .gtag _ _ => true | _ => false)
    (fun e i => match i with | .gtag d a => e.commit (e.gtag d a) | _ => pure ()))

/-- STAG (R129). -/
def execStag (core set : Nat) (s : State) : Out :=
  .next (s.issue core set (fun i => match i with | .stag _ _ _ => true | _ => false)
    (fun e i => match i with | .stag d a b => e.commit (e.stag d a b) | _ => pure ()))

end Sys2Proof.Machine
end

