-- ==== Sys2Proof/Machine/FpNum.lean ====
section
/-! DEFINITION. Floating-point numbers: formats, encodings, rounding, and the operations of IEEE 754-2008 with the choices of R186 to R196 and R201, R202. Nothing here reads the state. -/
namespace Sys2Proof.Machine

/-- A format of Table 06-1: radix 10 or 2, precision, least and greatest exponent of the coefficient as an integer, width in bits. -/
structure Fmt where
  dec : Bool
  p : Nat
  qmin : Int
  qmax : Int
  width : Nat
deriving DecidableEq, Repr

/-- binary32. -/
def b32 : Fmt := ⟨false, 24, -149, 104, 32⟩
/-- binary64. -/
def b64 : Fmt := ⟨false, 53, -1074, 971, 64⟩
/-- binary128. -/
def b128 : Fmt := ⟨false, 113, -16494, 16271, 128⟩
/-- decimal64. -/
def d64 : Fmt := ⟨true, 16, -398, 369, 64⟩
/-- decimal128. -/
def d128 : Fmt := ⟨true, 34, -6176, 6111, 128⟩

/-- FMT of majors 0x18 and 0x19. -/
def binFmt (f : Nat) : Fmt := if f = 0 then b32 else if f = 1 then b64 else b128
/-- FMT of majors 0x1A and 0x1B. -/
def decFmt (f : Nat) : Fmt := if f = 0 then d64 else d128

/-- Radix. -/
def Fmt.b (f : Fmt) : Nat := if f.dec then 10 else 2

/-- A value: sign, coefficient and exponent; an infinity; or a NaN with its payload. -/
inductive Fv where
  | fin (neg : Bool) (c : Nat) (e : Int)
  | inf (neg : Bool)
  | nan (neg signal : Bool) (payload : Nat)
deriving DecidableEq, Repr

/-- The flags of FPSR.FLAGS. -/
def fNX : Nat := 1
/-- Underflow. -/
def fUF : Nat := 2
/-- Overflow. -/
def fOF : Nat := 4
/-- Division by zero. -/
def fDZ : Nat := 8
/-- Invalid operation. -/
def fNV : Nat := 16

/-! ### Encodings -/

/-- A declet of the DPD encoding as a number of three digits; non-canonical declets are read as IEEE 754-2008 states (R202). -/
def decDeclet (x : Nat) : Nat :=
  let pqr := bits x 9 7
  let stu := bits x 6 4
  let wxy := bits x 2 0
  let pq := bits x 9 8 * 2
  let st := bits x 6 5 * 2
  let r := 8 + bits x 7 7
  let u := 8 + bits x 4 4
  let y := bits x 0 0
  if !bit x 3 then pqr * 100 + stu * 10 + wxy
  else match bits x 2 1 with
    | 0 => pqr * 100 + stu * 10 + 8 + y
    | 1 => pqr * 100 + u * 10 + st + y
    | 2 => r * 100 + stu * 10 + pq + y
    | _ => match bits x 6 5 with
      | 0 => r * 100 + u * 10 + pq + y
      | 1 => r * 100 + (pq + bits x 4 4) * 10 + 8 + y
      | 2 => pqr * 100 + u * 10 + 8 + y
      | _ => r * 100 + u * 10 + 8 + y

/-- The canonical declet of a number of three digits (R202). -/
def encDeclet (n : Nat) : Nat :=
  let a := n / 100
  let e := n / 10 % 10
  let i := n % 10
  let d := a % 2
  let h := e % 2
  let m := i % 2
  let bcd := a % 8
  let fgh := e % 8
  let jkm := i % 8
  let fg := e / 2 % 4
  let jk := i / 2 % 4
  if a < 8 ∧ e < 8 ∧ i < 8 then bcd * 128 + fgh * 16 + jkm
  else if a < 8 ∧ e < 8 then bcd * 128 + fgh * 16 + 8 + m
  else if a < 8 ∧ i < 8 then bcd * 128 + jk * 32 + h * 16 + 10 + m
  else if e < 8 ∧ i < 8 then jk * 256 + d * 128 + fgh * 16 + 12 + m
  else if i < 8 then jk * 256 + d * 128 + h * 16 + 14 + m
  else if e < 8 then fg * 256 + d * 128 + 32 + h * 16 + 14 + m
  else if a < 8 then bcd * 128 + 64 + h * 16 + 14 + m
  else d * 128 + 96 + h * 16 + 14 + m

/-- n declets as a number. -/
def decDeclets : Nat → Nat → Nat
  | 0, _ => 0
  | n + 1, x => decDeclets n (x / 1024) * 1000 + decDeclet (x % 1024)

/-- A number as n declets. -/
def encDeclets : Nat → Nat → Nat
  | 0, _ => 0
  | n + 1, x => encDeclets n (x / 1000) * 1024 + encDeclet (x % 1000)

/-- Declets of the trailing significand. -/
def Fmt.declets (f : Fmt) : Nat := (f.p - 1) / 3

/-- Bits of the trailing significand. -/
def Fmt.tbits (f : Fmt) : Nat := if f.dec then 10 * f.declets else f.p - 1

/-- Decode a binary encoding. -/
def Fmt.decBin (f : Fmt) (x : Nat) : Fv :=
  let neg := bit x (f.width - 1)
  let t := x % 2 ^ f.tbits
  let n := f.width - f.p
  let e := x / 2 ^ f.tbits % 2 ^ n
  if e = 2 ^ n - 1 then (if t = 0 then .inf neg else .nan neg (!bit t (f.tbits - 1)) (t % 2 ^ (f.tbits - 1)))
  else if e = 0 then .fin neg t f.qmin
  else .fin neg (t + 2 ^ f.tbits) (f.qmin + e - 1)

/-- Decode a DPD encoding (R202). -/
def Fmt.decDpd (f : Fmt) (x : Nat) : Fv :=
  let neg := bit x (f.width - 1)
  let ec := f.width - 6 - f.tbits
  let g := x / 2 ^ (f.tbits + ec) % 32
  let cont := x / 2 ^ f.tbits % 2 ^ ec
  let t := decDeclets f.declets (x % 2 ^ f.tbits)
  if g = 31 then .nan neg (bit cont (ec - 1)) t
  else if g = 30 then .inf neg
  else
    let msb := if 24 ≤ g then g / 2 % 4 else g / 8
    let dig := if 24 ≤ g then 8 + g % 2 else g % 8
    .fin neg (dig * 1000 ^ f.declets + t) ((msb * 2 ^ ec + cont : Nat) + f.qmin)

/-- Decode the bits of a format. -/
def Fmt.decode (f : Fmt) (x : Nat) : Fv := if f.dec then f.decDpd x else f.decBin x

/-- Encode a value representable in the format: canonical encodings alone (R202). -/
def Fmt.encode (f : Fmt) (v : Fv) : Nat :=
  let sg := fun (neg : Bool) => b2n neg * 2 ^ (f.width - 1)
  let n := f.width - f.p
  let ec := f.width - 6 - f.tbits
  match v with
  | .inf neg => sg neg + (if f.dec then 30 * 2 ^ (f.tbits + ec) else (2 ^ n - 1) * 2 ^ f.tbits)
  | .nan neg s pl =>
    if f.dec then sg neg + 31 * 2 ^ (f.tbits + ec) + b2n s * 2 ^ (f.tbits + ec - 1) + encDeclets f.declets pl
    else sg neg + (2 ^ n - 1) * 2 ^ f.tbits + b2n (!s) * 2 ^ (f.tbits - 1) + pl
  | .fin neg c e =>
    if f.dec then
      let q := (e - f.qmin).toNat
      let dig := c / 1000 ^ f.declets
      let g := if 8 ≤ dig then 24 + q / 2 ^ ec * 2 + dig % 2 else q / 2 ^ ec * 8 + dig
      sg neg + g * 2 ^ (f.tbits + ec) + q % 2 ^ ec * 2 ^ f.tbits + encDeclets f.declets (c % 1000 ^ f.declets)
    else if c < 2 ^ f.tbits then sg neg + c
    else sg neg + (e - f.qmin + 1).toNat * 2 ^ f.tbits + (c - 2 ^ f.tbits)

/-- The default NaN (Table 06-5). -/
def defNan : Fv := .nan false false 0

/-! ### Rounding (R188, R189, R192, R201) -/

/-- Digits of a number in radix b, by division; the fuel bounds them. -/
def digGo (b : Nat) : Nat → Nat → Nat
  | 0, _ => 0
  | k + 1, n => if n = 0 then 0 else digGo b k (n / b) + 1

/-- Digits of a number in the radix of a format. -/
def Fmt.digits (f : Fmt) (n : Nat) : Nat := if n = 0 then 0 else if f.dec then digGo 10 (n.log2 + 1) n else n.log2 + 1

/-- An exact real number to round: (−1)^neg × n × b^e, or a little more in magnitude where `more` is set. -/
structure Exact where
  neg : Bool
  n : Nat
  e : Int
  more : Bool := false
deriving DecidableEq, Repr

/-- The magnitude is rounded up: direction (Table 06-3), sign, parity of the quotient, twice the remainder against the divisor (Table 06-3). -/
def roundsUp (dir : Nat) (neg odd : Bool) (r2 d : Nat) (more : Bool) : Bool :=
  let exact := r2 == 0 && !more
  let half := r2 == d && !more
  let above := decide (d < r2) || (r2 == d && more)
  match dir with
  | 0 => above || (half && odd)
  | 1 => false
  | 2 => !exact && !neg
  | 3 => !exact && neg
  | _ => above || half

/-- The number as a multiple of b^q, and whether it is inexact. -/
def Exact.at (x : Exact) (b dir : Nat) (q : Int) : Nat × Bool :=
  if q ≤ x.e then (x.n * b ^ (x.e - q).toNat, x.more)
  else
    let d := b ^ (q - x.e).toNat
    let m := x.n / d
    let r := x.n % d
    (m + b2n (roundsUp dir x.neg (m % 2 == 1) (2 * r) d x.more), r != 0 || x.more)

/-- Strip trailing zeros of an exact result toward the preferred exponent; the fuel bounds the steps (R201). -/
def stripTo (ideal qmax : Int) : Nat → Nat → Int → Nat × Int
  | 0, c, q => (c, q)
  | k + 1, c, q => if q < ideal ∧ q < qmax ∧ c % 10 = 0 then stripTo ideal qmax k (c / 10) (q + 1) else (c, q)

/-- An exponent moved into the range of the format. -/
def Fmt.clamp (f : Fmt) (q : Int) : Int := if q < f.qmin then f.qmin else if f.qmax < q then f.qmax else q

/-- A zero of the format with the exponent nearest to one preferred. -/
def Fmt.zero (f : Fmt) (neg : Bool) (ideal : Int) : Fv := .fin neg 0 (if f.dec then f.clamp ideal else f.qmin)

/-- The result of an overflow (R192). -/
def Fmt.overflow (f : Fmt) (dir : Nat) (neg : Bool) : Fv :=
  if dir = 1 ∨ (dir = 2 ∧ neg) ∨ (dir = 3 ∧ !neg) then .fin neg (f.b ^ f.p - 1) f.qmax else .inf neg

/-- A coefficient of p + 1 digits that rounding made is one of p digits. -/
def Fmt.carry (f : Fmt) (c : Nat) (q : Int) : Nat × Int := if c = f.b ^ f.p then (f.b ^ (f.p - 1), q + 1) else (c, q)

/-- Round an exact number to the format, with its preferred exponent: the result and the flags. -/
def Fmt.round (f : Fmt) (dir : Nat) (x : Exact) (ideal : Int) : Fv × Nat :=
  if x.n = 0 ∧ !x.more then (f.zero x.neg ideal, 0)
  else
    let q1 := x.e + f.digits x.n - f.p
    let q := if q1 < f.qmin then f.qmin else q1
    let m := x.at f.b dir q
    let cq := f.carry m.1 q
    if f.qmax < cq.2 then (f.overflow dir x.neg, fOF + fNX)
    else
      let u := f.carry (x.at f.b dir q1).1 q1
      let fl := if m.2 then (if u.2 < f.qmin then fUF + fNX else fNX) else 0
      let r := if f.dec && !m.2 then stripTo ideal f.qmax f.p cq.1 cq.2 else cq
      (.fin x.neg r.1 (if r.1 = 0 ∧ !f.dec then f.qmin else r.2), fl)

/-! ### NaN operands (R195) -/

/-- Move a payload between formats by its most significant digits. -/
def payloadTo (a b : Fmt) (pl : Nat) : Nat :=
  if a.dec then
    if a.declets ≤ b.declets then pl * 1000 ^ (b.declets - a.declets) else pl / 1000 ^ (a.declets - b.declets)
  else if a.tbits ≤ b.tbits then pl * 2 ^ (b.tbits - a.tbits) else pl / 2 ^ (a.tbits - b.tbits)

/-- A NaN quieted and converted. -/
def quietTo (a b : Fmt) : Fv → Fv
  | .nan neg _ pl => .nan neg false (payloadTo a b pl)
  | v => v

/-- The value is a NaN. -/
def Fv.isNan : Fv → Bool
  | .nan _ _ _ => true
  | _ => false

/-- The value is a signalling NaN. -/
def Fv.isSnan : Fv → Bool
  | .nan _ s _ => s
  | _ => false

/-- NV for a signalling NaN among the operands. -/
def snanFlag (vs : List Fv) : Nat := if vs.any Fv.isSnan then fNV else 0

/-- The result where an operand is a NaN: the first, quieted. -/
def nanResult (a b : Fmt) (vs : List Fv) : Option (Fv × Nat) :=
  match vs.find? Fv.isNan with
  | none => none
  | some v => some (quietTo a b v, snanFlag vs)

/-- Sign of a value. -/
def Fv.neg : Fv → Bool
  | .fin n _ _ => n
  | .inf n => n
  | .nan n _ _ => n

/-- The value with its sign inverted. -/
def Fv.negate : Fv → Fv
  | .fin n c e => .fin (!n) c e
  | .inf n => .inf (!n)
  | .nan n s p => .nan n s p

/-- A signed coefficient. -/
def signed (neg : Bool) (c : Nat) : Int := if neg then -(c : Int) else c

/-! ### Operations -/

/-- The exact sum of two finite numbers, with the sign of a zero (R190). -/
def exactSum (b dir : Nat) (n1 : Bool) (c1 : Nat) (e1 : Int) (n2 : Bool) (c2 : Nat) (e2 : Int) : Exact :=
  let e := if e1 ≤ e2 then e1 else e2
  let s := signed n1 (c1 * b ^ (e1 - e).toNat) + signed n2 (c2 * b ^ (e2 - e).toNat)
  if s = 0 then { neg := if c1 = 0 ∧ n1 = n2 then n1 else dir == 3, n := 0, e := e } else { neg := decide (s < 0), n := s.natAbs, e := e }

/-- a + b of operands that are no NaNs. -/
def Fmt.addF (f : Fmt) (dir : Nat) : Fv → Fv → Fv × Nat
  | .inf n1, .inf n2 => if n1 = n2 then (.inf n1, 0) else (defNan, fNV)
  | .inf n, _ => (.inf n, 0)
  | _, .inf n => (.inf n, 0)
  | .fin n1 c1 e1, .fin n2 c2 e2 => f.round dir (exactSum f.b dir n1 c1 e1 n2 c2 e2) (if e1 ≤ e2 then e1 else e2)
  | _, _ => (defNan, fNV)

/-- The result of an operation, unless an operand is a NaN. -/
def orNan (r : Option (Fv × Nat)) (v : Fv × Nat) : Fv × Nat := r.getD v

/-- Addition. -/
def Fmt.add (f : Fmt) (dir : Nat) (a b : Fv) : Fv × Nat := orNan (nanResult f f [a, b]) (f.addF dir a b)

/-- Subtraction. -/
def Fmt.sub (f : Fmt) (dir : Nat) (a b : Fv) : Fv × Nat := orNan (nanResult f f [a, b]) (f.addF dir a b.negate)

/-- Multiplication. -/
def Fmt.mul (f : Fmt) (dir : Nat) (a b : Fv) : Fv × Nat :=
  orNan (nanResult f f [a, b]) (match a, b with
    | .fin n1 c1 e1, .fin n2 c2 e2 => f.round dir { neg := n1 != n2, n := c1 * c2, e := e1 + e2 } (e1 + e2)
    | .fin n1 c _, .inf n2 => if c = 0 then (defNan, fNV) else (.inf (n1 != n2), 0)
    | .inf n1, .fin n2 c _ => if c = 0 then (defNan, fNV) else (.inf (n1 != n2), 0)
    | x, y => (.inf (x.neg != y.neg), 0))

/-- Division (R192). -/
def Fmt.div (f : Fmt) (dir : Nat) (a b : Fv) : Fv × Nat :=
  orNan (nanResult f f [a, b]) (match a, b with
    | .fin n1 c1 e1, .fin n2 c2 e2 =>
      if c2 = 0 then (if c1 = 0 then (defNan, fNV) else (.inf (n1 != n2), fDZ))
      else
        let k := f.p + 3 + f.digits c2 - f.digits c1
        f.round dir { neg := n1 != n2, n := c1 * f.b ^ k / c2, e := e1 - e2 - k, more := c1 * f.b ^ k % c2 != 0 } (e1 - e2)
    | .fin n1 _ _, .inf n2 => (f.zero (n1 != n2) f.qmin, 0)
    | .inf n1, .fin n2 _ _ => (.inf (n1 != n2), 0)
    | _, _ => (defNan, fNV))

/-- Integer square root by Newton's steps from above. -/
def sqrtGo (n : Nat) : Nat → Nat → Nat
  | 0, x => x
  | k + 1, x => if (x + n / x) / 2 < x then sqrtGo n k ((x + n / x) / 2) else x

/-- The integer square root. -/
def isqrt (n : Nat) : Nat := if n = 0 then 0 else sqrtGo n (n.log2 + 2) (2 ^ (n.log2 / 2 + 1))

/-- Square root; the preferred exponent is half the operand's, rounded down. -/
def Fmt.sqrt (f : Fmt) (dir : Nat) (a : Fv) : Fv × Nat :=
  orNan (nanResult f f [a]) (match a with
    | .fin neg c e =>
      if c = 0 then (f.zero neg (e / 2), 0)
      else if neg then (defNan, fNV)
      else
        let k := 2 * (f.p + 3) + (e % 2).toNat
        let n := c * f.b ^ k
        let r := isqrt n
        f.round dir { neg := false, n := r, e := (e - k) / 2, more := r * r != n } (e / 2)
    | .inf neg => if neg then (defNan, fNV) else (.inf false, 0)
    | v => (v, 0))

/-- The exact number with its sign inverted, a zero's included. -/
def Exact.negIf (x : Exact) (n : Bool) : Exact := { x with neg := x.neg != n }

/-- An infinity with its sign inverted. -/
def infIf (n neg : Bool) : Fv := .inf (neg != n)

/-- a × b ± c with one rounding: `nc` subtracts c, `np` inverts the sign of the exact result, a zero's included (Table 06-2, R190, log entry 37). -/
def Fmt.fma (f : Fmt) (dir : Nat) (np nc : Bool) (a b c : Fv) : Fv × Nat :=
  let zi := match a, b with
    | .fin _ x _, .inf _ => x == 0
    | .inf _, .fin _ x _ => x == 0
    | _, _ => false
  if zi then (if c.isNan then (quietTo f f c, fNV) else (defNan, fNV))
  else orNan (nanResult f f [a, b, c]) (
    let c := if nc then c.negate else c
    match a, b with
    | .fin n1 c1 e1, .fin n2 c2 e2 =>
      match c with
      | .fin n3 c3 e3 => f.round dir ((exactSum f.b dir (n1 != n2) (c1 * c2) (e1 + e2) n3 c3 e3).negIf np) (if e1 + e2 ≤ e3 then e1 + e2 else e3)
      | v => (infIf np v.neg, 0)
    | x, y =>
      match c with
      | .inf n3 => if (x.neg != y.neg) = n3 then (infIf np n3, 0) else (defNan, fNV)
      | _ => (infIf np (x.neg != y.neg), 0))

/-- Conversion from format a to format f. -/
def Fmt.cvt (f a : Fmt) (dir : Nat) (x : Fv) : Fv × Nat :=
  orNan (nanResult a f [x]) (match x with
    | .fin neg c e => f.round dir { neg := neg, n := c, e := e } e
    | v => (v, 0))

/-- Conversion of a signed 64-bit integer. -/
def Fmt.ofInt (f : Fmt) (dir : Nat) (x : Int) : Fv × Nat := f.round dir { neg := decide (x < 0), n := x.natAbs, e := 0 } 0

/-- roundToIntegralExact. -/
def Fmt.rnd (f : Fmt) (dir : Nat) (x : Fv) : Fv × Nat :=
  orNan (nanResult f f [x]) (match x with
    | .fin neg c e =>
      if 0 ≤ e then (x, 0)
      else
        let m := ({ neg := neg, n := c, e := e } : Exact).at f.b dir 0
        ((f.round dir { neg := neg, n := m.1, e := 0 } 0).1, if m.2 then fNX else 0)
    | v => (v, 0))

/-- A signed 64-bit integer as a pattern, with the flags (R196). -/
def Fmt.toInt (f : Fmt) (dir : Nat) (x : Fv) : Nat × Nat :=
  match x with
  | .fin neg c e =>
    let m := ({ neg := neg, n := c, e := e } : Exact).at f.b dir 0
    if neg then (if m.1 ≤ 2 ^ 63 then (i64 (-(m.1 : Int)), if m.2 then fNX else 0) else (2 ^ 63, fNV))
    else if m.1 < 2 ^ 63 then (m.1, if m.2 then fNX else 0) else (2 ^ 63 - 1, fNV)
  | .inf neg => (if neg then 2 ^ 63 else 2 ^ 63 - 1, fNV)
  | .nan _ _ _ => (2 ^ 63, fNV)

/-- Order of two values that are no NaNs. -/
def Fmt.order (f : Fmt) : Fv → Fv → Ordering
  | .inf n1, .inf n2 => if n1 = n2 then .eq else if n1 then .lt else .gt
  | .inf n, _ => if n then .lt else .gt
  | _, .inf n => if n then .gt else .lt
  | .fin n1 c1 e1, .fin n2 c2 e2 =>
    let e := if e1 ≤ e2 then e1 else e2
    let d := signed n1 (c1 * f.b ^ (e1 - e).toNat) - signed n2 (c2 * f.b ^ (e2 - e).toNat)
    if d < 0 then .lt else if d = 0 then .eq else .gt
  | _, _ => .eq

/-- N, Z, C and V of a comparison (Table 06-6), and NV for a signalling NaN (R193). -/
def Fmt.cmp (f : Fmt) (a b : Fv) : Nat × Nat :=
  if a.isNan || b.isNan then (nzcvOf false false true true, snanFlag [a, b])
  else (match f.order a b with
    | .lt => nzcvOf true false false false
    | .eq => nzcvOf false true true false
    | .gt => nzcvOf false false true false, 0)

/-- minNum and maxNum (R194). -/
def Fmt.minmax (f : Fmt) (max : Bool) (a b : Fv) : Fv × Nat :=
  if a.isSnan || b.isSnan then (quietTo f f (if a.isNan then a else b), fNV)
  else if a.isNan then (if b.isNan then a else b, 0)
  else if b.isNan then (a, 0)
  else match f.order a b with
    | .lt => (if max then b else a, 0)
    | .gt => (if max then a else b, 0)
    | .eq => (if a.neg = max then b else a, 0)

/-- quantize: a with the exponent of b (Table 06-7). -/
def Fmt.quantize (f : Fmt) (dir : Nat) (a b : Fv) : Fv × Nat :=
  orNan (nanResult f f [a, b]) (match a, b with
    | .inf n, .inf _ => (.inf n, 0)
    | .fin n c e, .fin _ _ q =>
      let m := ({ neg := n, n := c, e := e } : Exact).at 10 dir q
      if 10 ^ f.p ≤ m.1 then (defNan, fNV) else (.fin n m.1 q, if m.2 then fNX else 0)
    | _, _ => (defNan, fNV))

end Sys2Proof.Machine
end

