-- ==== Sys2Proof/Machine/Fp.lean ====
section
/-! DEFINITION. F banks (EV_FPU), F register operands and results, FPSR, and the binary and decimal floating-point instructions (R105, R183 to R203, R230, R232, R233). -/
namespace Sys2Proof.Machine

/-! ### EV_FPU (R232, R233) -/

/-- A bank may be taken from its owner: order of R232, or none for an owner that is never a victim. A task waiting out of its slot at IOBAR or for a lock waits as in WAIT_MEM (R263, R362). -/
def State.victimRank (s : State) (core : Nat) (b : Bank) : Option Nat :=
  let c := s.ctx core b.owner
  let rank := some (2 ^ 100 + (7 - c.prio) * 2 ^ 80 + b.lastUse)
  if s.holdsSlot core b.owner ∨ c.fpUnavail.isSome then none
  else match c.run with
    | .waitEvent => some c.since
    | .ready => rank
    | .waitMem => rank
    | .waitBar => rank
    | .waitLock => rank
    | _ => none

/-- Save victims' banks until one is free; a victim whose save faults keeps its bank and is marked (R232, R233). -/
def State.freeBank (core : Nat) : Nat → State → State
  | 0, s => s
  | n + 1, s =>
    if (s.core core).banks.length < 8 then s
    else
      match minBy (fun b => (s.victimRank core b).getD 0) ((s.core core).banks.filter (fun b => (s.victimRank core b).isSome)) with
      | none => s
      | some b =>
        match s.saveBank core b.owner with
        | .ok t => t
        | .error f => State.freeBank core n (s.onCtx core b.owner (fun c => { c with fpUnavail := some ((s.fArea core b.owner).1, f.vec) }))

/-- What a bank attached for the set holds: the saved F area of the task, or datum 0 tagged BFP (R232, R234). -/
def State.bankFill (s : State) (core set : Nat) : Except XFlt FFile :=
  let c := s.ctx core (s.bankSet core set)
  if c.fsaved then
    match s.readWords c.inst (s.fArea core set).2 (s.fArea core set).1 64 with
    | .ok l => .ok (wordsF l)
    | .error f => .error f
  else .ok (Vector.replicate 32 {})

/-- TSW.FPA of a set becomes 1. -/
def State.setFpa (s : State) (core set : Nat) : State := if (s.ctx core set).regs.fpa then s else s.onCtx core set (fun c => { c with regs := c.regs.setTsw 31 31 1 })

/-- A bank is attached to the task a set serves (R232, R234). -/
def State.attachBank (s : State) (core set : Nat) (f : FFile) : State :=
  (s.onCore core (fun k => { k with banks := k.banks ++ [{ owner := s.bankSet core set, f := f, lastUse := s.now }] })).setFpa core (s.bankSet core set)

/-- The set has a bank: else EV_FPU attaches one, or the task waits for one in WAIT_FP (step 6 of Table 04-11). A handler's first F use attaches the trapped task's (R234). -/
def Env.useBank (e : Env) : M PUnit := do
  let s ← get
  match s.bankOf e.core e.set with
  | some _ => modify (fun s => s.setFpa e.core e.set)
  | none =>
    modify (fun s => s.freeBank e.core 8)
    let s ← get
    if 8 ≤ (s.core e.core).banks.length then e.release .waitFp .none
    let f ← e.lift (s.bankFill e.core e.set)
    modify (fun s => (s.attachBank e.core e.set f).setFpa e.core e.set)

/-- Step 5 of Table 04-11: a decimal floating-point instruction on a standard core migrates its task, or raises Decimal Unit Absent (R105, R203). -/
def Env.needDecimal (e : Env) : M PUnit := do
  let s ← get
  if e.core < s.chCores then return
  let c := s.ctx e.core e.set
  match (if (s.inst c.inst).migDec && decide (e.set < 64) then s.decimalTarget c.inst c.regs.encl else none) with
  | none => e.fail ⟨0xB, 0, 0⟩
  | some t =>
    if c.regs.pend ≠ 0 then e.fail ⟨9, 0, 0⟩
    modify (fun s => (s.startMove e.core e.set t true).resched e.core)
    throw .wait

/-! ### F registers (R183, Table 06-1) -/

/-- The F registers of the set. -/
def Env.fregs (e : Env) : M FFile := do
  return match (← get).bankOf e.core e.set with
    | some b => b.f
    | none => Vector.replicate 32 {}

/-- F register n. -/
def fget (f : FFile) (n : Nat) : FReg := f.toList.getD n {}

/-- Write an F register (R183). -/
def Env.setF (e : Env) (n : Nat) (x : FReg) : State → State := fun s =>
  s.onCore e.core (fun k => { k with banks := k.banks.map (fun b => if b.owner == s.bankSet e.core e.set then { b with f := b.f.setIfInBounds n x, lastUse := s.now } else b) })

/-- Record an F use (R232). -/
def Env.touchF (e : Env) : State → State := fun s =>
  s.onCore e.core (fun k => { k with banks := k.banks.map (fun b => if b.owner == s.bankSet e.core e.set then { b with lastUse := s.now } else b) })

/-- The halves a format reads, as operands: the high half first (Table 06-1, log entry 30). -/
def halves (width no : Nat) (ok : List Nat) (x : FReg) : List Opd :=
  if width = 128 then [⟨x.hi, no, ok, false⟩, ⟨x.lo, no, ok, false⟩] else [⟨x.lo, no, ok, false⟩]

/-- The bits of a format in a register (Table 06-1). -/
def fbits (width : Nat) (x : FReg) : Nat := if width = 128 then x.hi.datum.toNat * 2 ^ 64 + x.lo.datum.toNat else x.lo.datum.toNat % 2 ^ width

/-- A register written in a format (Table 06-1). -/
def freg (width : Nat) (tag : Tag) (v : Nat) : FReg :=
  if width = 128 then ⟨⟨word (v / 2 ^ 64), tag⟩, ⟨word v, tag⟩⟩ else ⟨⟨0, tag⟩, ⟨word v, tag⟩⟩

/-! ### FPSR (R189, R191) -/

/-- The rounding direction in force: FPSR.DRM or FPSR.BRM. -/
def Regs.dir (r : Regs) (dec : Bool) : Nat := if dec then bits r.fpsr.toNat 30 28 else bits r.fpsr.toNat 26 24

/-- Set flags, with PEND, XV and FPXA for enabled ones (R191). -/
def Regs.raiseFp (r : Regs) (fl : Nat) : Regs :=
  let x := r.fpsr.toNat
  let p := fl &&& bits x 12 8
  let y := setBits x 4 0 (bits x 4 0 ||| fl)
  if p = 0 then { r with fpsr := word y }
  else
    { r with fpsr := word (setBits (setBits y 20 16 (bits y 20 16 ||| p)) 21 21 1), fpxa := if bit x 21 then r.fpxa else r.pc }

/-- The tag of a floating-point result: BFP or DFP, RAW in Heritage state (Table 04-4, R131). -/
def fpTag (her dec : Bool) : Tag := resTag her (if dec then Tag.dfp else Tag.bfp)

/-- Type of the halves of a format: BFP or DFP. -/
def fpType (dec : Bool) : List Nat := if dec then [5] else [4]

/-- The format of a row. -/
def fmtOf (dec : Bool) (fmt : Nat) : Fmt := if dec then decFmt fmt else binFmt fmt

/-- The checks before the operands: steps 5 and 6 (Table 04-11). -/
def Env.fpReady (e : Env) (dec : Bool) : M PUnit := do
  if dec then e.needDecimal
  e.useBank

/-- The operands of an operation on F registers, decoded; their codes are 1, 2 and 3. -/
def Env.fpOpds (e : Env) (f : Fmt) (rs : List Nat) : M (List Fv) := do
  e.fpReady f.dec
  let ff ← e.fregs
  e.check ((List.range rs.length).flatMap (fun k => halves f.width (k + 1) (fpType f.dec) (fget ff (rs.getD k 0))))
  return rs.map (fun r => f.decode (fbits f.width (fget ff r)))

/-- Write a floating-point result with its flags. -/
def Env.fpWrite (e : Env) (f : Fmt) (d : Nat) (v : Fv × Nat) : Effect := do
  let r ← e.regs
  return fun s => e.setF d (freg f.width (fpTag r.her f.dec) (f.encode v.1)) (e.onRegs (fun r => r.raiseFp v.2) s)

/-- An arithmetic operation of one format: the codes of Tables 06-2 and 06-7 shared by both radices. -/
def arithF (f : Fmt) (dir : Nat) (op : Nat) (a b : Fv) : Fv × Nat :=
  match op with
  | 0 => f.add dir a b
  | 1 => f.sub dir a b
  | 2 => f.mul dir a b
  | 3 => f.div dir a b
  | 4 => f.sqrt dir a
  | _ => f.rnd dir a

/-- Two-operand arithmetic. -/
def Env.fp2 (e : Env) (f : Fmt) (op d a b : Nat) : Effect := do
  let v ← e.fpOpds f [a, b]
  let r ← e.regs
  e.fpWrite f d (arithF f (r.dir f.dec) op (v.getD 0 defNan) (v.getD 1 defNan))

/-- One-operand arithmetic. -/
def Env.fp1 (e : Env) (f : Fmt) (op d a : Nat) : Effect := do
  let v ← e.fpOpds f [a]
  let r ← e.regs
  e.fpWrite f d (arithF f (r.dir f.dec) op (v.getD 0 defNan) defNan)

/-- A fused operation: 0 FMA, 1 FMS, 2 FNMA, 3 FNMS, and their decimal forms (Table 06-2). -/
def Env.fp3 (e : Env) (f : Fmt) (op d a b c : Nat) : Effect := do
  let v ← e.fpOpds f [a, b, c]
  let r ← e.regs
  e.fpWrite f d (f.fma (r.dir f.dec) (decide (2 ≤ op)) (op % 2 == 1) (v.getD 0 defNan) (v.getD 1 defNan) (v.getD 2 defNan))

/-- FABS, FNEG and FMOV: the sign bit cleared, inverted or kept, NaNs included (Table 06-2). -/
def Env.fpSign (e : Env) (f : Fmt) (op : BOp) (d a : Nat) : Effect := do
  let _ ← e.fpOpds f [a]
  let ff ← e.fregs
  let r ← e.regs
  let x := fbits f.width (fget ff a)
  let m := x % 2 ^ (f.width - 1)
  let s := bit x (f.width - 1)
  let v := match op with
    | .abs => m
    | .neg => m + b2n (!s) * 2 ^ (f.width - 1)
    | _ => x
  return e.setF d (freg f.width (fpTag r.her false) v)

/-- FCVTF and DCVTF: from the format of FMT to another (Tables 06-2, 06-7). -/
def Env.fpCvt (e : Env) (f t : Fmt) (d a : Nat) : Effect := do
  let v ← e.fpOpds f [a]
  let r ← e.regs
  e.fpWrite t d (t.cvt f (r.dir f.dec) (v.getD 0 defNan))

/-- FCVTFI and DCVTFI: a signed 64-bit integer rounded to FMT. -/
def Env.fpOfInt (e : Env) (f : Fmt) (d a : Nat) : Effect := do
  e.fpReady f.dec
  let r ← e.regs
  e.check [⟨r.gpr a, 1, tyInt, false⟩]
  e.fpWrite f d (f.ofInt (r.dir f.dec) (sext 64 (r.gpr a).datum.toNat))

/-- FCVTI and DCVTI (R196). -/
def Env.fpToInt (e : Env) (f : Fmt) (d a : Nat) : Effect := do
  let v ← e.fpOpds f [a]
  let r ← e.regs
  let x := f.toInt (r.dir f.dec) (v.getD 0 defNan)
  return fun s => e.touchF (e.onRegs (fun r => (r.setG d ⟨word x.1, resTag r.her Tag.int⟩).raiseFp x.2) s)

/-- FCMP and DCMP (R193). -/
def Env.fpCmp (e : Env) (f : Fmt) (a b : Nat) : Effect := do
  let v ← e.fpOpds f [a, b]
  let x := f.cmp (v.getD 0 defNan) (v.getD 1 defNan)
  return fun s => e.touchF (e.onRegs (fun r => (r.setNzcv x.1).raiseFp x.2) s)

/-- Binary arithmetic of major 0x18. -/
def Env.bfp (e : Env) (op : BOp) (fmt d a b : Nat) : Effect :=
  match op with
  | .add => e.fp2 (binFmt fmt) 0 d a b
  | .sub => e.fp2 (binFmt fmt) 1 d a b
  | .mul => e.fp2 (binFmt fmt) 2 d a b
  | .div => e.fp2 (binFmt fmt) 3 d a b
  | .sqrt => e.fp1 (binFmt fmt) 4 d a
  | .rnd => e.fp1 (binFmt fmt) 5 d a
  | .cvt t => e.fpCvt (binFmt fmt) (binFmt t) d a
  | .cvtfi => e.fpOfInt (binFmt fmt) d a
  | o => e.fpSign (binFmt fmt) o d a

/-- Decimal arithmetic of major 0x1A. -/
def Env.dfp (e : Env) (op : DOp) (fmt d a b : Nat) : Effect :=
  match op with
  | .add => e.fp2 (decFmt fmt) 0 d a b
  | .sub => e.fp2 (decFmt fmt) 1 d a b
  | .mul => e.fp2 (decFmt fmt) 2 d a b
  | .div => e.fp2 (decFmt fmt) 3 d a b
  | .sqrt => e.fp1 (decFmt fmt) 4 d a
  | .rnd => e.fp1 (decFmt fmt) 5 d a
  | .cvt t => e.fpCvt (decFmt fmt) (decFmt t) d a
  | .cvtfi => e.fpOfInt (decFmt fmt) d a

/-- FMIN and FMAX (R194). -/
def Env.fminmax (e : Env) (max : Bool) (fmt d a b : Nat) : Effect := do
  let v ← e.fpOpds (binFmt fmt) [a, b]
  e.fpWrite (binFmt fmt) d ((binFmt fmt).minmax max (v.getD 0 defNan) (v.getD 1 defNan))

/-- DQUANT (Table 06-7). -/
def Env.dquant (e : Env) (fmt d a b : Nat) : Effect := do
  let v ← e.fpOpds (decFmt fmt) [a, b]
  let r ← e.regs
  e.fpWrite (decFmt fmt) d ((decFmt fmt).quantize (r.dir true) (v.getD 0 defNan) (v.getD 1 defNan))

/-! ### Moves, loads and stores (R184, R185) -/

/-- FMVG: part 0 the low 32 bits, 1 the low half, 2 the high half (R185). -/
def Env.fmvg (e : Env) (part d a : Nat) : Effect := do
  e.useBank
  let ff ← e.fregs
  let x := fget ff a
  let h := if part = 2 then x.hi else x.lo
  e.check [⟨h, 1, fpType false, false⟩]
  let v := if part = 0 then h.datum.toNat % 2 ^ 32 else h.datum.toNat
  return fun s => e.touchF (e.onRegs (fun r => r.setG d ⟨word v, resTag r.her Tag.int⟩) s)

/-- GMVF: the selected part takes the datum and the tag BFP; the rest is unchanged (R185). -/
def Env.gmvf (e : Env) (part d a : Nat) : Effect := do
  e.useBank
  let r ← e.regs
  e.check [⟨r.gpr a, 1, tyInt, false⟩]
  let ff ← e.fregs
  let x := fget ff d
  let v := (r.gpr a).datum
  let t := fpTag r.her false
  return e.setF d (match part with
    | 0 => { x with lo := ⟨word (x.lo.datum.toNat / 2 ^ 32 * 2 ^ 32 + v.toNat % 2 ^ 32), t⟩ }
    | 1 => { x with lo := ⟨v, t⟩ }
    | _ => { x with hi := ⟨v, t⟩ })

/-- Word types FLD accepts: BFP, DFP, INT and RAW (Table 04-4). -/
def fldTypes : List Nat := [0, 1, 4, 5]

/-- The tag of a half that FLD loads or FST stores: that of the word or half, RAW in Heritage state, in which FLD and FST are no exception of R131. -/
def halfTag (her : Bool) (t : Tag) : Tag := resTag her t

/-- FLD (R131, R184). -/
def Env.fld (e : Env) (size d a disp : Nat) : Effect := do
  e.useBank
  let r ← e.regs
  e.check [⟨r.gpr a, 1, tyPtr, false⟩]
  let ea := u64 ((r.gpr a).datum.toNat + disp)
  let ra ← e.address 0 ea size
  if inDev ra then
    if size ≠ 8 then e.fail ⟨5, ea, 0⟩
    let w ← e.devLoad ra
    return fun s => e.alone (e.setF d ⟨⟨0, halfTag r.her Tag.int⟩, ⟨w, halfTag r.her Tag.int⟩⟩ s)
  let w ← e.loadWord ra
  if size = 16 then
    let v ← e.loadWord (ra + 8)
    e.lift (memTagsAll r.her true fldTypes [(ea, ra / 8, w), (ea + 8, ra / 8 + 1, v)])
    return e.setF d ⟨⟨w.datum, halfTag r.her w.tag⟩, ⟨v.datum, halfTag r.her v.tag⟩⟩
  else
    e.lift (memTags r.her true fldTypes ea (ra / 8) w)
    let x := if size = 4 then subVal w.datum (ra % 8) 4 else w.datum.toNat
    return e.setF d ⟨⟨0, halfTag r.her w.tag⟩, ⟨word x, halfTag r.her w.tag⟩⟩

/-- FST (R131, R184): a half of type RAW to DESC is stored (R126, R340); the LOCK check covers every word. -/
def Env.fst (e : Env) (size n a disp : Nat) : Effect := do
  e.useBank
  let r ← e.regs
  let ff ← e.fregs
  let x := fget ff n
  let half := fun (w : TWord) => (⟨w.datum, halfTag r.her w.tag⟩ : TWord)
  e.check (⟨r.gpr a, 1, tyPtr, false⟩ :: halves (8 * size) 5 subTypes x)
  let ea := u64 ((r.gpr a).datum.toNat + disp)
  let ra ← e.address 1 ea size
  if inDev ra then
    if size ≠ 8 then e.fail ⟨5, ea, 1⟩
    e.devReady
    return fun s => e.touchF (e.alone (s.commitDev e.core e.set ra x.lo.datum))
  if size = 16 then
    e.storeReady (ra / 256)
    let s ← get
    let w := s.wordFor e.core (s.ctx e.core e.set).tid (ra / 8)
    let v := s.wordFor e.core (s.ctx e.core e.set).tid (ra / 8 + 1)
    e.lift (memTagsAll r.her false anyType [(ea, ra / 8, w), (ea + 8, ra / 8 + 1, v)])
    e.lift (lockCheck false ea w)
    e.lift (lockCheck false (ea + 8) v)
    return fun s => e.touchF (e.commitTo (ra + 8) (wholeWord (ra + 8) (half x.lo)) false (e.commitTo ra (wholeWord ra (half x.hi)) false s))
  let _ ← e.target ea ra anyType false
  if size = 8 then return fun s => e.touchF (e.commitTo ra (wholeWord ra (half x.lo)) false s)
  else return fun s => e.touchF (e.commitTo ra (subWord ra 4 x.lo.datum (some (half x.lo).tag)) false s)

/-! ### Rows -/

/-- BINARY_FP_ARITHMETIC (R186). -/
def execBinaryFpArithmetic (core set : Nat) (s : State) : Out :=
  .next (s.issue core set (fun i => match i with | .bfp _ _ _ _ _ => true | .bfma _ _ _ _ _ _ => true | _ => false)
    (fun e i => match i with
      | .bfp op f d a b => e.commit (e.bfp op f d a b)
      | .bfma op f d a b c => e.commit (e.fp3 (binFmt f) op d a b c)
      | _ => pure ()))

/-- FCMP_DCMP (R193). -/
def execFcmpDcmp (core set : Nat) (s : State) : Out :=
  .next (s.issue core set (fun i => match i with | .fcmp _ _ _ _ => true | _ => false)
    (fun e i => match i with | .fcmp dec f a b => e.commit (e.fpCmp (fmtOf dec f) a b) | _ => pure ()))

/-- FMIN_FMAX (R194). -/
def execFminFmax (core set : Nat) (s : State) : Out :=
  .next (s.issue core set (fun i => match i with | .fminmax _ _ _ _ _ => true | _ => false)
    (fun e i => match i with | .fminmax m f d a b => e.commit (e.fminmax m f d a b) | _ => pure ()))

/-- FCVTI_DCVTI (R196). -/
def execFcvtiDcvti (core set : Nat) (s : State) : Out :=
  .next (s.issue core set (fun i => match i with | .fcvti _ _ _ _ => true | _ => false)
    (fun e i => match i with | .fcvti dec f d a => e.commit (e.fpToInt (fmtOf dec f) d a) | _ => pure ()))

/-- FMVG_GMVF (R185). -/
def execFmvgGmvf (core set : Nat) (s : State) : Out :=
  .next (s.issue core set (fun i => match i with | .fmvg _ _ _ => true | .gmvf _ _ _ => true | _ => false)
    (fun e i => match i with
      | .fmvg p d a => e.commit (e.fmvg p d a)
      | .gmvf p d a => e.commit (e.gmvf p d a)
      | _ => pure ()))

/-- FLD (R184). -/
def execFld (core set : Nat) (s : State) : Out :=
  .next (s.issue core set (fun i => match i with | .fld _ _ _ _ => true | _ => false)
    (fun e i => match i with | .fld n d a x => e.commit (e.fld n d a x) | _ => pure ()))

/-- FST (R184). -/
def execFst (core set : Nat) (s : State) : Out :=
  .next (s.issue core set (fun i => match i with | .fst _ _ _ _ => true | _ => false)
    (fun e i => match i with | .fst n v a x => e.commit (e.fst n v a x) | _ => pure ()))

/-- DECIMAL_FP_ARITHMETIC (R201). -/
def execDecimalFpArithmetic (core set : Nat) (s : State) : Out :=
  .next (s.issue core set (fun i => match i with | .dfp _ _ _ _ _ => true | .dfma _ _ _ _ _ _ => true | _ => false)
    (fun e i => match i with
      | .dfp op f d a b => e.commit (e.dfp op f d a b)
      | .dfma op f d a b c => e.commit (e.fp3 (decFmt f) op d a b c)
      | _ => pure ()))

/-- DQUANT (R201). -/
def execDquant (core set : Nat) (s : State) : Out :=
  .next (s.issue core set (fun i => match i with | .dquant _ _ _ _ => true | _ => false)
    (fun e i => match i with | .dquant f d a b => e.commit (e.dquant f d a b) | _ => pure ()))

/-- WAIT_FP_RETRY: a bank is free, so a task in WAIT_FP is READY again and executes its instruction again (R232). -/
def execWaitFpRetry (core set : Nat) (s : State) : Out :=
  when (s.runs && (s.ctx core set).run == .waitFp && decide ((s.core core).banks.length < 8)) s
    ((s.onCtx core set (fun c => { c with run := .ready, since := s.now })).resched core)

end Sys2Proof.Machine
end

