-- ==== Sys2Proof/Machine/Packed.lean ====
section
/-! DEFINITION. Packed decimal: operands in memory, digits and signs, the arithmetic of major 0x1C and the conversions of major 0x1D (R204 to R210, R449). -/
namespace Sys2Proof.Machine

/-! ### Packed operands in memory -/

/-- One word that a packed operand touches: effective address of the first byte touched, its real address, and how many bytes. -/
structure PWord where
  ea : Nat
  ra : Nat
  n : Nat
deriving DecidableEq, Repr

/-- Bytes from an address to the end of its word. -/
def toWordEnd (a : Nat) : Nat := 8 - a % 8

/-- The parts of [ea, ea + n) that lie in single words; the fuel bounds them at 3. -/
def wordParts : Nat → Nat → Nat → List (Nat × Nat)
  | 0, _, _ => []
  | k + 1, ea, n => if n = 0 then [] else (u64 ea, min n (toWordEnd ea)) :: wordParts k (ea + min n (toWordEnd ea)) (n - min n (toWordEnd ea))

/-- Addresses of a packed operand: step 8, for reading, writing or both (R163, R164, R204). -/
def Env.pAddr (e : Env) (rd wr : Bool) : List (Nat × Nat) → M (List PWord)
  | [] => pure []
  | (ea, n) :: t => do
    let r ← if rd then e.address 0 ea 1 else pure 0
    let w ← if wr then e.address 1 ea 1 else pure r
    if inDev w then e.fail ⟨5, ea, if rd then 0 else 1⟩
    let l ← Env.pAddr e rd wr t
    return { ea := ea, ra := w, n := n } :: l

/-- The newest values of the words of an operand; a value operand loads them. -/
def Env.pWords (e : Env) (load : Bool) : List PWord → M (List TWord)
  | [] => pure []
  | p :: t => do
    let w ← if load then e.loadWord p.ra
      else do
        let s ← get
        pure (s.wordFor e.core (s.ctx e.core e.set).tid (p.ra / 8))
    let l ← Env.pWords e load t
    return w :: l

/-- Room in the write buffer, and no withheld line, for the lines of an operand (R122, R264). -/
def Env.pReady (e : Env) (ps : List PWord) : M PUnit := do
  let l := (ps.map (fun p => p.ra / 256)).eraseDups
  let s ← get
  if decide (1 < l.length) && decide (31 ≤ (s.core e.core).wb.length) then e.stall
  for la in l do e.storeReady la

/-- A memory word under step 9: where, the word, and whether its value is read and whether it is written. -/
structure PCheck where
  p : PWord
  w : TWord
  value : Bool
  store : Bool
deriving DecidableEq, Repr

/-- Step 9 over the words of a packed instruction: Tag Reserved, POISON of a value, type, LOCK (R126, R129, R204, R449). -/
def pTags (her : Bool) (cs : List PCheck) : Except XFlt PUnit :=
  match cs.find? (fun c => decide (10 ≤ c.w.type)) with
  | some c => .error ⟨4, c.p.ea, tagInfo c.w.tag 4⟩
  | none =>
    match cs.find? (fun c => c.value && c.w.type == 8) with
    | some c => .error (mcFault 1 (c.p.ra / 8) c.w)
    | none =>
      match cs.find? (fun c => c.w.type != 3 && !(her && c.w.type != 9)) with
      | some c => .error ⟨3, c.p.ea, tagInfo c.w.tag 4⟩
      | none =>
        match cs.find? (fun c => c.store && c.w.tag.lock) with
        | some c => .error ⟨3, c.p.ea, tagInfo c.w.tag 4 + 2 ^ 12⟩
        | none => .ok ()

/-- Bytes of an operand from its words. -/
def pBytes (ps : List PWord) (ws : List TWord) : List Byte :=
  (ps.zip ws).flatMap (fun x => (List.range x.1.n).map (fun k => datumByte x.2.datum (x.1.ra % 8 + k)))

/-- Commit a field of bytes to its words with the result tag (R204). -/
def Env.pCommit (e : Env) (tag : Tag) : List PWord → List Byte → State → State
  | [], _, s => s
  | p :: t, b, s =>
    let x := subWord p.ra p.n (word (beNat (b.take p.n))) (some tag)
    Env.pCommit e tag t (b.drop p.n) (e.commitTo p.ra x false s)

/-! ### Digits and signs (R207, R208) -/

/-- Nibbles of a field, leftmost first. -/
def nibbles (b : List Byte) : List Nat := b.flatMap (fun x => [x.toNat / 16, x.toNat % 16])

/-- The first offending nibble of a field: its index and the reason (R207, R209). -/
def badNibble (her : Bool) (b : List Byte) : Option (Nat × Nat) :=
  let l := nibbles b
  match (List.range (l.length - 1)).find? (fun k => decide (9 < l.getD k 0)) with
  | some k => some (k, 1)
  | none => if her ∨ [0xC, 0xD, 0xF].contains (l.getD (l.length - 1) 0) then none else some (l.length - 1, 2)

/-- Sign and magnitude of a field (Table 06-9). -/
def packedVal (b : List Byte) : Bool × Nat :=
  let l := nibbles b
  (l.getD (l.length - 1) 0 == 0xD, (l.take (l.length - 1)).foldl (fun a d => a * 10 + d) 0)

/-- The n low decimal digits of a number, most significant first. -/
def digitsOf : Nat → Nat → List Nat
  | 0, _ => []
  | n + 1, x => digitsOf n (x / 10) ++ [x % 10]

/-- Nibbles as bytes. -/
def packNibbles : List Nat → List Byte
  | a :: b :: t => BitVec.ofNat 8 (a * 16 + b) :: packNibbles t
  | _ => []

/-- A field of L bytes with sign 0xC or 0xD (R208). -/
def packField (len : Nat) (neg : Bool) (mag : Nat) : List Byte := packNibbles (digitsOf (2 * len - 1) mag ++ [if neg then 0xD else 0xC])

/-- Decimal Data (Table 06-10). -/
def decData (addr reason operand : Nat) : XFlt := ⟨0xA, addr, reason + operand * 16⟩

/-- Scan a field: operand number and address. -/
def scanField (her : Bool) (operand ea : Nat) (b : List Byte) : Except XFlt PUnit :=
  match badNibble her b with
  | some (k, r) => .error (decData (u64 (ea + k / 2)) r operand)
  | none => .ok ()

/-- The sign of a result: a zero is positive in RA-5 state (R208). -/
def resSign (her : Bool) (neg : Bool) (mag : Nat) : Bool := if mag = 0 ∧ !her then false else neg

/-- The tag of a packed result. -/
def pTag (her : Bool) : Tag := resTag her Tag.pdec

/-! ### Major 0x1C -/

/-- What a packed instruction computes. -/
inductive POp2 where
  | arith (op : POp)
  | div
  | rem
deriving DecidableEq, Repr

/-- Sign and magnitude of a signed number, a zero positive. -/
def signMag (x : Int) : Bool × Nat := (decide (x < 0), x.natAbs)

/-- The result of Table 06-8 on signed magnitudes, with the sign of a zero as Heritage state keeps it (R205, R208). -/
def packedRes (op : POp2) (x y : Bool × Nat) : Bool × Nat :=
  match op with
  | .arith .add => signMag (signed x.1 x.2 + signed y.1 y.2)
  | .arith .sub => signMag (signed x.1 x.2 - signed y.1 y.2)
  | .arith .mul => (x.1 != y.1, x.2 * y.2)
  | .arith .zadd => y
  | .arith .cmp => x
  | .div => (x.1 != y.1, x.2 / y.2)
  | .rem => (x.1, x.2 % y.2)

/-- How many addresses apart two effective addresses reach one formed address: 2^64, or the size of the Heritage window (R257). -/
def formSpan (her : Bool) (am : Nat) : Nat := if !her ∨ am = 0 then 2 ^ 64 else if am = 1 then 2 ^ 31 else 2 ^ 24

/-- Two operands share a byte of formed address and their rightmost bytes do not coincide (R206, R257). -/
def packedOver (m a b l1 l2 : Nat) : Bool :=
  (decide ((b + (m - a % m)) % m < l1) || decide ((a + (m - b % m)) % m < l2)) && (a + l1) % m != (b + l2) % m

/-- Step 10 of a packed instruction in the order of R209: overlap, Op1, Op2, zero divisor, too long. The result is the field to write. -/
def packedRun (her : Bool) (am : Nat) (op : POp2) (a b l1 l2 : Nat) (x y : List Byte) : Except XFlt (Bool × Nat) := do
  if packedOver (formSpan her am) a b l1 l2 then throw (decData b 4 0)
  if op ≠ .arith .zadd then scanField her 1 a x
  scanField her 2 b y
  if (op = .div ∨ op = .rem) ∧ (packedVal y).2 = 0 then throw ⟨8, 0, 0⟩
  let r := packedRes op (packedVal x) (packedVal y)
  if 10 ^ (2 * l1 - 1) ≤ r.2 then throw (decData a 3 1)
  return (resSign her r.1 r.2, r.2)

/-- N, Z, C and V of PCMP (Table 06-8). -/
def pcmpFlags (x y : Bool × Nat) : Nat :=
  let d := signed x.1 x.2 - signed y.1 y.2
  nzcvOf (decide (d < 0)) (decide (d = 0)) false false

/-- An instruction of major 0x1C (R204 to R209). -/
def Env.packed2 (e : Env) (op : POp2) (ga gb l1 l2 : Nat) : Effect := do
  let r ← e.regs
  e.check [⟨r.gpr ga, 1, tyPtr, false⟩, ⟨r.gpr gb, 2, tyPtr, false⟩]
  let a := (r.gpr ga).datum.toNat
  let b := (r.gpr gb).datum.toNat
  let rd := decide (op ≠ .arith .zadd)
  let wr := decide (op ≠ .arith .cmp)
  let pa ← e.pAddr rd wr (wordParts 3 a l1)
  let pb ← e.pAddr true false (wordParts 3 b l2)
  if wr then e.pReady pa
  let wa ← e.pWords rd pa
  let wb ← e.pWords true pb
  e.lift (pTags r.her ((pa.zip wa).map (fun p => ⟨p.1, p.2, rd, wr⟩) ++ (pb.zip wb).map (fun p => ⟨p.1, p.2, true, false⟩)))
  let x := pBytes pa wa
  let y := pBytes pb wb
  let v ← e.lift (packedRun r.her e.am op a b l1 l2 x y)
  return if wr then e.pCommit (pTag r.her) pa (packField l1 v.1 v.2) else e.onRegs (fun r => r.setNzcv (pcmpFlags (packedVal x) (packedVal y)))

/-! ### Major 0x1D (R210) -/

/-- Read the packed operand of a conversion: digits and sign checked. -/
def Env.pRead (e : Env) (ga len : Nat) : M (Nat × (Bool × Nat)) := do
  let r ← e.regs
  e.check [⟨r.gpr ga, 1, tyPtr, false⟩]
  let a := (r.gpr ga).datum.toNat
  let pa ← e.pAddr true false (wordParts 3 a len)
  let wa ← e.pWords true pa
  e.lift (pTags r.her ((pa.zip wa).map (fun p => ⟨p.1, p.2, true, false⟩)))
  e.lift (scanField r.her 1 a (pBytes pa wa))
  return (a, packedVal (pBytes pa wa))

/-- Write the packed operand of a conversion: tag checks, then too long (R209, R449). -/
def Env.pWrite (e : Env) (a len : Nat) (bad : Option XFlt) (v : Bool × Nat) : Effect := do
  let r ← e.regs
  let pa ← e.pAddr false true (wordParts 3 a len)
  e.pReady pa
  let wa ← e.pWords false pa
  e.lift (pTags r.her ((pa.zip wa).map (fun p => ⟨p.1, p.2, false, true⟩)))
  match bad with
  | some f => e.fail f
  | none =>
    if 10 ^ (2 * len - 1) ≤ v.2 then e.fail (decData a 3 1)
    return e.pCommit (pTag r.her) pa (packField len (resSign r.her v.1 v.2) v.2)

/-- PTOB. -/
def Env.ptob (e : Env) (d ga len : Nat) : Effect := do
  let r ← e.regs
  let p ← e.pRead ga len
  let x := signed p.2.1 p.2.2
  if x < -(2 ^ 63) ∨ 2 ^ 63 ≤ x then e.fail (decData p.1 3 1)
  return e.onRegs (fun s => s.setG d ⟨word (i64 x), resTag r.her Tag.int⟩)

/-- PTOD: decimal128 with exponent 0. -/
def Env.ptod (e : Env) (d ga len : Nat) : Effect := do
  e.useBank
  let r ← e.regs
  let p ← e.pRead ga len
  return e.setF d (freg 128 (fpTag r.her true) (d128.encode (.fin p.2.1 p.2.2 0)))

/-- BTOP. -/
def Env.btop (e : Env) (ga gb len : Nat) : Effect := do
  let r ← e.regs
  e.check [⟨r.gpr ga, 1, tyPtr, false⟩, ⟨r.gpr gb, 2, tyInt, false⟩]
  e.pWrite (r.gpr ga).datum.toNat len none (signMag (sext 64 (r.gpr gb).datum.toNat))

/-- DTOP: the coefficient and sign of decimal128 F B; a NaN or an infinity is not convertible. -/
def Env.dtop (e : Env) (ga fb len : Nat) : Effect := do
  e.useBank
  let r ← e.regs
  let ff ← e.fregs
  let x := fget ff fb
  e.check (⟨r.gpr ga, 1, tyPtr, false⟩ :: halves 128 2 (fpType true) x)
  let a := (r.gpr ga).datum.toNat
  let f ← match d128.decode (fbits 128 x) with
    | .fin neg c _ => e.pWrite a len none (neg, c)
    | _ => e.pWrite a len (some (decData a 5 2)) (false, 0)
  return fun s => e.touchF (f s)

/-! ### Rows -/

/-- PACKED_DECIMAL (R204). -/
def execPackedDecimal (core set : Nat) (s : State) : Out :=
  .next (s.issue core set (fun i => match i with | .packed _ _ _ _ _ => true | _ => false)
    (fun e i => match i with | .packed op a b l1 l2 => e.commit (e.packed2 (.arith op) a b l1 l2) | _ => pure ()))

/-- PDIV_PREM (R205). -/
def execPdivPrem (core set : Nat) (s : State) : Out :=
  .next (s.issue core set (fun i => match i with | .pdiv _ _ _ _ _ => true | _ => false)
    (fun e i => match i with | .pdiv rem a b l1 l2 => e.commit (e.packed2 (if rem then .rem else .div) a b l1 l2) | _ => pure ()))

/-- PTOB_PTOD (R210). -/
def execPtobPtod (core set : Nat) (s : State) : Out :=
  .next (s.issue core set (fun i => match i with | .ptob _ _ _ => true | .ptod _ _ _ => true | _ => false)
    (fun e i => match i with
      | .ptob d a n => e.commit (e.ptob d a n)
      | .ptod d a n => e.commit (e.ptod d a n)
      | _ => pure ()))

/-- BTOP_DTOP (R210). -/
def execBtopDtop (core set : Nat) (s : State) : Out :=
  .next (s.issue core set (fun i => match i with | .btop _ _ _ => true | .dtop _ _ _ => true | _ => false)
    (fun e i => match i with
      | .btop a b n => e.commit (e.btop a b n)
      | .dtop a b n => e.commit (e.dtop a b n)
      | _ => pure ()))

end Sys2Proof.Machine
end

