-- ==== Sys2Proof/Machine/Custom.lean ====
section
/-! DEFINITION. Custom instructions: the routines of the writable decode table (R144 to R148); and encodings that nothing assigns (R143). -/
namespace Sys2Proof.Machine

/-- The micro-registers at the start of a routine (R148). -/
def microFile (a b c : TWord) : GFile :=
  Vector.ofFn (fun k : Fin 32 => if k.val = 2 then a else if k.val = 3 then b else if k.val = 4 then c else ⟨0, Tag.int⟩)

/-- The meaning of a micro-operation other than a branch (R148). -/
def Env.micro (e : Env) (i : Ins) : Effect :=
  match i with
  | .arith op d a b => e.arith op d a b
  | .carry sub d a b => e.carry sub d a b
  | .mulw sg d a b => e.mulw sg d a b
  | .div sg rem d a b => e.div sg rem d a b
  | .logic op d a b => e.logic op d a b
  | .cmp a b => e.cmp a b
  | .lui d imm => e.lui d imm
  | .ld d a x => e.ld d a x 1
  | .ldx sg n d a x => e.ldx sg n d a x
  | .st v a x => e.st v a x 1 5
  | .sts n v a x => e.sts n v a x
  | .gtag d a => e.gtag d a
  | .stag d a b => e.stag d a b
  | .ldtag d a => e.ldtag d a
  | .packed op a b l1 l2 => e.packed2 (.arith op) a b l1 l2
  | .pdiv rem a b l1 l2 => e.packed2 (if rem then .rem else .div) a b l1 l2
  | .ptob d a n => e.ptob d a n
  | .btop a b n => e.btop a b n
  | _ => return id

/-- Micro-operation k of an image (Table 04-12). -/
def uopAt (image : List Byte) (k : Nat) : Option Ins := decodeLong (fld image (0x40 + 4 * k) 4)

/-- Run a routine from micro-operation k to its end; branches go forward, so the fuel bounds the steps. -/
def Env.runUops (e : Env) (image : List Byte) (n : Nat) : Nat → Nat → M PUnit
  | 0, _ => pure ()
  | f + 1, k =>
    if n ≤ k then pure ()
    else
      match uopAt image k with
      | some (.b cond disp) => do
        let r ← e.regs
        Env.runUops e image n f (if condHolds cond r.nzcv then k + disp / 4 else k + 1)
      | some i => do
        let g ← e.micro i
        modify g
        Env.runUops e image n f (k + 1)
      | none => Env.runUops e image n f (k + 1)

/-- What a wait in a routine leaves: nothing of the routine but the request it waits on, and that the routine is in execution (R146, R151). -/
def State.waitOver (s t : State) (core set : Nat) (image : List Byte) : State :=
  ({ s with relay := t.relay } : State).onCtx core set (fun c => { c with await := (t.ctx core set).await, routine := some image })

/-- Run a routine as a whole: an exception leaves no effect, and a wait only what is awaited (R146, R147). -/
def Env.atomic (e : Env) (image : List Byte) (m : M PUnit) : M PUnit := fun s =>
  match m s with
  | .ok _ t => .ok () t
  | .error (.fault f _) _ => .error (.fault f e.slot) s
  | .error .wait t => .error .wait ((s.waitOver t e.core e.set image).endGroup e.core e.set)

/-- A device-space load's answer joins those the routine consumes when it runs again (R54, R146). -/
def Env.takeReply (e : Env) : M PUnit :=
  modify (fun s => s.onCtx e.core e.set (fun c => match c.await with
    | .datum w => { c with replies := c.replies ++ [w], await := .none }
    | _ => c))

/-- Types that an accept mask allows (Table 04-12). -/
def maskTypes (m : Nat) : List Nat := (List.range 8).filter (fun t => bit m t)

/-- Operands of a custom instruction with the image's accept masks. -/
def customOpds (image : List Byte) (a b c : TWord) : List Opd :=
  [⟨a, 1, maskTypes (fld image 0x10 2), false⟩, ⟨b, 2, maskTypes (fld image 0x12 2), false⟩] ++
    (if fld image 0x14 2 = 0 then [] else [⟨c, 3, maskTypes (fld image 0x14 2), false⟩])

/-- The routine on a micro-register file, then D and the flags of the task (R146, R148). -/
def Env.routine (e : Env) (image : List Byte) (d : Nat) (x y z : TWord) : M PUnit := do
  let r ← e.regs
  e.setRegs (fun r => { r with g := microFile x y z })
  Env.runUops { e with whole := true } image (Machine.fld image 4 2) (Machine.fld image 4 2) 0
  let q ← e.regs
  let res : TWord := ⟨(q.gpr 1).datum, resTag r.her (Tag.ofType (Machine.fld image 0x16 1))⟩
  e.setRegs (fun _ => (({ r with g := r.g } : Regs).setG d res).setNzcv (if bit (Machine.fld image 7 1) 1 then q.nzcv else r.nzcv))

/-- A custom instruction (R146, R147). -/
def Env.custom (e : Env) (slot d a b c : Nat) : Effect := do
  let s ← get
  let r ← e.regs
  let x ← e.ctx
  let image := (s.imageFor x slot).getD []
  e.check (customOpds image (r.gpr a) (r.gpr b) (r.gpr c))
  e.takeReply
  e.atomic image (e.routine image d (r.gpr a) (r.gpr b) (r.gpr c))
  return id

/-! ### Rows -/

/-- Drover events that came while a routine ran are taken after it has ended (R146). -/
def State.routineDone (s : State) (core set : Nat) : State :=
  let c := s.ctx core set
  if s.coreLive core ∧ c.due ≠ 0 ∧ c.routine.isNone ∧ c.run = .ready then (s.dueActs core set).resched core else s

/-- CUSTOM_INSTRUCTION (R146). -/
def execCustomInstruction (core set : Nat) (s : State) : Out :=
  .next ((s.issue core set (fun i => match i with | .custom _ _ _ _ _ => true | _ => false)
    (fun e i => match i with | .custom k d a b c => e.commit (e.custom k d a b c) | _ => pure ())).routineDone core set)

/-- UNASSIGNED_ENCODING: an encoding nothing assigns raises Illegal Operation; other words are left to their rows (R143). -/
def execUnassignedEncoding (core set : Nat) (s : State) : Out := .next (s.issue core set (fun _ => false) (fun _ _ => pure ()))

end Sys2Proof.Machine
end

