-- ==== Sys2Proof/Machine/ResetConfig.lean ====
section
/-! DEFINITION. The reset configuration: its layout, its checks, and the newest valid copy (R251, R409, R410, R423, Table 15-6). -/
namespace Sys2Proof.Machine

/-- Bytes of a reset configuration. -/
def cfgLen : Nat := 0x840

/-- CRC-32C with CRC and GEN taken as 0 (Table 15-6). -/
def cfgCrc (b : List Byte) : Nat := crc32c (bytesAt b 0 0x30 ++ List.replicate 8 0#8 ++ bytesAt b 0x38 (cfgLen - 0x38))

/-- GEN of a copy. -/
def cfgGen (b : List Byte) : Nat := fld b 0x34 4

/-- Descriptor k of a configuration (Table 08-9). -/
def descr (b : List Byte) (k : Nat) : List Byte := bytesAt b (0x40 + 32 * k) 32

/-- The region a descriptor describes (Table 08-9). -/
def descrRegion (d : List Byte) : Region where
  real := fld d 0 8
  gib := fld d 8 4
  portA := fld d 0xC 1
  portB := if fld d 0xD 1 = 0xFF then none else some (fld d 0xD 1)
  sys := bit (fld d 0xE 1) 0
  offA := fld d 0x10 8
  offB := fld d 0x18 8

/-- The regions of the used descriptors, with their numbers. -/
def cfgRegions (b : List Byte) : List (Nat × Region) :=
  ((List.range 64).map (fun k => (k, descrRegion (descr b k)))).filter (fun p => p.2.gib != 0)

/-- Bytes a region takes on each of its ports, shadow included. -/
def Region.span (r : Region) : Nat := r.gib * gibB

/-- Ports and offsets of a region. -/
def Region.places (r : Region) : List (Nat × Nat) := (r.portA, r.offA) :: (match r.portB with | some p => [(p, r.offB)] | none => [])

/-- A port of a region is a CXL port, and the span lies in its first 4 TiB (R251). -/
def placeOk (pcie : Nat) (r : Region) (p : Nat × Nat) : Bool :=
  decide (p.1 < 12) && !bit pcie p.1 && p.2 % gibB == 0 && decide (p.2 + r.span ≤ 2 ^ 42)

/-- The reserved fields of a descriptor, used or not, are 0 (R2, R410, Table 08-9). -/
def descrRsv (d : List Byte) : Bool := decide (fld d 0xE 1 < 2) && fld d 0xF 1 == 0

/-- The reserved bytes of a header are 0 (R2, Table 15-6). -/
def headerRsv (h : List Byte) : Bool := zeros h 0x1C 4 && zeros h 0x38 8

/-- The static checks of R251 on one descriptor. -/
def descrOk (pcie : Nat) (d : List Byte) : Bool :=
  let r := descrRegion d
  r.real % gibB == 0 && decide (r.real < devBase) && decide (8 ≤ r.gib) && r.gib % 8 == 0 && r.places.all (placeOk pcie r) &&
    (match r.portB with | some p => p != r.portA | none => r.offB == 0)

/-- Two ranges have a common byte. -/
def rangesMeet (a la b lb : Nat) : Bool := decide (a < b + lb) && decide (b < a + la)

/-- Two regions overlap in real addresses or in the capacity of a port (R251). -/
def Region.meets (r q : Region) : Bool :=
  rangesMeet r.real r.dataBytes q.real q.dataBytes || r.places.any (fun x => q.places.any (fun y => x.1 == y.1 && rangesMeet x.2 r.span y.2 q.span))

/-- No two regions overlap. -/
def apart : List (Nat × Region) → Bool
  | [] => true
  | p :: t => t.all (fun q => !p.2.meets q.2) && apart t

/-- The checks of R410, with MAGIC, VERSION and the ranges of Table 15-6. -/
def State.configOk (s : State) (b : List Byte) : Bool :=
  let rs := cfgRegions b
  let pcie := fld b 0x08 2
  let marks := fld b 0x20 8
  let mine := rs.filter (fun p => bit marks p.1)
  let sys := rs.filter (fun p => p.2.sys)
  let boot := fld b 0x28 8
  let first := fld b 0x14 4
  let count := fld b 0x18 4
  fld b 0 4 == 0x4F524331 && fld b 4 2 == 1 && decide (fld b 6 2 < 512) && decide (pcie < 4096) && decide (fld b 0xA 2 < 4096) && Nat.land pcie (fld b 0xA 2) == 0 &&
    decide (fld b 0xC 1 < 4) && decide (fld b 0xD 1 < 64) && decide (1 ≤ fld b 0xE 1) && decide (fld b 0xE 1 ≤ s.workCores) && decide (8 ≤ fld b 0xF 1) && decide (fld b 0xF 1 ≤ 64) &&
    first % 64 == 0 && count % 64 == 0 && decide (first + count ≤ 1048576) && zeros b 0x1C 4 && zeros b 0x38 8 &&
    (List.range 64).all (fun k => descrRsv (descr b k)) && rs.all (fun p => descrOk pcie (descr b p.1)) && apart rs && sys.length == 1 &&
    sys.all (fun p => p.2.portB.isSome && decide (16 ≤ p.2.gib) && decide (16 ≤ fld b 0x10 4) && decide (fld b 0x10 4 ≤ p.2.gib * 448) && !bit marks p.1) &&
    (maskBits marks 64).all (fun k => rs.any (fun p => p.1 == k)) && mine.any (fun p => p.2.portB.isSome) &&
    boot % 4 == 0 && mine.any (fun p => decide (p.2.real ≤ boot) && decide (boot < p.2.real + p.2.dataBytes))

/-- A stored copy is valid (R409). -/
def State.copyOk (s : State) (b : List Byte) : Bool := fld b 0x30 4 == cfgCrc b && s.configOk b

/-- The newest valid stored copy, with its number (R409). -/
def State.newestCopy (s : State) : Option (Nat × List Byte) :=
  match s.copyOk s.fw.cfg0, s.copyOk s.fw.cfg1 with
  | true, true => if cfgGen s.fw.cfg0 < cfgGen s.fw.cfg1 then some (1, s.fw.cfg1) else some (0, s.fw.cfg0)
  | true, false => some (0, s.fw.cfg0)
  | false, true => some (1, s.fw.cfg1)
  | false, false => none

/-- The staging copy as made from the newest valid stored one (R423). -/
def State.freshStaging (s : State) : List Byte := match s.newestCopy with | some c => c.2 | none => []

/-- The descriptor of the SYSTEM region of a configuration. -/
def sysDescr (b : List Byte) : List Byte := match (cfgRegions b).find? (fun p => p.2.sys) with | some p => descr b p.1 | none => []

end Sys2Proof.Machine
end

