-- ==== Sys2Proof/Machine/Svc.lean ====
section
/-! DEFINITION. The Service Processors, the Token Keeper lease, failover, and the commands DEVICE_ID, SP_STATUS and SP_SWITCH (R56 to R76). -/
namespace Sys2Proof.Machine

/-! ### Firmware images (R408) -/

/-- Bytes of an image's area (Table 15-4). -/
def fwArea (target : Nat) : Nat := if target = 1 then 0x380000 else 0x40000

/-- The header of an image (Table 15-5). -/
def fwHeaderOk (target : Nat) (a : List Byte) : Bool :=
  let n := fld a 0xC 4
  fld a 0 4 == 0x4F465731 && fld a 4 1 == target && fld a 5 1 == 0 && decide (0x108 ≤ n) && n % 8 == 0 && decide (n ≤ fwArea target) &&
    zeros a 0x12 46 && zeros a 0xA1 7 && (target == 1 || fld a 0x10 2 == 0)

/-- The fused rollback counter of a target. -/
def State.rollbackOf (s : State) (target : Nat) : Nat := if target = 1 then s.fuses.rollSfw else s.fuses.rollTsk

/-- The checks of R408 on an area, with the status R424 gives their failure. -/
def State.fwStatus (s : State) (target : Nat) (a : List Byte) : Nat :=
  let n := fld a 0xC 4
  if !fwHeaderOk target a then stBadField
  else if !s.fuses.fwKeys.any (fun k => k.1 == target && k.2.1 == sha384 (bytesAt a 0x40 97) && !k.2.2) then stNotPermitted
  else if !ecdsaOk (bytesAt a 0x40 97) (bytesAt a 0 (n - 96)) (bytesAt a (n - 96) 96) then stNotPermitted
  else if fld a 8 4 < s.rollbackOf target then stBadField
  else if target = 1 ∧ fld a 0x10 1 ≠ 1 then stBadField
  else stOk

/-- The bytes of an SFW slot. -/
def State.slotBytes (s : State) (k : Nat) : List Byte := if k = 0 then s.fw.slot0 else s.fw.slot1

/-- An SFW slot verifies. -/
def State.slotStatus (s : State) (k : Nat) : Nat := if (if k = 0 then s.fw.shipped0 else s.fw.shipped1) then stOk else s.fwStatus 1 (s.slotBytes k)

/-- The SFW slot that start-up runs: the order of Table 15-3 (R408). -/
def State.bootSlot (s : State) (bootsel : Nat) : Option Nat :=
  let k := if bootsel = 1 then 1 - s.fw.pref else s.fw.pref
  if s.slotStatus k = stOk then some k else if s.slotStatus (1 - k) = stOk then some (1 - k) else none

/-- The SFW slot an SP loads after its BIST outside start-up: the preferred one, else the other, verified (R58, R408). -/
def State.spSlot (s : State) : Option Nat := s.bootSlot 0

/-- An SP loads an SFW slot into its SFW partition, and the TSK patch in use into the other (R56, R408). -/
def State.loadSp (s : State) (p k : Nat) : State :=
  s.onSp p (fun x => { x with slot := k, sfwSram := s.slotBytes k, tskSram := if s.fwStatus 2 s.fw.tskActive = stOk then s.fw.tskActive else [] })

/-! ### States of the Service Processors -/

/-- Unit code of a Service Processor (Table 13-7). -/
def spUnit (p : Nat) : Nat := unitCode 0x0C p
/-- Unit code of the Token Keeper. -/
def keeperUnit : Nat := 0x1000

/-- Health STATE and CAUSE of an SP in a state, with the cause of its failure (Table 13-6, R74). -/
def State.spHealth (s : State) (p cause : Nat) : Nat × Nat :=
  let st := (s.sp p).state
  if st = 1 then (if (s.sp (1 - p)).state = 3 then (0, 0) else (1, 9))
  else if st = 2 ∨ st = 3 then (2, 0)
  else if st = 4 then (4, cause)
  else if st = 5 then (3, 0)
  else (6, 0)

/-- The records not yet sealed are sealed, those of SP failures with them (R57, R390). -/
def State.sealFailures (s : State) : State :=
  ((s.onLog (fun l => l.seal s.now s.standbyFlag)).onSp 0 (fun x => { x with failLogged := true })).onSp 1 (fun x => { x with failLogged := true })

/-- An SP changes state: the transition is recorded and the health words follow (R57, R74). The ACTIVE SP's TSK seals the record of the other's failure; without one it waits to be sealed. -/
def State.toSp (s : State) (p st cause : Nat) : State :=
  let s1 := (s.logRec 6 (spUnit p) [(s.sp p).state, st, s.svc.leaseEnd]).onSp p (fun x => { x with state := st, failLogged := x.failLogged && st != 4 })
  let s1 := if st = 4 ∧ (s.sp (1 - p)).state = 1 then s1.sealFailures else s1
  let h := s1.spHealth p cause
  let s2 := s1.setHealth (spUnit p) h.1 h.2
  let h' := s2.spHealth (1 - p) (s2.health (spUnit (1 - p))).cause
  s2.setHealth (spUnit (1 - p)) h'.1 h'.2

/-- The holder loses the lease at stamp e: the guard interval starts (R65, R66). -/
def State.endLease (s : State) (e : Nat) : State :=
  s.onSvc (fun v => { v with holder := none, guardEnd := some (e + 40000), guardDone := false, draining := none })

/-- A faulting SP goes to FAILED; the ACTIVE one after an SFW fault seals its record and releases the lease at once (R62). CAUSE 0x02 in the health word of an SP that fails by an SFW fault, a TSK fault or lease expiry is the model's choice (DESIGN CHOICE, log entry 166). -/
def State.sfwFault (s : State) (p : Nat) : State :=
  let st := (s.sp p).state
  if st = 1 then
    let s := if s.svc.holder = some p then ((s.endLease s.now).countA (spUnit p)) else s
    (s.toSp p 4 2).sealFailures
  else if st = 2 ∨ st = 3 then s.toSp p 4 2
  else s

/-- A TSK fault stops the SP; the lease it holds runs out under R64 (R57, R62). -/
def State.tskFault (s : State) (p : Nat) : State :=
  if (s.sp p).state = 1 ∨ (s.sp p).state = 2 ∨ (s.sp p).state = 3 then s.toSp p 4 2 else s

/-- The lease expires at the end of its interval; the former holder is FAILED (R64, R66). -/
def State.expire (s : State) : State :=
  match s.svc.holder with
  | none => s
  | some p =>
    let s := (s.endLease s.svc.leaseEnd).countA (spUnit p)
    if (s.sp p).state = 1 then s.toSp p 4 2 else s

/-- LEASE_RENEWAL: with a heartbeat within 20 µs, a renewal inside the lease starts a new interval; a later one is refused (R62, R64). -/
def execLeaseRenewal (sp : Nat) (heartbeat : Bool) (s : State) : Out :=
  let s1 := if heartbeat then s.onSp sp (fun x => { x with heartbeat := s.now }) else s
  let fresh := decide (s.now < (s1.sp sp).heartbeat + 20 * usT)
  when (s.runs && decide (sp < 2) && s.svc.holder == some sp) s
    (if s.svc.leaseEnd ≤ s.now then s1.expire
     else if fresh && (s.sp sp).state == 1 then s1.onSvc (fun v => { v with leaseEnd := s.now + 100 * usT }) else s1)

/-- LEASE_EXPIRY: TOD reaches the end of the lease (R64, R66). -/
def execLeaseExpiry (s : State) : Out :=
  when (s.runs && s.svc.holder.isSome) s ((s.advanceTo s.svc.leaseEnd).expire)

/-- GUARD_END: the Token Keeper signals the other SP (R66, R67). -/
def execGuardEnd (s : State) : Out :=
  match s.svc.guardEnd with
  | none => .next s
  | some g => when s.runs s ((s.advanceTo g).onSvc (fun v => { v with guardEnd := none, guardDone := true }))

/-- Handle a window at takeover as Table 02-6 states (R73). The notifications the former SP held are made again from their events (R75, R87). -/
def State.takeoverWin (s : State) (w : Nat) : State :=
  let n := s.win w
  let s := s.onWin w (fun n => { n with inExec := false, held := [] })
  match n.entry with
  | some e =>
    match e.done with
    | some (st, tod, body) =>
      if n.state = 1 ∧ e.seq = n.reqSeq then
        let resp := respBytes st e.seq tod body
        (s.onWin w (fun n => { n with lastDone := n.reqSeq, stored := some resp })).doneWin w st resp
      else s
    | none => s
  | none => s

/-- An SFW activation ends with its handover: the former ACTIVE SP is reset with the new image and the rollback counter is raised (R424). -/
def State.fwHandover (s : State) (sp : Nat) : State :=
  match s.svc.fwAct with
  | none => s
  | some (_, slot, _, _) =>
    let img := if slot = 0 then s.fw.slot0 else s.fw.slot1
    let s : State := { s.onSvc (fun v => { v with fwAct := none }) with fuses := { s.fuses with rollSfw := max s.fuses.rollSfw (fld img 8 4) } }
    if s.svc.fwReload = some (1 - sp) then
      (s.onSvc (fun v => { v with fwReload := none })).toSp (1 - sp) 5 0
    else s

/-- The lease is granted at the request's stamp; a new holder takes over the windows, and the staging copy is made again (R66, R69, R73, R74, R423). -/
def State.grantLease (s : State) (sp : Nat) : State :=
  let changed := match s.svc.lastHolder with
    | some q => q != sp && s.svc.firstTaken
    | none => false
  let again := s.svc.firstTaken
  let s := s.onSvc (fun v => { v with holder := some sp, leaseEnd := s.now + 100 * usT, guardEnd := none, guardDone := false, lastHolder := some sp, firstTaken := true, activeSp := sp })
  let s := (s.onSp sp (fun x => { x with heartbeat := s.now })).toSp sp 1 0
  let s : State := { s with fw := { s.fw with staging := if again then s.freshStaging else s.fw.staging } }
  let s := (s.windows.map (·.1)).foldl (fun s w => s.takeoverWin w) (s.onSvc (fun v => { v with fifo := v.fifo.map (fun e => { e with made := false }) }))
  let s := s.fwHandover sp
  if changed then
    let s := s.onSvc (fun v => { v with failovers := (v.failovers + 1) % 2 ^ 32, lastChange := u64 s.now })
    let s := (List.range 514).foldl (fun s w => s.onWin w (fun n => { n with failover := true })) s
    ((s.notify 512 5 0 sp (u64 s.now)).sealFailures.countA 0xFF01).countA keeperUnit
  else s

/-- A request of an SP for the free lease would be granted: it is in STANDBY_READY outside the guard, or asks for the first lease of R68 (R66, R68). -/
def State.mayTake (s : State) (sp : Nat) : Bool :=
  s.svc.holder.isNone && (match s.svc.guardEnd with | some g => decide (g ≤ s.now) | none => true) &&
    ((s.sp sp).state == 3 || (!s.svc.firstTaken && (s.sp sp).state == 5 && (sp == 0 || s.svc.firstWinDone)))

/-- LEASE_REQUEST of SP-A (0), of SP-B (1), or of both in the same TCLK cycle (2), which is granted to SP-A (R66, R68). -/
def execLeaseRequest (sp : Nat) (s : State) : Out :=
  let who := if sp = 2 then b2n (!s.mayTake 0) else sp
  when (s.runs && decide (sp < 3) && s.mayTake who) s (s.grantLease who)

/-- FIRST_LEASE_WINDOW_END: 2 s after reset the first lease is open to either SP (R68). -/
def execFirstLeaseWindowEnd (s : State) : Out :=
  when (s.runs && !s.svc.firstTaken && !s.svc.firstWinDone) s
    ((s.advanceTo (s.svc.resetStamp + 2 * secT)).onSvc (fun v => { v with firstWinDone := true }))

/-- SFW_HEARTBEAT_LOSS: no SFW heartbeat for 20 µs is an SFW fault (R62). -/
def execSfwHeartbeatLoss (sp : Nat) (s : State) : Out :=
  when (s.runs && decide (sp < 2) && [1, 2, 3].contains (s.sp sp).state) s
    ((s.advanceTo ((s.sp sp).heartbeat + 20 * usT)).sfwFault sp)

/-- What SFW may do with a resource (Table 02-3). -/
def sfwMay : SpRes → SpAcc → Bool
  | .sfwSram, .exec => false
  | .sfwCode, _ => true
  | .sfwSram, _ => true
  | .windows, .exec => false
  | .windows, _ => true
  | .config, .exec => false
  | .config, _ => true
  | .devRegs, .exec => false
  | .devRegs, _ => true
  | .rwl, .read => true
  | .mirror, .read => true
  | .mirror, .write => true
  | _, _ => false

/-- An access that Table 02-3 does not allow SFW is suppressed, a read returning 0, and is an SFW fault (R59, R60). -/
def State.firewall (s : State) (p : Nat) (acc : SpAcc) : State :=
  (if acc = .read then s.onSp p (fun x => { x with datum := 0 }) else s).sfwFault p

/-- SFW_FAULT: an access of SFW that the firewall checks, or another of the causes of R62 (R59, R60, R62). An access the firewall allows is no fault. -/
def execSfwFault (sp : SpFault) (s : State) : Out :=
  when (s.runs && decide (sp.sp < 2)) s
    (match sp.access with
     | some a => if sfwMay a.1 a.2 then s else s.firewall sp.sp a.2
     | none => s.sfwFault sp.sp)

/-- TSK_FAULT (R62). -/
def execTskFault (sp : Nat) (s : State) : Out := when (s.runs && decide (sp < 2)) s (s.tskFault sp)

/-- SP_BIST_RESULT: an SP that passes loads an SFW image it has verified; one that finds none is FAILED (R57, R58, R68, R408). -/
def execSpBistResult (sp : Nat) (pass : Bool) (s : State) : Out :=
  let fails := min 3 ((s.sp sp).bistFails + 1)
  when (s.runs && decide (sp < 2) && (s.sp sp).state == 5) s
    (if !pass then ((s.onSp sp (fun x => { x with bistFails := fails })).countB (spUnit sp)).toSp sp 4 3
     else match s.spSlot with
     | none => (s.onSp sp (fun x => { x with bistFails := 0 })).toSp sp 4 0
     | some k =>
       let s1 := (s.onSp sp (fun x => { x with bistFails := 0 })).loadSp sp k
       if (s.sp (1 - sp)).state = 1 then s1.toSp sp 2 0
       else if !s.svc.firstTaken ∧ s.svc.holder.isNone ∧ (sp = 0 ∨ s.svc.firstWinDone) then s1.grantLease sp
       else s1)

/-- SP_RESET: the ACTIVE SP's TSK resets a FAILED SP once the record of its failure is sealed, but not after three failed BISTs (R57). -/
def execSpReset (sp : Nat) (s : State) : Out :=
  when (s.runs && decide (sp < 2) && (s.sp sp).state == 4 && (s.sp sp).failLogged && decide ((s.sp sp).bistFails < 3) && (s.sp (1 - sp)).state == 1) s
    (s.toSp sp 5 0)

/-- The 10 s of an FW_ACTIVATE have passed and its standby is not STANDBY_READY (R39, R424). -/
def State.fwLate (s : State) : Bool :=
  match s.svc.fwAct, s.svc.fwReload with
  | some (_, _, _, t), some p => decide (t ≤ s.now) && (s.sp (1 - p)).state != 3
  | _, _ => false

/-- The preference returns to the old slot, and the standby reloads the old image (R424). -/
def State.fwRevert (s : State) : State :=
  match s.svc.fwAct, s.svc.fwReload with
  | some (_, _, old, _), some p =>
    let s : State := { s.onSvc (fun v => { v with fwAct := none, fwReload := none }) with fw := { s.fw with pref := old } }
    (s.onSp (1 - p) (fun x => { x with slot := old })).toSp (1 - p) 5 0
  | _, _ => s

/-- MIRROR_COPY_ACKNOWLEDGED: the first full copy of the mirrored state is complete (R57, R70). One at or after the end of an FW_ACTIVATE's 10 s finds the standby reset (R39, R424). -/
def execMirrorCopyAcknowledged (sp : Nat) (s : State) : Out :=
  when (s.runs && decide (sp < 2) && (s.sp sp).state == 2 && (s.sp (1 - sp)).state == 1) s
    (if s.fwLate then (match s.svc.fwAct with | some (w, _, _, _) => s.fwRevert.endMb w stBadField [] | none => s)
     else (s.onSp sp (fun x => { x with heartbeat := s.now })).toSp sp 3 0)

/-! ### Commands -/

/-- PART of DEVICE_ID (Table 02-22). -/
def partName (work : Nat) : List Byte := ascii (if work = 72 then "OLS9-72 " else if work = 48 then "OLS9-48 " else "OLS9-24 ")

/-- The DEVICE_ID response body (Table 02-22). -/
def State.deviceIdBody (s : State) : List Byte :=
  partName s.fuses.work ++ ascii "B1" ++ [1#8, 3#8, 2#8, 1#8, 5#8, 2#8] ++ beBytes 2 s.fuses.work ++ beBytes 2 s.chCores ++ beBytes 4 0 ++ bytesAt s.fuses.serial 0 16

/-- The SP_STATUS response body (Table 02-23). -/
def State.spStatusBody (s : State) : List Byte :=
  let fails := match s.svc.holder with
    | some p => (s.sp (1 - p)).bistFails
    | none => max s.svc.spA.bistFails s.svc.spB.bistFails
  beBytes 1 (match s.svc.holder with | some p => p | none => 0xFF) ++ beBytes 1 s.svc.spA.state ++ beBytes 1 s.svc.spB.state ++ beBytes 1 fails ++
    beBytes 4 s.svc.failovers ++ beBytes 8 (if s.svc.holder.isSome then u64 s.svc.leaseEnd else 0) ++ beBytes 8 s.svc.lastChange ++ beBytes 8 0

/-- A request of LENGTH 0. -/
def fmtNone (_ : State) (q : MReq) : Bool := q.len == 0

/-- DEVICE_ID (0x0500). -/
def cmdDeviceId : Command := { code := 0x0500, fmt := fmtNone, run := fun s _ => (s, some (stOk, s.deviceIdBody)) }

/-- SP_STATUS (0x0501). -/
def cmdSpStatus : Command := { code := 0x0501, fmt := fmtNone, run := fun s _ => (s, some (stOk, s.spStatusBody)) }

/-- Another window's command is in execution. -/
def State.othersInExec (s : State) (w : Nat) : Bool := s.windows.any (fun p => p.1 != w && p.2.state == 1 && p.2.inExec)

/-- The completion record of a handover is mirrored, the lease released, and the SP goes to STANDBY_SYNC (SP_SWITCH steps 2 to 4, R424). -/
def State.handOver (s : State) (w p : Nat) : State :=
  let s := s.onWin w (fun n => { n with inExec := false, entry := some { n.newEntry with done := some (stOk, u64 s.now, []) } })
  ((s.endLease s.now).countA (spUnit p)).toSp p 2 0

/-- SP_SWITCH (0x0502): the row repeats while commands in execution complete (R57, R76). -/
def cmdSpSwitch : Command where
  code := 0x0502
  fmt := fun _ q => q.len == 8 && decide (fld q.body 0 1 ≤ 1) && zeros q.body 1 7
  run := fun s q =>
    let t := fld q.body 0 1
    let st := (s.sp t).state
    if s.svc.holder = some t ∧ st = 1 then (s, some (stOk, []))
    else if st = 2 ∨ st = 5 then (s, some (stBusy, []))
    else if st ≠ 3 then (s, some (stNotPermitted, []))
    else
      let s := s.onSvc (fun v => { v with draining := some q.w })
      if s.othersInExec q.w then (s, none) else (s.handOver q.w (1 - t), none)

/-- DEVICE_ID. -/
def execDeviceId (w : Nat) (s : State) : Out := serve cmdDeviceId w s
/-- SP_STATUS. -/
def execSpStatus (w : Nat) (s : State) : Out := serve cmdSpStatus w s
/-- SP_SWITCH. -/
def execSpSwitch (w : Nat) (s : State) : Out := serve cmdSpSwitch w s

end Sys2Proof.Machine
end

