-- ==== Sys2Proof/Machine/DecodeCmd.lean ====
section
/-! DEFINITION. The checks of a decode image and the decode-table commands (R145, R148 to R152). -/
namespace Sys2Proof.Machine

/-- Bytes of a decode image (Table 04-12). -/
def imageSize : Nat := 0x508

/-- Micro-registers a micro-operation reads, and those it writes (R148). -/
def Ins.micros (i : Ins) : List Nat × List Nat :=
  let src := fun (y : Src) => match y with
    | .reg n => [n]
    | .imm _ => []
  match i with
  | .arith _ d a y => (a :: src y, [d])
  | .carry _ d a y => ([a, y], [d])
  | .mulw _ d a y => ([a, y], [d, d + 1])
  | .div _ _ d a y => ([a, y], [d])
  | .logic _ d a y => (a :: src y, [d])
  | .cmp a y => (a :: src y, [])
  | .lui d _ => ([], [d])
  | .ld d a _ => ([a], [d])
  | .ldx _ _ d a _ => ([a], [d])
  | .st v a _ => ([v, a], [])
  | .sts _ v a _ => ([v, a], [])
  | .gtag d a => ([a], [d])
  | .stag d a y => ([a, y], [d])
  | .ldtag d a => ([a], [d])
  | .packed _ a y _ _ => ([a, y], [])
  | .pdiv _ a y _ _ => ([a, y], [])
  | .ptob d a _ => ([a], [d])
  | .btop a y _ => ([a, y], [])
  | _ => ([], [])

/-- A micro-operation that reads or writes memory (R148). -/
def Ins.memOp (i : Ins) : Bool :=
  match i with
  | .ld _ _ _ => true
  | .ldx _ _ _ _ _ => true
  | .st _ _ _ => true
  | .sts _ _ _ _ => true
  | .ldtag _ _ => true
  | .packed _ _ _ _ _ => true
  | .pdiv _ _ _ _ _ => true
  | .ptob _ _ _ => true
  | .btop _ _ _ => true
  | _ => false

/-- A micro-operation that stores. -/
def Ins.storeOp (i : Ins) : Bool :=
  match i with
  | .st _ _ _ => true
  | .sts _ _ _ _ => true
  | .packed op _ _ _ _ => op != .cmp
  | .pdiv _ _ _ _ _ => true
  | .btop _ _ _ => true
  | _ => false

/-- A micro-operation that writes the flags (R154). -/
def Ins.flagOp (i : Ins) : Bool :=
  match i with
  | .arith op _ _ (.reg _) => op == .add || op == .sub || op == .neg
  | .carry _ _ _ _ => true
  | .cmp _ _ => true
  | .packed op _ _ _ _ => op == .cmp
  | _ => false

/-- Majors and minors allowed in a routine (R148). -/
def uopMajor (w : Nat) : Bool :=
  let m := bits w 30 25
  let n := bits w 9 0
  !bit w 31 && ((decide (1 ≤ m) && decide (m ≤ 0x0A)) || (decide (0x0C ≤ m) && decide (m ≤ 0x10)) || (m == 0x15 && decide (n ≤ 2)) || m == 0x1C || (m == 0x1D && decide (n / 16 ≤ 1)) || m == 0x21)

/-- Micro-operation k of n obeys R148; flags only with WRITES_FLAGS. -/
def uopOk (n k w : Nat) (flags : Bool) : Bool :=
  uopMajor w && (match decodeLong w with
    | none => false
    | some (.b _ x) => decide (0 < x) && decide (x < 2 ^ 63) && decide (k + x / 4 ≤ n)
    | some i =>
      i.micros.1.all (fun r => decide (r ≤ 20)) && i.micros.2.all (fun r => decide (r ≤ 1) || (decide (5 ≤ r) && decide (r ≤ 20))) && (flags || !i.flagOp))

/-- The micro-operation words of an image. -/
def uops (b : List Byte) : List Nat := (List.range (fld b 4 2)).map (fun k => fld b (0x40 + 4 * k) 4)

/-- Check 3 of R149: every field in its range, and the routine within R148. DESIGN CHOICE (log 178): NAME holds ASCII bytes 0x20 to 0x7E. -/
def imageFields (b : List Byte) (slot : Nat) : Bool :=
  let n := fld b 4 2
  let ins := (uops b).filterMap decodeLong
  b.length == imageSize && fld b 0 4 == 0x4F445431 && decide (1 ≤ n) && decide (n ≤ 256) && fld b 6 1 == slot && decide (fld b 7 1 < 4) &&
    (bytesAt b 8 8).all (fun c => decide (0x20 ≤ c.toNat) && decide (c.toNat < 0x7F)) &&
    decide (fld b 0x10 2 < 256) && decide (fld b 0x12 2 < 256) && decide (fld b 0x14 2 < 256) && decide (fld b 0x16 1 < 8) && zeros b 0x17 41 &&
    zeros b (0x40 + 4 * n) (1024 - 4 * n) && zeros b 0x4A1 7 &&
    ((uops b).zipIdx).all (fun p => uopOk n p.2 p.1 (bit (fld b 7 1) 1)) &&
    decide ((ins.filter Ins.memOp).length ≤ 8) && decide ((ins.filter Ins.storeOp).length ≤ 4)

/-- The key of an image is one of the four fused ones and not revoked (check 1 of R149). -/
def State.decodeKey (s : State) (b : List Byte) : Bool := s.fuses.decodeKeys.any (fun k => k.1 == sha384 (bytesAt b 0x440 97) && !k.2)

/-- The signature verifies (check 2 of R149). -/
def imageSigned (b : List Byte) : Bool := ecdsaOk (bytesAt b 0x440 97) (bytesAt b 0 0x4A8) (bytesAt b 0x4A8 96)

/-- DECODE_LOAD (0x0900; R149, R150). -/
def cmdDecodeLoad : Command where
  code := 0x0900
  fmt := fun _ q => q.len == 0x10 && decide (fld q.body 0 1 < 64) && zeros q.body 1 7 && fld q.body 8 8 % 8 == 0
  run := fun s q =>
    let slot := fld q.body 0 1
    match s.engRead s.mgr 0 (fld q.body 8 8) imageSize with
    | .error _ => (s, some (stBadField, []))
    | .ok b =>
      let d := sha384 b
      match s.decode.find slot with
      | some r => (s, if r.digest = d then some (stOk, d) else some (stBusy, []))
      | none =>
        if !s.decodeKey b ∨ !imageSigned b then (s, some (stNotPermitted, []))
        else if !imageFields b slot then (s, some (stBadField, []))
        else ({ s with decode := s.decode.put slot { image := b, digest := d } }, some (stOk, d))

/-- DECODE_UNLOAD (0x0901; R151). -/
def cmdDecodeUnload : Command where
  code := 0x0901
  fmt := fun _ q => q.len == 8 && decide (fld q.body 0 1 < 64) && zeros q.body 1 7
  run := fun s q => ({ s with decode := s.decode.del (fld q.body 0 1) }, some (stOk, []))

/-- The entry of a slot in DECODE_QUERY (Table 04-13). -/
def Routine.entry (r : Routine) : List Byte := bytesAt r.image 8 8 ++ bytesAt r.image 4 2 ++ bytesAt r.image 7 1 ++ bytesAt r.image 0x16 1 ++ bytesAt r.digest 0 4

/-- DECODE_QUERY (0x0902; R152). -/
def cmdDecodeQuery : Command where
  code := 0x0902
  fmt := fmtNone
  run := fun s _ =>
    let mask := (s.decode.map (fun p => 2 ^ p.1)).foldl (· + ·) 0
    (s, some (stOk, beBytes 8 mask ++ (List.range 64).flatMap (fun k => match s.decode.find k with | some r => r.entry | none => beBytes 16 0)))

/-- DECODE_LOAD (R150). -/
def execDecodeLoad (w : Nat) (s : State) : Out := serve cmdDecodeLoad w s
/-- DECODE_UNLOAD (R151). -/
def execDecodeUnload (w : Nat) (s : State) : Out := serve cmdDecodeUnload w s
/-- DECODE_QUERY (R152). -/
def execDecodeQuery (w : Nat) (s : State) : Out := serve cmdDecodeQuery w s

end Sys2Proof.Machine
end

