-- ==== Sys2Proof/Machine/Enclave.lean ====
section
/-! DEFINITION. Enclave commands, holds and debug enables (R322 to R327, R342 to R347). -/
namespace Sys2Proof.Machine

/-! ### Granules (R324) -/

/-- The lines of a granule are invalidated without writeback and become UNWRITTEN (R254, R347). -/
def State.wipe (s : State) (g : Nat) : State :=
  let inG := fun (la : Nat) => la / 256 == g
  let s := (List.range 256).foldl (fun s k => s.killResv (g * 256 + k) none) s
  s.onMs (fun m => { m with frames := m.frames.filter (fun p => !inG p.2.la), evict := m.evict.filter (fun e => !inG e.la), mem := m.mem.carve (g * 65536) (g * 65536 + 65536) })

/-- The lines of a granule are cleaned and invalidated (ENCL_ADD_GRANULE). -/
def State.flushGranule (s : State) (g : Nat) : State :=
  let s := (List.range 256).foldl (fun s k => s.releaseLine (g * 256 + k)) s
  let s := [2, 3, 4].foldl (fun s lvl => s.flushFrames lvl ((s.ms.frames.between (fkey lvl 0 0 0) (fkey (lvl + 1) 0 0 0)).filter (fun p => p.2.la / 256 == g))) s
  (s.ms.evict.filter (fun e => e.la / 256 == g)).foldl (fun s e => s.ackEvict e.la) s

/-- Memory takes the lines of a granule again, as they were before, in the form its new map entry asks for (ENCL_ADD_GRANULE, R327). -/
def State.rewrite (s : State) (g : Nat) (old : List Line) : State := (old.zipIdx).foldl (fun s l => s.memWrite (g * 256 + l.2) l.1) s

/-- The granule leaves its enclave (ENCL_REMOVE_GRANULE). -/
def State.dropGranule (s : State) (g : Nat) : State := { s.wipe g with emap := s.emap.del g }

/-- Granules of an enclave. -/
def State.granules (s : State) (i e : Nat) : List Nat := (s.emap.filter (fun p => p.2.inst == i && p.2.encl == e)).map (·.1)

/-! ### Commands -/

/-- ENCL at request offset 0x00 (R347). -/
def MReq.encl (q : MReq) : Nat := fld q.body 0 2

/-- The number names an enclave of the instance (R347). -/
def State.enclNamed (s : State) (i e : Nat) : Bool := decide (1 ≤ e ∧ e ≤ 0xFFF) && (s.encl i e).state != 0

/-- Act on a named enclave of the caller; else BAD_FIELD. -/
def onNamed (run : State → MReq → State × Option Reply) (s : State) (q : MReq) : State × Option Reply :=
  if s.enclNamed q.w q.encl then run s q else (s, some (stBadField, []))

/-- ENCL_CREATE (0x0400; R322, R327, Table 11-6). -/
def cmdEnclCreate : Command where
  code := 0x0400
  fmt := fun _ q =>
    let b := q.body
    q.len == 0x20 && decide (1 ≤ fld b 0 1 ∧ fld b 0 1 ≤ 64) && decide (fld b 1 1 < 2) && zeros b 2 6 && fld b 8 8 % 4096 == 0 && fld b 0x10 8 % 4096 == 0 && zeros b 0x18 8
  run := fun s q =>
    let b := q.body
    let reply := fun (n : Nat) => some (stOk, beBytes 2 n ++ beBytes 6 0)
    match (s.encls.between (q.w * 4096) (q.w * 4096 + 4096)).find? (fun p => p.2.state != 0 && p.2.seq == q.seq + 1) with
    | some p => (s, reply (p.1 % 4096))
    | none =>
      if 4096 ≤ (s.encls.filter (fun p => p.2.state != 0)).length then (s, some (stQueueFull, []))
      else
        match ((List.range 4095).map (· + 1)).find? (fun n => (s.encl q.w n).state == 0) with
        | none => (s, some (stQueueFull, []))
        | some n =>
          (s.drawn.onEncl q.w n (fun _ => { state := 1, threads := fld b 0 1, consent := bit (fld b 1 1) 0, evba := fld b 8 8, esa := fld b 0x10 8, meas := sha384 (ascii "OLS9ENCL" ++ bytesAt b 0 0x20)
                                            created := u64 s.now, key := bytesAt (Config.freeBytes s.freeCtr 64) 0 64, seq := q.seq + 1 }), reply n)

/-- ENCL_ADD_GRANULE (0x0401; R324). -/
def cmdEnclAddGranule : Command where
  code := 0x0401
  fmt := fun _ q => q.len == 0x10 && decide (fld q.body 2 1 < 8) && zeros q.body 3 5 && fld q.body 8 8 % 65536 == 0
  run := onNamed (fun s q =>
    let i := q.w
    let e := q.encl
    let fl := fld q.body 2 1
    let ia := fld q.body 8 8
    match s.instStage i 0 ia false with
    | .mem ra =>
      let g := ra / 65536
      let ent : MapEnt := { code := bit fl 1, write := bit fl 2, inst := i, encl := e, iaddr := ia / 65536 }
      match s.emap.find g with
      | some m => (s, some (if m = ent then stOk else stBusy, []))
      | none =>
        if (s.encl i e).state = 2 ∧ (bit fl 0 ∨ bit fl 1) then (s, some (stNotPermitted, []))
        else
          let ws := (List.range 8192).map (fun k => s.wordNow (g * 8192 + k))
          let s := if bit fl 0 then s.onEncl i e (fun x => { x with meas := sha384 (x.meas ++ beBytes 8 ia ++ beBytes 1 fl ++ ws.flatMap (fun w => (List.range 8).map (datumByte w.datum) ++ [w.tag])) })
            else (List.range 8192).foldl (fun s k => s.putWord (g * 8192 + k) (TWord.int 0)) s
          let s := s.flushGranule g
          let old := (List.range 256).map (fun k => s.memLine (g * 256 + k))
          (({ s with emap := s.emap.put g ent } : State).rewrite g old, some (stOk, []))
    | _ => (s, some (stBadField, [])))

/-- Thread slot k of an enclave or its vector base lies in the granule at an instance granule number (ENCL_REMOVE_GRANULE). -/
def Encl.needs (x : Encl) (ig : Nat) : Bool := x.evba / 65536 == ig || (List.range x.threads).any (fun k => (x.esa + k * 0x1000) / 65536 == ig)

/-- ENCL_REMOVE_GRANULE (0x0402; R324). -/
def cmdEnclRemoveGranule : Command where
  code := 0x0402
  fmt := fun _ q => q.len == 0x10 && zeros q.body 2 6 && fld q.body 8 8 % 65536 == 0
  run := onNamed (fun s q =>
    let ig := fld q.body 8 8 / 65536
    match (s.emap.find? (fun p => p.2.inst == q.w && p.2.encl == q.encl && p.2.iaddr == ig)).map (·.1) with
    | none => (s, some (stOk, []))
    | some g => if (s.encl q.w q.encl).needs ig then (s, some (stBusy, [])) else (s.dropGranule g, some (stOk, [])))

/-- The granule entry of an instance address of an enclave. -/
def State.enclEnt (s : State) (i e ia : Nat) : Option MapEnt := (s.emap.find? (fun p => p.2.inst == i && p.2.encl == e && p.2.iaddr == ia / 65536)).map (·.2)

/-- The check of ENCL_FINALISE: EVBA in a CODE granule, slots in WRITE granules without CODE. -/
def State.finalOk (s : State) (i e : Nat) : Bool :=
  let x := s.encl i e
  ((s.enclEnt i e x.evba).map (·.code)).getD false &&
    (List.range x.threads).all (fun k => match s.enclEnt i e (x.esa + k * 0x1000) with | some m => m.write && !m.code | none => false)

/-- Pages owned by an enclave. -/
def State.enclPages (s : State) (i e : Nat) : List Nat := (s.pages.filter (fun p => p.2.state != 0 && p.2.inst == i && p.2.encl == e)).map (·.1)

/-- ENCL_FINALISE (0x0403; R342). -/
def cmdEnclFinalise : Command where
  code := 0x0403
  fmt := fun _ q => q.len == 8 && zeros q.body 2 6
  run := onNamed (fun s q =>
    if (s.encl q.w q.encl).state = 2 then (s, some (stOk, []))
    else if !s.finalOk q.w q.encl then (s, some (stBadField, []))
    else
      let s := s.onEncl q.w q.encl (fun x => { x with state := 2, meas := sha384 (x.meas ++ ascii "FINAL") })
      ((s.enclPages q.w q.encl).foldl (fun s n => s.enclKey n) s, some (stOk, [])))

/-- Destroy an enclave: granules, key, pages and rings (ENCL_DESTROY). -/
def State.destroyEncl (s : State) (i e seq : Nat) : State :=
  let s := (s.granules i e).foldl (fun s g => s.dropGranule g) s
  let s := (s.enclPages i e).foldl (fun s n => (s.freeErase n).onPage n (fun _ => {})) s
  let mine := fun (n : Nat) => (s.ring n).inst == i && (s.ring n).encl == e
  let mineReq := fun (q : Req) => q.src == 1 && mine q.ring
  let gone := (s.dfuReqs.filter mineReq).length
  let held := ((s.rings.filter (fun p => mine p.1)).map (fun p => (p.2.held.filter (fun c => c.retire != 0)).length)).foldl (· + ·) 0
  let s := (s.dropDfu mineReq).onInst i (fun n => { n with requests := n.requests - (gone + held) })
  ({ s with rings := s.rings.filter (fun p => !(p.2.inst == i && p.2.encl == e)) }).onEncl i e (fun _ => { seq := seq })

/-- ENCL_DESTROY (0x0404). -/
def cmdEnclDestroy : Command where
  code := 0x0404
  fmt := fun _ q => q.len == 8 && zeros q.body 2 6
  run := fun s q =>
    let x := s.encl q.w q.encl
    if q.encl < 4096 ∧ x.state = 0 ∧ x.seq = q.seq + 1 then (s, some (stOk, []))
    else onNamed (fun s q => if x.bound ≠ [] then (s, some (stBusy, [])) else (s.destroyEncl q.w q.encl (q.seq + 1), some (stOk, []))) s q

/-- FLAGS of ENCL_QUERY. -/
def Encl.flags (x : Encl) : Nat := b2n x.consent + 2 * b2n x.debugged

/-- ENCL_QUERY (0x0405; Table 11-7). -/
def cmdEnclQuery : Command where
  code := 0x0405
  own := ownInst
  fmt := fun _ q => q.len == 8 && decide (fld q.body 0 2 < 512) && zeros q.body 4 4
  run := fun s q =>
    let i := fld q.body 0 2
    let e := fld q.body 2 2
    let x := s.encl i e
    if !s.enclNamed i e then (s, some (stBadField, []))
    else (s, some (stOk, beBytes 1 x.state ++ beBytes 1 x.threads ++ beBytes 1 x.bound.length ++ beBytes 1 x.flags ++ beBytes 4 (s.granules i e).length ++ bytesAt x.meas 0 48 ++ beBytes 8 x.created))

/-- A number from 1 to the order of P-384 less one: a private key or a nonce. -/
def scalar384 (v : Nat) : Nat := 1 + v % (n384 - 1)

/-- Bytes 0x00 to 0x8F of the report of an enclave (Table 11-8). -/
def State.enclReport (s : State) (i e : Nat) (data : List Byte) : List Byte :=
  bytesAt (s.encl i e).meas 0 48 ++ data ++ bytesAt s.fuses.serial 0 16 ++ beBytes 2 i ++ beBytes 2 e ++ beBytes 1 (s.encl i e).flags ++ [2#8, 1#8, 0#8] ++ beBytes 8 (u64 s.now)

/-- ENCL_ATTEST (0x0406; Table 11-8): signed with the fused attestation key and a free nonce. -/
def cmdEnclAttest : Command where
  code := 0x0406
  fmt := fun _ q => q.len == 0x48 && zeros q.body 2 6
  run := onNamed (fun s q =>
    let r := s.enclReport q.w q.encl (bytesAt q.body 8 64)
    if (s.encl q.w q.encl).state ≠ 2 then (s, some (stBusy, []))
    else (s.drawn, some (stOk, r ++ ecdsaSign (scalar384 Config.attestKey) (scalar384 (Config.freeNat s.freeCtr)) r)))

/-- ENCL_CORE_ENABLE (0x0407; R9, R343). -/
def cmdEnclCoreEnable : Command where
  code := 0x0407
  fmt := fun s q => q.len == 8 && decide (fld q.body 0 2 < s.workCores) && decide (fld q.body 2 1 ≤ 1) && zeros q.body 3 5
  run := fun s q =>
    let n := fld q.body 0 2
    let p := (s.core n).phys
    if fld q.body 2 1 = 1 then (if s.enclCore n then s else s.enclOn p, some (stOk, []))
    else if s.coreUsers n ≠ 0 then (s, some (stBusy, []))
    else (s.onPCore p (fun k => { k with enclWays := false }), some (stOk, []))

/-! ### Holds (R345) -/

/-- The block is a core (1), a Block Cipher Unit (2) or a Deflate Unit (3) of the device. -/
def State.blockIs (s : State) (kind n : Nat) : Bool := (kind == 1 && decide (n < s.workCores)) || ((kind == 2 || kind == 3) && decide (n < 8))

/-- Tasks or requests that hold a block (Table 11-5). -/
def State.holdUsers (s : State) (kind n : Nat) : Nat :=
  if kind = 1 then s.coreUsers n
  else match (if kind = 2 then (s.bcu n).running else (s.dfu n).running) with
    | some q => b2n (q.encl != 0 && q.src == (if kind = 2 then 2 else 1))
    | none => 0

/-- HOLD_QUERY (0x0408). -/
def cmdHoldQuery : Command where
  code := 0x0408
  fmt := fun s q => q.len == 8 && s.blockIs (fld q.body 0 1) (fld q.body 2 2) && zeros q.body 1 1 && zeros q.body 4 4
  run := fun s q =>
    let k := fld q.body 0 1
    let n := fld q.body 2 2
    let u := s.holdUsers k n
    let since := if k = 1 then (s.core n).heldSince else if k = 2 then (s.bcu n).heldSince else (s.dfu n).heldSince
    (s, some (stOk, beBytes 1 (min u 1) ++ beBytes 3 0 ++ beBytes 4 u ++ beBytes 8 (if u = 0 then 0 else u64 since)))

/-! ### Debug enables (R344) -/

/-- ENABLES (DEBUG_ENABLE_GET). -/
def State.debugWord (s : State) : Nat := b2n s.dbgNi + 2 * b2n s.dbgInv + 4 * b2n s.dbgEni + 8 * b2n s.dbgEinv

/-- DEBUG_ENABLE_SET (0x0A00). -/
def cmdDebugEnableSet : Command where
  code := 0x0A00
  fmt := fun _ q =>
    let v := fld q.body 0 1
    q.len == 8 && decide (v < 16) && zeros q.body 1 7 && (!bit v 1 || bit v 0) && (!bit v 3 || bit v 2)
  run := fun s q =>
    let v := fld q.body 0 1
    ({ s with dbgNi := bit v 0, dbgInv := bit v 1, dbgEni := bit v 2, dbgEinv := bit v 3 }, some (stOk, []))

/-- DEBUG_ENABLE_GET (0x0A01). -/
def cmdDebugEnableGet : Command where
  code := 0x0A01
  fmt := fun _ q => q.len == 0
  run := fun s _ => (s, some (stOk, beBytes 1 s.debugWord ++ beBytes 7 0))

/-! ### Rows -/

/-- ENCL_CREATE (R327). -/
def execEnclCreate (w : Nat) (s : State) : Out := serve cmdEnclCreate w s
/-- ENCL_ADD_GRANULE (R324). -/
def execEnclAddGranule (w : Nat) (s : State) : Out := serve cmdEnclAddGranule w s
/-- ENCL_REMOVE_GRANULE (R324). -/
def execEnclRemoveGranule (w : Nat) (s : State) : Out := serve cmdEnclRemoveGranule w s
/-- ENCL_FINALISE (R342). -/
def execEnclFinalise (w : Nat) (s : State) : Out := serve cmdEnclFinalise w s
/-- ENCL_DESTROY (R347). -/
def execEnclDestroy (w : Nat) (s : State) : Out := serve cmdEnclDestroy w s
/-- ENCL_QUERY (R347). -/
def execEnclQuery (w : Nat) (s : State) : Out := serve cmdEnclQuery w s
/-- ENCL_ATTEST (R347). -/
def execEnclAttest (w : Nat) (s : State) : Out := serve cmdEnclAttest w s
/-- ENCL_CORE_ENABLE (R343). -/
def execEnclCoreEnable (w : Nat) (s : State) : Out := serve cmdEnclCoreEnable w s
/-- HOLD_QUERY (R345). -/
def execHoldQuery (w : Nat) (s : State) : Out := serve cmdHoldQuery w s
/-- DEBUG_ENABLE_SET (R344). -/
def execDebugEnableSet (w : Nat) (s : State) : Out := serve cmdDebugEnableSet w s
/-- DEBUG_ENABLE_GET (R344). -/
def execDebugEnableGet (w : Nat) (s : State) : Out := serve cmdDebugEnableGet w s

end Sys2Proof.Machine
end

