-- ==== Sys2Proof/Machine/MemEvents.lean ====
section
/-! DEFINITION. Events of the memory system: errors in caches, Depot and CXL memory, way disabling and folding, port loss and retraining, eviction writebacks, and DMA of PCIe endpoints (R125, R239 to R242, R249, R253 to R255, R376, R385, R450). -/
namespace Sys2Proof.Machine

/-! ### Ways (R239 to R242) -/

/-- Unit code of the unit of a level: a physical core, a slice, a channel (Table 13-7). -/
def levelUnit (lvl unit : Nat) : Nat := if lvl ≤ 2 then unitCode 1 unit else if lvl = 3 then unitCode 2 unit else unitCode 3 unit

/-- Interval of R240 in TOD units: 24 h. -/
def wayInterval : Nat := 345600000000000

/-- Working ways of a unit. -/
def State.working (s : State) (lvl unit : Nat) : Nat := ((List.range (wayCount lvl)).filter (fun w => !bit (s.ways lvl unit).off w)).length

/-- A slice or channel leaves service; its sets fold onto the next unit (R242). Record reason: 1 ways below the minimum, 2 lost outright. -/
def State.removeUnit (s : State) (lvl unit reason cause : Nat) : State :=
  let u := levelUnit lvl unit
  let s := (s.onWays lvl unit (fun w => { w with removed := true })).setHealth u 5 cause
  (s.notify 512 8 0 u 0).logSealed 5 u [reason, 0]

/-- A unit has fallen below its minimum of working ways (Table 08-4). -/
def State.belowMin (s : State) (lvl unit : Nat) : State :=
  if lvl ≤ 2 then
    match s.lcoreOf unit with
    | some n => s.startSparing n 3 none
    | none => if (s.pcore unit).role = 2 then (s.onPCore unit (fun k => { k with role := 3, testing := false })).setHealth (unitCode 1 unit) 4 4 else s
  else if (s.ways lvl unit).removed then s
  else (s.flushUnits lvl unit (unit + 1)).removeUnit lvl unit 1 4

/-- A way is disabled: its dirty lines are cleaned first (R240, R241). -/
def State.disableWay (s : State) (lvl unit way first : Nat) : State :=
  let s := s.flushWay lvl unit way
  let s := s.onWays lvl unit (fun w => { w with off := w.off ||| 2 ^ way, last := s.now, errs := w.errs.filter (fun e => e.1 != way) })
  let u := levelUnit lvl unit
  let s := s.logSealed 4 u [lvl, unit, way, first]
  let s := if 3 ≤ lvl then s.countA u else s
  if s.working lvl unit < wayMin lvl then s.belowMin lvl unit else s

/-- A correctable error in a frame of a way (R239, R240). -/
def State.correctable (s : State) (lvl unit way : Nat) : State :=
  if wayCount lvl ≤ way ∨ bit (s.ways lvl unit).off way ∨ (s.ways lvl unit).removed then s
  else
    let s := s.countCe (levelUnit lvl unit)
    let live := (s.ways lvl unit).errs.filter (fun e => decide (s.now < e.2 + wayInterval))
    let s := s.onWays lvl unit (fun w => { w with errs := (way, s.now) :: live })
    let mine := (s.ways lvl unit).errs.filter (fun e => e.1 == way)
    if 16 ≤ mine.length then s.disableWay lvl unit way (match mine.getLast? with | some e => e.2 | none => s.now) else s

/-- ECC_CORRECTABLE_ERROR: levels 0 to 4 are L1I, L1D, L2, L3 and the Depot; 5 is CXL memory behind a port, 6 the Cairn store of a core (R239, R376). -/
def State.eccCorrectable (s : State) (level unit way : Nat) : State :=
  if level ≤ 4 then s.correctable level unit way
  else if level = 5 then s.countCe (unitCode 5 unit)
  else if level = 6 then s.countCe (unitCode 1 (s.core unit).phys)
  else s

/-- ECC_CORRECTABLE_ERROR (R239). -/
def execEccCorrectableError (level unit _idx way : Nat) (s : State) : Out := when s.runs s (s.eccCorrectable level unit way)

/-- Words of a mask in a line become POISON with a cause (Table 04-3). -/
def poisonWords (cause la mask : Nat) (l : Line) : Line :=
  Vector.ofFn (fun k : Fin 32 => if bit mask k.val then poisonWord cause (la * 32 + k.val) else l.get k)

/-- An uncorrectable error in a frame: a clean line is invalidated, and words of a dirty one become POISON with CAUSE 0x01 (R239). -/
def State.uncorrectable (s : State) (lvl unit idx way mask : Nat) : State :=
  match s.ms.frames.find (fkey lvl unit idx way) with
  | none => s
  | some f =>
    let s := s.countUe (levelUnit lvl unit)
    let s := if f.st = 3 then s.onMs (fun m => { m with frames := m.frames.put (fkey lvl unit idx way) { f with line := poisonWords 1 f.la mask f.line } })
      else s.onMs (fun m => { m with frames := m.frames.del (fkey lvl unit idx way) })
    if lvl = 2 then (s.invalidate 0 unit f.la).invalidate 1 unit f.la else s

/-- Bits of the 64-byte units in error as bits of words. -/
def unitMask (mask : Nat) : Nat := ((maskBits mask 4).map (fun k => 255 * 2 ^ (8 * k))).foldl (· + ·) 0

/-- An uncorrectable error of CXL memory: one copy of a mirrored line is repaired from the other; else the words become POISON with CAUSE 0x02 (R239, R253). -/
def State.memError (s : State) (port la mask : Nat) (both : Bool) : State :=
  match s.regionOf (la * 256) with
  | none => s
  | some r =>
    if r.portA ≠ port ∧ r.portB ≠ some port then s
    else
      let s := s.countUe (unitCode 5 port)
      let other := match r.portB with
        | none => false
        | some b => !(s.port (if r.portA = port then b else r.portA)).outOfStep
      if other && !both then s else s.storeLine la (poisonWords 2 la (unitMask mask) (s.memLine la))

/-- ECC_UNCORRECTABLE_ERROR, with the levels of ECC_CORRECTABLE_ERROR; `idx` is the set, the line address at level 5, or the task set at level 6 (R239, R376). -/
def State.eccUncorrectable (s : State) (level unit idx way mask : Nat) (both : Bool) : State :=
  if level ≤ 4 then s.uncorrectable level unit idx way mask
  else if level = 5 then s.memError unit idx mask both
  else if level = 6 ∧ idx < 68 ∧ (s.ctx unit idx).run ≠ .empty then (s.countUe (unitCode 1 (s.core unit).phys)).onCtx unit idx (fun c => { c with cairnBad := true })
  else s

/-- ECC_UNCORRECTABLE_ERROR (R239). -/
def execEccUncorrectableError (level unit idx way mask : Nat) (both : Bool) (s : State) : Out := when s.runs s (s.eccUncorrectable level unit idx way mask both)

/-- PATROL_SCRUB of the Depot (level 4) or CXL memory (level 5), as Freight: it finds nothing (0), a correctable (1) or an uncorrectable error (2) (R44, R385). -/
def execPatrolScrub (level unit idx way found mask : Nat) (s : State) : Out :=
  let t := s.inClass 2
  when (s.runs && (level == 4 || level == 5)) s
    (if found = 1 then t.eccCorrectable level unit way else if found = 2 then t.eccUncorrectable level unit idx way mask false else t)

/-- A dirty line of a lost channel is lost: its words become POISON with CAUSE 0x04 (R242). -/
def State.loseLines (s : State) : Tab Frame → State
  | [] => s
  | (_, f) :: t => State.loseLines (if f.st = 3 then (s.settleMem f.la).memWrite f.la (poisonWords 4 f.la (2 ^ 32 - 1) f.line) else s) t

/-- DEPOT_CHANNEL_LOSS: the channel is removed without cleaning (R242). -/
def execDepotChannelLoss (channel : Nat) (s : State) : Out :=
  when (s.runs && decide (channel < 64) && !(s.ways 4 channel).removed) s
    (((s.loseLines (s.ms.frames.between (fkey 4 channel 0 0) (fkey 4 (channel + 1) 0 0))).dropUnits 4 channel (channel + 1)).removeUnit 4 channel 2 5)

/-- EVICTION_WRITEBACK_ACK (R249). -/
def execEvictionWritebackAck (la : Nat) (s : State) : Out := when s.runs s (s.ackEvict la)

/-! ### CXL ports (R250, R255) -/

/-- The port runs CXL with a memory device behind it. -/
def State.cxlPort (s : State) (p : Nat) : Bool := decide (p < 12) && !(s.port p).pcie && (s.port p).dev.isSome

/-- Configured regions that use a port. -/
def State.portRegions (s : State) (p : Nat) : List Region := s.ms.regions.filter (fun r => r.ok && (r.portA == p || r.portB == some p))

/-- Partners of a port's mirrored regions. -/
def State.partners (s : State) (p : Nat) : List Nat :=
  ((s.portRegions p).filterMap (fun r => match r.portB with | none => none | some b => some (if r.portA = p then b else r.portA))).eraseDups

/-- The other port of a mirrored region that a line lies in, if that copy is in step (R253). -/
def State.otherPort (s : State) (p la : Nat) : Option Nat :=
  match s.regionOf (la * 256) with
  | none => none
  | some r =>
    match r.portB with
    | none => none
    | some b =>
      let o := if r.portA = p then b else r.portA
      if (r.portA = p ∨ b = p) ∧ !(s.port o).outOfStep then some o else none

/-- An access that timed out is reissued: a read of a mirrored line at once to the other copy, any other behind what the port has queued (R255). -/
def State.reissue (s : State) (p la : Nat) (write : Bool) : State :=
  let q := match (if write then none else s.otherPort p la) with | some o => o | none => p
  s.onPort q (fun x => { x with queue := x.queue ++ [(la, write)] })

/-- What a lost port had not answered: accesses to mirrored lines go to the partner, other reads return POISON and other writes are dropped and counted (R255). -/
def State.passQueue (s : State) (p : Nat) : List (Nat × Bool) → State
  | [] => s.onPort p (fun x => { x with queue := [] })
  | (la, write) :: t =>
    let s := match s.otherPort p la with
      | some o => s.onPort o (fun x => { x with queue := x.queue ++ [(la, write)] })
      | none => if write then s.onPort p (fun x => { x with drops := x.drops + 1 }) else s
    State.passQueue s p t

/-- A port is lost: mirrored lines are served by the partner, and others of its lines read as POISON (R255). Record cause: 1 link down, 2 fatal error, 3 timeouts. -/
def State.losePort (s : State) (p cause : Nat) : State :=
  let u := unitCode 5 p
  let s := s.passQueue p (s.port p).queue
  let s := s.onPort p (fun x => { x with lost := true, outOfStep := true, copying := false, link := 3, timeouts := 0, change := s.now })
  let s := s.failBars (1, p)
  let rs := s.portRegions p
  let s := ((s.setHealth u 4 5).countB u).asInjected (s.port p).injected (fun s' => s'.logSealed 8 u [p, cause, (rs.filter (fun r => r.portB.isSome)).length, (rs.filter (fun r => r.portB.isNone)).length])
  (s.partners p).foldl (fun s b => if (s.port b).outOfStep then s else (s.onPort b (fun x => { x with change := s.now })).setHealth (unitCode 5 b) 1 9) s

/-- CXL_ACCESS_TIMEOUT: the access is reissued, and the third timeout in succession loses the port (R255). -/
def execCxlAccessTimeout (port la : Nat) (write : Bool) (s : State) : Out :=
  let t := s.reissue port la write
  when (s.runs && s.cxlPort port && (s.port port).link != 3) s
    (if 2 ≤ (s.port port).timeouts then t.losePort port 3 else t.onPort port (fun x => { x with timeouts := x.timeouts + 1 }))

/-- CXL_LINK_DOWN_TIMEOUT: the link has been down for 10 µs without retraining (R255). -/
def execCxlLinkDownTimeout (port : Nat) (s : State) : Out :=
  when (s.runs && s.cxlPort port && (s.port port).link == 0) s ((s.advanceTo ((s.port port).downAt + 10 * usT)).losePort port 1)

/-- CXL_FATAL_ERROR (R255, R328). -/
def execCxlFatalError (port : Nat) (s : State) : Out := when (s.runs && s.cxlPort port && (s.port port).link != 3) s (s.losePort port 2)

/-- LINK code of a width and a rate (Table 08-14). -/
def linkCode (width rate : Nat) : Nat := if width = 16 ∧ rate = 64 then 1 else 2

/-- CXL_PORT_RETRAIN: a link comes up again; a lost port takes a copy of the surviving data of its mirrored regions (R255). -/
def State.portRetrain (s : State) (p width rate : Nat) : State :=
  let u := unitCode 5 p
  let x := s.port p
  let copy := x.outOfStep && !(s.partners p).isEmpty
  let s := s.onPort p (fun x => { x with link := linkCode width rate, width := width, rate := rate, timeouts := 0, copying := copy, change := s.now, injected := false })
  let s := (s.countA u).logRec 9 u [p, 1]
  if x.outOfStep then (if copy then s.setHealth u 1 9 else s)
  else if linkCode width rate = 1 then s.setHealth u (if (s.partners p).any (fun b => (s.port b).outOfStep) then 1 else 0) (if (s.partners p).any (fun b => (s.port b).outOfStep) then 9 else 0)
  else s.setHealth u 1 6

/-- CXL_PORT_RETRAIN (R255). -/
def execCxlPortRetrain (port width rate : Nat) (s : State) : Out :=
  when (s.runs && decide (port < 12) && ((s.port port).link == 0 || (s.port port).link == 3) && ((s.port port).dev.isSome || (s.port port).pcie)) s (s.portRetrain port width rate)

/-- MIRROR_RESYNC_COMPLETE: reads use both copies again (R255). -/
def execMirrorResyncComplete (port : Nat) (s : State) : Out :=
  let ps := s.partners port
  let s1 := s.onPort port (fun x => { x with copying := false, outOfStep := false, change := s.now })
  let s2 := s1.setHealth (unitCode 5 port) (if (s.port port).link = 1 then 0 else 1) (if (s.port port).link = 1 then 0 else 6)
  when (s.runs && decide (port < 12) && (s.port port).copying && ps.all (fun b => !(s.port b).outOfStep)) s
    (ps.foldl (fun s b => (s.onPort b (fun x => { x with change := s.now })).setHealth (unitCode 5 b) (if (s.port b).link = 2 then 1 else 0) (if (s.port b).link = 2 then 6 else 0)) s2)

/-! ### DMA of PCIe endpoints (R113, R250, R450) -/

/-- ENDPOINT_DMA: translated by the owner's instance stage, or refused; the answer of a read is kept. -/
def execEndpointDma (port : Nat) (write : Bool) (addr len : Nat) (bytes : List Byte) (s : State) : Out :=
  let x := s.port port
  when (s.runs && decide (port < 12) && x.pcie && (x.link == 1 || x.link == 2)) s
    (match x.owner with
     | none => if write then s else s.onPort port (fun x => { x with answer := none })
     | some i =>
       if write then (s.engWrite i 0 addr bytes).1
       else s.onPort port (fun x => { x with answer := match s.engRead i 0 addr len with | .ok b => some b | .error _ => none }))

/-! ### WAY_STATUS and MEMPORT_STATUS (Tables 08-13, 08-14) -/

/-- The unit that WAY_STATUS names: the physical core that holds a logical number now. -/
def State.wayUnit (s : State) (lvl unit : Nat) : Nat := if lvl ≤ 2 then (s.core unit).phys else unit

/-- UNIT is in range for LEVEL. -/
def State.wayUnitOk (s : State) (lvl unit : Nat) : Bool :=
  if lvl ≤ 2 then decide (unit < s.workCores) else if lvl = 3 then decide (unit < 80) else lvl == 4 && decide (unit < 64)

/-- The body of WAY_STATUS. -/
def State.wayBody (s : State) (lvl unit : Nat) : List Byte :=
  let u := s.wayUnit lvl unit
  let w := s.ways lvl u
  let on := ((List.range (wayCount lvl)).filter (fun k => !bit w.off k)).foldl (fun a k => a + 2 ^ k) 0
  let st := if w.removed then 1 else if s.levelOn lvl u then 0 else 2
  beBytes 4 on ++ beBytes 1 (wayCount lvl) ++ beBytes 1 (wayMin lvl) ++ beBytes 1 st ++ beBytes 1 0 ++ beBytes 8 w.last

/-- WAY_STATUS. -/
def cmdWayStatus : Command where
  code := 0x0507
  fmt := fun s q => q.len == 8 && zeros q.body 1 1 && zeros q.body 4 4 && s.wayUnitOk (fld q.body 0 1) (fld q.body 2 2)
  run := fun s q => (s, some (stOk, s.wayBody (fld q.body 0 1) (fld q.body 2 2)))

/-- The body of MEMPORT_STATUS. -/
def State.memportBody (s : State) (p : Nat) : List Byte :=
  let x := s.port p
  let rs := s.portRegions p
  let mir := if x.copying ∨ (s.partners p).any (fun b => (s.port b).copying) then 2 else if (s.partners p).any (fun b => (s.port b).outOfStep) then 1 else 0
  let h := s.health (unitCode 5 p)
  beBytes 1 (if x.pcie then 2 else 1) ++ beBytes 1 x.link ++ beBytes 1 x.width ++ beBytes 1 x.rate ++ beBytes 1 rs.length ++ beBytes 1 mir ++ beBytes 2 0 ++
    beBytes 4 ((rs.map (·.gib)).foldl (· + ·) 0) ++ beBytes 4 0 ++ beBytes 8 h.ce ++ beBytes 8 h.ue ++ beBytes 8 x.change

/-- MEMPORT_STATUS. -/
def cmdMemportStatus : Command where
  code := 0x0508
  fmt := fun _ q => q.len == 8 && decide (fld q.body 0 1 < 12) && zeros q.body 1 7
  run := fun s q => (s, some (stOk, s.memportBody (fld q.body 0 1)))

/-- WAY_STATUS (R241). -/
def execWayStatus (w : Nat) (s : State) : Out := serve cmdWayStatus w s
/-- MEMPORT_STATUS (R255). -/
def execMemportStatus (w : Nat) (s : State) : Out := serve cmdMemportStatus w s

end Sys2Proof.Machine
end

