-- ==== Sys2Proof/Machine/Hub.lean ====
section
/-! DEFINITION. The registers of device space: reads and writes at the hub, the access codes, the Token Keeper's gate, and the switches of cache levels (R23, R24, R52 to R54, R65, R247, R248, R346, R367). -/
namespace Sys2Proof.Machine

/-! ### Where an address of device space lies (Table 01-8) -/

/-- The region of an offset in device space: 0 mailbox windows, 1 doorbell blocks, 2 cipher pages, 3 Relay control, 4 device windows, 5 per-core mirror, 6 reserved; with the element and the offset in it. -/
def devRegion (ra : Nat) : Nat × Nat × Nat :=
  let o := ra - devBase
  if o < 514 * 0x1000 then (0, o / 0x1000, o % 0x1000)
  else if 0x100000000 ≤ o ∧ o < 0x104000000 then (1, (o - 0x100000000) / 0x40, o % 0x40)
  else if 0x200000000 ≤ o ∧ o < 0x200100000 then (2, (o - 0x200000000) / 0x100, o % 0x100)
  else if 0x300000000 ≤ o ∧ o < 0x301000000 then (3, (o - 0x300000000) / 0x1000, o % 0x1000)
  else if 0x1000000000000 ≤ o ∧ o < 0x1000000000000 + 12 * 0x100000000000 then (4, (o - 0x1000000000000) / 0x100000000000, (o - 0x1000000000000) % 0x100000000000)
  else if 0x2000000000000 ≤ o ∧ o < 0x2000000000000 + 80 * 0x10000 then (5, (o - 0x2000000000000) / 0x10000, o % 0x10000)
  else (6, 0, 0)

/-! ### Reads -/

/-- A register of a subchannel's doorbell block (Table 09-1). -/
def Subch.reg (x : Subch) (off : Nat) : Nat :=
  if off = 0x00 then x.sqTail
  else if off = 0x08 then x.sqHead
  else if off = 0x10 then x.cqHead
  else if off = 0x18 then b2n x.phase * 2 ^ 16 + x.cqTail
  else if off = 0x20 then b2n x.idxErr * 2 ^ 10 + b2n (!x.held.isEmpty) * 2 ^ 9 + b2n (x.stalled && x.slotBusy) * 2 ^ 8 + x.stateCode
  else if off = 0x28 then x.nextWsn
  else 0

/-- A register of a request ring's doorbell block (Table 10-8). -/
def Ring.reg (x : Ring) (off : Nat) : Nat :=
  if off = 0x00 then x.sqTail
  else if off = 0x08 then x.sqHead
  else if off = 0x10 then x.cqHead
  else if off = 0x18 then b2n x.phase * 2 ^ 16 + x.cqTail
  else if off = 0x20 then b2n x.idxErr * 2 ^ 10 + b2n (!x.held.isEmpty) * 2 ^ 9 + b2n (x.kind == 1) * 2 ^ 8 + b2n x.live
  else 0

/-- A register of an LLT window (Table 12-9). -/
def Llt.reg (t : Llt) (off : Nat) : Nat :=
  if off = 0x00 then t.used * 2 ^ 32 + b2n t.live
  else if off = 0x08 then u64 t.grants
  else if off = 0x10 then u64 t.queued
  else if off = 0x18 then u64 t.expired
  else if off = 0x20 then u64 t.abandonedN
  else 0

/-- CACHE_CTL of a physical core (Table 08-7). -/
def State.cacheCtl (s : State) (phys : Nat) : Nat :=
  let c := s.pcore phys
  b2n c.enclWays * 8 + b2n c.l2 * 4 + b2n c.l1d * 2 + b2n c.l1i

/-- What the hub returns for an 8-byte read of device space outside the device windows and other devices' tables (R23, R52). -/
def State.hubRead (s : State) (ra : Nat) : Nat :=
  match devRegion ra with
  | (0, w, off) => s.winRead w off
  | (1, n, off) => if (s.sub n).live then (s.sub n).reg off else if (s.ring n).live then (s.ring n).reg off else 0
  | (2, n, off) => (s.page n).reg off
  | (3, k, off) => if k / 64 = s.relay.self ∧ k % 64 < 16 then (s.llt (k % 64)).reg off else 0
  | (5, p, off) => if off = 0x100 then s.cacheCtl p else 0
  | _ => 0

/-! ### Cache levels (R247, R248) -/

/-- A level is cleaned, invalidated and taken out of use: a core's L1I, L1D or L2, the L3 of a die, or the Depot. -/
def State.levelOff (s : State) (lvl unit : Nat) : State :=
  if lvl ≤ 2 then
    let s := if lvl = 2 then s.flushUnits 2 unit (unit + 1) else s.dropUnits lvl unit (unit + 1)
    s.onPCore unit (fun c => { c with l1i := c.l1i && lvl != 0, l1d := c.l1d && lvl != 1, l2 := c.l2 && lvl != 2 })
  else if lvl = 3 then (s.flushUnits 3 (unit * 20) (unit * 20 + 20)).onWays 3 (unit * 20) (fun w => { w with disabled := true })
  else (s.flushUnits 4 0 64).onWays 4 0 (fun w => { w with disabled := true })

/-- A level comes back into use, empty. -/
def State.levelOnAgain (s : State) (lvl unit : Nat) : State :=
  if lvl ≤ 2 then s.onPCore unit (fun c => { c with l1i := c.l1i || lvl == 0, l1d := c.l1d || lvl == 1, l2 := c.l2 || lvl == 2 })
  else if lvl = 3 then s.onWays 3 (unit * 20) (fun w => { w with disabled := false })
  else s.onWays 4 0 (fun w => { w with disabled := false })

/-- Bring a level to a value of its enable bit. -/
def State.setLevel (s : State) (lvl unit : Nat) (on : Bool) : State :=
  if s.levelOn lvl (if lvl = 3 then unit * 20 else unit) = on then s else if on then s.levelOnAgain lvl unit else s.levelOff lvl unit

/-- A discarded write is counted against the Token Keeper and recorded with its address (Tables 13-10, 13-13). -/
def State.gateDiscard (s : State) (addr : Nat) : State := (s.countB 0x1000).logRec 0x11 0x1000 [addr]

/-- A write of CACHE_CTL; only the TSK changes ENCL_WAYS, and L2 stays on while an L1 is on (R247). -/
def State.setCacheCtl (s : State) (phys v : Nat) (tsk : Bool) : State :=
  if !bit v 2 && (bit v 0 || bit v 1) then s.gateDiscard (devBase + 0x2000000000000 + phys * 0x10000 + 0x100)
  else
    let s := ((s.setLevel 0 phys (bit v 0)).setLevel 1 phys (bit v 1)).setLevel 2 phys (bit v 2)
    if !tsk || (s.pcore phys).enclWays == bit v 3 then s else if bit v 3 then s.enclOn phys else s.onPCore phys (fun c => { c with enclWays := false })

/-! ### Writes -/

/-- LCTL.CLEAR clears the counters of an LLT window (Table 12-9). -/
def State.lctl (s : State) (t v : Nat) : State := if bit v 0 then s.onLlt t (fun x => { x with grants := 0, queued := 0, expired := 0, abandonedN := 0 }) else s

/-- A write of a doorbell block: SQ_TAIL, CQ_HEAD or the W1C bit of SCSTAT and RSTAT; other registers are read-only (Tables 09-1, 10-8). -/
def State.doorWrite (s : State) (n off v : Nat) : State :=
  if (s.sub n).live then
    if off = 0x00 then s.sqWrite n v
    else if off = 0x10 then s.cqWrite n v
    else if off = 0x20 ∧ bit v 10 then s.onSub n (fun x => { x with idxErr := false })
    else s
  else if (s.ring n).live then
    if off = 0x00 then s.ringSq n v
    else if off = 0x10 then s.ringCq n v
    else if off = 0x20 ∧ bit v 10 then s.onRing n (fun x => { x with idxErr := false })
    else s
  else s

/-- An 8-byte write that reaches the hub, or a device window, from a task or an SP (R23, R52, R54). -/
def State.hubWrite (s : State) (ra v tid : Nat) : State :=
  match devRegion ra with
  | (0, w, off) => s.winWrite w off v tid
  | (1, n, off) => s.doorWrite n off v
  | (3, k, off) => if k / 64 = s.relay.self ∧ k % 64 < 16 ∧ off = 0x28 ∧ (s.llt (k % 64)).live then s.lctl (k % 64) v else s
  | (4, p, off) => if (s.port p).link = 1 ∨ (s.port p).link = 2 then s.onPort p (fun x => { x with window := x.window.put off (u64 v) }) else s
  | _ => s

/-- The lease gate is open to an SP (R65). -/
def State.gateOpen (s : State) (p : Nat) : Bool := s.svc.holder == some p && decide (s.now < s.svc.leaseEnd)

/-- The Service Complex writes a window: the RESPONSE area, which only it writes, or a register as software would (R77). -/
def State.spWindow (s : State) (w off v : Nat) : State :=
  if 0x900 ≤ off ∧ off < 0x1000 then (if s.windowUp w then s.onWin w (fun n => { n with resp := putBytes n.resp (off - 0x900) (beBytes 8 v) }) else s)
  else s.winWrite w off v 0

/-- A write of CACHE_CTL would change its RWL field ENCL_WAYS (Table 08-7). -/
def State.touchesRwl (s : State) (phys v : Nat) : Bool := bit (s.cacheCtl phys) 3 != bit v 3

/-- A write by an SP, supervisor or user (Table 02-3): mailbox windows pass the gate of R65, and a change of an RWL field by SFW is a firewall violation (R60, log entry 170). -/
def State.spWrite (s : State) (p : Nat) (tsk : Bool) (ra v : Nat) : State :=
  match devRegion ra with
  | (0, w, off) => if s.gateOpen p then s.spWindow w off v else s.gateDiscard ra
  | (5, c, off) =>
    if off ≠ 0x100 then s
    else if !tsk && s.touchesRwl c v then (if p < 2 then s.firewall p .write else s)
    else s.setCacheCtl c v tsk
  | _ => s.hubWrite ra v 0

/-- REGISTER_WRITE: an 8-byte write of a register of device space (R23, R53, R65). -/
def execRegisterWrite (agent : Agent) (addr value : Nat) (s : State) : Out :=
  when (s.runs && addr % 8 == 0 && decide (devBase ≤ addr)) s
    (match agent with
     | .task tid => if s.visible (tid / 65536 % 512) 0 addr true then s.hubWrite addr value tid else s
     | .sfw p => s.spWrite p false addr value
     | .tsk p => s.spWrite p true addr value
     | .console => match devRegion addr with | (0, 513, off) => s.winWrite 513 off value 0 | _ => s
     | .debug => s)

/-- The agent may write the enable bit of a level: an SP; the hub's register passes the gate of R65 (R247). -/
def State.switches (s : State) (agent : Agent) (level : Nat) : Bool :=
  match agent with
  | .sfw p => decide (p < 2) && (decide (level ≤ 2) || s.gateOpen p)
  | .tsk p => decide (p < 2) && (decide (level ≤ 2) || s.gateOpen p)
  | _ => false

/-- The unit of a level exists: a physical core, a die, or the Depot. -/
def levelUnitIs (level unit : Nat) : Bool :=
  if level ≤ 2 then decide (unit < 80) else (level == 3 && decide (unit < 4)) || (level == 4 && unit == 0)

/-- Clear an enable bit; L2 alone while an L1 is on is refused (R247, R248). -/
def State.clearLevel (s : State) (level unit : Nat) : State :=
  if level = 2 ∧ (s.levelOn 0 unit || s.levelOn 1 unit) then s.gateDiscard (devBase + 0x2000000000000 + unit * 0x10000 + 0x100) else s.setLevel level unit false

/-- Set an enable bit; an L1 alone while L2 is off is refused (R247, R248). -/
def State.raiseLevel (s : State) (level unit : Nat) : State :=
  if level ≤ 1 && !s.levelOn 2 unit then s.gateDiscard (devBase + 0x2000000000000 + unit * 0x10000 + 0x100) else s.setLevel level unit true

/-- An SP's write that the gate stops is discarded and counted (R65). -/
def State.switchGate (s : State) (agent : Agent) (level : Nat) (f : State → State) : State :=
  if s.switches agent level then f s
  else match agent with
    | .sfw p => if p < 2 then s.gateDiscard 0 else s
    | .tsk p => if p < 2 then s.gateDiscard 0 else s
    | _ => s

/-- CACHE_LEVEL_DISABLE: levels 0 to 4 are L1I, L1D and L2 of a physical core, L3 of a die and the Depot (R247, R248). -/
def execCacheLevelDisable (agent : Agent) (level unit : Nat) (s : State) : Out :=
  when (s.runs && levelUnitIs level unit) s (s.switchGate agent level (fun s => s.clearLevel level unit))

/-- CACHE_LEVEL_ENABLE (R248). -/
def execCacheLevelEnable (agent : Agent) (level unit : Nat) (s : State) : Out :=
  when (s.runs && levelUnitIs level unit) s (s.switchGate agent level (fun s => s.raiseLevel level unit))

/-- LLT_COUNTER_CLEAR: a write of LCTL of a table of this device (Table 12-9). -/
def execLltCounterClear (llt value : Nat) (s : State) : Out := when (s.runs && decide (llt < 16) && (s.llt llt).live) s (s.lctl llt value)

end Sys2Proof.Machine
end

