-- ==== Sys2Proof/Machine/Sync.lean ====
section
/-! DEFINITION. Barriers, YIELD, SIGNAL, lock probes, paired short operations and Toll Gate entry (R140, R141, R172, R173, R180, R199, R224, R225, R261 to R263, R330 to R332, R339, R360 to R363). -/
namespace Sys2Proof.Machine

/-! ### Barriers -/

/-- Buffered stores of a task on a core. -/
def State.buffered (s : State) (core tid : Nat) : List WbEnt := (s.core core).wb.filter (fun e => e.tid == tid)

/-- MBAR completes when the task's stores have been performed or accepted (R261). -/
def Env.mbar (e : Env) : M PUnit := do
  let s ← get
  let c ← e.ctx
  if !(s.buffered e.core c.tid).isEmpty then e.stall
  e.commit (pure id) false true

/-- ISYNC: older stores are performed, and instructions fetched before are discarded (R173). -/
def Env.isync (e : Env) : M PUnit := do
  let s ← get
  let c ← e.ctx
  if !(s.buffered e.core c.tid).isEmpty then e.stall
  e.commit (pure (fun s => s.onMs (fun m => { m with stale := m.stale.filter (fun x => x.2.2 != c.tid) }))) false true

/-- FSYNC: pending FP Imprecise is delivered at it, not yet executed (R197, R199). -/
def Env.fsync (e : Env) : M PUnit := do
  let r ← e.regs
  if r.pend ≠ 0 then e.fail ⟨9, 0, 0⟩
  e.commit (pure id) false true

/-- Device paths with outstanding stores of a task, lowest kind and number first (R262). -/
def State.paths (s : State) (tid : Nat) : List (Nat × Nat) :=
  let ps := (s.devStores.filter (fun d => d.tid == tid)).map (fun d => (d.kind, d.num))
  (List.range 4).flatMap (fun k => ((List.range 64).filter (fun n => ps.contains (k, n))).map (fun n => (k, n)))

/-- The link of a path is down; a hub window never fails (R262, R367). -/
def State.pathDown (s : State) (p : Nat × Nat) : Bool :=
  if p.1 = 1 then (s.port p.2).link == 0 || (s.port p.2).link == 3 else if p.1 = 3 then !s.reaches p.2 else false

/-- A flushing read is issued on each path with outstanding stores that has none in flight and whose link is up; on a Relay path it is a flush flit (R262). -/
def State.issueBars (s : State) (core set : Nat) : State :=
  let c := s.ctx core set
  let new := (s.paths c.tid).filter (fun p => !s.pathDown p && !c.bars.any (fun b => b.isOn p))
  let s := s.onCtx core set (fun c => { c with bars := c.bars ++ new.map (fun p => { kind := p.1, num := p.2, limit := s.now + (s.inst c.inst).complUs * usT }) })
  (new.filter (fun p => p.1 == 3)).foldl (fun s p => s.inject { type := 9, cls := c.cls, dst := p.2, tid := c.tid }) s

/-- A path on which an IOBAR fails now: its link is down, or the interval of its flushing read has ended; with the reason (R262). -/
def State.barFails (s : State) (core set : Nat) : Option ((Nat × Nat) × Bool) :=
  let c := s.ctx core set
  match (s.paths c.tid).find? s.pathDown with
  | some p => some (p, true)
  | none => (c.bars.find? (fun b => b.kind != 2 && decide (b.limit ≤ s.now))).map (fun b => ((b.kind, b.num), false))

/-- IOBAR: a flushing read on each path that holds outstanding stores; reads that an earlier execution left in flight are waited for. A path that fails raises I/O Store Failed at once (R262). -/
def Env.iobar (e : Env) : M PUnit := do
  let s ← get
  let c ← e.ctx
  if c.await = .iobar then
    if c.bars = [] then e.commit (pure id) false true else throw .wait
  else
    if (s.buffered e.core c.tid).any (fun x => x.dev.isSome) then e.stall
    if (s.paths c.tid).isEmpty then e.commit (pure (fun s => s.onCtx e.core e.set (fun c => { c with bars := [] }))) false true
    else
      modify (fun s => (s.endGroup e.core e.set).issueBars e.core e.set)
      match s.barFails e.core e.set with
      | some (p, down) => do
        modify (fun s => s.ioFail e.core e.set p down)
        throw .wait
      | none => do
        modify (fun s => s.onCtx e.core e.set (fun c => { c with await := .iobar }))
        throw .wait

/-! ### YIELD and SIGNAL -/

/-- A YIELD of a task set makes its task leave the slot (R197, R220, R224, R226). -/
def State.yieldSwitches (s : State) (core set : Nat) : Bool :=
  let c := s.ctx core set
  let w := s.tsaGet c.tid 0x08
  bit w 2 || bit w 1 || (bit w 3 && s.canMove core set (bits w 22 16)) || s.wakeBits core set == 0 || (s.rotation core set).isSome

/-- EV_YIELD after the YIELD has retired: CONTROL, then W clears POSTED bits or the task waits; in a trap set the handler ends (R180, R220, R224). -/
def State.evYield (s : State) (core set : Nat) : State :=
  if 64 ≤ set then s.endHandler core set
  else
    let tid := (s.ctx core set).tid
    let s := s.controlAct core set
    let c := s.ctx core set
    if c.run ≠ .ready ∨ c.tid ≠ tid ∨ c.saveFault.isSome then s.resched core
    else
      let w := s.wakeBits core set
      if w = 0 then (s.onCtx core set (fun c => { c with run := .waitEvent, since := s.now })).resched core
      else
        let s := s.clearPosted tid w
        match s.rotation core set with
        | none => (s.onCtx core set (fun c => { c with used := 0 })).resched core
        | some k => (s.rotate core set k).resched core

/-- YIELD as an effect: it retires and raises EV_YIELD; FP Imprecise comes before the switch (R197). -/
def Env.yieldTo (e : Env) : Effect := do
  let s ← get
  let r ← e.regs
  if decide (e.set < 64) && r.pend ≠ 0 && s.yieldSwitches e.core e.set then e.fail ⟨9, 0, 0⟩
  let n ← e.next
  return fun s => (s.retire e.core e.set n false true).evYield e.core e.set

/-- SIGNAL: the TID is of the own instance, the target's TSA header is read, and the post is accepted; a SIGNAL to the task itself sets its POSTED [1] before its next instruction, so that post and those before it to the same TSA are made at once (R223, R225). -/
def Env.signal (e : Env) (a : Nat) : Effect := do
  let c ← e.ctx
  let x := c.regs.gpr a
  e.check [⟨x, 1, subTypes, false⟩]
  let v := x.datum.toNat
  if (x.type ≠ 1 && !c.regs.her) || decide (2 ^ 25 ≤ v) || v / 65536 != c.inst then e.fail ⟨7, 0, 0⟩
  let s ← get
  let _ ← e.lift (s.tsaWord v 0)
  modify (fun s => s.endGroup e.core e.set)
  let n ← e.next
  return fun s =>
    let s := s.post v 1 1 c.tid
    let s := (e.alone { s with creations := s.creations ++ [(v, c.tid, authority e.set c.regs)] }).retire e.core e.set n false false
    if v = c.tid then s.makePosts v else s

/-! ### Lock probes (R360 to R363) -/

/-- Operands of a lock instruction: key INT and SHARED, handle DESC (R124, R360). -/
def Env.lockOpds (e : Env) (a b : Nat) : M PUnit := do
  let r ← e.regs
  let x := r.gpr a
  let y := r.gpr b
  e.check [⟨x, 1, anyType, false⟩, ⟨y, 2, anyType, false⟩]
  if x.type = 9 || (x.type ≠ 1 && !r.her) || !x.tag.shared then e.fail ⟨3, 0, tagInfo x.tag 1⟩
  if y.type = 9 || (y.type ≠ 7 && !r.her) then e.fail ⟨3, 0, tagInfo y.tag 2⟩

/-- The handle is well formed (Table 12-6). -/
def handleOk (h : Nat) : Bool := bits h 63 56 == 0x4C && bits h 55 54 == 0 && bits h 47 36 == 0 && bits h 31 1 == 0

/-- LLOCK (0), LTRY (1) or LREL (2): the probe is sent once, and its final answer retires the instruction (R360, R371). -/
def Env.probe (e : Env) (op d a b : Nat) : Effect := do
  let c ← e.ctx
  match c.await with
  | .datum w => return fun s => e.alone (e.gets d ⟨word w, resTag c.regs.her Tag.int⟩ s)
  | .probe .. => throw .wait
  | _ =>
    e.lockOpds a b
    let h := (c.regs.gpr b).datum.toNat
    let s ← get
    if c.regs.encl ≠ 0 || !handleOk h || !(s.inst c.inst).llts.contains (bits h 53 48, bits h 35 32) then e.fail ⟨7, 0, 0⟩
    let key := (c.regs.gpr a).datum.toNat
    let mode := h % 2
    modify (fun s => (s.endGroup e.core e.set).onCtx e.core e.set (fun c => { c with await := .probe op mode (bits h 53 48) (bits h 35 32) key s.now false s.now c.cls }))
    modify (fun s => s.inject { type := 1, cls := c.cls, dst := bits h 53 48, llt := bits h 35 32, tid := c.tid, key := key, arg := op + 4 * mode })
    throw .wait

/-! ### Pairs (R138 to R141) -/

/-- Register operands of a short operation in field order (Table 04-10, R142). G31 of RET has no field: its operand code is free between D and S (log entry 2). -/
def Short.opds (x : Short) (r : Regs) (free : Bool) : List Opd :=
  let d := r.gpr x.d
  let s := r.gpr x.s
  match x.op with
  | 0x01 => [⟨s, 7, anyType, true⟩]
  | 0x02 => arithOpds .add 6 7 d s
  | 0x03 => arithOpds .sub 6 7 d s
  | 0x04 => [⟨d, 6, tyIntRaw, false⟩, ⟨s, 7, tyIntRaw, false⟩]
  | 0x05 => [⟨d, 6, tyIntRaw, false⟩, ⟨s, 7, tyIntRaw, false⟩]
  | 0x06 => [⟨d, 6, tyIntRaw, false⟩, ⟨s, 7, tyIntRaw, false⟩]
  | 0x07 => [⟨s, 7, tyIntRaw, false⟩]
  | 0x08 => [⟨s, 7, tyInt, false⟩]
  | 0x09 => [⟨d, 6, tyIntRaw, false⟩, ⟨s, 7, tyIntRaw, false⟩]
  | 0x0A => [⟨d, 6, tyIntRaw, false⟩, ⟨s, 7, tyIntRaw, false⟩]
  | 0x0B => [⟨d, 6, tyIntRaw, false⟩, ⟨s, 7, tyIntRaw, false⟩]
  | 0x0C => cmpOpds 6 7 d s
  | 0x0D => cmpOpds 6 7 d s
  | 0x0E => [⟨d, 6, tyIntPtr, false⟩]
  | 0x0F => [⟨d, 6, tyIntPtr, false⟩]
  | 0x11 => [⟨d, 6, tyIntRaw, false⟩]
  | 0x12 => [⟨d, 6, tyIntRaw, false⟩]
  | 0x13 => [⟨d, 6, tyIntRaw, false⟩]
  | 0x14 => [⟨s, 7, tyPtr, false⟩]
  | 0x15 => [⟨d, 6, tyPtr, true⟩, ⟨s, 7, anyType, true⟩]
  | 0x16 => [⟨s, 7, tyPtr, false⟩]
  | 0x17 => [⟨s, 7, tyPtr, false⟩]
  | 0x18 => [⟨r.gpr 31, if free then 6 else 7, tyPtr, false⟩]
  | _ => []

/-- The effect of a short operation on registers alone, from the registers read before anything is written. -/
def Short.value (x : Short) (r : Regs) : Regs → Regs :=
  let d := r.gpr x.d
  let s := r.gpr x.s
  let i : TWord := ⟨word x.s, Tag.int⟩
  let her := r.her
  match x.op with
  | 0x01 => fun q => q.setG x.d s
  | 0x02 => fun q => q.setG x.d (arithRes .add her d s)
  | 0x03 => fun q => q.setG x.d (arithRes .sub her d s)
  | 0x04 => fun q => q.setG x.d (logicRes .and her d s)
  | 0x05 => fun q => q.setG x.d (logicRes .or her d s)
  | 0x06 => fun q => q.setG x.d (logicRes .xor her d s)
  | 0x07 => fun q => q.setG x.d ⟨word (2 ^ 64 - 1 - s.datum.toNat), logicTag her s s⟩
  | 0x08 => fun q => q.setG x.d (arithRes .neg her s s)
  | 0x09 => fun q => q.setG x.d (logicRes .shl her d s)
  | 0x0A => fun q => q.setG x.d (logicRes .shr her d s)
  | 0x0B => fun q => q.setG x.d (logicRes .sar her d s)
  | 0x0C => fun q => q.setNzcv (flagsSub d.datum.toNat s.datum.toNat 0)
  | 0x0D => fun q => q.setNzcv (flagsTst (Nat.land d.datum.toNat s.datum.toNat))
  | 0x0E => fun q => q.setG x.d (arithRes .add her d i)
  | 0x0F => fun q => q.setG x.d (arithRes .sub her d i)
  | 0x10 => fun q => q.setG x.d ⟨word x.s, resTag her Tag.int⟩
  | 0x11 => fun q => q.setG x.d (logicRes .shl her d i)
  | 0x12 => fun q => q.setG x.d (logicRes .shr her d i)
  | 0x13 => fun q => q.setG x.d (logicRes .sar her d i)
  | 0x1A => fun q => q.setG x.d ⟨word s.tag.toNat, resTag her Tag.int⟩
  | _ => id

/-- Perform a short operation other than a branch: what it will write. -/
def Env.short (e : Env) (x : Short) : Effect := do
  let r ← e.regs
  if x.op = 0x14 then e.load8 x.d (r.gpr x.s).datum.toNat
  else if x.op = 0x15 then e.store8 (r.gpr x.d).datum.toNat (r.gpr x.s) 7 false
  else return e.onRegs (x.value r)

/-- Perform slot B: a branch or YIELD retires the pair itself; anything else retires it at the next address. -/
def Env.shortLast (e : Env) (x : Short) : Effect := do
  let r ← e.regs
  match x.op with
  | 0x16 => e.jump (r.gpr x.s).datum.toNat none
  | 0x17 =>
    if condHolds x.d r.nzcv then e.jump (r.gpr x.s).datum.toNat none
    else do
      let n ← e.next
      return fun s => s.retire e.core e.set n false false
  | 0x18 => e.jump (r.gpr 31).datum.toNat none
  | 0x19 => e.yieldTo
  | _ => do
    let f ← e.short x
    let n ← e.next
    return fun s => (f s).retire e.core e.set n false false

/-- The target of a taken branch in slot B. -/
def Short.target (x : Short) (r : Regs) : Option Nat :=
  if x.op = 0x16 ∨ (x.op = 0x17 ∧ condHolds x.d r.nzcv) then some (r.gpr x.s).datum.toNat
  else if x.op = 0x18 then some (r.gpr 31).datum.toNat
  else none

/-- Where slot B raises an exception: slot A's address is checked before it, and slot A's memory word too unless the exception is of step 8; a device space access of slot A is not made (R140, R142). -/
def Env.slotB (e : Env) (x y : Short) (r : Regs) : M PUnit := fun s =>
  match ({ e with slot := 1 } : Env).shortLast y s with
  | .error (.fault f k) _ =>
    (do
      if x.isMem then
        let ra ← if x.op = 0x14 then e.address 0 (r.gpr x.s).datum.toNat 8 else e.address 1 (r.gpr x.d).datum.toNat 8
        if f.vec ≠ 5 && f.vec ≠ 6 && !inDev ra then
          let _ ← e.short x
      throw (.fault f k) : M PUnit) s
  | _ => .ok () s

/-- A pair: pairing, then the operand checks of both slots, then both operations, then both writes (R140 to R142). -/
def Env.pair (e : Env) (x y : Short) : M PUnit := do
  let eb := { e with slot := 1 }
  match pairBreach x y with
  | some (k, why) => throw (.fault ⟨2, 0, e.w + why * 2 ^ 32⟩ k)
  | none => do
    let r ← e.regs
    let s ← get
    e.check (x.opds r s.freeBool)
    eb.check (y.opds r s.freeBool)
    e.slotB x y r
    let f ← e.short x
    let g ← eb.shortLast y
    modify (fun s => g (f s))

/-! ### Rows -/

/-- MBAR (R261). -/
def execMbar (core set : Nat) (s : State) : Out :=
  .next (s.issue core set (fun i => i == .mbar) (fun e _ => e.mbar))

/-- The IOBAR at a set's PC. -/
def State.iobarIns (s : State) (core set : Nat) : State := s.issue core set (fun i => i == .iobar) (fun e _ => e.iobar)

/-- IOBAR (R262). -/
def execIobar (core set : Nat) (s : State) : Out := .next (s.iobarIns core set)

/-- FSYNC (R199). -/
def execFsync (core set : Nat) (s : State) : Out :=
  .next (s.issue core set (fun i => i == .fsync) (fun e _ => e.fsync))

/-- ISYNC (R173). -/
def execIsync (core set : Nat) (s : State) : Out :=
  .next (s.issue core set (fun i => i == .isync) (fun e _ => e.isync))

/-- YIELD (R180, R224). -/
def execYield (core set : Nat) (s : State) : Out :=
  .next (s.issue core set (fun i => i == .yield) (fun e _ => e.leap e.yieldTo))

/-- SIGNAL (R225). -/
def execSignal (core set : Nat) (s : State) : Out :=
  .next (s.issue core set (fun i => match i with | .signal _ => true | _ => false)
    (fun e i => match i with | .signal a => e.leap (e.signal a) | _ => pure ()))

/-- PAIRED_SHORT_OPERATIONS (R140). -/
def execPairedShortOperations (core set : Nat) (s : State) : Out :=
  .next (s.issue core set (fun i => match i with | .pair _ _ => true | _ => false)
    (fun e i => match i with | .pair x y => e.pair x y | _ => pure ()))

/-- The LLOCK, LTRY or LREL at a set's PC. -/
def State.lockIns (s : State) (core set : Nat) : State :=
  s.issue core set (fun i => match i with | .lock _ _ _ _ => true | .lrel _ _ _ => true | _ => false)
    (fun e i => match i with | .lock t d a b => e.commit (e.probe (b2n t) d a b) | .lrel d a b => e.commit (e.probe 2 d a b) | _ => pure ())

/-- LLOCK_LTRY (R360). -/
def execLlockLtry (core set : Nat) (s : State) : Out :=
  .next (s.issue core set (fun i => match i with | .lock _ _ _ _ => true | _ => false)
    (fun e i => match i with | .lock t d a b => e.commit (e.probe (b2n t) d a b) | _ => pure ()))

/-- LREL (R361). -/
def execLrel (core set : Nat) (s : State) : Out :=
  .next (s.issue core set (fun i => match i with | .lrel _ _ _ => true | _ => false)
    (fun e i => match i with | .lrel d a b => e.commit (e.probe 2 d a b) | _ => pure ()))

/-- Address a branch of a kind would go to, if it is taken. -/
def branchAim (r : Regs) : Ins → Option Nat
  | .b c x => if condHolds c r.nzcv then some (u64 (r.pc.toNat + x)) else none
  | .call x => some (u64 (r.pc.toNat + x))
  | .br a => some (r.gpr a).datum.toNat
  | .callr _ a => some (r.gpr a).datum.toNat
  | .ret a => some (r.gpr a).datum.toNat
  | .pair _ y => y.target r
  | _ => none

/-- The instruction at PC is a TGATE, or a normal-world branch to an enclave granule. -/
def State.gateFits (s : State) (core set : Nat) : Bool :=
  match s.front core set with
  | (_, .ok (i, _, _)) =>
    let c := s.ctx core set
    i == .tgate || (c.regs.encl == 0 && (match branchAim c.regs i with | some t => s.inEnclave c.inst t | none => false))
  | _ => true

/-- The branch, TGATE or pair of TOLL_GATE_ENTRY. -/
def Env.gateBody (e : Env) : Ins → M PUnit
  | .tgate => e.tgate
  | .b c x => e.branch c x
  | .call x => e.call x
  | .br a => e.branchReg a none
  | .callr d a => e.branchReg a (some d)
  | .ret a => e.branchReg a none
  | .pair x y => e.pair x y
  | _ => pure ()

/-- A restarted task whose PC lies in an enclave granule enters there as by a branch to it (R339). -/
def State.freshGate (s : State) (core set : Nat) : State :=
  let e : Env := { core := core, set := set, w := 0, am := 0 }
  let pc := (s.ctx core set).regs.pc.toNat
  Sys2Proof.Machine.finish core set (e.leap (e.jump pc none) s)

/-- TOLL_GATE_ENTRY: a branch to a Toll Gate with the entry, the TGATE itself, or the restart of R339 (R330 to R332). -/
def execTollGateEntry (core set : Nat) (s : State) : Out :=
  .next (if s.atGate core set then (if s.canIssue core set && (s.dueFault core set).isNone then s.freshGate core set else s)
    else if s.gateFits core set then
      s.issue core set (fun i => match i with | .tgate => true | .b _ _ => true | .call _ => true | .br _ => true | .callr _ _ => true | .ret _ => true | .pair _ _ => true | _ => false)
        (fun e i => e.gateBody i)
    else s)

end Sys2Proof.Machine
end

