-- ==== Sys2Proof/Machine/Waits.lean ====
section
/-! DEFINITION. What waiting instructions wait for: loads of lines and of device space, buffered stores, flushing reads and their failure (R54, R231, R238, R262 to R264). -/
namespace Sys2Proof.Machine

/-- A task that waits outside its slot can issue again. -/
def State.restart (s : State) (core set : Nat) : State :=
  (s.onCtx core set (fun c => { c with run := if c.run = .waitMem ∨ c.run = .waitBar ∨ c.run = .waitLock then .ready else c.run, since := s.now })).resched core

/-! ### Cacheable loads (R238) -/

/-- The next word of a line in flight arrives; after the last the line is installed (R238). -/
def State.wordArrives (s : State) (core : Nat) (f : Fill) : State :=
  if f.got < 31 then s.onCore core (fun c => { c with fills := c.fills.map (fun x => if x.la = f.la then { x with got := x.got + 1 } else x) })
  else ((s.onCore core (fun c => { c with fills := c.fills.filter (fun x => x.la != f.la) })).inClass f.cls).fillFor 1 (s.core core).phys f.la

/-- A load that waits for a word that has arrived, or for a line that is installed, can restart (R238). -/
def State.wakeLoad (s : State) (core set : Nat) : State :=
  match (s.ctx core set).await with
  | .line la k _ =>
    let come := match s.fillOf core la with | some f => f.has k | none => (s.hit 1 (s.core core).phys la).isSome || (s.hit 2 (s.core core).phys la).isSome
    if come then (s.onCtx core set (fun c => { c with sent := true, await := .none })).restart core set else s
  | _ => s

/-- Every load of a core that waits for a line is looked at after a word of it has come. -/
def State.wakeLoads (s : State) (core : Nat) : State := (List.range 68).foldl (fun s k => s.wakeLoad core k) s

/-- A granted request: the line is in flight from its addressed word on, and the load that waited restarts (R238). -/
def State.firstWord (s : State) (core set la k cls : Nat) : State :=
  let s := s.onCore core (fun c => { c with fills := c.fills ++ [{ la := la, first := k, got := 1, set := set, cls := cls }] })
  s.wakeLoads core

/-- LOAD_DATA_RETURN: the next word for a set's load. Its request is granted at its arbitration point first; then words arrive in ascending order from the addressed one on, each restarting the loads that wait for it, and the last installs the line (R43, R45, R46, R238). -/
def State.loadReturn (s : State) (core set : Nat) : State :=
  let c := s.ctx core set
  let more := fun (s : State) (f : Fill) => (s.wordArrives core f).wakeLoads core
  match c.await with
  | .line la k cls =>
    (match s.fillOf core la with
     | some f => more s f
     | none =>
       match s.memGrant (s.memPoint (s.core core).phys la) (core * 128 + set) with
       | some s => s.firstWord core set la k cls
       | none => s)
  | _ =>
    match (s.core core).fills.find? (fun f => f.set == set) with
    | some f => more s f
    | none => s

/-- LOAD_DATA_RETURN (R238). -/
def execLoadDataReturn (core set : Nat) (s : State) : Out := when (s.coreLive core && decide (set < 68)) s (s.loadReturn core set)

/-! ### Buffered stores (R264) -/

/-- A store of the buffer reaches device space in the class of its admission: the hub counts it as outstanding under its TID and path (R43, R54, R262). -/
def State.performDev (s : State) (e : WbEnt) (p : Nat × Nat) : State :=
  let v := match e.words with | x :: _ => x.datum.toNat | [] => 0
  let s : State := { s with devStores := s.devStores ++ [{ tid := e.tid, kind := p.1, num := p.2, addr := e.addr, cls := e.cls }] }
  if p.1 = 3 then s.sendCwrite e.cls p.2 e.addr e.tid v
  else s.hubWrite e.addr v e.tid

/-- The oldest entry of a core's buffer is performed, in commit order: not before the Cairn of its group is written, nor while its line is in flight (R238, R264, R372). -/
def State.performOldest (s : State) (core : Nat) : State :=
  match (s.core core).wb with
  | [] => s
  | e :: t =>
    if e.isOpen || (e.dev.isNone && (s.fillOf core e.addr).isSome) then s
    else
      let s := s.onCore core (fun c => { c with wb := t })
      match e.dev with
      | none => s.performEnt core e
      | some p => s.performDev e p

/-- STORE_PERFORMED (R264). -/
def execStorePerformed (core : Nat) (s : State) : Out := when s.runs s (s.performOldest core)

/-! ### Device-space loads (R54, R231) -/

/-- The load at a set's PC, when its device-space datum has come. -/
def State.loadIns (s : State) (core set : Nat) : State :=
  s.issue core set (fun i => match i with | .ld _ _ _ => true | .ldm _ _ _ => true | .pair _ _ => true | _ => false)
    (fun e i => match i with | .ld d a x => e.commit (e.ld d a x 1) | .ldm m a x => e.commit (e.ldm m a x) | .pair x y => e.pair x y | _ => pure ())

/-- The hub's answer to a device-space load of a set's task; for a task that is moving the hub keeps it (R231). -/
def State.devReply (s : State) (core set v : Nat) : State :=
  let c := s.ctx core set
  if c.run = .leaving ∧ c.sent then { s with outcomes := s.outcomes.put c.tid (.datum v) }
  else ((s.onCtx core set (fun c => { c with await := .datum v })).restart core set).loadIns core set

/-- What a set's task has sent: its own, or what the hub keeps while it moves (R231). -/
def State.sentBy (s : State) (core set : Nat) : Await :=
  let c := s.ctx core set
  if c.run = .leaving ∧ c.sent then s.outcomes.getD c.tid .none else c.await

/-- DEVICE_SPACE_LOAD_REPLY: a hub window answers with its register, an endpoint with its own datum (R52, R54). -/
def execDeviceSpaceLoadReply (core set datum : Nat) (s : State) : Out :=
  match s.sentBy core set with
  | .dev 1 _ _ _ => when s.runs s (s.devReply core set (u64 datum))
  | .dev 2 _ a _ => when s.runs s (s.devReply core set (u64 (s.hubRead a)))
  | _ => .next s

/-! ### IOBAR (R262, R263) -/

/-- A path has answered the flushing read of a task's IOBAR: its stores count no longer; after the last path an IOBAR that waits completes. An answer stamped at the end of the interval or later is none: the path fails (R39, R262). -/
def State.flushed (s : State) (core set : Nat) (p : Nat × Nat) : State :=
  let c := s.ctx core set
  match c.bars.find? (fun b => b.isOn p) with
  | none => s
  | some b =>
    if b.limit ≤ s.now ∧ b.kind ≠ 2 then (if c.barOn p then s.ioFail core set p false else s)
    else
      let s : State := { s with devStores := s.devStores.filter (fun d => !d.isOn c.tid p) }
      let s := s.onCtx core set (fun c => { c with bars := c.bars.filter (fun b => !b.isOn p) })
      if c.await = .iobar ∧ (s.ctx core set).bars = [] then (s.restart core set).iobarIns core set else s

/-- The path can answer a flushing read now: a live port, or the hub. -/
def State.pathUp (s : State) (kind num : Nat) : Bool := kind == 2 || (kind == 1 && !s.pathDown (1, num))

/-- FLUSHING_READ_ANSWER of a CXL or PCIe port (1) or the hub windows (2) (R262). -/
def execFlushingReadAnswer (core set kind num : Nat) (s : State) : Out := when (s.runs && s.pathUp kind num) s (s.flushed core set (kind, num))

/-- IOBAR_TIMEOUT: a path has not answered within COMPLETION; a hub window never fails (R262). -/
def execIobarTimeout (core set : Nat) (s : State) : Out :=
  let c := s.ctx core set
  match minBy (·.limit) (c.bars.filter (fun b => b.kind != 2)) with
  | some b => when (s.runs && c.barOn (b.kind, b.num)) s ((s.advanceTo b.limit).ioFail core set (b.kind, b.num) false)
  | none => .next s

/-- A waiting IOBAR or queued lock probe gives up its slot as a miss does; pending FP Imprecise comes first (R197, R263, R362). -/
def State.slotWait (s : State) (core set : Nat) (run : Run) : State :=
  if (s.ctx core set).regs.pend ≠ 0 then s.takeException core set ⟨9, 0, 0⟩ 0
  else (s.onCtx core set (fun c => { c with run := run, since := s.now })).resched core

/-- IOBAR_SLOT_RELEASE: an IOBAR, or a queued LLOCK, has waited longer than QTM.MISS (R263, R362). -/
def execIobarSlotRelease (core set : Nat) (s : State) : Out :=
  let c := s.ctx core set
  let ok := s.runs && decide (set < 64) && c.run == .ready && s.holdsSlot core set && c.regs.miss != 0 && s.otherReady core set
  match c.await with
  | .iobar => when (ok && !c.bars.isEmpty) s (s.slotWait core set .waitBar)
  | .probe _ _ _ _ _ _ true _ _ => when ok s (s.slotWait core set .waitLock)
  | _ => .next s

/-- CXP_LINK_DOWN: every IOBAR that waits on the port fails, and the 10 µs of R255 begin (R255, R262). -/
def execCxpLinkDown (port : Nat) (s : State) : Out :=
  when (s.runs && decide (port < 12) && ((s.port port).link == 1 || (s.port port).link == 2)) s
    ((s.onPort port (fun x => { x with link := 0, downAt := s.now, change := s.now })).failBars (1, port))

end Sys2Proof.Machine
end

