-- ==== Sys2Proof/Machine/Gates.lean ====
section
/-! DEFINITION. Gating of cores and units, the deferral behind holds, core and engine reset (R346, R413, R414, R421). -/
namespace Sys2Proof.Machine

/-! ### Units (R414, R421) -/

/-- A unit stops taking requests: those that wait in it return to the pool, and its running one completes (R414). -/
def State.quietUnit (s : State) (dfu : Bool) (n : Nat) (f : Unit → Unit) : State :=
  let u := s.unit dfu n
  (((s.onUnit dfu n (fun u => { f u with waiting := none })).toPool dfu u.waiting.toList)).failBlocks

/-- The self-test of a unit ends: in service if it passes, withdrawn if it fails (R312, R414). -/
def State.unitTested (s : State) (dfu : Bool) (n : Nat) (pass : Bool) : State :=
  let c := unitOf dfu n
  if pass then (s.onUnit dfu n (fun u => { u with state := 1 })).setHealth c 0 0
  else ((s.onUnit dfu n (fun u => { u with state := 2 })).setHealth c 5 3).logRec 0x12 c [c]

/-- RESULT and DURATION_US of a self-test (SELFTEST_RUN, ENGINE_RESET). -/
def testBody (pass : Bool) (us : Nat) : List Byte := beBytes 1 (if pass then 1 else 2) ++ beBytes 3 0 ++ beBytes 4 us

/-! ### Core reset (R413) -/

/-- Sets of a core that hold a task. -/
def State.busySets (s : State) (n : Nat) : List Nat := (List.range 64).filter (fun k => (s.ctx n k).run != .empty)

/-- No exception chain is active, and no task is on its way in or out. -/
def State.coreIdle (s : State) (n : Nat) : Bool :=
  (s.core n).chain.isEmpty && (s.core n).swapping.isNone && (s.busySets n).all (fun k => (s.ctx n k).run != .leaving)

/-- The core takes no more work until its self-test result: stores performed, caches cleaned and invalidated (R413 step 3). -/
def State.coreDown (s : State) (n w seq start : Nat) : State :=
  let s := s.onCore n (fun c => { c with fills := [], hwins := [] })
  let s := (List.range 64).foldl (fun s _ => s.performOldest n) s
  let p := (s.core n).phys
  let s := ((s.flushUnits 2 p (p + 1)).dropUnits 0 p (p + 1)).dropUnits 1 p (p + 1)
  s.onCore n (fun c => { c with reset := some (w, seq, start, false), slot0 := none, slot1 := none, tlb := [], world := none, tries := 0, retries := [], fifth := none })

/-- A core reset goes on as far as it can: it waits for exception chains, saves every resident task, and resets the core (R413 steps 1 to 3). -/
def State.coreResetGo (s : State) (n w seq : Nat) : State :=
  let start := match (s.core n).reset with | some (_, _, t, _) => t | none => s.now
  let wait := fun (s : State) => s.onCore n (fun c => { c with reset := some (w, seq, start, true) })
  if !s.coreIdle n then wait s
  else
    match (s.busySets n).find? (fun k => (s.ctx n k).regs.pend != 0) with
    | some k => (wait (s.enterTrap n k ⟨9, 0, 0⟩ 0)).resched n
    | none =>
      let s := (s.busySets n).foldl (fun s k => s.saveOr n k n (s.ctx n k).outState) s
      if (s.busySets n).isEmpty then s.coreDown n w seq start else (wait s).resched n

/-- The self-test of a core being reset has a result: the core goes on, an Outrider takes its number, or it is retired (R413 step 4). -/
def State.coreResetDone (s : State) (n w seq : Nat) (pass : Bool) : State :=
  let p := (s.core n).phys
  let s := (s.onPCore p (fun k => { k with test := if pass then 1 else 2 })).onCore n (fun c => { c with reset := none })
  let s := if pass then s else s.logRec 0x12 (unitCode 1 p) [unitCode 1 p]
  let r := if pass then 1 else if (s.pickOutrider p).isSome then 2 else 3
  let s : State :=
    if pass then
      let h := (s.core n).hints
      (h.foldl (fun s t => s.wakeHint n t 1) (s.onCore n (fun c => { c with hints := [] }))).resched n
    else match s.pickOutrider p with
      | some o => ((s.onPCore o (fun k => { k with testing := false })).onCore n (fun c => { c with sparing := some (o, 5), firstErr := s.now })).sparingDone n
      | none => s.retireCore n 5
  let body := beBytes 1 r ++ beBytes 7 0
  if w < 514 then (s.recordSeq 0x0701 w seq (stOk, body)).endMb w stOk body else s

/-! ### Deferral (R346) -/

/-- A request is deferred once; its re-execution adds no second wait. -/
def State.defer (s : State) (kind n mode code : Nat) (q : MReq) : State × Option Reply :=
  if s.deferred.any (fun d => d.win == q.w && d.code == code && d.seq == q.seq) then (s, some (stDeferred, []))
  else ({ s with deferred := s.deferred ++ [{ kind := kind, number := n, mode := mode, end_ := s.now + 40000000, win := q.w, code := code, seq := q.seq }] }, some (stDeferred, []))

/-- The gating or reset that was deferred is performed. -/
def State.performDeferred (s : State) (d : Deferred) : State :=
  if d.code = 0x0701 then s.coreResetGo d.number 1024 d.seq
  else if d.code = 0x0702 then s.quietUnit (d.kind == 3) d.number (fun u => { u with state := 3 })
  else if d.kind = 1 then (s.onCore d.number (fun c => { c with gated := d.mode, slot0 := none, slot1 := none }))
  else s.quietUnit (d.kind == 3) d.number (fun u => { u with gated := d.mode })

/-- A deferred request ends: DEFERRED_OUTCOME to its window (Table 02-19). -/
def State.endDeferred (s : State) (d : Deferred) (st : Nat) : State :=
  ({ s with deferred := s.deferred.erase d }).notify d.win 9 st d.code d.seq

/-- HOLD_RELEASE: every hold on the block is released inside the interval; one at its end is too late (R39, R346). -/
def execHoldRelease (kind number : Nat) (s : State) : Out :=
  when (s.runs && s.holdUsers kind number == 0) s
    ((s.deferred.filter (fun d => d.kind == kind && d.number == number)).foldl
      (fun s d => if s.now < d.end_ then (s.performDeferred d).endDeferred d stOk else s.endDeferred d stHoldActive) s)

/-- DEFERRED_GATING_EXPIRY: the block was held throughout the 10 ms (R346). -/
def execDeferredGatingExpiry (kind number : Nat) (s : State) : Out :=
  match s.deferred.find? (fun d => d.kind == kind && d.number == number) with
  | some d => when (s.runs && decide (0 < s.holdUsers kind number)) s ((s.advanceTo d.end_).endDeferred d stHoldActive)
  | none => .next s

/-! ### BLOCK_GATE and BLOCK_UNGATE (R421) -/

/-- GATED state of a block: 0 no, 1 clock, 2 power. -/
def State.gatedOf (s : State) (kind n : Nat) : Nat := if kind = 1 then (s.core n).gated else (s.unit (kind == 3) n).gated

/-- An instance holds task sets on the core. -/
def State.hasSets (s : State) (n : Nat) : Bool := s.insts.any (fun p => decide (0 < p.2.sets.getD n 0))

/-- BLOCK_GATE (0x0703). -/
def cmdBlockGate : Command where
  code := 0x0703
  fmt := fun s q => q.len == 8 && s.blockIs (fld q.body 0 1) (fld q.body 2 2) && (fld q.body 1 1 == 1 || fld q.body 1 1 == 2) && zeros q.body 4 4
  run := fun s q =>
    let k := fld q.body 0 1
    let m := fld q.body 1 1
    let n := fld q.body 2 2
    let g := s.gatedOf k n
    let busy := k != 1 && (s.unit (k == 3) n).running.isSome
    if g = m ∨ g = 2 then (s, if busy && (s.win q.w).inExec && g == m then none else some (stOk, []))
    else if 0 < s.holdUsers k n then s.defer k n m 0x0703 q
    else if k = 1 then
      if s.hasSets n then (s, some (stBusy, [])) else (s.onCore n (fun c => { c with gated := m, slot0 := none, slot1 := none }), some (stOk, []))
    else
      let s := s.quietUnit (k == 3) n (fun u => { u with gated := m })
      (s, if busy then none else some (stOk, []))

/-- A power-gated block that fails its test stays gated, FAILED; one that passes comes back (R421). -/
def State.ungate (s : State) (k n : Nat) (pass : Bool) : State :=
  let u := if k = 1 then unitCode 1 (s.core n).phys else unitOf (k == 3) n
  let s := if k = 1 ∧ s.gatedOf k n = 2 then s.onPCore (s.core n).phys (fun c => { c with test := if pass then 1 else 2 }) else s
  if s.gatedOf k n = 2 ∧ !pass then (s.setHealth u 4 3).logRec 0x12 u [u]
  else
    let s := if s.gatedOf k n = 2 ∧ (s.health u).state = 4 ∧ (s.health u).cause = 3 then s.setHealth u 0 0 else s
    if k = 1 then (s.onCore n (fun c => { c with gated := 0 })).resched n else s.onUnit (k == 3) n (fun u => { u with gated := 0 })

/-- BLOCK_UNGATE (0x0704), with the result of the self-test of a power-gated block. -/
def cmdBlockUngate (pass : Bool) (us : Nat) : Command where
  code := 0x0704
  fmt := fun s q => q.len == 8 && s.blockIs (fld q.body 0 1) (fld q.body 2 2) && zeros q.body 1 1 && zeros q.body 4 4
  run := oncePerSeq 0x0704 (fun s q =>
    let k := fld q.body 0 1
    let n := fld q.body 2 2
    let g := s.gatedOf k n
    if g = 0 then (s, some (stOk, testBody true 0))
    else (s.ungate k n pass, some (stOk, testBody (g == 1 || pass) (if g = 1 then 0 else us))))

/-! ### CORE_RESET and ENGINE_RESET (R413, R414) -/

/-- CORE_RESET (0x0701): the row repeats while exception chains end. -/
def cmdCoreReset : Command where
  code := 0x0701
  fmt := fun s q => q.len == 8 && decide (fld q.body 0 2 < s.workCores) && zeros q.body 2 6
  run := oncePerSeq 0x0701 (fun s q =>
    let n := fld q.body 0 2
    let c := s.core n
    match c.reset with
    | some (w, seq, _, wait) =>
      if w = q.w ∧ seq = q.seq then (if wait then s.coreResetGo n q.w q.seq else s, none) else (s, some (stBusy, []))
    | none =>
      if c.retired then (s, some (stBadField, []))
      else if c.sparing.isSome then (s, some (stBusy, []))
      else if 0 < s.holdUsers 1 n then s.defer 1 n 0 0x0701 q
      else (s.coreResetGo n q.w q.seq, none))

/-- CORE_RESET_CHAIN_TIMEOUT: a chain is still active after 10 ms (R413 step 1). -/
def execCoreResetChainTimeout (core : Nat) (s : State) : Out :=
  match (s.core core).reset with
  | some (w, _, t, true) =>
    when s.runs s
      (let s1 := s.advanceTo (t + 10 * msT)
       (s1.onCore core (fun c => { c with reset := none })).endMb w stBusy [])
  | _ => .next s

/-- CORE_SELF_TEST_RESULT (R413 step 4); a reset that waits goes on first where it can. -/
def execCoreSelfTestResult (core : Nat) (pass : Bool) (s : State) : Out :=
  match (s.core core).reset with
  | some (w, seq, _, wait) =>
    let s1 := if wait then s.coreResetGo core w seq else s
    when s.runs s
      (match (s1.core core).reset with
       | some (_, _, _, false) => s1.coreResetDone core w seq pass
       | _ => s1)
  | none => .next s

/-- A Channel Engine, standby or failed, is reset and tested (R293, R414). -/
def State.resetChe (s : State) (n : Nat) (pass : Bool) : State :=
  if pass then s.enginePassed n
  else ((s.onEngine n (fun e => { e with tested := true })).logRec 0x12 (unitCode 6 n) [n]).toEngine n 4 3

/-- ENGINE_RESET (0x0702), with the result of the self-test; the row repeats while a unit's running request completes. -/
def cmdEngineReset (pass : Bool) (us : Nat) : Command where
  code := 0x0702
  fmt := fun _ q =>
    let u := fld q.body 0 4
    q.len == 8 && zeros q.body 4 4 && ((u / 256 == 6 && decide (u % 256 < 32)) || ((u / 256 == 7 || u / 256 == 8) && decide (u % 256 < 8)))
  run := oncePerSeq 0x0702 (fun s q =>
    let u := fld q.body 0 4
    let n := u % 256
    if u / 256 = 6 then
      if (s.engine n).state = 1 ∨ (s.route (routeOf n)).switching.isSome then (s, some (stBusy, []))
      else (s.resetChe n pass, some (stOk, testBody pass us))
    else
      let dfu := u / 256 == 8
      if 0 < s.holdUsers (if dfu then 3 else 2) n then s.defer (if dfu then 3 else 2) n 0 0x0702 q
      else
        let s := if (s.unit dfu n).state = 1 then (s.quietUnit dfu n (fun x => { x with state := 2 })).setHealth (unitOf dfu n) 5 0x0B else s
        if (s.unit dfu n).running.isSome then (s, none) else (s.unitTested dfu n pass, some (stOk, testBody pass us)))

/-- CORE_RESET (R413). -/
def execCoreReset (w : Nat) (s : State) : Out := serve cmdCoreReset w s
/-- ENGINE_RESET (R414). -/
def execEngineReset (w : Nat) (pass : Bool) (durationUs : Nat) (s : State) : Out := serve (cmdEngineReset pass durationUs) w s
/-- BLOCK_GATE (R421). -/
def execBlockGate (w : Nat) (s : State) : Out := serve cmdBlockGate w s
/-- BLOCK_UNGATE (R421). -/
def execBlockUngate (w : Nat) (pass : Bool) (durationUs : Nat) (s : State) : Out := serve (cmdBlockUngate pass durationUs) w s

end Sys2Proof.Machine
end

