-- ==== Sys2Proof/Machine/Logbook.lean ====
section
/-! DEFINITION. The Logbook commands, its hourly work, temperature and THERMTRIP (R388 to R394, R440). -/
namespace Sys2Proof.Machine

/-- TOD units in an hour. -/
def hourT : Nat := 14400000000000

/-- A Service Processor serves on standby power alone (R89, R393). -/
def State.onStandby (s : State) : Bool := s.phase = .held

/-- SOURCE: 0 live, 1 standby power (R393). -/
def State.logSource (s : State) : Nat := b2n s.onStandby

/-- Whole hours of VDD_CORE are added to the device total (R392). -/
def State.foldHours (s : State) : State :=
  let h := (s.now - s.log.hoursFrom) / hourT
  if h = 0 ∨ s.phase = .held then s
  else (s.count 0xFF00 (fun c => { c with a := c.a + h })).onLog (fun l => { l with hoursFrom := l.hoursFrom + h * hourT })

/-- The counters a command answers from: live, or those of the newest TOTALS record (R393). -/
def State.totalsOf (s : State) : Totals := if s.onStandby then s.log.totals else s.foldHours.log.live

/-- Counters of a unit or device total. -/
def State.ctrOf (s : State) (u : Nat) : UnitCtr := s.totalsOf.ctr.getD u {}

/-- Units of a class (Table 13-7). -/
def classUnits (cls : Nat) : Nat :=
  match cls with
  | 0x01 => 80
  | 0x02 => 80
  | 0x03 => 64
  | 0x04 => 4
  | 0x05 => 12
  | 0x06 => 32
  | 0x07 => 8
  | 0x08 => 8
  | 0x09 => 32
  | 0x0A => 12
  | 0x0B => 6
  | 0x0C => 2
  | 0x0D => 6
  | 0x0E => 1
  | 0x0F => 1
  | 0x10 => 1
  | 0xFF => 14
  | _ => 0

/-- CLASS, FIRST and COUNT name units that exist (R394). -/
def rangeOk (q : MReq) (most : Nat) : Bool :=
  let n := fld q.body 4 2
  q.len == 8 && zeros q.body 1 1 && zeros q.body 6 2 && decide (1 ≤ n) && decide (n ≤ most) && decide (fld q.body 2 2 + n ≤ classUnits (fld q.body 0 1))

/-- The unit codes a request names. -/
def MReq.units (q : MReq) : List Nat := (List.range (fld q.body 4 2)).map (fun k => unitCode (fld q.body 0 1) (fld q.body 2 2 + k))

/-- HEALTH_GET (0x0503). -/
def cmdHealthGet : Command where
  code := 0x0503
  fmt := fun _ q => rangeOk q 128 && fld q.body 0 1 != 0xFF
  run := fun s q => (s, some (stOk, q.units.flatMap (fun u => beBytes 8 (s.health u).word)))

/-- LOG_INFO (0x0600; Table 13-12). -/
def cmdLogInfo : Command where
  code := 0x0600
  fmt := fmtNone
  run := fun s _ =>
    let l := s.log
    let t := s.ctrOf 0xFF00
    (s, some (stOk, beBytes 8 l.lseq ++ beBytes 8 (match l.events.getLast? with | some r => r.lseq | none => 0) ++ beBytes 4 l.keep.length ++ beBytes 4 442368 ++
      beBytes 8 l.lastSeal ++ beBytes 4 t.a ++ beBytes 4 t.b ++ beBytes 8 l.totals.lseq ++ beBytes 1 s.logSource ++ beBytes 15 0))

/-- LOG_READ (0x0601): records of an area in LSEQ order; NEXT is the LSEQ of the first not returned. -/
def cmdLogRead : Command where
  code := 0x0601
  fmt := fun _ q =>
    q.len == 0x10 && (fld q.body 0 1 == 1 || fld q.body 0 1 == 2) && zeros q.body 1 3 && decide (1 ≤ fld q.body 4 4) && decide (fld q.body 4 4 ≤ 13)
  run := fun s q =>
    let l := (if fld q.body 0 1 = 1 then s.log.events else s.log.keep).reverse.dropWhile (fun r => decide (r.lseq < fld q.body 8 8))
    let rs := l.take (fld q.body 4 4)
    let next := match l.drop (fld q.body 4 4) with
      | [] => 0
      | r :: _ => r.lseq
    (s, some (stOk, beBytes 4 rs.length ++ beBytes 4 0 ++ beBytes 8 next ++ rs.flatMap LogRec.bytes))

/-- LOG_COUNTERS_GET (0x0602; Table 13-13). -/
def cmdLogCountersGet : Command where
  code := 0x0602
  fmt := fun _ q => rangeOk q 55
  run := fun s q =>
    (s, some (stOk, beBytes 1 s.logSource ++ beBytes 7 0 ++ q.units.flatMap (fun u =>
      let c := s.ctrOf u
      beBytes 8 c.ce ++ beBytes 8 c.ue ++ beBytes 8 c.a ++ beBytes 8 c.b)))

/-- LOG_HISTOGRAM_GET (0x0603). -/
def cmdLogHistogramGet : Command where
  code := 0x0603
  fmt := fun _ q =>
    q.len == 8 && zeros q.body 1 1 && zeros q.body 4 4 &&
      ((fld q.body 0 1 == 1 && decide (fld q.body 2 2 < 32)) || (fld q.body 0 1 == 2 && decide (fld q.body 2 2 < 4)))
  run := fun s q =>
    let t := s.totalsOf
    let k := fld q.body 2 2
    let h := if fld q.body 0 1 = 1 then (List.range 36).flatMap (fun b => beBytes 4 (t.temp.getD (k * 64 + b) 0)) else (List.range 17).flatMap (fun b => beBytes 8 (t.lat.getD (k * 32 + b) 0))
    (s, some (stOk, beBytes 1 s.logSource ++ beBytes 7 0 ++ h))

/-- LOG_NOTE (0x0604): at most 16 within a second. -/
def cmdLogNote : Command where
  code := 0x0604
  fmt := fun _ q => q.len == 0x58 && q.body.all (fun b => decide (b.toNat < 128))
  run := oncePerSeq 0x0604 (fun s q =>
    let recent := s.log.notes.filter (fun t => decide (s.now < t + secT))
    if 16 ≤ recent.length then (s, some (stBusy, []))
    else
      let s := s.onLog (fun l => { l.append s.now 0x15 0 s.standbyFlag [] (q.body ++ beBytes 8 q.seq) with notes := s.now :: recent })
      (s, some (stOk, beBytes 8 s.log.lseq)))

/-- A TSK that may write the Logbook runs (R389). -/
def State.tskUp (s : State) : Bool :=
  match s.phase with
  | .running => true
  | .recovery => true
  | _ => false

/-- A TOTALS record is written into the next slot of the ring (R391). -/
def State.writeTotals (s : State) : State :=
  let s := s.foldHours
  s.onLog (fun l => { l with lseq := l.lseq + 1, totals := { l.live with lseq := l.lseq + 1 }, older := (l.totals :: l.older).take 15, newestTod := u64 s.now })

/-- LOGBOOK_TOTALS: every hour (R391). -/
def execLogbookTotals (s : State) : Out :=
  let s1 := s.advanceTo (s.log.lastHour + hourT)
  when s.tskUp s ((s1.writeTotals).onLog (fun l => { l with lastHour := s1.now }))

/-- LOGBOOK_HOURLY_SEAL: an hour in which records were appended ends (R390). -/
def execLogbookHourlySeal (s : State) : Out :=
  let s1 := s.advanceTo (s.log.sealHour + hourT)
  when s.tskUp s (s1.onLog (fun l => { l.seal s1.now s1.standbyFlag with sealHour := s1.now }))

/-- Bin of a temperature in tenths of a degree (R392). -/
def tempBin (t : Int) : Nat := if t < -400 then 0 else min 35 ((t + 400) / 50).toNat

/-- TEMPERATURE_READING: once a second, or a second time 10 µs later, which the histogram does not count (R392, R440). -/
def execTemperatureReading (sensor : Nat) (tenths : Int) (again : Bool) (s : State) : Out :=
  let s1 : State := { s with pins := { s.pins with temp := s.pins.temp.put sensor tenths } }
  when (s.clocked && decide (sensor < 32)) s
    (if again then s1
     else s1.onLog (fun l => { l with live := { l.live with temp := l.live.temp.upd (sensor * 64 + tempBin tenths) 0 (fun c => min (c + 1) 0xFFFFFFFF) } }))

/-- The sensor with the highest reading, and the reading; the lowest number among equals. -/
def State.hottest (s : State) : Nat × Int :=
  s.pins.temp.foldl (fun b p => if b.2 < p.2 then (p.1, p.2) else b) (match s.pins.temp with | p :: _ => (p.1, p.2) | [] => (0, 0))

/-- THERMTRIP: a sensor at or above 130 °C on two readings, or the analog comparator: every unit stops (R440). -/
def execThermtrip (analog : Bool) (s : State) : Out :=
  let h := s.hottest
  when (s.phase != .held && !s.pins.thermtrip && (analog || decide (1300 ≤ h.2))) s
    (let s1 := s.logSealed 0xC 0 [h.1, i64 h.2]
     { s1 with phase := .stopped, pins := { s1.pins with thermtrip := true } })

/-- HEALTH_GET (R394). -/
def execHealthGet (w : Nat) (s : State) : Out := serve cmdHealthGet w s
/-- LOG_INFO (R393). -/
def execLogInfo (w : Nat) (s : State) : Out := serve cmdLogInfo w s
/-- LOG_READ (R389). -/
def execLogRead (w : Nat) (s : State) : Out := serve cmdLogRead w s
/-- LOG_COUNTERS_GET (R392). -/
def execLogCountersGet (w : Nat) (s : State) : Out := serve cmdLogCountersGet w s
/-- LOG_HISTOGRAM_GET (R392). -/
def execLogHistogramGet (w : Nat) (s : State) : Out := serve cmdLogHistogramGet w s
/-- LOG_NOTE (R394). -/
def execLogNote (w : Nat) (s : State) : Out := serve cmdLogNote w s

end Sys2Proof.Machine
end

