-- ==== Sys2Proof/Machine/Relay.lean ====
section
/-! DEFINITION. Relay events: frames, training, lanes and links, the graph, flits at their destination, probe limits, and the Time-of-Day exchange (R348 to R368). -/
namespace Sys2Proof.Machine

/-- Unit code of a Relay port (Table 13-7). -/
def relayUnit (p : Nat) : Nat := unitCode 0x0B p

/-- STATE of a port changes (Table 12-11). -/
def State.toPort (s : State) (p st : Nat) : State := s.onRport p (fun x => { x with state := st, change := u64 s.now })

/-! ### The graph (R355) -/

/-- Links of this device as its TOPO gives them: port, neighbour, neighbour port. -/
def State.ownLinks (s : State) : List (Nat × Nat × Nat) :=
  ((List.range 6).filter (fun p => (s.rport p).carries)).map (fun p => (p, (s.rport p).peer, (s.rport p).peerPort))

/-- Links of any device of the graph. -/
def State.linksOf (s : State) (d : Nat) : List (Nat × Nat × Nat) :=
  if d = s.relay.self then s.ownLinks
  else s.relay.graph.filterMap (fun l => if l.a = d then some (l.pa, l.b, l.pb) else if l.b = d then some (l.pb, l.a, l.pa) else none)

/-- Send the neighbour list of a device on a port. -/
def State.sendTopo (s : State) (p d version : Nat) : State :=
  s.portSend p { type := 0xB, cls := 0, dst := (s.rport p).peer, src := d, stamp := u64 s.now, arg := version % 64 + p * 256, result := Config.topoLinks (s.linksOf d) }

/-- Ports that carry TOPO: up, or DUPLICATE. -/
def State.topoPorts (s : State) : List Nat := (List.range 6).filter (fun p => (s.rport p).state == 2 || (s.rport p).state == 5)

/-- Flood this device's list after a change (R355, R368). -/
def State.flood (s : State) : State :=
  let v := (s.relay.version + 1) % 64
  let s := s.onRelay (fun r => { r with version := v })
  s.topoPorts.foldl (fun s p => s.sendTopo p s.relay.self v) s

/-- Tell a new neighbour the lists of the other devices. -/
def State.tellAll (s : State) (p : Nat) : State :=
  (s.connected.filter (fun d => d != s.relay.self)).foldl (fun s d => s.sendTopo p d (s.relay.seen.getD d 0)) s

/-! ### Time-of-Day master (R357, R358) -/

/-- A Relay TOD event: CLOCK_EVENT and its record (Table 12-5). -/
def State.todEvent (s : State) (code master : Nat) : State :=
  let s := s.onRelay (fun r => { r with lastEvent := u64 s.now })
  (s.notify 512 7 0 (0x10000 + code * 256 + master) (i64 s.relay.offset)).logRec 0xA (unitCode 0xE 0) [code, master, i64 s.relay.offset]

/-- The master of the connected set: the lowest device ID. -/
def State.lowest (s : State) : Nat := (minBy id s.connected).getD s.relay.self

/-- The connected set has changed: the master is chosen again. -/
def State.chooseMaster (s : State) : State :=
  let old := s.relay.master
  let new := s.lowest
  if new = old then s
  else
    let s := if old ≠ s.relay.self ∧ !s.connected.contains old then s.todEvent 3 old else s
    (s.onRelay (fun r => { r with master := new, sync := if new = r.self then 0 else 2, offset := if new = r.self then 0 else r.offset })).todEvent 1 new

/-- The task set that holds a TID's task: core and set. -/
def State.whereTid (s : State) (tid : Nat) : Option (Nat × Nat) :=
  (s.ctxs.find? (fun p => p.2.run != .empty && p.2.tid == tid && decide (p.1 % 128 < 64))).map (fun p => (p.1 / 128, p.1 % 128))

/-- What a task awaits, wherever it is kept (R231). -/
def State.awaited (s : State) (tid : Nat) : Await :=
  match s.whereTid tid with
  | some (core, set) => s.sentBy core set
  | none => s.outcomes.getD tid .none

/-- Change what a task awaits. -/
def State.setAwaited (s : State) (tid : Nat) (a : Await) : State :=
  match s.whereTid tid with
  | some (core, set) =>
    if (s.ctx core set).run = .leaving ∧ (s.ctx core set).sent then { s with outcomes := s.outcomes.put tid a } else s.onCtx core set (fun c => { c with await := a })
  | none => { s with outcomes := s.outcomes.put tid a }

/-- A Courier probe that ends without an answer is counted from its issue (R401). -/
def State.countUnanswered (s : State) (tid : Nat) : State :=
  match s.awaited tid with
  | .probe _ _ _ _ _ stamp _ _ cls => if cls = 0 then s.countLat 3 stamp else s
  | _ => s

/-- A final result word reaches its task: the instruction retires, or the hub keeps the word (R231, R360). -/
def State.lockResult (s : State) (tid w : Nat) : State :=
  match s.whereTid tid with
  | none => s.setAwaited tid (.datum w)
  | some (core, set) =>
    let c := s.ctx core set
    let s := s.setAwaited tid (.datum w)
    if c.run = .leaving ∧ c.sent then s else (s.restart core set).lockIns core set

/-- The interval of a probe has ended: 1 ms from its injection without an answer, or 1 ms without a route to the home of a queued one (R39, R363). -/
def State.probeLate (s : State) : Await → Bool
  | .probe _ _ home _ _ stamp queued _ _ =>
    if queued then (match s.relay.noRoute.find home with | some t => decide (t + msT ≤ s.now) | none => false) else decide (stamp + msT ≤ s.now)
  | _ => false

/-- A probe ends without an answer (R363). -/
def State.failProbe (s : State) (tid : Nat) : State := (s.countUnanswered tid).lockResult tid (resultWord false 0 0xA)

/-- Every probe whose interval has ended ends without an answer (R39, R363). -/
def State.failLate (s : State) : State :=
  let tids := (s.ctxs.filterMap (fun p => if p.2.run = .empty then none else some p.2.tid)) ++ s.outcomes.map (·.1)
  tids.foldl (fun s t => if s.probeLate (s.awaited t) then s.failProbe t else s) s

/-! ### What a reroute changes (R364, R365, R368) -/

/-- A probe that has had no final answer is sent again with RESENT, in the class of its admission (R43, R364). -/
def State.resend (s : State) (tid : Nat) (a : Await) : State :=
  match a with
  | .probe op mode home llt key stamp _ _ cls =>
    s.sendFlit { type := 1, cls := cls, dst := home, src := s.relay.self, llt := llt, resent := true, tid := tid, key := key, stamp := u64 stamp, arg := op + 4 * mode }
  | _ => s

/-- Every unanswered probe of this device is sent again (R364). -/
def State.resendAll (s : State) : State :=
  let own := s.ctxs.filterMap (fun p => if p.2.run = .empty ∨ (p.2.run = .leaving ∧ p.2.sent) then none else some (p.2.tid, p.2.await))
  (own ++ s.outcomes).foldl (fun s p => s.resend p.1 p.2) s

/-- The routes are computed again: devices lost and gained against the set before (R262, R357, R364, R365, R368). -/
def State.reroute (s : State) (before : List Nat) (lost : Bool) : State :=
  let now := s.connected
  let gone := before.filter (fun d => !now.contains d)
  let fresh := now.filter (fun d => d != s.relay.self && !s.relay.greeted.contains d)
  let s := s.failLate
  let s := s.onRelay (fun r => { r with
    noRoute := gone.foldl (fun t d => t.put d s.now) (now.foldl (fun t d => t.del d) r.noRoute)
    greeted := r.greeted ++ fresh })
  let s := gone.foldl (fun s d => s.failBars (3, d)) s
  let s := if lost || now.any (fun d => !before.contains d) then s.resendAll else s
  let s := fresh.foldl (fun s d => s.inject { type := 5, cls := 0, dst := d, arg := 2 }) s
  s.chooseMaster

/-! ### Ports -/

/-- The link of a port is gone: its unacknowledged frames too, and flits not yet sent take other routes (R352, R368). -/
def State.dropLink (s : State) (p st : Nat) : State :=
  let x := s.rport p
  let before := s.connected
  let had := x.carries
  let s := (s.toPort p st).onRport p (fun x => { x with lanes := 0, peer := 0xFF, peerPort := 0xFF, sent := [], out := [], rxSeq := 0xFFFF, rxBad := false, txSeq := 0, txAck := 0xFFFF, credits := (64, 64, 64), peerTx := none, myTx := none, peerRx := none, transit := [] })
  let s := s.onRelay (fun r => { r with graph := r.graph.filter (fun l => !((l.a == r.self && l.pa == p) || (l.b == r.self && l.pb == p))) })
  if !had then s
  else
    let s := (s.logRec 9 (relayUnit p) [p, 3]).flood
    let s := (x.out.filter (fun f => f.type != 0xB)).foldl (fun s f => s.sendFlit f) s
    s.reroute before true

/-- A link is lost: the port is down (R368). -/
def State.linkLoss (s : State) (p : Nat) : State := (s.dropLink p 3).setHealth (relayUnit p) 4 5

/-- A port retrains (R349, R352). -/
def State.retrain (s : State) (p : Nat) : State :=
  ((s.toPort p 1).onRport p (fun x => { x with retrains := x.retrains + 1, replayAt := [] })).countA (relayUnit p)

/-- The peer's ID is this device's, or that of another device: its port is already linked elsewhere in the graph (R355). -/
def State.duplicate (s : State) (p peer peerPort : Nat) : Bool :=
  peer == s.relay.self ||
    s.relay.graph.any (fun l => (l.a == peer && l.pa == peerPort && !(l.b == s.relay.self && l.pb == p)) || (l.b == peer && l.pb == peerPort && !(l.a == s.relay.self && l.pa == p)))

/-- Training ends with a working link: LONG, DUPLICATE or up (R349, R350, R355). -/
def State.linkUp (s : State) (p lanes peer peerPort flight : Nat) : State :=
  let before := s.connected
  let st := if 32 < flight then 4 else if s.duplicate p peer peerPort then 5 else 2
  let s := (s.toPort p st).onRport p (fun x => { x with lanes := lanes, peer := peer, peerPort := peerPort, flight := flight })
  let s := s.onRelay (fun r => { r with lastFrame := r.lastFrame.put p s.now })
  let s := s.setHealth (relayUnit p) (if lanes = 4 then 1 else 0) (if lanes = 4 then 6 else 0)
  if st = 4 then s
  else if st = 5 then s.flood
  else
    let l : Link := { a := s.relay.self, pa := p, b := peer, pb := peerPort }
    let s := s.onRelay (fun r => { r with graph := r.graph.filter (fun l => !((l.a == r.self && l.pa == p) || (l.b == r.self && l.pb == p))) ++ [l] })
    ((s.flood.tellAll p).pump p).reroute before false

/-- A half of the lanes is whole (R349). -/
def halfWhole (bad : List Nat) : Bool := bad.all (fun l => decide (4 ≤ l)) || bad.all (fun l => decide (l < 4))

/-- RELAY_TRAINING_COMPLETE; no lanes is a port that cannot train (R349, R350, R355). -/
def execRelayTrainingComplete (port lanes peer peerPort flight : Nat) (s : State) : Out :=
  let x := s.rport port
  let n := if lanes = 0 || !halfWhole x.badLanes then 0 else if lanes = 8 ∧ x.badLanes = [] then 8 else 4
  when (s.runs && x.enabled && !s.rlyEth port && (x.state == 1 || x.state == 3)) s
    (if n = 0 then (if x.state = 3 then s else s.linkLoss port)
     else if x.carries && (x.peer != peer || x.peerPort != peerPort) then (s.dropLink port 1).linkUp port n peer peerPort flight
     else s.linkUp port n peer peerPort flight)

/-- RELAY_LANE_FAILURE (R349). -/
def execRelayLaneFailure (port lane : Nat) (s : State) : Out :=
  let x := s.rport port
  let bad := if x.badLanes.contains lane then x.badLanes else x.badLanes ++ [lane]
  let s1 := s.onRport port (fun x => { x with badLanes := bad })
  when (s.runs && decide (lane < 8) && (x.state == 1 || x.state == 2 || x.state == 4 || x.state == 5)) s
    (if halfWhole bad then ((s1.retrain port).logRec 9 (relayUnit port) [port, 2]) else s1.linkLoss port)

/-- RELAY_LINK_LOSS: no valid frame for 10 µs (R368). -/
def execRelayLinkLoss (port : Nat) (s : State) : Out :=
  let x := s.rport port
  when (s.runs && (x.state == 2 || x.state == 4 || x.state == 5)) s ((s.advanceTo (s.relay.lastFrame.getD port 0 + 10 * usT)).linkLoss port)

/-! ### Frames (R351 to R353) -/

/-- Add the buffers a peer has freed; a class never holds more than 64. -/
def addCredits (a b : Nat × Nat × Nat) : Nat × Nat × Nat := (min 64 (a.1 + b.1), min 64 (a.2.1 + b.2.1), min 64 (a.2.2 + b.2.2))

/-- Frames acknowledged by an FSEQ leave the replay store. -/
def ackSent (sent : List (Nat × List Flit)) (ack : Nat) : List (Nat × List Flit) :=
  if sent.any (fun e => e.1 == ack) then (sent.dropWhile (fun e => e.1 != ack)).drop 1 else sent

/-- What a frame received whole changes in its port. -/
def RPort.take (p : RPort) (f : RelayFrame) (now : Nat) : RPort :=
  let t := now % 2 ^ 32
  { p with
    rxSeq := f.fseq, rxBad := false, txAck := f.ack
    sent := ackSent p.sent f.ack
    credits := addCredits p.credits f.credits
    peerTx := if f.lkind = 1 then some (f.ldata, t) else p.peerTx
    peerRx := if f.lkind = 2 then some f.ldata else p.peerRx }

/-- A slot of a frame: IDLE is empty, a type never sent is discarded and counted, LONG carries nothing and DUPLICATE only TOPO. -/
def State.slot (s : State) (p : Nat) (f : Flit) : State :=
  if f.type = 0 ∨ (s.rport p).state = 4 ∨ ((s.rport p).state = 5 ∧ f.type ≠ 0xB) then s
  else if 0xC ≤ f.type then s.onRport p (fun x => { x with discards := x.discards + 1 })
  else s.onRelay (fun r => { r with rx := r.rx ++ [(p, f)] })

/-- The first bad frame of a run: later ones are discarded until the replay; more than 16 replays within 1 ms retrain the port (R352). -/
def State.replay (s : State) (p : Nat) : State :=
  let s := ((s.onRport p (fun x => { x with rxBad := true, replays := x.replays + 1, replayAt := s.now :: x.replayAt.filter (fun t => decide (s.now < t + msT)) })).countB (relayUnit p)).logRec 9 (relayUnit p) [p, 0]
  if 16 < (s.rport p).replayAt.length then (s.retrain p).logRec 9 (relayUnit p) [p, 1] else s

/-- RELAY_FRAME (R351 to R354). -/
def execRelayFrame (port : Nat) (frame : RelayFrame) (s : State) : Out :=
  let x := s.rport port
  let s1 := s.onRelay (fun r => { r with lastFrame := r.lastFrame.put port s.now })
  when (s.runs && (x.state == 2 || x.state == 4 || x.state == 5)) s
    (if !frame.ok then (if x.rxBad then s else s.replay port)
     else if frame.fseq = (x.rxSeq + 1) % 65536 then
       ((frame.slots.take 6).foldl (fun s f => s.slot port f) (s1.onRport port (fun x => x.take frame s.now))).pump port
     else if x.rxBad ∨ (x.rxSeq + 65536 - frame.fseq) % 65536 < 256 then s1
     else s1.replay port)

/-! ### Flits (R354, R366) -/

/-- The first flit of a port and type that is the oldest of its class there. -/
def firstFlit (port type : Nat) : List Nat → List (Nat × Flit) → Option Flit
  | _, [] => none
  | seen, (p, f) :: t =>
    if p ≠ port ∨ seen.contains f.cls then firstFlit port type seen t
    else if f.type = type then some f
    else firstFlit port type (f.cls :: seen) t

/-- A flit for another device goes on with HOPS + 1, or is discarded at 63 (R354). -/
def State.forward (s : State) (port : Nat) (f : Flit) : State :=
  if 63 ≤ f.hops then s.onRport port (fun x => { x with discards := x.discards + 1 }) else s.sendFlit { f with hops := f.hops + 1 }

/-- A flit of a type is handled: here, or on its way. -/
def onFlit (port type : Nat) (act : Flit → State → State) (s : State) : Out :=
  match firstFlit port type [] s.relay.rx with
  | none => .next s
  | some f =>
    let s1 := s.onRelay (fun r => { r with rx := r.rx.erase (port, f) })
    when s.runs s (if f.dst = s.relay.self then act f s1 else s1.forward port f)

/-- PROBE at its home (R361, R366). -/
def execProbe (port : Nat) (s : State) : Out := onFlit port 1 (fun f s => s.lockProbe f) s

/-- An ANSWER or GRANT at the requesting device; one for a task with no such probe outstanding, or after the end of its interval, is discarded (R39, R362 to R364). -/
def State.lockAnswer (s : State) (f : Flit) : State :=
  match s.awaited f.tid with
  | .probe op mode home llt key stamp q ok cls =>
    if home ≠ f.src ∨ llt ≠ f.llt ∨ key ≠ f.key ∨ op + 4 * mode ≠ f.arg % 8 then s
    else if s.probeLate (.probe op mode home llt key stamp q ok cls) then s.failProbe f.tid
    else
      let s := if f.cls = 0 ∧ f.result % 256 ≠ 0xB then s.countLat 3 stamp else s
      if f.result % 256 = 0xB then s.setAwaited f.tid (.probe op mode home llt key stamp true ok cls) else s.lockResult f.tid f.result
  | _ => s

/-- ANSWER (R362). -/
def execAnswer (port : Nat) (s : State) : Out := onFlit port 2 (fun f s => s.lockAnswer f) s

/-- GRANT (R362). -/
def execGrant (port : Nat) (s : State) : Out := onFlit port 3 (fun f s => s.lockAnswer f) s

/-- WITHDRAW at the home (R362). -/
def execWithdraw (port : Nat) (s : State) : Out := onFlit port 4 (fun f s => s.withdrawWait f.llt f.key f.tid f.src) s

/-- The holds and waits a GONE ends: of a task, an instance or a device (R365). -/
def goneSel (f : Flit) (tid dev : Nat) : Bool :=
  dev == f.src && (if f.arg % 4 = 0 then tid == f.tid else if f.arg % 4 = 1 then tid / 65536 == f.tid / 65536 else f.arg % 4 == 2)

/-- GONE (R365). -/
def execGone (port : Nat) (s : State) : Out := onFlit port 5 (fun f s => s.dropHolds (goneSel f)) s

/-- CWRITE at the home: a write of LCTL, acknowledged by CDATA (R367). -/
def execCwrite (port : Nat) (s : State) : Out :=
  onFlit port 6 (fun f s =>
    (if f.arg = 0x28 ∧ (s.llt f.llt).live then s.lctl f.llt f.result else s).inject { type := 8, cls := f.cls, dst := f.src, llt := f.llt, tid := f.tid, arg := f.arg }) s

/-- CREAD at the home (R367). -/
def execCread (port : Nat) (s : State) : Out :=
  onFlit port 7 (fun f s =>
    s.inject { type := 8, cls := f.cls, dst := f.src, llt := f.llt, tid := f.tid, arg := f.arg, result := (s.llt f.llt).reg f.arg }) s

/-- The datum of a device-space load reaches its task, wherever it is kept (R231). -/
def State.devDatum (s : State) (tid v : Nat) : State :=
  match s.awaited tid with
  | .dev 3 _ _ _ =>
    (match s.whereTid tid with
     | some (core, set) => s.devReply core set v
     | none => s.setAwaited tid (.datum v))
  | _ => s

/-- An acknowledged store is outstanding no longer (R262). -/
def State.ackStore (s : State) (f : Flit) : State :=
  { s with devStores := s.devStores.eraseP (fun d => d.isOn f.tid (3, f.src) && lltOf d.addr == (f.llt, f.arg)) }

/-- CDATA: the datum of a CREAD, or the acknowledgment of a CWRITE, oldest first (R367). -/
def State.cdataDone (s : State) (f : Flit) : State :=
  let is := fun (e : Nat × Nat × Nat × Nat × Bool) => e.1 == f.tid && e.2.1 == f.src && e.2.2.1 == f.llt && e.2.2.2.1 == f.arg
  match s.relay.creqs.find? is with
  | none => s
  | some e =>
    let s := s.onRelay (fun r => { r with creqs := r.creqs.eraseP is })
    if e.2.2.2.2 then s.devDatum f.tid f.result else s.ackStore f

/-- CDATA (R367). -/
def execCdata (port : Nat) (s : State) : Out := onFlit port 8 (fun f s => s.cdataDone f) s

/-- FLUSH at the home (R262, R367). -/
def execFlush (port : Nat) (s : State) : Out :=
  onFlit port 9 (fun f s => s.inject { type := 0xA, cls := f.cls, dst := f.src, tid := f.tid }) s

/-- FLUSH_ACK: the path has answered the IOBAR of the task (R262). -/
def execFlushAck (port : Nat) (s : State) : Out :=
  onFlit port 0xA (fun f s => match s.whereTid f.tid with | some (core, set) => s.flushed core set (3, f.src) | none => s) s

/-- A neighbour list of another device: new ones change the graph and go on to the other ports (R355, R368). -/
def State.takeTopo (s : State) (port : Nat) (f : Flit) (links : List (Nat × Nat × Nat)) : State :=
  let d := f.src
  if d = s.relay.self ∨ s.relay.seen.find d = some (f.arg % 64) then s
  else
    let before := s.connected
    let self := s.relay.self
    let old := s.relay.graph
    let mine := fun (l : Link) => l.a == self || l.b == self
    let kept := old.filter (fun l => mine l || !(l.a == d || l.b == d))
    let new : List Link := (links.filter (fun l => l.2.1 != self && l.2.1 != 0xFF)).map (fun l => { a := d, pa := l.1, b := l.2.1, pb := l.2.2 })
    let lost := (old.filter (fun l => !mine l && (l.a == d || l.b == d))).any (fun l => !new.any (fun k => (k.a == l.a && k.pa == l.pa) || (k.a == l.b && k.pa == l.pb)))
    let s := s.onRelay (fun r => { r with graph := kept ++ new, seen := r.seen.put d (f.arg % 64) })
    let s := (s.topoPorts.filter (fun p => p != port)).foldl (fun s p => s.portSend p { f with dst := (s.rport p).peer, hops := min 63 (f.hops + 1) }) s
    s.reroute before lost

/-- TOPO (R355). -/
def execTopo (port : Nat) (links : List (Nat × Nat × Nat)) (s : State) : Out := onFlit port 0xB (fun f s => s.takeTopo port f links) s

/-! ### Limits (R362, R363, R365) -/

/-- PROBE_TIMEOUT: no ANSWER or GRANT within 1 ms of the injection (R363). -/
def execProbeTimeout (core set : Nat) (s : State) : Out :=
  match s.sentBy core set with
  | .probe _ _ _ _ _ stamp false _ _ => when s.runs s ((s.advanceTo (stamp + msT)).failProbe (s.ctx core set).tid)
  | _ => .next s

/-- QUEUED_PROBE_ROUTE_LOSS: a queued LLOCK whose device has had no route to the home for 1 ms (R363). -/
def execQueuedProbeRouteLoss (core set : Nat) (s : State) : Out :=
  match s.sentBy core set with
  | .probe _ _ home _ _ _ true _ _ =>
    (match s.relay.noRoute.find home with
     | some t => when (s.runs && !s.reaches home) s ((s.advanceTo (t + msT)).failProbe (s.ctx core set).tid)
     | none => .next s)
  | _ => .next s

/-- WAIT_LIMIT_EXPIRY: the waiter's limit ends; it is removed and answered (R362). -/
def execWaitLimitExpiry (llt key tid : Nat) (s : State) : Out :=
  match ((s.llt llt).keys.getD key {}).waits.find? (fun w => w.1 == tid) with
  | some w => when s.runs s ((s.advanceTo (w.2.2.2.1 + (s.llt llt).waitUs * usT)).grantQueue llt key)
  | none => .next s

/-- HOME_DEVICE_UNREACHABLE: no route to a device for 10 ms (R365). -/
def execHomeDeviceUnreachable (device : Nat) (s : State) : Out :=
  match s.relay.noRoute.find device with
  | some t => when (s.runs && !s.reaches device) s ((s.advanceTo (t + 10 * msT)).dropHolds (fun _ d => d == device))
  | none => .next s

/-! ### Time of Day (R357, R358) -/

/-- A difference of 32-bit stamps, signed. -/
def stampDiff (a b : Nat) : Int := sext 32 ((a % 2 ^ 32 + 2 ^ 32 - b % 2 ^ 32) % 2 ^ 32)

/-- The offset from the neighbour, with the link delay taken as symmetric, when an exchange is complete. -/
def RPort.offset (p : RPort) : Option Int :=
  match p.peerTx, p.myTx, p.peerRx with
  | some (tx, at'), some mine, some rx => some ((stampDiff at' tx - stampDiff rx mine) / 2)
  | _, _, _ => none

/-- The offset is slewed away; SYNCED within 2h ns at h links, SYNCING otherwise; above 1 ms it is reported (R357, R358). -/
def State.correct (s : State) (off : Int) : State :=
  let h := (distFrom s.relay.graph s.relay.master).getD s.relay.self 0
  let sync := if off.natAbs ≤ 8 * h then 1 else 2
  let was := s.relay.sync
  let s := (s.onRelay (fun r => { r with offset := off, sync := sync })).onClock (fun c => { c with slew := -off })
  let s := if sync = 1 ∧ was ≠ 1 then s.todEvent 2 s.relay.master else s
  if msT < off.natAbs then s.todEvent 4 s.relay.master else s

/-- TOD_STAMP_EXCHANGE: once every 1 ms on each link (R357). -/
def execTodStampExchange (port : Nat) (s : State) : Out :=
  let x := s.rport port
  let s1 := s.advanceTo (x.exchAt + msT)
  let s2 := s1.onRport port (fun p => { p with exchAt := s1.now, myTx := some (s1.now % 2 ^ 32), peerTx := none, peerRx := none })
  when (s.runs && x.state == 2) s
    (if s.relay.master = s.relay.self ∨ s.nextHop s.relay.master ≠ some port then s2
     else match x.offset with
       | some o => s2.correct o
       | none => s2)

end Sys2Proof.Machine
end

