-- ==== Sys2Proof/Machine/Faults.lean ====
section
/-! DEFINITION. Sparing and self-test commands, completions of self-tests, and error injection (R377, R385, R386, R394). -/
namespace Sys2Proof.Machine

/-- SPARE_STATUS (0x0504; Table 13-11). -/
def cmdSpareStatus : Command where
  code := 0x0504
  fmt := fmtNone
  run := fun s _ =>
    let left := fun (ch : Bool) => ((List.range 80).filter (s.usable ch)).length
    let entry := fun p => beBytes 1 (s.pcore p).role ++ beBytes 1 (b2n (isChPhys p)) ++ beBytes 1 ((s.lcoreOf p).getD 0xFF) ++ beBytes 1 (s.pcore p).test
    (s, some (stOk, beBytes 1 (left true) ++ beBytes 1 (left false) ++ beBytes 6 0 ++ (List.range 80).flatMap entry))

/-- CORE_SPARE (0x0505): DONE at the first issue on the Outrider. -/
def cmdCoreSpare : Command where
  code := 0x0505
  fmt := fun s q => q.len == 8 && decide (fld q.body 0 2 < s.workCores) && zeros q.body 2 6
  run := fun s q =>
    let n := fld q.body 0 2
    let c := s.core n
    match s.ranUnder 0x0505 q with
    | some r => (s, if c.spareWin = some q.w then none else some r)
    | none =>
      if c.retired then (s, some (stBadField, []))
      else if c.sparing.isSome ∨ c.reset.isSome then (s, some (stBusy, []))
      else if (s.pickOutrider c.phys).isNone then (s, some (stExhausted, []))
      else ((s.recordSeq 0x0505 q.w q.seq (stOk, [])).startSparing n 4 (some q.w), none)

/-- SELFTEST_RUN can test the unit. -/
def State.testable (s : State) (u : Nat) : Bool :=
  let n := u % 256
  match u / 256 with
  | 0x01 => (s.pcore n).role == 2 || (s.pcore n).role == 3
  | 0x06 => [2, 3, 4].contains (s.engine n).state
  | 0x07 => (s.bcu n).state == 2
  | 0x08 => (s.dfu n).state == 2
  | 0x0C => (s.sp n).state != 1
  | _ => false

/-- The test changes no role, but an Outrider that fails becomes FAILED (SELFTEST_RUN, R385). -/
def State.selftest (s : State) (u : Nat) (pass : Bool) : State :=
  let n := u % 256
  let s := if u / 256 = 1 then s.onPCore n (fun k => { k with test := if pass then 1 else 2, testing := false }) else s
  if pass then s
  else
    let s := s.logRec 0x12 u [u]
    if u / 256 = 1 ∧ (s.pcore n).role = 2 then (s.onPCore n (fun k => { k with role := 3 })).setHealth u 4 3 else s

/-- SELFTEST_RUN (0x0506), with the result of the test. -/
def cmdSelftestRun (pass : Bool) (us : Nat) : Command where
  code := 0x0506
  fmt := fun _ q => q.len == 8 && zeros q.body 4 4 && decide (fld q.body 0 4 / 256 ≤ 0x10) && decide (fld q.body 0 4 % 256 < classUnits (fld q.body 0 4 / 256))
  run := fun s q =>
    let u := fld q.body 0 4
    if s.testable u then (s.selftest u pass, some (stOk, testBody pass us)) else (s, some (stBusy, []))

/-- The self-test of the SP on standby (Table 13-5, R57). -/
def State.spTested (s : State) (p : Nat) (pass : Bool) : State :=
  if (s.sp p).state ≠ 2 ∧ (s.sp p).state ≠ 3 then s
  else if pass then s.onSp p (fun x => { x with bistFails := 0 })
  else ((((s.onSp p (fun x => { x with bistFails := min 3 (x.bistFails + 1) })).countB (spUnit p)).logRec 0x12 (spUnit p) [spUnit p])).toSp p 4 3

/-- The one self-test of a failed engine (R293). -/
def State.cheTested (s : State) (n : Nat) (pass : Bool) : State :=
  let e := s.engine n
  if (e.state = 4 ∨ e.state = 5) ∧ !e.tested ∧ (s.route (routeOf n)).switching.isNone then s.resetChe n pass else s

/-- SELF_TEST_COMPLETE: the test of a core, an engine, a unit or the standby SP ends (R385, R386, R414). -/
def execSelfTestComplete (unit : Nat) (pass : Bool) (s : State) : Out :=
  let n := unit % 256
  when (s.runs && decide (n < classUnits (unit / 256))) s
    (match unit / 256 with
     | 0x01 => s.coreTested n pass
     | 0x06 => s.cheTested n pass
     | 0x07 => if (s.bcu n).state = 3 ∧ (s.bcu n).running.isNone then s.unitTested false n pass else s
     | 0x08 => if (s.dfu n).state = 3 ∧ (s.dfu n).running.isNone then s.unitTested true n pass else s
     | 0x0C => s.spTested n pass
     | _ => s)

/-! ### Injection (R394, Table 13-14) -/

/-- Classes a kind of injection takes. -/
def injectClasses (kind : Nat) : List Nat :=
  match kind with
  | 1 => [1]
  | 2 => [1]
  | 3 => [2, 3]
  | 4 => [2, 3]
  | 5 => [6]
  | 6 => [0xC]
  | 7 => [7]
  | 8 => [8]
  | 9 => [5, 0xB]
  | _ => []

/-- ARG is in range for its kind. -/
def injectArg (kind unit arg : Nat) : Bool :=
  if kind = 3 then decide (arg < wayCount (if unit / 256 = 2 then 3 else 4))
  else if kind = 4 then true
  else if kind = 9 then decide (1 ≤ arg) && decide (arg ≤ 1000000)
  else arg == 0

/-- Keys, instance × 4096 + number, of the enclaves with a task homed on a core (R345). -/
def State.coreEncls (s : State) (core : Nat) : List Nat :=
  (s.encls.filter (fun p => p.2.bound.any (fun b => bits (s.tsaGet b.2 0x10) 22 16 == core))).map (·.1)

/-- Keys of the enclaves an injection reaches: those that hold its unit under R345, and that of an address in an enclave granule (R344). -/
def State.injectReaches (s : State) (kind unit arg : Nat) : List Nat :=
  let n := unit % 256
  let key := fun (r : Option Req) => match r with | some q => [q.inst * 4096 + q.encl] | none => []
  (if kind = 4 then (match s.emap.find (arg / 65536) with | some m => [m.inst * 4096 + m.encl] | none => []) else []) ++
    (match unit / 256 with
     | 0x01 => (match s.lcoreOf n with | some k => s.coreEncls k | none => [])
     | 0x07 => if 0 < s.holdUsers 2 n then key (s.bcu n).running else []
     | 0x08 => if 0 < s.holdUsers 3 n then key (s.dfu n).running else []
     | _ => [])

/-- EINV is set and reaches every enclave concerned: each gave CONSENT (R344). -/
def State.einvOk (s : State) (kind unit arg : Nat) : Bool :=
  (s.injectReaches kind unit arg).all (fun k => s.dbgEinv && (s.encls.getD k {}).consent)

/-- ERROR_INJECT (0x0A02): the fault follows within 1 ms. -/
def cmdErrorInject : Command where
  code := 0x0A02
  fmt := fun _ q =>
    let k := fld q.body 0 1
    let u := fld q.body 4 4
    q.len == 0x10 && zeros q.body 1 3 && decide (1 ≤ k) && decide (k ≤ 9) && decide (u / 256 ≤ 0x10) && decide (u % 256 < classUnits (u / 256)) && injectArg k u (fld q.body 8 8)
  run := oncePerSeq 0x0A02 (fun s q =>
    let k := fld q.body 0 1
    let u := fld q.body 4 4
    let a := fld q.body 8 8
    if !s.dbgInv then (s, some (stNotPermitted, []))
    else if !s.einvOk k u a then (s, some (stNotPermitted, []))
    else if !(injectClasses k).contains (u / 256) then (s, some (stBadField, []))
    else
      let s : State := (s.injectReaches k u a).foldl (fun s n => s.debugged (n / 4096) (n % 4096)) s
      (s.onLog (fun l => { l.append s.now 0x16 u s.standbyFlag [] q.body with inject := l.inject ++ [(k, u, a)] }), some (stOk, [])))

/-- Parity errors on the group of a physical core: n checks in a row fail (R373, R374). -/
def State.injectParity (s : State) (phys n : Nat) : State :=
  match s.lcoreOf phys with
  | none => s
  | some k => (List.range n).foldl (fun s _ => if s.coreChecks k then s.checkFailure k 0 else s) s

/-- An uncorrectable error in the line at a real address, in a slice or channel that holds it. -/
def State.injectLine (s : State) (lvl unit addr : Nat) : State :=
  match (s.ms.frames.between (fkey lvl unit 0 0) (fkey lvl (unit + 1) 0 0)).find? (fun f => f.2.la == addr / 256) with
  | some f => s.uncorrectable lvl unit (f.1 / 256 % 2 ^ 20) (f.1 % 256) (2 ^ (addr / 8 % 32))
  | none => s

/-- A link is down for some microseconds. -/
def State.injectLink (s : State) (unit us : Nat) : State :=
  let p := unit % 256
  if unit / 256 = 5 then
    if (s.port p).link = 1 ∨ (s.port p).link = 2 then (s.onPort p (fun x => { x with link := 0, downAt := s.now, change := s.now, injected := true })).failBars (1, p) else s
  else if 10 ≤ us ∧ ((s.rport p).state = 2 ∨ (s.rport p).state = 4 ∨ (s.rport p).state = 5) then s.linkLoss p
  else s

/-- The injected fault as a real one. -/
def State.injectFault (s : State) (kind unit arg : Nat) : State :=
  let n := unit % 256
  let lvl := if unit / 256 = 2 then 3 else 4
  match kind with
  | 1 => s.injectParity n 1
  | 2 => s.injectParity n 3
  | 3 => s.correctable lvl n arg
  | 4 => s.injectLine lvl n arg
  | 5 => (match s.activeEng (routeOf n) with
    | some e =>
      let s := s.failEngine e 2
      if (s.route (routeOf n)).switching.isSome then s.onRoute (routeOf n) (fun x => { x with injected := true }) else s
    | none => s)
  | 6 => (match s.svc.holder with | some p => s.sfwFault p | none => s)
  | 7 => s.onBcu n (fun u => { u with inject := true })
  | 8 => s.onDfu n (fun u => { u with inject := true })
  | 9 => s.injectLink unit arg
  | _ => s

/-- FAULT_INJECTION: an accepted injection takes place; its records carry FLAGS.INJECTED (R394). -/
def execFaultInjection (idx : Nat) (s : State) : Out :=
  match s.log.inject[idx]? with
  | none => .next s
  | some (k, u, a) =>
    let s1 := s.onLog (fun l => { l with inject := l.inject.eraseIdx idx, injected := true })
    when s.runs s ((s1.injectFault k u a).onLog (fun l => { l with injected := false }))

/-- SPARE_STATUS (R377). -/
def execSpareStatus (w : Nat) (s : State) : Out := serve cmdSpareStatus w s
/-- CORE_SPARE (R377). -/
def execCoreSpare (w : Nat) (s : State) : Out := serve cmdCoreSpare w s
/-- SELFTEST_RUN (R394). -/
def execSelftestRun (w : Nat) (pass : Bool) (durationUs : Nat) (s : State) : Out := serve (cmdSelftestRun pass durationUs) w s
/-- ERROR_INJECT (R394). -/
def execErrorInject (w : Nat) (s : State) : Out := serve cmdErrorInject w s

end Sys2Proof.Machine
end

