-- ==== Sys2Proof/Machine/InstReset.lean ====
section
/-! DEFINITION. Instance reset and the boot task (R113 to R116). -/
namespace Sys2Proof.Machine

/-! ### The boot task (R113 step 6, R404) -/

/-- Header of a boot task's TSA; a write that faults is not retried. -/
def State.bootHeader (s : State) (i core cls : Nat) : State :=
  let tid := i * 65536
  [(0x00, tid), (0x08, core * 65536), (0x10, dstate core cls false 0 0 3), (0x18, 0), (0x20, tid), (0x28, 0), (0x70, 0)].foldl
    (fun s p => s.tsaPut tid p.1 p.2) s

/-- The device starts task 0 of an instance on a core at BOOT_ADDR, with VBA from BOOT_ADDR and AUTH 1 (R113, R175). -/
def State.bootTask (s : State) (i core : Nat) : State :=
  let tid := i * 65536
  let s := s.onInst i (fun n => { n with vba := n.bootAddr / 4096 * 4096 })
  let cls := s.evalClass tid 0
  let s := s.bootHeader i core cls
  match s.emptySet core with
  | none => s
  | some k =>
    let r : Regs := { pc := word (s.inst i).bootAddr, toa := true }
    (s.onCtx core k (fun _ => { run := .ready, regs := r, inst := i, tid := tid, prio := 0, cls := cls, guardian := tid, cairn := r, since := s.now, issued := s.now })).resched core

/-- The lowest logical core on which an instance holds task sets. -/
def State.bootCore (s : State) (i : Nat) : Option Nat := (List.range s.workCores).find? (fun n => decide (0 < s.share i n))

/-! ### The reset at F (R113 steps 1 to 5) -/

/-- The tasks of an instance on a core stop: its chain ends, its sets issue nothing more. -/
def State.stopCore (s : State) (i core : Nat) : State :=
  let sets := s.setsOf i core
  let c := s.core core
  let s := (c.chain.filter (fun t => (s.ctx core t).inst == i)).foldl (fun s t => (s.leaveSlot core t).onCtx core t (fun x => { regs := { g := x.regs.g } })) s
  let s := sets.foldl (fun s k => (s.leaveSlot core k).onCtx core k (fun x => { x with run := .leaving, target := none, await := .none, trap := none, due := 0, sent := false })) s
  let mine := fun (t : Nat) => tidInst t == i
  let s := s.onCore core (fun c => { c with
    chain := c.chain.filter (fun t => (s.ctx core t).run != .empty)
    banks := c.banks.filter (fun b => !sets.contains b.owner && (s.ctx core b.owner).run != .empty)
    swapq := c.swapq.filter (fun q => !mine q.1)
    swapping := match c.swapping with | some (k, t) => if mine t then none else some (k, t) | none => none
    hints := c.hints.filter (fun t => !mine t)
    forward := c.forward.filter (fun f => !mine f.1) })
  (s.releaseTrap core).resched core

/-- Every task of an instance stops, and nothing posted to it or kept for it goes on (R113 step 1). -/
def State.stopTasks (s : State) (i : Nat) : State :=
  let s := (List.range s.workCores).foldl (fun s n => s.stopCore i n) s
  { s with
    posts := s.posts.filter (fun p => tidInst p.tid != i)
    creations := s.creations.filter (fun c => tidInst c.1 != i)
    outcomes := s.outcomes.filter (fun o => tidInst o.1 != i)
    kept := s.kept.filter (fun o => tidInst o.1 != i)
    fresh := s.fresh.filter (fun t => tidInst t != i) }

/-- The mailbox window of an instance being reset (R79). -/
def State.resetWindow (s : State) (i : Nat) : State :=
  let n := s.win i
  let s := if n.state = 1 ∧ !n.inExec then s.finishCmd i stRetrySafe [] else s
  s.onWin i (fun n => { n with nrEnable := false })

/-- A record of an instance at F (Table 03-5). -/
def State.resetRec (s : State) (sc wsn : Nat) : State :=
  match s.jrec sc wsn with
  | none => s
  | some r =>
    if r.state = 1 ∧ r.attempts = 0 then s.cancelRec sc wsn stRetrySafe
    else if r.state = 1 then s.drawn.cancelRec sc wsn (s.freeNat % 16)
    else if r.state = 4 then s.entryWritten sc wsn
    else if r.active && !r.aborting then s.failAttempt sc wsn 0 0
    else s

/-- The records and requests of an instance at F (Table 03-5). -/
def State.resetIo (s : State) (i : Nat) : State :=
  let subs := (s.subchs.filter (fun p => p.2.live && p.2.inst == i)).map (·.1)
  let s := subs.foldl (fun s n => ((s.sub n).wsns (fun _ => true)).foldl (fun s w => s.resetRec n w) s) s
  let s := subs.foldl (fun s n => s.onSub n (fun x => { x with held := [] })) s
  let mine := fun (q : Req) => q.inst == i && decide (q.src < 3)
  let s := (s.dropReqs mine).dropDfu mine
  let s := s.onInst i (fun n => { n with requests := 0 })
  { s with rings := s.rings.map (fun p => if p.2.inst = i then (p.1, { p.2 with held := [] }) else p) }

/-- Claims held by an instance are released (R50, R51). -/
def State.dropClaims (s : State) (i : Nat) : State :=
  let mine := (s.pins.gpio.filter (fun p => p.2.claim != 0 && p.2.holder == i))
  let s := if mine.any (fun p => p.1 == 12 && p.2.claim == 2) ∧ s.clock.ppsSource = 2 then s.onClock (fun c => { c with ppsSource := 0, lastPps := none, ppsLost := false }) else s
  mine.foldl (fun s p => s.onGpio p.1 (fun g => { g with claim := 0, dir := false })) s

/-- INST_RESET executes at F (R113). -/
def State.resetInst (s : State) (i mode seq : Nat) : State :=
  let s := s.onInst i (fun n => { n with state := 3, fence := s.now, resetMode := mode, resetSeq := seq })
  let s := ((s.resetWindow i).stopTasks i).resetIo i
  let s := ((s.encls.between (i * 4096) (i * 4096 + 4096)).filter (fun p => p.2.state != 0)).foldl (fun s p => s.destroyEncl i (p.1 % 4096) 0) s
  (s.sendGone 1 (i * 65536)).dropClaims i

/-- INST_RESET (0x010B). -/
def cmdInstReset : Command where
  code := 0x010B
  fmt := fun _ q => q.fits 8 && decide (fld q.body 2 1 ≤ 1) && zeros q.body 3 5
  run := fun s q =>
    let i := q.target
    let n := s.inst i
    if n.fence ≠ 0 ∧ n.resetSeq = q.seq + 1 then (s, some (stOk, beBytes 8 (u64 n.fence)))
    else if s.mgr = i then (s, some (stNotPermitted, []))
    else if n.state = 0 ∨ n.state = 3 then (s, some (stBusy, []))
    else if fld q.body 2 1 = 1 ∧ n.allSets = 0 then (s, some (stBadField, []))
    else
      let s := s.resetInst i (fld q.body 2 1) (q.seq + 1)
      (s, some (stOk, beBytes 8 (u64 (s.inst i).fence)))

/-! ### Completion (R113 step 6) -/

/-- Records of an instance that have not reached a final state. -/
def State.openRecs (s : State) (i : Nat) : Bool := s.subchs.any (fun p => p.2.live && p.2.inst == i && p.2.slots.any (fun k => k.2.outstanding))

/-- The rings of an instance are emptied (Table 03-5). -/
def State.emptyRings (s : State) (i : Nat) : State :=
  { s with
    subchs := s.subchs.map (fun p => if p.2.live && p.2.inst == i then (p.1, { p.2 with sqTail := 0, sqHead := 0, cqHead := 0, cqTail := 0, phase := true, held := [], stalled := false }) else p)
    rings := s.rings.map (fun p => if p.2.live && p.2.inst == i then (p.1, { p.2 with sqTail := 0, sqHead := 0, cqHead := 0, cqTail := 0, phase := true, held := [] }) else p) }

/-- The instance's task sets are freed, INSTANCE_RESET_DONE is posted, and it is STOPPED, or RUNNING with its boot task. -/
def State.resetDone (s : State) (i : Nat) : State :=
  let s := (List.range s.workCores).foldl (fun s n => ((s.setsOf i n).foldl (fun s k => s.freeSet n k) s).resched n) s
  let mode := (s.inst i).resetMode
  let s := (s.emptyRings i).onInst i (fun n => { n with state := if mode = 1 then 2 else 1, resetDone := s.now })
  let s := s.notify 512 0xA 0 i (u64 s.now)
  if mode = 1 then (match s.bootCore i with | some n => s.bootTask i n | none => s) else s

/-- INST_RESET (R113). -/
def execInstReset (w : Nat) (s : State) : Out := serve cmdInstReset w s

/-- INSTANCE_RESET_COMPLETE: every record has reached a final state (R113). -/
def execInstanceResetComplete (i : Nat) (s : State) : Out := when (s.runs && (s.inst i).state == 3 && !s.openRecs i) s (s.resetDone i)

end Sys2Proof.Machine
end

