-- ==== Sys2Proof/Machine/Maint.lean ====
section
/-! DEFINITION. Cache maintenance by address and by set and way, and TLBINV (R243 to R246). -/
namespace Sys2Proof.Machine

/-- Access code of a maintenance operation: a clean is a load, the others are stores (R244). -/
def maintAcc (op : Nat) : Nat := if op = 0 then 0 else 1

/-- CLN, INV or CIV of a line at a level and every level between it and the cores: 0 clean, 1 invalidate, 2 both (R244). -/
def State.maintLine (s : State) (level op la : Nat) : State :=
  let s := if op = 1 ∨ level ≤ 1 then s else s.cleanLine level la
  if op = 0 then s else s.invLine level la

/-- Stores to the line that have committed and are not performed, of any task (R122, R244). -/
def State.lineStores (s : State) (la : Nat) : Bool := s.cores.any (fun p => p.2.wb.any (fun e => e.dev.isNone && e.addr == la))

/-- Maintenance by address: older stores to the line are performed first (R244). -/
def Env.maint (e : Env) (level op a : Nat) : Effect := do
  let r ← e.regs
  e.check [⟨r.gpr a, 1, tyPtr, false⟩]
  let ea := (r.gpr a).datum.toNat
  let ra ← e.address (maintAcc op) ea 1
  if inDev ra then e.fail ⟨7, ea, maintAcc op + 4⟩
  let s ← get
  if s.lineStores (ra / 256) then e.stall
  return fun s => s.maintLine level op (ra / 256)

/-- The unit that a set-and-way operand names: the executing core's, a slice of its die, or a Depot channel (R245). -/
def maintUnit (level phys u : Nat) : Nat := if level ≤ 2 then phys else if level = 3 then phys / 20 * 20 + u else u

/-- Units of a level that the operand may name (Table 08-6). -/
def maintUnits (level : Nat) : Nat := if level ≤ 2 then 1 else if level = 3 then 20 else 64

/-- The operand lies in the ranges of Table 08-6. -/
def maintOk (level phys v : Nat) : Bool :=
  bits v 63 54 == 0 && bits v 47 32 == 0 && decide (bits v 53 48 < maintUnits level) &&
    decide (bits v 31 8 < setCount level (maintUnit level phys (bits v 53 48))) && decide (bits v 7 0 < wayCount level)

/-- Write a dirty frame of a level to the level below. -/
def State.cleanFrame (s : State) (level key : Nat) (f : Frame) : State :=
  if f.st ≠ 3 then s
  else
    let s := s.writeDown level (key / 2 ^ 28 % 256) f
    s.onMs (fun m => { m with frames := m.frames.upd key f (fun f => { f with st := if level = 2 then 1 else 2 }) })

/-- Remove a frame; L1 keeps only lines of L2 (R235). -/
def State.invFrame (s : State) (level key : Nat) (f : Frame) : State :=
  let s := s.onMs (fun m => { m with frames := m.frames.del key })
  if level = 2 then (s.invalidate 0 (key / 2 ^ 28 % 256) f.la).invalidate 1 (key / 2 ^ 28 % 256) f.la else s

/-- A line lies in a granule of an enclave that a task of instance i in world e is not in (R325). -/
def State.foreignLine (s : State) (i e la : Nat) : Bool := (s.emap.find (la * 256 / 65536)).isSome && !s.ownGranule i e (la * 256)

/-- One frame is acted on; an empty one, as every frame of a disabled way, is left (R245). INV from outside an enclave on a line of its granules is done as CIV (Table 11-3). -/
def State.maintFrame (s : State) (level op key i e : Nat) : State :=
  match s.ms.frames.find key with
  | none => s
  | some f =>
    let op := if op = 1 ∧ s.foreignLine i e f.la then 2 else op
    let s := if op = 1 then s else s.cleanFrame level key f
    if op = 0 then s else s.invFrame level key f

/-- Maintenance by set and way (R245). -/
def Env.maintSw (e : Env) (level op a : Nat) : Effect := do
  let r ← e.regs
  e.check [⟨r.gpr a, 1, tyInt, false⟩]
  let c ← e.ctx
  let v := (r.gpr a).datum.toNat
  if decide (3 ≤ level) && !authority e.set r then e.fail ⟨7, 0, maintAcc op⟩
  let s ← get
  let p := (s.core e.core).phys
  if !maintOk level p v then e.fail ⟨7, v, maintAcc op⟩
  return fun s => s.maintFrame level op (fkey level (maintUnit level p (bits v 53 48)) (bits v 31 8) (bits v 7 0)) c.inst c.regs.encl

/-- Discard the task-stage translations of an instance for the page of an address, or all of them, in every core, and the window base cached with them (R246, R257). -/
def State.tlbDrop (s : State) (i : Nat) (ea : Option Nat) : State :=
  { s with cores := s.cores.map (fun p => (p.1, { p.2 with
      hwins := p.2.hwins.del i
      tlb := p.2.tlb.filter (fun t => !(t.inst == i && (match ea with | none => true | some a => t.page * 4096 / 2 ^ t.lo == a / 2 ^ t.lo))) })) }

/-- TLBINV and TLBINVA complete when every access already translated has been performed (R246). -/
def Env.tlbinv (e : Env) (all : Bool) (a : Nat) : Effect := do
  let r ← e.regs
  let c ← e.ctx
  let s ← get
  let ea ← if all then pure none
    else do
      e.check [⟨r.gpr a, 1, tyPtr, false⟩]
      let x ← e.lift (s.formAddr e.core c.inst c.regs.her e.am 0 (r.gpr a).datum.toNat)
      pure (some x)
  if s.cores.any (fun p => p.2.wb.any (fun w => tidInst w.tid == c.inst)) then e.stall
  return fun s => s.tlbDrop c.inst ea

/-! ### Rows: a group ends after each (R371) -/

/-- CACHE_MAINTENANCE_BY_ADDRESS (R244). -/
def execCacheMaintenanceByAddress (core set : Nat) (s : State) : Out :=
  .next (s.issue core set (fun i => match i with | .maint _ _ _ => true | _ => false)
    (fun e i => match i with | .maint l op a => e.commit (e.maint l op a) false true | _ => pure ()))

/-- CACHE_MAINTENANCE_BY_SET_WAY (R245). -/
def execCacheMaintenanceBySetWay (core set : Nat) (s : State) : Out :=
  .next (s.issue core set (fun i => match i with | .maintSw _ _ _ => true | _ => false)
    (fun e i => match i with | .maintSw l op a => e.commit (e.maintSw l op a) false true | _ => pure ()))

/-- TLBINV (R246). -/
def execTlbinv (core set : Nat) (s : State) : Out :=
  .next (s.issue core set (fun i => match i with | .tlbinv _ _ => true | _ => false)
    (fun e i => match i with | .tlbinv all a => e.commit (e.tlbinv all a) false true | _ => pure ()))

end Sys2Proof.Machine
end

