-- ==== Sys2Proof/Machine/RelayCmd.lean ====
section
/-! DEFINITION. Relay commands (R355, R357, R359, R360, R368 to R370). -/
namespace Sys2Proof.Machine

/-- RELAY_TOPOLOGY_GET (0x0800). -/
def cmdRelayTopologyGet : Command where
  code := 0x0800
  fmt := fmtNone
  run := fun s _ =>
    let d := distFrom s.relay.graph s.relay.self
    let entry := fun k => match d.find k with
      | some n => beBytes 1 1 ++ beBytes 1 n ++ beBytes 1 ((s.nextHop k).getD 0xFF) ++ [0#8]
      | none => [0#8, 0#8, 0xFF#8, 0#8]
    (s, some (stOk, beBytes 1 s.relay.self ++ beBytes 1 s.relay.master ++ beBytes 1 s.connected.length ++ beBytes 5 0 ++ (List.range 64).flatMap entry))

/-- PORT at offset 0, with n bytes used. -/
def portFmt (used : Nat) (_ : State) (q : MReq) : Bool := q.len == 8 && decide (fld q.body 0 1 < 6) && zeros q.body used (8 - used)

/-- RELAY_PORT_SET (0x0801; R368, R369). -/
def cmdRelayPortSet : Command where
  code := 0x0801
  fmt := fun s q => portFmt 2 s q && decide (fld q.body 1 1 ≤ 1)
  run := fun s q =>
    let p := fld q.body 0 1
    let on := fld q.body 1 1 == 1
    if s.rlyEth p then (s, some (stClaimed, []))
    else if (s.rport p).enabled = on then (s, some (stOk, []))
    else if on then ((s.onRport p (fun x => { x with enabled := true, badLanes := [] })).toPort p 1, some (stOk, []))
    else (((s.dropLink p 0).onRport p (fun x => { x with enabled := false })).setHealth (relayUnit p) 5 0xB, some (stOk, []))

/-- RELAY_PORT_STATUS (0x0802; Table 12-11). -/
def cmdRelayPortStatus : Command where
  code := 0x0802
  fmt := portFmt 1
  run := fun s q =>
    let p := fld q.body 0 1
    let x := s.rport p
    if s.rlyEth p then (s, some (stClaimed, []))
    else
      (s, some (stOk, beBytes 1 x.state ++ beBytes 1 x.lanes ++ beBytes 1 x.peer ++ beBytes 1 x.peerPort ++ beBytes 4 x.flight ++ beBytes 8 x.replays ++
        beBytes 8 x.retrains ++ beBytes 8 x.discards ++ beBytes 8 x.change))

/-- Bytes of the SYSTEM region (R251). -/
def State.systemBytes (s : State) : Nat := ((s.ms.regions.filter (fun r => r.sys && r.ok)).map (fun r => r.dataBytes)).foldl (· + ·) 0

/-- Bytes a table of 2^n entries takes: entries of 64 bytes and waiter records of 32 (R359). -/
def lltBytes (n : Nat) : Nat := 96 * 2 ^ n

/-- Bytes of the SYSTEM region in use (log entry 12). -/
def State.systemUsed (s : State) : Nat :=
  fld s.fw.inForce 0x10 4 * 2 ^ 20 + ((s.relay.llts.filter (fun t => t.2.live)).map (fun t => lltBytes t.2.log2)).foldl (· + ·) 0 + Config.systemOther

/-- The exclusive handle datum of a table (Table 12-6). -/
def lltHandle (home n : Nat) : Nat := 0x4C * 2 ^ 56 + home * 2 ^ 48 + n * 2 ^ 32

/-- LLT_CREATE (0x0803; R359). -/
def cmdLltCreate : Command where
  code := 0x0803
  fmt := fun _ q =>
    q.len == 8 && decide (fld q.body 0 1 < 16) && decide (10 ≤ fld q.body 1 1) && decide (fld q.body 1 1 ≤ 20) && zeros q.body 2 2 &&
      decide (1 ≤ fld q.body 4 4) && decide (fld q.body 4 4 ≤ 1000000)
  run := fun s q =>
    let n := fld q.body 0 1
    let k := fld q.body 1 1
    let us := fld q.body 4 4
    let ok : Option Reply := some (stOk, beBytes 8 (lltHandle s.relay.self n))
    if (s.llt n).live then (s, if (s.llt n).log2 = k ∧ (s.llt n).waitUs = us then ok else some (stBusy, []))
    else if s.systemBytes < s.systemUsed + lltBytes k then (s, some (stQueueFull, []))
    else (s.onLlt n (fun _ => { live := true, log2 := k, waitUs := us }), ok)

/-- Every hold and wait of a table is dropped; its waiting probes are answered NO_ACCESS (LLT_DESTROY). -/
def State.destroyLlt (s : State) (n : Nat) : State :=
  let waits := (s.llt n).keys.flatMap (fun k => k.2.waits.map (fun w => (k.1, w)))
  let s := s.onRelay (fun r => { r with llts := r.llts.del n, cache := r.cache.filter (fun c => c.1 != n) })
  waits.foldl (fun s w => s.lockReply 2 n w.1 (w.2.1, w.2.2.1) (w.2.2.2.1 * 4) w.2.2.2.2.2 (resultWord false 0 9)) s

/-- LLT_DESTROY (0x0804). -/
def cmdLltDestroy : Command where
  code := 0x0804
  fmt := fun _ q => q.len == 8 && decide (fld q.body 0 1 < 16) && zeros q.body 1 7
  run := fun s q => (if (s.llt (fld q.body 0 1)).live then s.destroyLlt (fld q.body 0 1) else s, some (stOk, []))

/-- Format of RELAY_ACCESS_GRANT. -/
def accessFmt (_ : State) (q : MReq) : Bool :=
  q.len == 8 && decide (1 ≤ fld q.body 0 1) && decide (fld q.body 0 1 ≤ 4) && decide (fld q.body 1 1 < 64) && decide (fld q.body 2 2 < 512) && decide (fld q.body 4 1 < 16) && zeros q.body 5 3

/-- The (device, instance) pair of a request. -/
def MReq.pair (q : MReq) : Nat × Nat := (fld q.body 1 1, fld q.body 2 2)

/-- RELAY_ACCESS_GRANT (0x0805), ALLOW; a request with no valid OP is any of the four rows. -/
def cmdRelayAccessAllow : Command where
  code := 0x0805
  sel := fun b => fld b 0 1 == 1 || decide (4 < fld b 0 1) || fld b 0 1 == 0
  fmt := accessFmt
  run := fun s q =>
    let n := fld q.body 4 1
    if !(s.llt n).live then (s, some (stBadField, []))
    else (s.onLlt n (fun t => { t with allow := if t.allow.contains q.pair then t.allow else t.allow ++ [q.pair] }), some (stOk, []))

/-- RELAY_ACCESS_GRANT, REVOKE: holds remain. -/
def cmdRelayAccessRevoke : Command where
  code := 0x0805
  sel := fun b => fld b 0 1 == 2 || decide (4 < fld b 0 1) || fld b 0 1 == 0
  fmt := accessFmt
  run := fun s q =>
    let n := fld q.body 4 1
    (if (s.llt n).live then s.onLlt n (fun t => { t with allow := t.allow.filter (fun p => p != q.pair) }) else s, some (stOk, []))

/-- (home device, LLT) of a request. -/
def MReq.table (q : MReq) : Nat × Nat := (fld q.body 1 1, fld q.body 4 1)

/-- RELAY_ACCESS_GRANT, MAP. -/
def cmdRelayAccessMap : Command where
  code := 0x0805
  sel := fun b => fld b 0 1 == 3 || decide (4 < fld b 0 1) || fld b 0 1 == 0
  fmt := accessFmt
  run := fun s q => (s.onInst (fld q.body 2 2) (fun n => { n with llts := if n.llts.contains q.table then n.llts else n.llts ++ [q.table] }), some (stOk, []))

/-- RELAY_ACCESS_GRANT, UNMAP. -/
def cmdRelayAccessUnmap : Command where
  code := 0x0805
  sel := fun b => fld b 0 1 == 4 || decide (4 < fld b 0 1) || fld b 0 1 == 0
  fmt := accessFmt
  run := fun s q => (s.onInst (fld q.body 2 2) (fun n => { n with llts := n.llts.filter (fun t => t != q.table) }), some (stOk, []))

/-- TOD_SYNC_STATUS (0x0806). -/
def cmdTodSyncStatus : Command where
  code := 0x0806
  fmt := fmtNone
  run := fun s _ =>
    (s, some (stOk, beBytes 1 s.relay.sync ++ beBytes 1 s.relay.master ++ beBytes 1 ((distFrom s.relay.graph s.relay.master).getD s.relay.self 0) ++ beBytes 5 0 ++
      beBytes 8 (i64 s.relay.offset) ++ beBytes 8 s.relay.lastEvent ++ beBytes 8 0))

/-- RELAY_TOPOLOGY_GET (R355). -/
def execRelayTopologyGet (w : Nat) (s : State) : Out := serve cmdRelayTopologyGet w s
/-- RELAY_PORT_SET (R368). -/
def execRelayPortSet (w : Nat) (s : State) : Out := serve cmdRelayPortSet w s
/-- RELAY_PORT_STATUS (R349). -/
def execRelayPortStatus (w : Nat) (s : State) : Out := serve cmdRelayPortStatus w s
/-- LLT_CREATE (R359). -/
def execLltCreate (w : Nat) (s : State) : Out := serve cmdLltCreate w s
/-- LLT_DESTROY (R359). -/
def execLltDestroy (w : Nat) (s : State) : Out := serve cmdLltDestroy w s
/-- RELAY_ACCESS_ALLOW (R360). -/
def execRelayAccessAllow (w : Nat) (s : State) : Out := serve cmdRelayAccessAllow w s
/-- RELAY_ACCESS_REVOKE (R360). -/
def execRelayAccessRevoke (w : Nat) (s : State) : Out := serve cmdRelayAccessRevoke w s
/-- RELAY_ACCESS_MAP (R360). -/
def execRelayAccessMap (w : Nat) (s : State) : Out := serve cmdRelayAccessMap w s
/-- RELAY_ACCESS_UNMAP (R360). -/
def execRelayAccessUnmap (w : Nat) (s : State) : Out := serve cmdRelayAccessUnmap w s
/-- TOD_SYNC_STATUS (R357). -/
def execTodSyncStatus (w : Nat) (s : State) : Out := serve cmdTodSyncStatus w s

end Sys2Proof.Machine
end

