-- ==== Sys2Proof/Machine/Start.lean ====
section
/-! DEFINITION. Firmware patches and start-up: the steps of Table 15-2 and recovery mode (R403 to R408, R418, R419). -/
namespace Sys2Proof.Machine

/-! ### Firmware images (R408) -/

/-- A staged TSK patch marked for activation is applied if it verifies (R408, R424). -/
def State.applyPatch (s : State) : State :=
  if s.fw.pending && s.fwStatus 2 s.fw.tskStaged == stOk then
    { s with
      fw := { s.fw with tskActive := s.fw.tskStaged, pending := false }
      fuses := { s.fuses with rollTsk := max s.fuses.rollTsk (fld s.fw.tskStaged 8 4) } }
  else s

/-- A patch failed verification: the staged one marked for activation, or the active one, so that the TSK runs from ROM alone (R408). -/
def State.patchFailed (s : State) : Bool := s.fw.pending || (s.fw.tskActive != [] && s.fwStatus 2 s.fw.tskActive != stOk)

/-! ### Steps 1, 2 and 7: time, Service Processors -/

/-- TOD through start-up: counted from the release and raised by L at power-on, running on at system reset (R407); the Logbook is loaded (R391). -/
def State.startTime (s : State) (cold : Bool) (env : StartEnv) : State :=
  let n := min env.elapsedUs 39000000 * 250
  if !cold then s.onClock (fun c => c.after n)
  else
    let s := s.onClock (fun c => { c with tod := 0, ref0 := { c.ref0 with failedAt := 0 }, ref1 := { c.ref1 with failedAt := 0 } })
    let s := s.onClock (fun c => c.after n)
    let l := s.log.newestTod
    let s := s.onClock (fun c => { c with ppsOutSec := gridAt secT c.tod, tod := c.tod + l, todSet := true })
    let s := s.onClock (fun c => { c with epoch := gridAt 40000 c.tod, rateWindow := gridAt 400000 c.tod })
    let s := s.onLog (fun g => { g with
      live := { g.totals with ctr := g.totals.ctr.upd 0xFF00 {} (fun c => { c with b := g.poc }) }
      health := [], hoursFrom := l, lastHour := s.now, sealHour := s.now })
    s.lockPll

/-- An SP that passes its TSK self-check leaves OFFLINE and runs its BIST (Table 02-2). -/
def State.startSp (s : State) (p : Nat) (env : StartEnv) : State :=
  if env.tskFail.contains p then s.setHealth (spUnit p) 4 3
  else if env.spOk.contains p then s.toSp p 5 0
  else (((s.toSp p 5 0).onSp p (fun x => { x with bistFails := 1 })).countB (spUnit p)).toSp p 4 3

/-- An SP passes its self-check and its BIST. -/
def spPasses (env : StartEnv) (p : Nat) : Bool := env.spOk.contains p && !env.tskFail.contains p

/-- The SP that takes the first lease: SP-A within its 2 s or in a tie, else SP-B, else SP-A (R68, R404). -/
def firstSp (env : StartEnv) : Option Nat :=
  if spPasses env 0 && (env.spAInTime || env.spTie || !spPasses env 1) then some 0 else if spPasses env 1 then some 1 else none

/-- The preferred slot, activated and now run by the SP that takes the lease, raises the fused rollback counter; a slot as shipped was never activated (R424). -/
def State.raiseSfw (s : State) (slot : Nat) : State :=
  if slot = s.fw.pref ∧ !(if slot = 0 then s.fw.shipped0 else s.fw.shipped1) then
    { s with fuses := { s.fuses with rollSfw := max s.fuses.rollSfw (fld (s.slotBytes slot) 8 4) } }
  else s

/-- The first lease is taken, and the other SP synchronises (R57, R68). -/
def State.startLease (s : State) (p slot : Nat) (env : StartEnv) : State :=
  let s := s.onSvc (fun v => { v with firstWinDone := true, resetStamp := s.now - min env.elapsedUs 39000000 * 4000 })
  let s := ([0, 1].filter (fun k => spPasses env k)).foldl (fun s k => s.loadSp k slot) s
  let s := ((s.sealFailures).grantLease p).raiseSfw slot
  if spPasses env (1 - p) then s.toSp (1 - p) 2 0 else s

/-! ### Steps 3 and 4: training -/

/-- Set a health word to the value its unit shows from start-up on. -/
def State.markHealth (s : State) (u st cause : Nat) : State :=
  s.onLog (fun l => { l with health := l.health.upd u { phys := u % 256 } (fun h => { h with state := st, cause := cause }) })

/-- One CXL/PCIe port after training (R250, R404). -/
def State.startPort (s : State) (cfg : List Byte) (env : StartEnv) (p : Nat) : State :=
  let u := unitCode 5 p
  if bit (fld cfg 8 2) p then
    match env.pcieUp.find? (fun x => x.1 == p) with
    | some (_, width, rate) =>
      let s := s.onPort p (fun _ => { pcie := true, link := linkCode width rate, width := width, rate := rate, change := s.now })
      if linkCode width rate = 1 then s else s.setHealth u 1 6
    | none => (s.onPort p (fun _ => { pcie := true, change := s.now })).setHealth u 4 5
  else
    match env.cxl.find? (fun d => d.port == p) with
    | some d =>
      let s := s.onPort p (fun _ => { link := linkCode d.width d.rate, width := d.width, rate := d.rate, dev := some d, change := s.now })
      if linkCode d.width d.rate = 1 then s else s.setHealth u 1 6
    | none =>
      let used := (cfgRegions cfg).any (fun r => r.2.places.any (fun x => x.1 == p))
      (s.onPort p (fun _ => { change := s.now })).markHealth u 6 (if used then 5 else 0xA)

/-- One Fibre Channel or Ethernet port after training. -/
def State.startIo (s : State) (kind port : Nat) (up : Bool) : State :=
  let s := s.onIoport (ioKey kind port) (fun _ => { up := up, signal := up, rate := if up then (if kind = 1 then 64 else 400) else 0, change := s.now })
  if up then s else s.setHealth (unitCode (if kind = 1 then 9 else 0xA) port) 4 5

/-- Ports are trained in the modes of the configuration; Relay ports go on training (R348, R404, Table 01-7). -/
def State.startPorts (s : State) (cfg : List Byte) (env : StartEnv) : State :=
  let s := (List.range 12).foldl (fun s p => s.startPort cfg env p) s
  let s := (List.range 32).foldl (fun s p => s.startIo 1 p (env.fcUp.contains p)) s
  let s := (List.range 12).foldl (fun s p => if s.ethExists p then s.startIo 2 p (env.ethUp.contains p) else s.markHealth (unitCode 0xA p) 6 0xA) s
  let id := fld cfg 0xD 1
  let s := s.onRelay (fun r => { ports := r.ports, self := id, master := id, sync := 0 })
  (List.range 6).foldl (fun s p =>
    if s.rlyEth p then s.markHealth (relayUnit p) 6 0xA
    else s.onRport p (fun x => { state := 1, enabled := true, replays := x.replays, retrains := x.retrains, discards := x.discards, change := s.now })) s

/-- Lanes of the die-to-die links and AVSBus (R27, R432). -/
def State.startLinks (s : State) (env : StartEnv) : State :=
  let s : State := { s with linkLost := env.linkLost.foldl (fun t l => if l.1 < 7 then t.put l.1 l.2 else t) [] }
  let s := s.linkLost.foldl (fun s l => if l.2 = 0 then s else s.setHealth (linkUnit l.1) 1 6) s
  (List.range 4).foldl (fun s k => s.onRail k (fun r => { r with avsFailed := env.avsFail.contains k })) s

/-- HBM3E stacks that fail training: their channels are removed (R242, R404). -/
def State.startHbm (s : State) (env : StartEnv) : State :=
  ((List.range 4).filter (fun k => env.hbmFail.contains k)).foldl (fun s k =>
    ((List.range 16).map (fun c => k * 16 + c)).foldl (fun s c => if (s.ways 4 c).removed then s else s.removeUnit 4 c 2 3) (s.setHealth (unitCode 4 k) 4 3)) s

/-! ### Step 5: regions and the journal (R251, R411, R418, R419) -/

/-- The start-up checks of R251 on a region. -/
def regionFound (env : StartEnv) (r : Region) : Bool :=
  let dev := fun (p : Nat) => env.cxl.find? (fun d => d.port == p)
  r.places.all (fun x => match dev x.1 with | some d => decide (x.2 / gibB + r.gib ≤ d.gib) | none => false) &&
    (match r.portB with
     | none => true
     | some p => (match dev r.portA, dev p with | some a, some b => a.serial != b.serial | _, _ => false))

/-- The regions of a configuration, each with the outcome of its start-up checks. -/
def startRegions (cfg : List Byte) (env : StartEnv) : List (Nat × Region) := (cfgRegions cfg).map (fun p => (p.1, { p.2 with ok := regionFound env p.2 }))

/-- Both devices of a mirrored region are persistent and unchanged, and the last power failure was flushed on them (R418). -/
def State.provenFlush (s : State) (env : StartEnv) (r : Region) : Bool :=
  r.portB.isSome &&
    r.places.all (fun x =>
      (match env.cxl.find? (fun d => d.port == x.1) with
       | some d => d.persistent && s.fw.dirtySeen.contains (d.serial, d.dirtyCount)
       | none => false) &&
      (match s.log.gpf with | some (poc, ports) => poc + 1 == s.log.poc && ports.contains x.1 | none => false))

/-- The descriptor of a region is that of a region of the last start-up, whether or not that one passed its checks then (R254, R411). -/
def State.sameDescr (s : State) (r : Region) : Bool := s.ms.regions.any (fun q => { q with ok := true } == { r with ok := true })

/-- A region keeps its contents: its descriptor is unchanged and, after a power loss, R418 holds for it and for the SYSTEM region. -/
def State.keeps (s : State) (env : StartEnv) (sys : Option Region) (r : Region) : Bool :=
  r.ok && s.sameDescr r &&
    (!s.ms.unproven || (s.provenFlush env r && (match sys with | some q => s.sameDescr q && s.provenFlush env q | none => false)))

/-- A record of a subchannel that ends with the reset is IN_DOUBT: in the store, or with the memory of its slot where the store is full (R280, R284). -/
def State.settleRec (s : State) (r : JRec) : State :=
  let k := !s.doubtRoom
  if r.state = 6 then { s with indoubt := s.indoubt ++ [{ r with kept := k }] }
  else { s with indoubt := s.indoubt ++ [{ r with state := 6, status := stInDoubt, tFinal := s.now, doubtNo := s.doubts + 1, kept := k }], doubts := s.doubts + 1 }

/-- Records of every subchannel are settled, and every subchannel is destroyed (R284). -/
def State.settleJournal (s : State) : State :=
  let live := s.subchs.flatMap (fun p => (p.2.slots.map (·.2)).filter (fun r => r.state == 2 || r.state == 3 || r.state == 6))
  { (sortBy (fun r => if r.state = 6 then 0 else 1) live).foldl State.settleRec s with subchs := [] }

/-- The journal starts empty, and each INCARN at POC × 65,536 (R419). -/
def State.emptyJournal (s : State) : State :=
  { s with subchs := [], indoubt := [], incarns := [], incarnBase := s.log.poc * 65536 % 2 ^ 32 }

/-- Step 5 of Table 15-2. -/
def State.startMemory (s : State) (env : StartEnv) (rs : List (Nat × Region)) : State :=
  let sys := (rs.find? (fun p => p.2.sys)).map (·.2)
  let s1 := rs.foldl (fun t p => if p.2.ok && !s.keeps env sys p.2 then t.onMs (fun m => { m with mem := m.mem.carve p.2.real (p.2.real + p.2.dataBytes) }) else t) s
  let s2 := s1.onMs (fun m => { m with regions := rs.map (·.2), unproven := false })
  let s3 : State := { s2 with fw := { s2.fw with dirtySeen := env.cxl.map (fun d => (d.serial, d.dirtyCount)) } }
  match sys with
  | some q => if s.keeps env sys q then s3.settleJournal else s3.emptyJournal
  | none => s3.emptyJournal

/-! ### Step 6: cores, engines and units (R6, R7, R386, R404) -/

/-- Work cores of the fuses in the order of their logical numbers: the counting-house cores first (R7). -/
def State.fusedCores (s : State) : List Nat :=
  let w := (List.range 80).filter (fun p => !s.fuses.off.contains p && !s.fuses.outriders.contains p)
  w.filter isChPhys ++ w.filter (fun p => !isChPhys p)

/-- A physical core has failed: in this self-test, or before and not yet through a power-on. -/
def State.coreBad (s : State) (env : StartEnv) (p : Nat) : Bool := env.coreFail.contains p || (s.pcore p).role == 3 || (s.pcore p).role == 4

/-- The self-test of a physical core. -/
def State.testCore (s : State) (env : StartEnv) (p : Nat) : State :=
  let u := unitCode 1 p
  if s.fuses.off.contains p then (s.onPCore p (fun _ => {})).markHealth u 6 0xA
  else if s.coreBad env p then
    let s := s.onPCore p (fun k => { role := 3, test := if env.coreFail.contains p then 2 else k.test })
    if env.coreFail.contains p then (s.setHealth u 4 3).logRec 0x12 u [u] else s
  else if s.fuses.outriders.contains p then (s.onPCore p (fun _ => { role := 2, test := 1 })).markHealth u 2 0
  else s.onPCore p (fun _ => { role := 1, test := 1 })

/-- Logical core n on its physical core, on an Outrider of its kind, or retired (R7, R404). -/
def State.placeCore (s : State) (n p : Nat) : State :=
  if (s.pcore p).role ≠ 3 then s.onCore n (fun _ => { phys := p })
  else match s.pickOutrider p with
    | some o => ((s.onCore n (fun _ => { phys := o })).onPCore o (fun k => { k with role := 1 })).markHealth (unitCode 1 o) 0 0
    | none =>
      ((s.onCore n (fun _ => { phys := p, retired := true })).onPCore p (fun k => { k with role := 4 })).logSealed 3 (unitCode 1 p) [n, 5, 0, 0]

/-- Every enabled core is tested, and the numbers are assigned. -/
def State.startCores (s : State) (env : StartEnv) : State :=
  let s := (List.range 80).foldl (fun s p => s.testCore env p) s
  (s.fusedCores.zipIdx).foldl (fun s p => s.placeCore p.2 p.1) s

/-- The engines of one Route: the even one active with claim 1, or the odd one with claim 2, or the Route is stopped (R290, R404). -/
def State.startEngines (s : State) (env : StartEnv) (r : Nat) : State :=
  let bad := fun (n : Nat) => env.cheFail.contains n
  let mark := fun (s : State) (n : Nat) => ((s.onEngine n (fun _ => { state := 4, tested := true })).setHealth (unitCode 6 n) 4 3).logRec 0x12 (unitCode 6 n) [n]
  let run := fun (s : State) (n c : Nat) => ((s.onEngine n (fun _ => { state := 1 })).onRoute r (fun _ => { claim := c, stopped := false, beat := s.now, loop := s.now })).setClaims r c
  let e := 2 * r
  let o := 2 * r + 1
  if !bad e then
    let s := run s e 1
    if bad o then (mark s o).markHealth (unitCode 6 e) 1 9 else (s.onEngine o (fun _ => { state := 2 })).markHealth (unitCode 6 o) 2 0
  else if !bad o then (run (mark s e) o 2).markHealth (unitCode 6 o) 1 9
  else (mark (mark s e) o).setClaims r 1

/-- One Block Cipher Unit or Deflate Unit: withdrawn if it fails its self-test. -/
def State.startUnit (s : State) (dfu : Bool) (n : Nat) (bad : Bool) : State :=
  let u := unitOf dfu n
  let s := s.onUnit dfu n (fun x => { x with lastSeed := s.now })
  if (s.unit dfu n).state = 2 then s.setHealth u 5 7
  else if bad then ((s.onUnit dfu n (fun x => { x with state := 2 })).setHealth u 5 3).logRec 0x12 u [u] else s

/-- Channel Engines, Block Cipher Units and Deflate Units after their self-tests. -/
def State.startUnits (s : State) (env : StartEnv) : State :=
  let s := (List.range 16).foldl (fun s r => s.startEngines env r) s
  let s := (List.range 8).foldl (fun s n => s.startUnit false n (env.bcuFail.contains n)) s
  (List.range 8).foldl (fun s n => s.startUnit true n (env.dfuFail.contains n)) s

/-! ### Step 8: the Manager (R95, R410) -/

/-- The Manager instance of a configuration: RUNNING, its regions mapped at their real addresses. -/
def State.startManager (s : State) (cfg : List Byte) : State :=
  let i := fld cfg 6 2
  let marks := fld cfg 0x20 8
  let cores := (List.range (fld cfg 0xE 1)).filter (fun n => !(s.core n).retired)
  let rs := (cfgRegions cfg).filter (fun p => bit marks p.1 && s.ms.regions.contains p.2)
  let s : State := { s with mgr := i }
  let s := s.onInst i (fun _ => {
    state := 2, bootAddr := fld cfg 0x28 8
    sets := cores.map (fun n => (n, fld cfg 0xF 1))
    regions := rs.map (fun p => { real := p.2.real, gib := p.2.gib / 8 * 7, base := p.2.real })
    scFirst := fld cfg 0x14 4, scCount := fld cfg 0x18 4 })
  match s.bootCore i with
  | some n => s.bootTask i n
  | none => s

/-! ### The whole sequence -/

/-- The POWER_ON record: reset cause, reason of recovery mode or 0, versions, TSK patch failure, regions kept, carved and failed, AVSBus failures (R403, R406, R408, R418, R426, R432). -/
def State.powerOn (s : State) (cause why kept carved failed : Nat) : State :=
  let avs := ((List.range 4).filter (fun k => (s.rail k).avsFailed)).foldl (fun a k => a + 2 ^ k) 0
  s.logSealed 0xE 0 [cause, why, 0xB1, 0x0502, b2n s.patchFailed, kept, carved, failed, avs]

/-- Recovery mode: the TSK of SP-A, or of SP-B, serves the console window alone (R406). An SP past its BIST shows state code 0x05 there, for no lease and no mirror let it leave BIST under Table 02-2: the model's choice (DESIGN CHOICE, log entry 167). -/
def State.toRecovery (s : State) (cause why : Nat) (env : StartEnv) : State :=
  let sp := if spPasses env 0 then 0 else if spPasses env 1 then 1 else 2
  let s : State := { s with phase := .recovery, recSp := sp, fw := { s.fw with staging := s.freshStaging } }
  s.powerOn cause why 0 0 0

/-- Numbers of the regions that satisfy a test, as a mask. -/
def regionMask (rs : List (Nat × Region)) (f : Region → Bool) : Nat := ((rs.filter (fun p => f p.2)).map (fun p => 2 ^ p.1)).foldl (· + ·) 0

/-- Why start-up ends in recovery mode before step 3: 1 BOOTSEL, 2 TEST_EN, 3 no SFW slot, 4 no reset configuration, 6 no SP passes its BIST (R406, R426). -/
def State.recoveryCause (s : State) (cold : Bool) (bootsel : Nat) (testEn : Bool) (env : StartEnv) : Option Nat :=
  if 2 ≤ bootsel then some 1
  else if testEn && cold then some 2
  else if (s.bootSlot bootsel).isNone then some 3
  else if s.newestCopy.isNone then some 4
  else if (firstSp env).isNone then some 6
  else none

/-- Steps 3 to 8 of Table 15-2 with a valid configuration. -/
def State.startDevice (s : State) (cause slot : Nat) (cfg : List Byte) (env : StartEnv) : State :=
  let s := s.startLinks env
  let rs := startRegions cfg env
  let sys := (rs.find? (fun p => p.2.sys)).map (·.2)
  match s.linkLost.find? (fun l => decide (sparesOf l.1 < l.2)) with
  | some l => (s.setHealth (linkUnit l.1) 4 5).deviceStop 1 (linkUnit l.1)
  | none =>
    if !rs.any (fun p => p.2.sys && p.2.ok) then s.toRecovery cause 5 env
    else
      let kept := regionMask rs (s.keeps env sys)
      let ok := regionMask rs (fun r => r.ok)
      let all := regionMask rs (fun _ => true)
      let s : State := { s with fw := { s.fw with inForce := cfg, staging := cfg } }
      let s := (((((s.startPorts cfg env).startHbm env).startMemory env rs).startCores env).startUnits env).powerOn cause 0 kept (ok - kept) (all - ok)
      let s := s.startLease ((firstSp env).getD 0) slot env
      { s.startManager cfg with fw := { s.fw with staging := cfg } }

/-- Table 15-2 from the release on (R403, R411). -/
def State.startUp (s : State) (cold : Bool) (cause bootsel : Nat) (testEn : Bool) (env : StartEnv) : State :=
  let s : State := { s with phase := .running, pins := { s.pins with porst := false, sysrst := none, release := none } }
  let s := (((s.startTime cold env).startSp 0 env).startSp 1 env).applyPatch
  match s.recoveryCause cold bootsel testEn env, s.bootSlot bootsel, s.newestCopy with
  | none, some k, some c => s.startDevice cause k c.2 env
  | some 3, _, _ => ((s.toSp 0 4 0).toSp 1 4 0).toRecovery cause 3 env
  | why, _, _ => s.toRecovery cause (why.getD 0) env

end Sys2Proof.Machine
end

