-- ==== Sys2Proof/Machine/Reset.lean ====
section
/-! DEFINITION. Power-on and system reset, power failure, rails and VSTBY (R402, R411, R412, R416, R417, R429 to R431). -/
namespace Sys2Proof.Machine

/-! ### What every reset of the whole device clears (R412, Table 15-7) -/

/-- What a unit keeps over a system reset: its withdrawal, and its mismatches since power-on (R312, Table 10-15). -/
def Unit.overReset (u : Unit) : Unit := { state := if u.state = 2 then 2 else 1, faults := u.faults, lastFault := u.lastFault }

/-- Every unit and both SPs at their reset values; memory, MRAM, TOD and counts since power-on stay. -/
def State.resetUnits (s : State) : State :=
  { s with
    svc := { failovers := s.svc.failovers, lastChange := s.svc.lastChange }
    windows := [], insts := [], cores := [], ctxs := [], linkLost := [], devStores := [], ioports := [], routes := [], engines := [], claims := [], wire := []
    rings := [], bcus := s.bcus.map (fun u => (u.1, u.2.overReset)), dfus := s.dfus.map (fun u => (u.1, u.2.overReset)), bcuArb := {}, dfuArb := {}, bcuPool := [], dfuPool := [], pages := [], dicts := [], encls := [], emap := []
    relay := { ports := s.relay.ports.map (fun p => (p.1, { replays := p.2.replays, retrains := p.2.retrains, discards := p.2.discards })) }
    decode := [], dbgNi := false, dbgInv := false, dbgEni := false, dbgEinv := false
    deferred := [], posts := [], creations := [], outcomes := [], kept := [], fresh := [], console := none, recSp := 0
    pins := { s.pins with gpio := s.pins.gpio.map (fun p => (p.1, { level := p.2.level })) }
    clock := { s.clock with ppsSource := 1, lastPps := none, ppsLost := false, slew := 0 }
    log := { s.log with inject := [], injected := false, notes := [] }
    pcores := s.pcores.map (fun p => (p.1, { p.2 with l1i := true, l1d := true, l2 := true, enclWays := false }))
    ms := { s.ms with frames := [], evict := [], ports := [], stale := [], arbs := [], shadow := [], cls := 1, ways := s.ms.ways.map (fun p => (p.1, { p.2 with disabled := false })) } }

/-- Every enclave granule becomes UNWRITTEN without a writeback (R254, R411 step 2, R418). -/
def State.wipeEnclaves (s : State) : State := s.emap.foldl (fun s g => s.wipe g.1) s

/-! ### PORST_N and VSTBY (R402, R403, R429 to R431) -/

/-- PORST_N is asserted, at its pin or inside the device: every unit stops, and a new power cycle begins (R402, R392). -/
def State.hold (s : State) : State :=
  let s := (s.wipeEnclaves).resetUnits
  { s with
    phase := .held
    bcus := []
    dfus := []
    svc := {}
    pcores := []
    relay := {}
    clock := { ref0 := { failed := s.clock.ref0.failed }, ref1 := { failed := s.clock.ref1.failed } }
    log := { s.log with poc := s.log.poc + 1 }
    ms := { s.ms with ways := [], age := 0, unproven := true }
    pins := { s.pins with porst := true, sysrst := none, release := none, caterr := false, thermtrip := false } }

/-- Every rail is powered and in its window. -/
def State.railsUp (s : State) : Bool := (List.range 10).all (fun k => (s.rail k).on && (s.rail k).inWin)

/-- PORST_N_ASSERT (R402). -/
def execPorstNAssert (s : State) : Out := when (!s.pins.porst) s s.hold

/-- PORST_N_RELEASE: power-on begins, or waits until every rail has been in its window for 10 ms (R403, R431). -/
def execPorstNRelease (bootsel : Nat) (testEn : Bool) (env : StartEnv) (s : State) : Out :=
  when (s.phase == .held && s.pins.porst && s.pins.vstby) s
    (if s.railsUp then s.startUp true 1 bootsel testEn env
     else { s with pins := { s.pins with porst := false, release := some (bootsel, testEn, env) } })

/-- RAIL_WINDOW_SETTLED: every rail has been in its window for 10 ms (R431). -/
def execRailWindowSettled (s : State) : Out :=
  let s1 := (List.range 10).foldl (fun s k => s.onRail k (fun r => { r with on := true, inWin := true })) s
  when (s.phase == .held && s.pins.vstby) s
    (match s.pins.release with
     | some (b, t, env) => s1.startUp true 1 b t env
     | none => s1)

/-- VSTBY_LOW: below 3.0 V for 2 µs, as an assertion of PORST_N; the main rails are off with it (R429, R430). -/
def execVstbyLow (s : State) : Out :=
  let s1 := if s.pins.porst then { s with pins := { s.pins with release := none } } else s.hold
  let s2 : State := { s1 with pins := { s1.pins with vstby := false } }
  when s.pins.vstby s ((List.range 10).foldl (fun s k => s.onRail k (fun r => { r with on := false, inWin := false, avsFailed := false })) s2)

/-- VSTBY_RISE: SP-A's standby partition serves the console window while PORST_N is held (R89, R430). -/
def execVstbyRise (s : State) : Out :=
  let s1 : State := { s with pins := { s.pins with vstby := true } }
  when (!s.pins.vstby) s (s1.onRail 9 (fun r => { r with on := true, inWin := true }))

/-! ### System reset (R411) -/

/-- The unit behind which a store of the buffer has nowhere to go: a path whose link is down, or a lost port that is not mirrored (R265). -/
def State.storeLost (s : State) (e : WbEnt) : Option Nat :=
  match e.dev with
  | some p => if s.pathDown p then some (if p.1 = 3 then unitCode 0xB 0 else unitCode 5 p.2) else none
  | none => match s.regionOf (e.addr * 256) with
    | some r => if s.regionServed r then none else some (unitCode 5 r.portA)
    | none => none

/-- The oldest entry of a core's buffer is performed; a store that has nowhere to go is dropped and logged (R265). -/
def State.drainOne (s : State) (core : Nat) : State :=
  match (s.core core).wb with
  | [] => s
  | e :: t =>
    match s.storeLost e with
    | some u => (s.onCore core (fun c => { c with wb := t })).logRec 9 u [u % 256, 4]
    | none => s.performOldest core

/-- Every store of the buffers is performed: each was committed at its retirement, and the Cairn of its group is written first (R264, R265, R372). A line in flight is dropped. -/
def State.drain (s : State) : State :=
  (s.cores.map (·.1)).foldl (fun s n =>
    let s := s.onCore n (fun c => { c with fills := [] })
    let s := (((s.core n).wb.map (·.set)).eraseDups).foldl (fun s k => s.endGroup n k) s
    (List.range (s.core n).wb.length).foldl (fun s _ => s.drainOne n) s) s

/-- L2, L3 and the Depot are cleaned and invalidated, and evicted lines reach memory (R249, R411 step 3). -/
def State.flushAll (s : State) : State :=
  let acks := fun (s : State) => (s.ms.evict.map (·.la)).foldl (fun s la => s.ackEvict la) s
  let s := acks (s.flushUnits 2 0 80)
  let s := acks (s.flushUnits 3 0 80)
  let s := acks (s.flushUnits 4 0 64)
  acks (s.flushUnits 4 0 64)

/-- Steps 1 to 4 of R411, and the reset of every unit. -/
def State.sysReset (s : State) : State :=
  let s := (((s.drain).wipeEnclaves).flushAll).settleJournal.resetUnits
  s.onLog (fun l => { l with health := l.health.map (fun p => if p.1 / 256 = 2 ∨ p.1 / 256 = 3 ∨ 0xE ≤ p.1 / 256 ∨ (p.1 / 256 = 1 ∧ 3 ≤ (s.pcore (p.1 % 256)).role) then p else (p.1, { p.2 with state := 0, cause := 0 })) })

/-- The device runs, or is in recovery mode. -/
def State.awake (s : State) : Bool := s.phase == .running || s.phase == .recovery

/-- SYSRST_N_ASSERT: shorter than 1 µs, or while PORST_N is asserted, it has no effect (R402, R411). -/
def execSysrstNAssert (durationNs : Nat) (s : State) : Out :=
  let s1 := s.sysReset
  when (s.awake && decide (1000 ≤ durationNs)) s { s1 with phase := .sysHeld, pins := { s1.pins with sysrst := some s.now } }

/-- SYSRST_N_RELEASE: step 5 (R405, R411). TEST_EN counts at the release of PORST_N alone (R426). -/
def execSysrstNRelease (bootsel : Nat) (testEn : Bool) (env : StartEnv) (s : State) : Out :=
  when (s.phase == .sysHeld) s (s.startUp false 2 bootsel testEn env)

/-- SYSTEM_RESET (0x0700): a system reset at its execution stamp; it never reaches DONE (R411, R420). -/
def cmdSystemReset (bootsel : Nat) (env : StartEnv) : Command where
  code := 0x0700
  fmt := fmtNone
  run := fun s _ => ((s.sysReset).startUp false 3 bootsel false env, none)

/-- SYSTEM_RESET (R411). -/
def execSystemReset (w bootsel : Nat) (env : StartEnv) (s : State) : Out := serve (cmdSystemReset bootsel env) w s

/-! ### Power failure (R416, R417) -/

/-- Dirty lines of mirrored regions reach both ports (Table 15-8). -/
def State.cleanMirrored (s : State) : State :=
  let s := s.dirtyMirrored.foldl (fun s h => s.cleanLine 3 h.2.2.la) s
  ((s.ms.evict.filter (fun e => s.mirrored (e.la * 256))).map (·.la)).foldl (fun s la => s.ackEvict la) s

/-- The sequence of Table 15-8: buffers, dirty mirrored lines, GPF, TOTALS, POWER_FAIL. The record names the steps done (bits 0 to 3), the lines written and the ports whose GPF completed. -/
def State.powerFail (s : State) (gpfOk : List Nat) : State :=
  let run := s.phase == .running
  let s1 := if run then s.drain else s
  let lines := s1.dirtyMirrored.length
  let ports := (List.range 12).filter (fun p => gpfOk.contains p && (s1.port p).dev.isSome)
  let s2 := ((if run then s1.cleanMirrored else s1).advanceTo (s.now + 132 * usT)).writeTotals
  let s3 := s2.logSealed 0xD 0 [if run then 15 else 8, lines, (ports.map (fun p => 2 ^ p)).foldl (· + ·) 0]
  { s3.onLog (fun l => { l with gpf := some (l.poc, ports) }) with phase := .stopped }

/-- PWRFAIL_N_ASSERT: shorter than 100 ns it is ignored; the device then stays stopped until PORST_N (R416, R417, R438). -/
def execPwrfailNAssert (durationNs : Nat) (gpfOk : List Nat) (s : State) : Out :=
  when ((s.awake || s.phase == .sysHeld) && decide (100 ≤ durationNs)) s (s.powerFail gpfOk)

/-! ### Rail excursions (R429, R431) -/

/-- A rail of a held or stopped device loses its power or its window; nothing counts. -/
def State.railFalls (s : State) (rail : Nat) (under : Bool) : State := s.onRail rail (fun r => { r with on := r.on && !under, inWin := false })

/-- A departure from the operating window of a running device. -/
def State.excursion (s : State) (rail : Nat) (under : Bool) (permille extremeMv durationNs : Nat) : State :=
  let window := if rail = 9 then 50 else 30
  if permille ≤ window ∨ durationNs < 1000 then s
  else
    let s := (s.onRail rail (fun r => { r with underN := r.underN + b2n under, overN := r.overN + b2n (!under) }))
    let s := if under then s.countA (0xFF02 + rail) else s.countB (0xFF02 + rail)
    if 80 < permille ∧ 2000 ≤ durationNs ∧ rail ≠ 9 then s.deviceStop 2 0 else s.logRec 0xB 0 [rail, b2n (!under), extremeMv, durationNs]

/-- RAIL_EXCURSION: the departure has ended, or has stopped the device (R429). -/
def execRailExcursion (rail : Nat) (under : Bool) (permille extremeMv durationNs : Nat) (s : State) : Out :=
  when (decide (rail < 10)) s
    (if s.phase = .held ∨ s.phase = .stopped then (if rail < 9 then s.railFalls rail under else s) else s.excursion rail under permille extremeMv durationNs)

end Sys2Proof.Machine
end

