-- ==== Sys2Proof/Machine/Special.lean ====
section
/-! DEFINITION. MFS and MTS: the special registers of Table 05-7 (R121, R171, R174, R175, R179, R189, R198, R221, R222, R227). -/
namespace Sys2Proof.Machine

/-- Protection for a special register: access 0 read, 1 write (Table 05-8). -/
def spFault (n acc : Nat) : XFlt := ⟨7, 0, acc + 8 + n * 16⟩

/-- Registers of a trap set alone. -/
def trapOnly (n : Nat) : Bool := decide (0x010 ≤ n)

/-- The value MFS reads (Table 05-7). -/
def State.special (s : State) (core set n : Nat) : Nat :=
  let c := s.ctx core set
  let r := c.regs
  match n with
  | 0x000 => r.tsw.toNat
  | 0x001 => c.tid
  | 0x002 => r.evq.toNat
  | 0x003 => r.qtm.toNat
  | 0x004 => if r.wdt = 0 then 0 else r.wdt - s.now
  | 0x005 => r.fpsr.toNat
  | 0x006 => r.fpxa.toNat
  | 0x007 => b2n r.toa
  | 0x008 => (s.inst c.inst).vba
  | 0x009 => u64 s.now
  | 0x00A => core
  | 0x00B => c.inst
  | 0x00C => r.cyc
  | 0x010 => r.xpc.toNat
  | 0x011 => r.xtsw.toNat
  | 0x012 => r.xaddr.toNat
  | 0x013 => r.xinfo.toNat
  | 0x014 => r.xvec.toNat
  | 0x015 => r.xtid.toNat
  | _ => 0

/-- The tag MFS writes in RA-5 state (Table 05-7). -/
def mfsTag (n : Nat) : Tag := if [0x002, 0x006, 0x008, 0x010, 0x012].contains n then Tag.ptr else Tag.int

/-- MFS (R174). -/
def Env.mfs (e : Env) (d n : Nat) : Effect := do
  let r ← e.regs
  if trapOnly n && decide (e.set < 64) then e.fail (spFault n 0)
  let s ← get
  return e.gets d ⟨word (s.special e.core e.set n), resTag r.her (mfsTag n)⟩

/-- The source of an MTS, with the types its register accepts (Table 05-7). -/
def Env.mtsSrc (e : Env) (n a : Nat) : M Nat := do
  let r ← e.regs
  e.check [⟨r.gpr a, 1, if [0x002, 0x008, 0x010].contains n then tyPtr else if [0x000, 0x003, 0x004, 0x005, 0x007, 0x011].contains n then tyInt else subTypes, false⟩]
  return (r.gpr a).datum.toNat

/-- The RW fields of TSW: IMASK, MPROG and the flags (Table 05-1). -/
def tswWrite (old v : Nat) : Nat := setBits (setBits (setBits old 35 32 (bits v 35 32)) 28 24 (bits v 28 24)) 23 20 (bits v 23 20)

/-- The fields a handler may write through XTSW: HER besides (R179). -/
def xtswWrite (old v : Nat) : Nat := setBits (tswWrite old v) 63 63 (bits v 63 63)

/-- QTM as written: MISS of 1 to 63 keeps the field (Table 07-7). -/
def qtmWrite (old v : Nat) : Nat :=
  let miss := bits v 31 16
  (if 1 ≤ miss ∧ miss ≤ 63 then bits old 31 16 else miss) * 2 ^ 16 + bits v 15 0

/-- FPSR as written: reserved rounding codes keep their field; no PEND bit arises (R189, R198). -/
def fpsrWrite (old v : Nat) : Nat :=
  let x := setBits (setBits old 12 8 (bits v 12 8)) 4 0 (bits v 4 0)
  let x := if bits v 30 28 ≤ 4 then setBits x 30 28 (bits v 30 28) else x
  if bits v 26 24 ≤ 4 then setBits x 26 24 (bits v 26 24) else x

/-- MTS to TSW; read-only registers of the task discard a write (R23, R171, R174). -/
def Env.mtsTsw (e : Env) (n a : Nat) : Effect := do
  let v ← e.mtsSrc n a
  return if n = 0 then e.onRegs (fun r => { r with tsw := word (tswWrite r.tsw.toNat v) }) else id

/-- MTS to EVQ: the TSA's field is written at retirement (R221). -/
def Env.mtsEvq (e : Env) (a : Nat) : Effect := do
  let v ← e.mtsSrc 2 a
  if v % 64 ≠ 0 then e.fail ⟨5, v, 1⟩
  let c ← e.ctx
  let s ← get
  if e.set < 64 then
    let t ← e.lift (s.hubPut c.inst 0 (s.tsa c.tid + 0x28) (TWord.ptr (word v)))
    modify (fun _ => t)
  return e.onRegs (fun r => { r with evq := word v })

/-- MTS to QTM (R222). -/
def Env.mtsQtm (e : Env) (a : Nat) : Effect := do
  let v ← e.mtsSrc 3 a
  return e.onRegs (fun r => { r with qtm := word (qtmWrite r.qtm.toNat v) })

/-- MTS to WDT: the deadline is the retirement stamp plus INTERVAL (R227, Table 07-8). -/
def Env.mtsWdt (e : Env) (a : Nat) : Effect := do
  let v ← e.mtsSrc 4 a
  return fun s => e.onRegs (fun r => { r with wdt := if v % 2 ^ 48 = 0 then 0 else s.now + v % 2 ^ 48 }) s

/-- MTS to FPSR; FPXA is read-only (R189, R198). -/
def Env.mtsFpsr (e : Env) (n a : Nat) : Effect := do
  let v ← e.mtsSrc n a
  return if n = 5 then e.onRegs (fun r => { r with fpsr := word (fpsrWrite r.fpsr.toNat v) }) else id

/-- MTS to AUTH, from a trap set alone (R121). -/
def Env.mtsAuth (e : Env) (a : Nat) : Effect := do
  let v ← e.mtsSrc 7 a
  if e.set < 64 then e.fail (spFault 7 1)
  return e.onRegs (fun r => { r with toa := bit v 0 })

/-- MTS to VBA, with tag-override authority (R175). -/
def Env.mtsVba (e : Env) (a : Nat) : Effect := do
  let v ← e.mtsSrc 8 a
  let c ← e.ctx
  if v % 4096 ≠ 0 then e.fail ⟨5, v, 1⟩
  if !authority e.set c.regs then e.fail (spFault 8 1)
  return fun s => s.onInst c.inst (fun n => { n with vba := v })

/-- MTS to XPC or XTSW in a trap set; the other trap registers are read-only (R174, R179). -/
def Env.mtsX (e : Env) (n a : Nat) : Effect := do
  let v ← e.mtsSrc n a
  if e.set < 64 then e.fail (spFault n 1)
  return if n = 0x010 then e.onRegs (fun r => { r with xpc := word v })
    else if n = 0x011 then e.onRegs (fun r => { r with xtsw := word (xtswWrite r.xtsw.toNat v) })
    else id

/-! ### Rows -/

/-- MFS (R174). -/
def execMfs (core set : Nat) (s : State) : Out :=
  .next (s.issue core set (fun i => match i with | .mfs _ _ => true | _ => false)
    (fun e i => match i with | .mfs d n => e.commit (e.mfs d n) | _ => pure ()))

/-- MTS_TSW: the only write of MPROG that stands (R171). The read-only registers TID, TOD, LCORE, INST and CYC are discarded here (log entry 11). -/
def execMtsTsw (core set : Nat) (s : State) : Out :=
  .next (s.issue core set (fun i => match i with | .mts n _ => [0x000, 0x001, 0x009, 0x00A, 0x00B, 0x00C].contains n | _ => false)
    (fun e i => match i with | .mts n a => e.commit (e.mtsTsw n a) (n == 0) | _ => pure ()))

/-- MTS_EVQ (R221). -/
def execMtsEvq (core set : Nat) (s : State) : Out :=
  .next (s.issue core set (fun i => match i with | .mts n _ => n == 2 | _ => false)
    (fun e i => match i with | .mts _ a => e.commit (e.mtsEvq a) | _ => pure ()))

/-- MTS_QTM (R222). -/
def execMtsQtm (core set : Nat) (s : State) : Out :=
  .next (s.issue core set (fun i => match i with | .mts n _ => n == 3 | _ => false)
    (fun e i => match i with | .mts _ a => e.commit (e.mtsQtm a) | _ => pure ()))

/-- MTS_WDT (R227). -/
def execMtsWdt (core set : Nat) (s : State) : Out :=
  .next (s.issue core set (fun i => match i with | .mts n _ => n == 4 | _ => false)
    (fun e i => match i with | .mts _ a => e.commit (e.mtsWdt a) | _ => pure ()))

/-- MTS_FPSR, and the discarded MTS to FPXA (R198). -/
def execMtsFpsr (core set : Nat) (s : State) : Out :=
  .next (s.issue core set (fun i => match i with | .mts n _ => n == 5 || n == 6 | _ => false)
    (fun e i => match i with | .mts n a => e.commit (e.mtsFpsr n a) | _ => pure ()))

/-- MTS_AUTH (R121). -/
def execMtsAuth (core set : Nat) (s : State) : Out :=
  .next (s.issue core set (fun i => match i with | .mts n _ => n == 7 | _ => false)
    (fun e i => match i with | .mts _ a => e.commit (e.mtsAuth a) | _ => pure ()))

/-- MTS_VBA (R175). -/
def execMtsVba (core set : Nat) (s : State) : Out :=
  .next (s.issue core set (fun i => match i with | .mts n _ => n == 8 | _ => false)
    (fun e i => match i with | .mts _ a => e.commit (e.mtsVba a) | _ => pure ()))

/-- MTS_XPC_XTSW, and the discarded writes of the other trap registers (R174, R179). -/
def execMtsXpcXtsw (core set : Nat) (s : State) : Out :=
  .next (s.issue core set (fun i => match i with | .mts n _ => decide (0x010 ≤ n) | _ => false)
    (fun e i => match i with | .mts n a => e.commit (e.mtsX n a) | _ => pure ()))

end Sys2Proof.Machine
end

