-- ==== Sys2Proof/Machine/Pins.lean ====
section
/-! DEFINITION. Reference selection, GPIO, PPS source, power telemetry, SMBus, PMBus and JTAG (R48 to R51, R344, R432 to R434, R438, R447, R448). -/
namespace Sys2Proof.Machine

/-! ### REFCLK_SELECT and PPS_SOURCE_SELECT (R447) -/

/-- REFCLK_SELECT (0x0709). -/
def cmdRefclkSelect : Command where
  code := 0x0709
  fmt := fun _ q => q.len == 8 && decide (fld q.body 0 1 ≤ 1) && zeros q.body 1 7
  run := fun s q =>
    let r := fld q.body 0 1
    if s.clock.sel = r ∧ !s.clock.holdover then (s, some (stOk, []))
    else if (s.clock.ref r).failed then (s, some (stBusy, []))
    else (s.switchRef r, some (stOk, []))

/-- PPS_SOURCE_SELECT (0x070D). -/
def cmdPpsSourceSelect : Command where
  code := 0x070D
  fmt := fun _ q => q.len == 8 && decide (fld q.body 0 1 ≤ 2) && zeros q.body 1 7
  run := fun s q =>
    let x := fld q.body 0 1
    if x = 2 ∧ (s.gpio 12).claim ≠ 2 then (s, some (stClaimed, []))
    else if s.clock.ppsSource = x then (s, some (stOk, []))
    else (s.onClock (fun c => { c with ppsSource := x, lastPps := none, ppsLost := false }), some (stOk, []))

/-! ### GPIO (R48 to R51, R447, R448) -/

/-- GPIO_CLAIM (0x070A). -/
def cmdGpioClaim : Command where
  code := 0x070A
  fmt := fun _ q => q.len == 8 && decide (fld q.body 0 1 < 16) && (fld q.body 1 1 == 1 || (fld q.body 1 1 == 2 && fld q.body 0 1 == 12)) && zeros q.body 2 6
  run := fun s q =>
    let p := fld q.body 0 1
    let use := fld q.body 1 1
    let g := s.gpio p
    if g.claim = use then (s, some (stOk, []))
    else if g.claim ≠ 0 then (s, some (stClaimed, []))
    else (s.onGpio p (fun g => { g with claim := use, holder := s.mgr, dir := false }), some (stOk, []))

/-- GPIO_RELEASE (0x070B). -/
def cmdGpioRelease : Command where
  code := 0x070B
  fmt := fun _ q => q.len == 8 && decide (fld q.body 0 1 < 16) && zeros q.body 1 7
  run := fun s q =>
    let p := fld q.body 0 1
    if (s.gpio p).claim = 2 ∧ s.clock.ppsSource = 2 then (s, some (stBusy, []))
    else if (s.gpio p).claim = 0 then (s, some (stOk, []))
    else (s.onGpio p (fun g => { g with claim := 0, dir := false }), some (stOk, []))

/-- The level of a pin: what its driver puts out, or what comes from outside. -/
def Gpio.pin (g : Gpio) : Bool := if g.dir then g.value else g.level

/-- A mask of the pins that satisfy a test. -/
def State.pinMask (s : State) (f : Gpio → Bool) : Nat := ((List.range 16).filter (fun k => f (s.gpio k))).foldl (fun a k => a + 2 ^ k) 0

/-- The masked pins take DIR and VALUE together. -/
def State.drivePins (s : State) (mask dir value : Nat) : State :=
  (maskBits mask 16).foldl (fun s k => s.onGpio k (fun g => { g with dir := bit dir k, value := bit value k })) s

/-- The GPIO_ACCESS response body. -/
def State.gpioBody (s : State) : List Byte :=
  beBytes 2 (s.pinMask (fun g => g.claim == 1 && g.pin)) ++ beBytes 2 (s.pinMask (fun g => g.dir)) ++ beBytes 2 (s.pinMask (fun g => g.claim == 1)) ++ beBytes 2 (s.pinMask (fun g => g.claim == 2))

/-- GPIO_ACCESS (0x070C). -/
def cmdGpioAccess : Command where
  code := 0x070C
  fmt := fun _ q => q.len == 8 && zeros q.body 6 2
  run := fun s q =>
    let m := fld q.body 0 2
    if (maskBits m 16).any (fun k => (s.gpio k).claim != 1) then (s, some (stClaimed, []))
    else
      let s := s.drivePins m (fld q.body 2 2) (fld q.body 4 2)
      (s, some (stOk, s.gpioBody))

/-! ### POWER_STATUS, SMBus, PMBus (R432 to R434, Table 16-12) -/

/-- The main rails are off: the device is on standby power. -/
def State.mainOff (s : State) : Bool := (List.range 9).all (fun k => !(s.rail k).on)

/-- Package power in W: VOUT times IOUT over the rails. -/
def State.pkgPower (s : State) : Nat := ((List.range 10).map (fun k => (s.rail k).mv * (s.rail k).current)).foldl (· + ·) 0 / 10000

/-- STATE of a rail. -/
def Rail.code (r : Rail) : Nat := if !r.on then 0 else if !r.telemetry then 3 else if !r.inWin || r.avsFailed then 2 else 1

/-- Sixteen bits of a signed number. -/
def i16 (x : Int) : Nat := (x % 65536).toNat

/-- The POWER_STATUS response body (Table 16-12). -/
def State.powerBody (s : State) : List Byte :=
  let h := s.hottest
  beBytes 2 (if s.mainOff then 0 else s.pkgPower) ++ beBytes 2 (i16 h.2) ++ beBytes 1 h.1 ++ beBytes 1 (b2n s.mainOff) ++ beBytes 10 0 ++
    (List.range 10).flatMap (fun k => beBytes 2 (s.rail k).mv ++ beBytes 2 (s.rail k).current ++ beBytes 2 (i16 (s.rail k).vrTemp) ++ beBytes 1 (s.rail k).code ++ [0#8])

/-- POWER_STATUS (0x070E). -/
def cmdPowerStatus : Command where
  code := 0x070E
  fmt := fmtNone
  run := fun s _ => (s, some (stOk, s.powerBody))

/-- SMBUS_BLOCK_READ: command code 0x01 gives the first 16 bytes of POWER_STATUS, any other NACK; also on standby power (R434). -/
def execSmbusBlockRead (command : Nat) (s : State) : Out :=
  when s.pins.vstby s { s with pins := { s.pins with smb := if command = 1 then some (s.powerBody.take 16) else none } }

/-- PMBUS_POLL: a regulator answers with its readings, or not (R433). -/
def execPmbusPoll (rail : Nat) (answers : Bool) (mv current : Nat) (temp : Int) (s : State) : Out :=
  when (s.clocked && decide (rail < 10)) s
    (s.onRail rail (fun r => if answers then { r with telemetry := true, mv := mv % 65536, current := current % 65536, vrTemp := temp } else { r with telemetry := false }))

/-- PMB_ALERT: STATUS_WORD of the regulator is read and logged (R433). -/
def execPmbAlert (rail status : Nat) (s : State) : Out :=
  when (s.clocked && decide (rail < 10)) s
    (({ s with pins := { s.pins with pmbStatus := s.pins.pmbStatus.put rail (status % 65536) } }).logRec 0xB 0 [rail, 2, status % 65536, 0])

/-! ### JTAG (R344, R438) -/

/-- The last answer of the JTAG port. -/
def State.jtagAnswer (s : State) (v : Option Nat) : State := { s with pins := { s.pins with jtag := v } }

/-- Debug may reach the world of a task: the normal world's enable, or the enclave's with CONSENT (R344). -/
def State.debugs (s : State) (invasive : Bool) (i e : Nat) : Bool :=
  if e = 0 then (if invasive then s.dbgInv else s.dbgNi)
  else (if invasive then s.dbgEinv else s.dbgEni) && (s.encl i e).consent

/-- The special registers with debug numbers from 33 on: TSW, EVQ, QTM, WDT, FPSR, FPXA, CYC, and in a trap set XPC, XTSW, XADDR, XINFO, XVEC and XTID (Table 05-7). -/
def debugNums : List Nat := [0x000, 0x002, 0x003, 0x004, 0x005, 0x006, 0x00C, 0x010, 0x011, 0x012, 0x013, 0x014, 0x015]

/-- A register of a task by its debug number: G0 to G31, PC, the special registers, then the halves of F0 to F31 from 64 on. -/
def State.debugReg (s : State) (core set reg : Nat) : Nat :=
  let r := (s.ctx core set).regs
  if reg < 32 then (r.gpr reg).datum.toNat
  else if reg = 32 then r.pc.toNat
  else if 64 ≤ reg then
    (match s.bankOf core set with
     | some k =>
       let f := k.f.toList.getD ((reg - 64) / 2 % 32) {}
       if reg % 2 = 0 then f.hi.datum.toNat else f.lo.datum.toNat
     | none => 0)
  else
    let n := debugNums.getD (reg - 33) 0x009
    if trapOnly n && decide (set < 64) then 0 else s.special core set n

/-- Write a register of a task; data keep their tags, and a special register takes a write as its access codes say: reserved and read-only fields, and read-only registers, discard it (R19, R23, Table 05-7). -/
def Regs.debugSet (r : Regs) (trap : Bool) (now reg v : Nat) : Regs :=
  let w := word v
  if reg < 32 then r.setG reg ⟨w, (r.gpr reg).tag⟩
  else match reg with
    | 32 => { r with pc := w }
    | 33 => { r with tsw := word (tswWrite r.tsw.toNat v) }
    | 34 => if v % 64 = 0 then { r with evq := w } else r
    | 35 => { r with qtm := word (qtmWrite r.qtm.toNat v) }
    | 36 => { r with wdt := if v % 2 ^ 48 = 0 then 0 else now + v % 2 ^ 48 }
    | 37 => { r with fpsr := word (fpsrWrite r.fpsr.toNat v) }
    | 40 => if trap then { r with xpc := w } else r
    | 41 => if trap then { r with xtsw := word (xtswWrite r.xtsw.toNat v) } else r
    | _ => r

/-- A debug write of a register other than an F half: the Cairn follows, and the TSA's field with EVQ (R221). -/
def State.debugWrite (s : State) (core set reg v : Nat) : State :=
  let s := s.endGroup core set
  let c := s.ctx core set
  let r := c.regs.debugSet (decide (64 ≤ set)) s.now reg v
  let s := s.onCtx core set (fun c => { c with regs := r, cairn := r })
  if reg = 34 ∧ v % 64 = 0 ∧ set < 64 then (match s.hubPut c.inst 0 (s.tsa c.tid + 0x28) (TWord.ptr (word v)) with | .ok t => t | .error _ => s) else s

/-- Write a half of an F register of an attached bank. -/
def State.debugF (s : State) (core set reg v : Nat) : State :=
  s.onCore core (fun c => { c with banks := c.banks.map (fun k =>
    if k.owner ≠ s.bankSet core set then k
    else
      let n := (reg - 64) / 2 % 32
      let f := k.f.toList.getD n {}
      { k with f := k.f.setIfInBounds n (if reg % 2 = 0 then { f with hi := ⟨word v, f.hi.tag⟩ } else { f with lo := ⟨word v, f.lo.tag⟩ }) }) })

/-- Operations on a task: 1 halt, 2 resume, 3 read a register, 4 write a register, 7 read its cycle counter. -/
def State.jtagTask (s : State) (kind core set reg : Nat) (value : Option Nat) : State :=
  let c := s.ctx core set
  let e := c.regs.encl
  if 68 ≤ set ∨ c.run = .empty ∨ !s.debugs (kind != 7) c.inst e then s.jtagAnswer none
  else if kind = 7 then s.jtagAnswer (some c.regs.cyc)
  else
    let s := s.debugged c.inst e
    if kind = 1 then ((s.onCtx core set (fun c => { c with halted := true })).resched core).jtagAnswer (some 0)
    else if kind = 2 then ((s.onCtx core set (fun c => { c with halted := false })).resched core).jtagAnswer (some 0)
    else if kind = 3 then s.jtagAnswer (some (s.debugReg core set reg))
    else match value with
      | some v => (if 64 ≤ reg then s.debugF core set reg v else s.debugWrite core set reg v).jtagAnswer (some 0)
      | none => s.jtagAnswer none

/-- Operations on memory: 5 read, 6 write the datum of the word at a real address. -/
def State.jtagMem (s : State) (kind addr : Nat) (value : Option Nat) : State :=
  let g := match s.emap.find (addr / 65536) with | some m => (m.inst, m.encl) | none => (0, 0)
  if (s.regionOf addr).isNone ∨ !s.debugs true g.1 g.2 then s.jtagAnswer none
  else
    let s := s.debugged g.1 g.2
    if kind = 5 then s.jtagAnswer (some (s.wordNow (addr / 8)).datum.toNat)
    else match value with
      | some v => (s.putWord (addr / 8) ⟨word v, (s.wordNow (addr / 8)).tag⟩).jtagAnswer (some 0)
      | none => s.jtagAnswer none

/-- JTAG_ACCESS: 0 boundary scan, while PORST_N is asserted alone, or a debug operation under its enable; a refused one has no answer (R344, R438). -/
def execJtagAccess (kind core set reg : Nat) (value : Option Nat) (s : State) : Out :=
  .next (if kind = 0 then (if s.pins.porst && s.pins.vstby then s.drawn.jtagAnswer (some s.freeNat) else s.jtagAnswer none)
    else if !s.runs then s.jtagAnswer none
    else if kind = 5 ∨ kind = 6 then s.jtagMem kind reg value
    else if kind ≤ 7 then s.jtagTask kind core set reg value
    else s.jtagAnswer none)

/-- REFCLK_SELECT (R447). -/
def execRefclkSelect (w : Nat) (s : State) : Out := serve cmdRefclkSelect w s
/-- PPS_SOURCE_SELECT (R447). -/
def execPpsSourceSelect (w : Nat) (s : State) : Out := serve cmdPpsSourceSelect w s
/-- GPIO_CLAIM (R48). -/
def execGpioClaim (w : Nat) (s : State) : Out := serve cmdGpioClaim w s
/-- GPIO_RELEASE (R448). -/
def execGpioRelease (w : Nat) (s : State) : Out := serve cmdGpioRelease w s
/-- GPIO_ACCESS (R448). -/
def execGpioAccess (w : Nat) (s : State) : Out := serve cmdGpioAccess w s
/-- POWER_STATUS (R447). -/
def execPowerStatus (w : Nat) (s : State) : Out := serve cmdPowerStatus w s

end Sys2Proof.Machine
end

