-- ==== Sys2Proof/Machine/ResetCmd.lean ====
section
/-! DEFINITION. TOD_SET, the reset configuration commands and firmware commands (R407, R420 to R424). -/
namespace Sys2Proof.Machine

/-! ### TOD_SET (R422) -/

/-- The interval ends in what a waiting instruction keeps. -/
def Await.shift (d : Nat) : Await → Await
  | .probe op mode home llt key stamp q ok cls => .probe op mode home llt key (stamp + d) q (ok + d) cls
  | a => a

/-- A stamp that is 0 where no interval runs. -/
def shiftEnd (d t : Nat) : Nat := if t = 0 then 0 else t + d

/-- Watchdog deadlines of a register set. -/
def Regs.shift (d : Nat) (r : Regs) : Regs := { r with wdt := shiftEnd d r.wdt }

/-- Intervals of a task set. -/
def Ctx.shift (d : Nat) (c : Ctx) : Ctx := { c with regs := c.regs.shift d, cairn := c.cairn.shift d, await := c.await.shift d, bars := c.bars.map (fun b => { b with limit := b.limit + d }) }

/-- Intervals of a logical core. -/
def LCore.shift (d : Nat) (c : LCore) : LCore :=
  { c with retries := c.retries.map (· + d), reset := c.reset.map (fun r => (r.1, r.2.1, r.2.2.1 + d, r.2.2.2)) }

/-- Intervals of the clock unit. -/
def Clock.shift (d : Nat) (c : Clock) : Clock :=
  { c with
    ref0 := { c.ref0 with failedAt := c.ref0.failedAt + d }
    ref1 := { c.ref1 with failedAt := c.ref1.failedAt + d }
    lastPps := c.lastPps.map (· + d), relockAt := c.relockAt.map (· + d), ppsOutEnd := c.ppsOutEnd.map (· + d) }

/-- Intervals of the Service Complex and the Token Keeper. -/
def Svc.shift (d : Nat) (v : Svc) : Svc :=
  { v with
    spA := { v.spA with heartbeat := v.spA.heartbeat + d }
    spB := { v.spB with heartbeat := v.spB.heartbeat + d }
    leaseEnd := v.leaseEnd + d, guardEnd := v.guardEnd.map (· + d), resetStamp := v.resetStamp + d
    fwAct := v.fwAct.map (fun a => (a.1, a.2.1, a.2.2.1, a.2.2.2 + d)) }

/-- Intervals of a journal record. -/
def JRec.shift (d : Nat) (r : JRec) : JRec := { r with noPathEnd := shiftEnd d r.noPathEnd, abortEnd := shiftEnd d r.abortEnd, tEnd := shiftEnd d r.tEnd }

/-- Intervals of a subchannel. -/
def Subch.shift (d : Nat) (x : Subch) : Subch :=
  { x with slots := x.slots.map (fun p => (p.1, p.2.shift d)), paths := x.paths.map (fun p => (p.1, { p.2 with loginAt := p.2.loginAt + d })) }

/-- Intervals of a unit. -/
def Unit.shift (d : Nat) (u : Unit) : Unit := { u with faultEnd := shiftEnd d u.faultEnd, lastSeed := u.lastSeed + d }

/-- Intervals of a Route. -/
def Route.shift (d : Nat) (r : Route) : Route :=
  { r with lastFrame := r.lastFrame + d, unacked := r.unacked.map (fun u => (u.1, u.2 + d)), beat := r.beat + d, loop := r.loop + d }

/-- Intervals of a Ledger Lock Table: WAIT_LIMIT runs from the stamp of the waiter. -/
def Llt.shift (d : Nat) (t : Llt) : Llt :=
  { t with keys := t.keys.map (fun k => (k.1, { k.2 with waits := k.2.waits.map (fun w => (w.1, w.2.1, w.2.2.1, w.2.2.2.1 + d, w.2.2.2.2)) })) }

/-- Intervals of the Relay. -/
def Relay.shift (d : Nat) (r : Relay) : Relay :=
  { r with
    ports := r.ports.map (fun p => (p.1, { p.2 with replayAt := p.2.replayAt.map (· + d), exchAt := p.2.exchAt + d }))
    noRoute := r.noRoute.map (fun p => (p.1, p.2 + d)), lastFrame := r.lastFrame.map (fun p => (p.1, p.2 + d))
    llts := r.llts.map (fun p => (p.1, p.2.shift d)) }

/-- Intervals of the Logbook. -/
def Log.shift (d : Nat) (l : Log) : Log :=
  { l with notes := l.notes.map (· + d), hoursFrom := l.hoursFrom + d, lastHour := l.lastHour + d, sealHour := l.sealHour + d }

/-- Every interval end the device holds moves by the same amount (R422). -/
def State.shiftEnds (s : State) (d : Nat) : State :=
  { s with
    clock := s.clock.shift d, svc := s.svc.shift d, log := s.log.shift d, relay := s.relay.shift d
    cores := s.cores.map (fun p => (p.1, p.2.shift d)), ctxs := s.ctxs.map (fun p => (p.1, p.2.shift d))
    outcomes := s.outcomes.map (fun p => (p.1, p.2.shift d)), deferred := s.deferred.map (fun x => { x with end_ := x.end_ + d })
    subchs := s.subchs.map (fun p => (p.1, p.2.shift d)), routes := s.routes.map (fun p => (p.1, p.2.shift d))
    bcus := s.bcus.map (fun p => (p.1, p.2.shift d)), dfus := s.dfus.map (fun p => (p.1, p.2.shift d))
    ioports := s.ioports.map (fun p => (p.1, { p.2 with lostAt := p.2.lostAt + d }))
    ms := { s.ms with
      ports := s.ms.ports.map (fun p => (p.1, { p.2 with downAt := p.2.downAt + d }))
      ways := s.ms.ways.map (fun p => (p.1, { p.2 with errs := p.2.errs.map (fun e => (e.1, e.2 + d)) })) } }

/-- TOD steps forward on one edge; the epoch and the rate window in progress end there (R422). -/
def State.stepTod (s : State) (d : Nat) : State := (((s.shiftEnds d).onClock (fun c => { c with tod := c.tod + d })).startWindow).startEpoch

/-- TOD_SET (0x0705). -/
def cmdTodSet : Command where
  code := 0x0705
  fmt := fun s q => q.len == 8 && ((s.ranUnder 0x0705 q).isSome || decide (u64 s.now < fld q.body 0 8))
  run := oncePerSeq 0x0705 (fun s q =>
    if s.relay.sync = 1 ∨ s.relay.sync = 2 then (s, some (stBusy, []))
    else (s.stepTod (fld q.body 0 8 - u64 s.now), some (stOk, beBytes 8 (u64 s.now))))

/-- TOD_SET (R422). -/
def execTodSet (w : Nat) (s : State) : Out := serve cmdTodSet w s

/-! ### RESET_CONFIG_SET (R423, Table 15-9) -/

/-- A row of Table 15-9; an OP that is not assigned is served by any row. -/
def cfgCmd (op len : Nat) (indexed : Bool) (data : List Byte → Bool) (run : State → MReq → State × Option Reply) : Command where
  code := 0x0706
  sel := fun b => fld b 0 1 == op || fld b 0 1 == 0 || decide (6 < fld b 0 1)
  fmt := fun _ q => fld q.body 0 1 == op && q.len == len && zeros q.body 1 1 && zeros q.body 4 4 && decide (fld q.body 2 2 < (if indexed then 64 else 1)) && data q.body
  run := run

/-- Change the staging copy. -/
def State.onStaging (s : State) (f : List Byte → List Byte) : State := { s with fw := { s.fw with staging := f s.fw.staging } }

/-- A configuration without its CRC and GEN. -/
def cfgBody (b : List Byte) : List Byte := bytesAt b 0 0x30 ++ bytesAt b 0x38 (cfgLen - 0x38)

/-- The count of IN_DOUBT records that the boot control block holds (R423). -/
def State.doubtCount (s : State) : Nat :=
  (s.indoubt.filter (fun r => r.state == 6)).length + (s.subchs.flatMap (fun p => p.2.slots.filter (fun k => k.2.state == 6))).length

/-- OP 0x01: bytes 0x000 to 0x03F, CRC and GEN ignored; a nonzero reserved byte is refused (R2). -/
def cmdCfgHeader : Command := cfgCmd 1 0x48 false (fun b => headerRsv (bytesAt b 8 0x40)) (fun s q =>
  (s.onStaging (fun b => bytesAt q.body 8 0x30 ++ bytesAt b 0x30 8 ++ bytesAt q.body 0x40 8 ++ bytesAt b 0x40 0x800), some (stOk, [])))

/-- OP 0x02: one descriptor; a nonzero reserved field is refused (R2). -/
def cmdCfgDescriptor : Command := cfgCmd 2 0x28 true (fun b => descrRsv (bytesAt b 8 32)) (fun s q =>
  (s.onStaging (fun b => putBytes (bytesAt b 0 cfgLen) (0x40 + 32 * fld q.body 2 2) (bytesAt q.body 8 32)), some (stOk, [])))

/-- The staging copy is written over the older stored copy, one GEN above the newer, and the record is sealed. -/
def State.commitCfg (s : State) : State × Nat :=
  let b := bytesAt s.fw.staging 0 cfgLen
  let old := s.newestCopy
  let gen := ((match old with | some c => cfgGen c.2 | none => 0) + 1) % 2 ^ 32
  let changed := match old with | some c => sysDescr c.2 != sysDescr b | none => true
  let n := bytesAt b 0 0x30 ++ beBytes 4 (cfgCrc b) ++ beBytes 4 gen ++ bytesAt b 0x38 (cfgLen - 0x38)
  let fw : Fw := match old with
    | some (0, _) => { s.fw with cfg1 := n, staging := n }
    | _ => { s.fw with cfg0 := n, staging := n }
  (({ s with fw := fw }).logSealed 0x17 0 [gen, b2n changed, if changed then s.doubtCount else 0], gen)

/-- OP 0x03: commit. -/
def cmdCfgCommit : Command := cfgCmd 3 0x10 false (fun b => decide (fld b 0xC 1 < 2) && zeros b 0xD 3) (fun s q =>
  let b := bytesAt s.fw.staging 0 cfgLen
  let old := s.newestCopy
  let same := match old with | some c => cfgBody c.2 == cfgBody b | none => false
  let changed := match old with | some c => sysDescr c.2 != sysDescr b | none => true
  if fld q.body 8 4 ≠ cfgCrc b then (s, some (stBadField, []))
  else if same then (s, some (stOk, beBytes 4 (match old with | some c => cfgGen c.2 | none => 0) ++ beBytes 4 0))
  else if !s.configOk b then (s, some (stBadField, []))
  else if changed ∧ 0 < s.doubtCount ∧ fld q.body 0xC 1 = 0 then (s, some (stBusy, []))
  else
    let r := s.commitCfg
    (r.1, some (stOk, beBytes 4 r.2 ++ beBytes 4 0)))

/-- OP 0x04: the header of the newest valid stored copy. -/
def cmdCfgReadHeader : Command := cfgCmd 4 8 false (fun _ => true) (fun s _ =>
  match s.newestCopy with
  | some c => (s, some (stOk, bytesAt c.2 0 0x40))
  | none => (s, some (stBadField, [])))

/-- OP 0x05: a descriptor of the newest valid stored copy. -/
def cmdCfgReadDescriptor : Command := cfgCmd 5 8 true (fun _ => true) (fun s q =>
  match s.newestCopy with
  | some c => (s, some (stOk, descr c.2 (fld q.body 2 2)))
  | none => (s, some (stBadField, [])))

/-- OP 0x06: the staging copy is made again. -/
def cmdCfgDiscard : Command := cfgCmd 6 8 false (fun _ => true) (fun s _ => (s.onStaging (fun _ => s.freshStaging), some (stOk, [])))

/-- RESET_CONFIG_STAGE_HEADER (R423). -/
def execResetConfigStageHeader (w : Nat) (s : State) : Out := serve cmdCfgHeader w s
/-- RESET_CONFIG_STAGE_DESCRIPTOR (R423). -/
def execResetConfigStageDescriptor (w : Nat) (s : State) : Out := serve cmdCfgDescriptor w s
/-- RESET_CONFIG_COMMIT (R423). -/
def execResetConfigCommit (w : Nat) (s : State) : Out := serve cmdCfgCommit w s
/-- RESET_CONFIG_READ_HEADER (R423). -/
def execResetConfigReadHeader (w : Nat) (s : State) : Out := serve cmdCfgReadHeader w s
/-- RESET_CONFIG_READ_DESCRIPTOR (R423). -/
def execResetConfigReadDescriptor (w : Nat) (s : State) : Out := serve cmdCfgReadDescriptor w s
/-- RESET_CONFIG_DISCARD (R423). -/
def execResetConfigDiscard (w : Nat) (s : State) : Out := serve cmdCfgDiscard w s

/-! ### FW_STAGE and FW_ACTIVATE (R408, R424) -/

/-- FW_STAGE (0x0707). -/
def cmdFwStage : Command where
  code := 0x0707
  fmt := fun _ q =>
    let t := fld q.body 0 1
    (t == 1 || t == 2) && zeros q.body 1 3 && decide (0x10 ≤ q.len) && fld q.body 4 4 % 8 == 0 && decide (fld q.body 4 4 + (q.len - 8) ≤ fwArea t)
  run := fun s q =>
    let off := fld q.body 4 4
    let d := bytesAt q.body 8 (q.len - 8)
    if s.svc.fwAct.isSome then (s, some (stBusy, []))
    else
      let fw : Fw :=
        if fld q.body 0 1 = 2 then { s.fw with tskStaged := putBytes s.fw.tskStaged off d, pending := s.fw.pending && off != 0 }
        else if s.fw.pref = 0 then { s.fw with slot1 := putBytes s.fw.slot1 off d, shipped1 := false }
        else { s.fw with slot0 := putBytes s.fw.slot0 off d, shipped0 := false }
      ({ s with fw := fw }, some (stOk, []))

/-- The standby SP is reset to load the slot that has become preferred (R424). -/
def State.beginActivate (s : State) (q : MReq) (p : Nat) : State :=
  let slot := 1 - s.fw.pref
  let s : State := { s.recordSeq 0x0708 q.w q.seq (stOk, []) with fw := { s.fw with pref := slot } }
  let s := s.onSvc (fun v => { v with fwAct := some (q.w, slot, 1 - slot, s.now + 10 * secT), fwReload := some p })
  s.toSp (1 - p) 5 0

/-- FW_ACTIVATE of SFW while the device runs; the row repeats until the standby is ready and the handover has begun (R424). -/
def State.activateSfw (s : State) (q : MReq) (p : Nat) : State × Option Reply :=
  match s.svc.fwAct with
  | some (w, _, _, _) =>
    if w ≠ q.w then (s, some (stBusy, []))
    else if s.fwLate then (s.fwRevert, some (stBadField, []))
    else if (s.sp (1 - p)).state ≠ 3 then (s, none)
    else
      let s := s.onSvc (fun v => { v with draining := some q.w })
      if s.othersInExec q.w then (s, none) else (s.handOver q.w p, none)
  | none =>
    if (s.ranUnder 0x0708 q).isSome then (s, some (if (s.sp p).slot = s.fw.pref then stOk else stBadField, []))
    else
      let st := s.slotStatus (1 - s.fw.pref)
      if st ≠ stOk then (s, some (st, []))
      else if (s.sp (1 - p)).state ≠ 3 then (s, some (stBusy, []))
      else (s.beginActivate q p, none)

/-- FW_ACTIVATE (0x0708). -/
def cmdFwActivate : Command where
  code := 0x0708
  fmt := fun _ q => q.len == 8 && (fld q.body 0 1 == 1 || fld q.body 0 1 == 2) && zeros q.body 1 7
  run := fun s q =>
    if fld q.body 0 1 = 2 then
      let st := s.fwStatus 2 s.fw.tskStaged
      if st ≠ stOk then (s, some (st, [])) else ({ s with fw := { s.fw with pending := true } }, some (stOk, []))
    else match s.svc.holder with
      | some p => s.activateSfw q p
      | none =>
        let st := s.slotStatus (1 - s.fw.pref)
        if st ≠ stOk then (s, some (st, [])) else ({ s with fw := { s.fw with pref := 1 - s.fw.pref } }, some (stOk, []))

/-- FW_ACTIVATE_TIMEOUT: the standby is not STANDBY_READY after 10 s; the preference returns to the old slot (R424). -/
def execFwActivateTimeout (s : State) : Out :=
  match s.svc.fwAct, s.svc.fwReload with
  | some (w, _, _, t), some p => when (s.runs && (s.sp (1 - p)).state != 3) s ((s.advanceTo t).fwRevert.endMb w stBadField [])
  | _, _ => .next s

/-- FW_STAGE (R408). -/
def execFwStage (w : Nat) (s : State) : Out := serve cmdFwStage w s
/-- FW_ACTIVATE (R424). -/
def execFwActivate (w : Nat) (s : State) : Out := serve cmdFwActivate w s

end Sys2Proof.Machine
end

