-- ==== Sys2Proof/Machine/Vector.lean ====
section
/-! DEFINITION. Vector and carry-less operations, and the single-block cipher (R304 to R307). -/
namespace Sys2Proof.Machine

/-- Types of the F halves that vector operations accept (Table 04-4). -/
def vecTypes : List Nat := [0, 1, 4, 5]

/-- The 16 bytes of an F register, in block order (R304). -/
def fbytes (x : FReg) : List Byte := beBytes 16 (fbits 128 x)

/-- A vector result, tagged RAW. -/
def rawReg (v : Nat) : FReg := freg 128 Tag.raw v

/-- The halves a vector operation reads (log entry 31). -/
def vecOpds (op : VOp) (x y : FReg) : List Opd :=
  match op with
  | .clmul => [⟨x.lo, 1, vecTypes, false⟩, ⟨y.lo, 2, vecTypes, false⟩]
  | .clmulh => [⟨x.hi, 1, vecTypes, false⟩, ⟨y.hi, 2, vecTypes, false⟩]
  | .clmulx => [⟨x.hi, 1, vecTypes, false⟩, ⟨y.lo, 2, vecTypes, false⟩]
  | .clmuly => [⟨x.lo, 1, vecTypes, false⟩, ⟨y.hi, 2, vecTypes, false⟩]
  | .vbswap => halves 128 1 vecTypes x
  | _ => halves 128 1 vecTypes x ++ halves 128 2 vecTypes y

/-- A carry-less product of 64-bit patterns. -/
def clmul64 (a b : TWord) : Nat := clmulN 64 a.datum.toNat b.datum.toNat

/-- The result of Table 10-7. -/
def vecVal (op : VOp) (x y : FReg) : Nat :=
  match op with
  | .clmul => clmul64 x.lo y.lo
  | .clmulh => clmul64 x.hi y.hi
  | .clmulx => clmul64 x.hi y.lo
  | .clmuly => clmul64 x.lo y.hi
  | .vxor => Nat.xor (fbits 128 x) (fbits 128 y)
  | .vand => Nat.land (fbits 128 x) (fbits 128 y)
  | .vor => Nat.lor (fbits 128 x) (fbits 128 y)
  | .vshuf => beNat ((fbytes y).map (fun k => if 128 ≤ k.toNat then 0#8 else (fbytes x).getD (k.toNat % 16) 0#8))
  | .vbswap => beNat (fbytes x).reverse

/-- A vector or carry-less operation. -/
def Env.vec (e : Env) (op : VOp) (d a b : Nat) : Effect := do
  e.useBank
  let ff ← e.fregs
  let x := fget ff a
  let y := fget ff b
  e.check (vecOpds op x y)
  return e.setF d (rawReg (vecVal op x y))

/-! ### BENC and BDEC (R305, R306) -/

/-- A Block Cipher Unit is in service. -/
def State.bcuAny (s : State) : Bool := (List.range 8).any (fun k => (s.bcu k).state == 1 && (s.bcu k).gated == 0)

/-- The page store lets a block on: the page serves the task, and PERM at the issue allows it (R298, R299, R305, R316, R321). -/
def State.blockAllowed (s : State) (c : Ctx) (dec : Bool) (page : Nat) (blk : List Byte) : Bool :=
  let p := (s.page page).perm
  s.pageServes c.inst c.regs.encl page && bit p 2 && bit p (b2n dec) && !guardOnlyBars p (!dec) false blk

/-- Send a block to the pool of Block Cipher Units, and wait for it; a page the task may not use is refused before any unit (R299, R306). -/
def Env.sendBlock (e : Env) (dec : Bool) (page : Nat) (blk : List Byte) : M PUnit := do
  let c ← e.ctx
  let s ← get
  if !s.bcuAny || !s.blockAllowed c dec page blk then e.fail ⟨7, 0, 0⟩
  modify (fun s => ({ s with bcuPool := s.bcuPool ++ [{ src := 2, ring := e.core, subidx := e.set, inst := c.inst, encl := c.regs.encl, cls := c.cls, op := b2n dec, page := page, len := 16, user := c.tid, input := blk }] } : State).onCtx e.core e.set
    (fun c => { c with await := .cipher }))
  if decide (e.set < 64) && c.regs.miss ≠ 0 && decide (c.regs.miss < 180) && s.otherReady e.core e.set && c.regs.pend == 0 then
    modify (fun s => (s.onCtx e.core e.set (fun c => { c with run := .waitMem, since := s.now })).resched e.core)
  throw .wait

/-- BENC and BDEC: the block is sent, and the instruction completes with its answer (R304 to R307). -/
def Env.bcrypt (e : Env) (dec : Bool) (d a b : Nat) : Effect := do
  e.useBank
  let r ← e.regs
  let ff ← e.fregs
  let x := fget ff a
  e.check (halves 128 1 tyIntRaw x ++ [⟨r.gpr b, 2, tyInt, false⟩])
  let c ← e.ctx
  match c.await with
  | .block true v => return e.setF d (rawReg v)
  | .block false _ => e.fail ⟨7, 0, 0⟩
  | .cipher => throw .wait
  | _ =>
    let n := (r.gpr b).datum.toNat
    if 4096 ≤ n then e.fail ⟨7, 0, 0⟩
    e.sendBlock dec n (fbytes x)
    return id

/-! ### Rows -/

/-- VECTOR_CARRYLESS (R304). -/
def execVectorCarryless (core set : Nat) (s : State) : Out :=
  .next (s.issue core set (fun i => match i with | .vec _ _ _ _ => true | _ => false)
    (fun e i => match i with | .vec op d a b => e.commit (e.vec op d a b) | _ => pure ()))

/-- BENC_BDEC (R305). -/
def execBencBdec (core set : Nat) (s : State) : Out :=
  .next (s.issue core set (fun i => match i with | .bcrypt _ _ _ _ => true | _ => false)
    (fun e i => match i with | .bcrypt dec d a b => e.commit (e.bcrypt dec d a b) | _ => pure ()))

end Sys2Proof.Machine
end

