-- ==== Sys2Proof/Machine/Dispatch.lean ====
section
/-! DEFINITION. One arm for each constructor of Instr: a direct call of its meaning, or a rejection by name. -/
namespace Sys2Proof.Machine

/-- The effect of a command on everything but the queue. -/
def exec (i : Instr) (s : State) : Host.Outcome State Fault Refusal :=
  match i with
  | .integerArithmetic core set => Sys2Proof.Machine.execIntegerArithmetic core set s
  | .addcSubb core set => Sys2Proof.Machine.execAddcSubb core set s
  | .mulw core set => Sys2Proof.Machine.execMulw core set s
  | .div core set => Sys2Proof.Machine.execDiv core set s
  | .logicalShiftRotate core set => Sys2Proof.Machine.execLogicalShiftRotate core set s
  | .cmp core set => Sys2Proof.Machine.execCmp core set s
  | .lui core set => Sys2Proof.Machine.execLui core set s
  | .pairedShortOperations core set => Sys2Proof.Machine.execPairedShortOperations core set s
  | .b core set => Sys2Proof.Machine.execB core set s
  | .call core set => Sys2Proof.Machine.execCall core set s
  | .br core set => Sys2Proof.Machine.execBr core set s
  | .callr core set => Sys2Proof.Machine.execCallr core set s
  | .ret core set => Sys2Proof.Machine.execRet core set s
  | .tollGateEntry core set => Sys2Proof.Machine.execTollGateEntry core set s
  | .texit core set => Sys2Proof.Machine.execTexit core set s
  | .ld core set => Sys2Proof.Machine.execLd core set s
  | .ldzLds core set => Sys2Proof.Machine.execLdzLds core set s
  | .st core set => Sys2Proof.Machine.execSt core set s
  | .sts core set => Sys2Proof.Machine.execSts core set s
  | .ldres core set => Sys2Proof.Machine.execLdres core set s
  | .stcond core set => Sys2Proof.Machine.execStcond core set s
  | .stm core set => Sys2Proof.Machine.execStm core set s
  | .ldm core set => Sys2Proof.Machine.execLdm core set s
  | .gtag core set => Sys2Proof.Machine.execGtag core set s
  | .stag core set => Sys2Proof.Machine.execStag core set s
  | .ldtag core set => Sys2Proof.Machine.execLdtag core set s
  | .sttx core set => Sys2Proof.Machine.execSttx core set s
  | .mfs core set => Sys2Proof.Machine.execMfs core set s
  | .mtsTsw core set => Sys2Proof.Machine.execMtsTsw core set s
  | .mtsEvq core set => Sys2Proof.Machine.execMtsEvq core set s
  | .mtsQtm core set => Sys2Proof.Machine.execMtsQtm core set s
  | .mtsWdt core set => Sys2Proof.Machine.execMtsWdt core set s
  | .mtsFpsr core set => Sys2Proof.Machine.execMtsFpsr core set s
  | .mtsAuth core set => Sys2Proof.Machine.execMtsAuth core set s
  | .mtsVba core set => Sys2Proof.Machine.execMtsVba core set s
  | .mtsXpcXtsw core set => Sys2Proof.Machine.execMtsXpcXtsw core set s
  | .mbar core set => Sys2Proof.Machine.execMbar core set s
  | .iobar core set => Sys2Proof.Machine.execIobar core set s
  | .fsync core set => Sys2Proof.Machine.execFsync core set s
  | .isync core set => Sys2Proof.Machine.execIsync core set s
  | .yield core set => Sys2Proof.Machine.execYield core set s
  | .signal core set => Sys2Proof.Machine.execSignal core set s
  | .binaryFpArithmetic core set => Sys2Proof.Machine.execBinaryFpArithmetic core set s
  | .fcmpDcmp core set => Sys2Proof.Machine.execFcmpDcmp core set s
  | .fminFmax core set => Sys2Proof.Machine.execFminFmax core set s
  | .fcvtiDcvti core set => Sys2Proof.Machine.execFcvtiDcvti core set s
  | .fmvgGmvf core set => Sys2Proof.Machine.execFmvgGmvf core set s
  | .fld core set => Sys2Proof.Machine.execFld core set s
  | .fst core set => Sys2Proof.Machine.execFst core set s
  | .decimalFpArithmetic core set => Sys2Proof.Machine.execDecimalFpArithmetic core set s
  | .dquant core set => Sys2Proof.Machine.execDquant core set s
  | .packedDecimal core set => Sys2Proof.Machine.execPackedDecimal core set s
  | .pdivPrem core set => Sys2Proof.Machine.execPdivPrem core set s
  | .ptobPtod core set => Sys2Proof.Machine.execPtobPtod core set s
  | .btopDtop core set => Sys2Proof.Machine.execBtopDtop core set s
  | .vectorCarryless core set => Sys2Proof.Machine.execVectorCarryless core set s
  | .bencBdec core set => Sys2Proof.Machine.execBencBdec core set s
  | .cacheMaintenanceByAddress core set => Sys2Proof.Machine.execCacheMaintenanceByAddress core set s
  | .cacheMaintenanceBySetWay core set => Sys2Proof.Machine.execCacheMaintenanceBySetWay core set s
  | .tlbinv core set => Sys2Proof.Machine.execTlbinv core set s
  | .llockLtry core set => Sys2Proof.Machine.execLlockLtry core set s
  | .lrel core set => Sys2Proof.Machine.execLrel core set s
  | .customInstruction core set => Sys2Proof.Machine.execCustomInstruction core set s
  | .waitFpRetry core set => Sys2Proof.Machine.execWaitFpRetry core set s
  | .loadDataReturn core set => Sys2Proof.Machine.execLoadDataReturn core set s
  | .storePerformed core => Sys2Proof.Machine.execStorePerformed core s
  | .evictionWritebackAck la => Sys2Proof.Machine.execEvictionWritebackAck la s
  | .flushingReadAnswer core set kind num => Sys2Proof.Machine.execFlushingReadAnswer core set kind num s
  | .iobarTimeout core set => Sys2Proof.Machine.execIobarTimeout core set s
  | .deviceSpaceLoadReply core set datum => Sys2Proof.Machine.execDeviceSpaceLoadReply core set datum s
  | .eccCorrectableError level unit idx way => Sys2Proof.Machine.execEccCorrectableError level unit idx way s
  | .eccUncorrectableError level unit idx way mask both => Sys2Proof.Machine.execEccUncorrectableError level unit idx way mask both s
  | .cxlAccessTimeout port la write => Sys2Proof.Machine.execCxlAccessTimeout port la write s
  | .cxlLinkDownTimeout port => Sys2Proof.Machine.execCxlLinkDownTimeout port s
  | .cxlFatalError port => Sys2Proof.Machine.execCxlFatalError port s
  | .cxlPortRetrain port width rate => Sys2Proof.Machine.execCxlPortRetrain port width rate s
  | .mirrorResyncComplete port => Sys2Proof.Machine.execMirrorResyncComplete port s
  | .patrolScrub level unit idx way found mask => Sys2Proof.Machine.execPatrolScrub level unit idx way found mask s
  | .endpointDma port write addr len bytes => Sys2Proof.Machine.execEndpointDma port write addr len bytes s
  | .flitCrcFailure link laneFailed => Sys2Proof.Machine.execFlitCrcFailure link laneFailed s
  | .refclkEdgeLoss ref => Sys2Proof.Machine.execRefclkEdgeLoss ref s
  | .refclkFrequencyFail ref => Sys2Proof.Machine.execRefclkFrequencyFail ref s
  | .refclkValid ref => Sys2Proof.Machine.execRefclkValid ref s
  | .ppsEdge src => Sys2Proof.Machine.execPpsEdge src s
  | .ppsLost src => Sys2Proof.Machine.execPpsLost src s
  | .ppsOutPulse => Sys2Proof.Machine.execPpsOutPulse s
  | .ppsOutEnd => Sys2Proof.Machine.execPpsOutEnd s
  | .shareEpochStart => Sys2Proof.Machine.execShareEpochStart s
  | .rateWindowStart => Sys2Proof.Machine.execRateWindowStart s
  | .leaseRenewal sp heartbeat => Sys2Proof.Machine.execLeaseRenewal sp heartbeat s
  | .leaseExpiry => Sys2Proof.Machine.execLeaseExpiry s
  | .guardEnd => Sys2Proof.Machine.execGuardEnd s
  | .leaseRequest sp => Sys2Proof.Machine.execLeaseRequest sp s
  | .firstLeaseWindowEnd => Sys2Proof.Machine.execFirstLeaseWindowEnd s
  | .sfwHeartbeatLoss sp => Sys2Proof.Machine.execSfwHeartbeatLoss sp s
  | .sfwFault sp => Sys2Proof.Machine.execSfwFault sp s
  | .tskFault sp => Sys2Proof.Machine.execTskFault sp s
  | .spBistResult sp pass => Sys2Proof.Machine.execSpBistResult sp pass s
  | .spReset sp => Sys2Proof.Machine.execSpReset sp s
  | .mirrorCopyAcknowledged sp => Sys2Proof.Machine.execMirrorCopyAcknowledged sp s
  | .mailboxDoorbell w value tid other => Sys2Proof.Machine.execMailboxDoorbell w value tid other s
  | .nrCtlEnable w value tid => Sys2Proof.Machine.execNrCtlEnable w value tid s
  | .nrHeadWrite w value => Sys2Proof.Machine.execNrHeadWrite w value s
  | .notificationWrite w => Sys2Proof.Machine.execNotificationWrite w s
  | .consoleFrame op tag offset data => Sys2Proof.Machine.execConsoleFrame op tag offset data s
  | .registerWrite agent addr value => Sys2Proof.Machine.execRegisterWrite agent addr value s
  | .instStatus w => Sys2Proof.Machine.execInstStatus w s
  | .instConfigGet w => Sys2Proof.Machine.execInstConfigGet w s
  | .instConfigSet w => Sys2Proof.Machine.execInstConfigSet w s
  | .shareGet w => Sys2Proof.Machine.execShareGet w s
  | .shareSet w => Sys2Proof.Machine.execShareSet w s
  | .coreAssign w => Sys2Proof.Machine.execCoreAssign w s
  | .memregionAdd w => Sys2Proof.Machine.execMemregionAdd w s
  | .memregionRemove w => Sys2Proof.Machine.execMemregionRemove w s
  | .subchRangeAssign w => Sys2Proof.Machine.execSubchRangeAssign w s
  | .courierGrant w => Sys2Proof.Machine.execCourierGrant w s
  | .courierRevoke w => Sys2Proof.Machine.execCourierRevoke w s
  | .courierCapSet w => Sys2Proof.Machine.execCourierCapSet w s
  | .ioTimeoutSet w => Sys2Proof.Machine.execIoTimeoutSet w s
  | .instReset w => Sys2Proof.Machine.execInstReset w s
  | .instanceResetComplete inst => Sys2Proof.Machine.execInstanceResetComplete inst s
  | .managerTransfer w => Sys2Proof.Machine.execManagerTransfer w s
  | .endpointAssign w => Sys2Proof.Machine.execEndpointAssign w s
  | .endpointRelease w => Sys2Proof.Machine.execEndpointRelease w s
  | .subchannelDoorbell sc value => Sys2Proof.Machine.execSubchannelDoorbell sc value s
  | .waybillAdmission sc => Sys2Proof.Machine.execWaybillAdmission sc s
  | .waybillDispatch route exch => Sys2Proof.Machine.execWaybillDispatch route exch s
  | .targetFirstFrame sc wsn => Sys2Proof.Machine.execTargetFirstFrame sc wsn s
  | .finalResponse sc wsn devstat moved sense => Sys2Proof.Machine.execFinalResponse sc wsn devstat moved sense s
  | .completionRingHeadWrite sc value => Sys2Proof.Machine.execCompletionRingHeadWrite sc value s
  | .attemptTimeout sc wsn => Sys2Proof.Machine.execAttemptTimeout sc wsn s
  | .transportError sc wsn => Sys2Proof.Machine.execTransportError sc wsn s
  | .abortConfirmation sc wsn => Sys2Proof.Machine.execAbortConfirmation sc wsn s
  | .abortRejected sc wsn => Sys2Proof.Machine.execAbortRejected sc wsn s
  | .abortTimeout sc wsn => Sys2Proof.Machine.execAbortTimeout sc wsn s
  | .noPathTimeout sc wsn => Sys2Proof.Machine.execNoPathTimeout sc wsn s
  | .lateResponse sc incarn wsn devstat residual port sense => Sys2Proof.Machine.execLateResponse sc incarn wsn devstat residual port sense s
  | .pathSignalLoss kind port => Sys2Proof.Machine.execPathSignalLoss kind port s
  | .pathLogout sc path => Sys2Proof.Machine.execPathLogout sc path s
  | .loginResult sc path ok => Sys2Proof.Machine.execLoginResult sc path ok s
  | .loginTimeout sc path => Sys2Proof.Machine.execLoginTimeout sc path s
  | .loginRetry sc path => Sys2Proof.Machine.execLoginRetry sc path s
  | .engineHeartbeat route => Sys2Proof.Machine.execEngineHeartbeat route s
  | .heartbeatLoss route => Sys2Proof.Machine.execHeartbeatLoss route s
  | .engineCheckerFault engine => Sys2Proof.Machine.execEngineCheckerFault engine s
  | .claimWrite route stage claim => Sys2Proof.Machine.execClaimWrite route stage claim s
  | .claimWriteResend route stage => Sys2Proof.Machine.execClaimWriteResend route stage s
  | .claimsAcknowledged route => Sys2Proof.Machine.execClaimsAcknowledged route s
  | .outputStageFrame stage route claim => Sys2Proof.Machine.execOutputStageFrame stage route claim s
  | .standbyLoopback route ok => Sys2Proof.Machine.execStandbyLoopback route ok s
  | .engineSelfTestResult engine pass => Sys2Proof.Machine.execEngineSelfTestResult engine pass s
  | .subchCreate w => Sys2Proof.Machine.execSubchCreate w s
  | .subchDestroy w => Sys2Proof.Machine.execSubchDestroy w s
  | .subchQuery w => Sys2Proof.Machine.execSubchQuery w s
  | .pathAdd w => Sys2Proof.Machine.execPathAdd w s
  | .pathRemove w => Sys2Proof.Machine.execPathRemove w s
  | .pathQuery w => Sys2Proof.Machine.execPathQuery w s
  | .profileSet w => Sys2Proof.Machine.execProfileSet w s
  | .journalQuery w => Sys2Proof.Machine.execJournalQuery w s
  | .indoubtList w => Sys2Proof.Machine.execIndoubtList w s
  | .indoubtResolveDone w => Sys2Proof.Machine.execIndoubtResolveDone w s
  | .indoubtResolveNotDone w => Sys2Proof.Machine.execIndoubtResolveNotDone w s
  | .indoubtResolveRedrive w => Sys2Proof.Machine.execIndoubtResolveRedrive w s
  | .loginQuery w => Sys2Proof.Machine.execLoginQuery w s
  | .routeStatus w => Sys2Proof.Machine.execRouteStatus w s
  | .routeSwitch w => Sys2Proof.Machine.execRouteSwitch w s
  | .requestRingDoorbell ring value => Sys2Proof.Machine.execRequestRingDoorbell ring value s
  | .requestAdmission ring => Sys2Proof.Machine.execRequestAdmission ring s
  | .bcuDispatch unit => Sys2Proof.Machine.execBcuDispatch unit s
  | .bcuRelease unit mismatch => Sys2Proof.Machine.execBcuRelease unit mismatch s
  | .inlineSegmentEnd unit => Sys2Proof.Machine.execInlineSegmentEnd unit s
  | .drbgReseed unit healthy => Sys2Proof.Machine.execDrbgReseed unit healthy s
  | .dfuDispatch unit => Sys2Proof.Machine.execDfuDispatch unit s
  | .dfuCompletion unit mismatch => Sys2Proof.Machine.execDfuCompletion unit mismatch s
  | .dfuParityFailure unit => Sys2Proof.Machine.execDfuParityFailure unit s
  | .cpageAlloc w => Sys2Proof.Machine.execCpageAlloc w s
  | .cpageFree w => Sys2Proof.Machine.execCpageFree w s
  | .cpageKeyWrite w => Sys2Proof.Machine.execCpageKeyWrite w s
  | .cpageKeyErase w => Sys2Proof.Machine.execCpageKeyErase w s
  | .cpageQuery w => Sys2Proof.Machine.execCpageQuery w s
  | .cpagePermSet w => Sys2Proof.Machine.execCpagePermSet w s
  | .cringCreate w => Sys2Proof.Machine.execCringCreate w s
  | .cringDestroy w => Sys2Proof.Machine.execCringDestroy w s
  | .dictLoad w => Sys2Proof.Machine.execDictLoad w s
  | .dictFree w => Sys2Proof.Machine.execDictFree w s
  | .dictQuery w => Sys2Proof.Machine.execDictQuery w s
  | .cipherUnitStatus w => Sys2Proof.Machine.execCipherUnitStatus w s
  | .enclCreate w => Sys2Proof.Machine.execEnclCreate w s
  | .enclAddGranule w => Sys2Proof.Machine.execEnclAddGranule w s
  | .enclRemoveGranule w => Sys2Proof.Machine.execEnclRemoveGranule w s
  | .enclFinalise w => Sys2Proof.Machine.execEnclFinalise w s
  | .enclDestroy w => Sys2Proof.Machine.execEnclDestroy w s
  | .enclQuery w => Sys2Proof.Machine.execEnclQuery w s
  | .enclAttest w => Sys2Proof.Machine.execEnclAttest w s
  | .enclCoreEnable w => Sys2Proof.Machine.execEnclCoreEnable w s
  | .holdQuery w => Sys2Proof.Machine.execHoldQuery w s
  | .deferredGatingExpiry kind number => Sys2Proof.Machine.execDeferredGatingExpiry kind number s
  | .holdRelease kind number => Sys2Proof.Machine.execHoldRelease kind number s
  | .deviceId w => Sys2Proof.Machine.execDeviceId w s
  | .spStatus w => Sys2Proof.Machine.execSpStatus w s
  | .spSwitch w => Sys2Proof.Machine.execSpSwitch w s
  | .healthGet w => Sys2Proof.Machine.execHealthGet w s
  | .spareStatus w => Sys2Proof.Machine.execSpareStatus w s
  | .coreSpare w => Sys2Proof.Machine.execCoreSpare w s
  | .selftestRun w pass durationUs => Sys2Proof.Machine.execSelftestRun w pass durationUs s
  | .wayStatus w => Sys2Proof.Machine.execWayStatus w s
  | .memportStatus w => Sys2Proof.Machine.execMemportStatus w s
  | .logInfo w => Sys2Proof.Machine.execLogInfo w s
  | .logRead w => Sys2Proof.Machine.execLogRead w s
  | .logCountersGet w => Sys2Proof.Machine.execLogCountersGet w s
  | .logHistogramGet w => Sys2Proof.Machine.execLogHistogramGet w s
  | .logNote w => Sys2Proof.Machine.execLogNote w s
  | .errorInject w => Sys2Proof.Machine.execErrorInject w s
  | .faultInjection idx => Sys2Proof.Machine.execFaultInjection idx s
  | .systemReset w bootsel env => Sys2Proof.Machine.execSystemReset w bootsel env s
  | .coreReset w => Sys2Proof.Machine.execCoreReset w s
  | .coreResetChainTimeout core => Sys2Proof.Machine.execCoreResetChainTimeout core s
  | .coreSelfTestResult core pass => Sys2Proof.Machine.execCoreSelfTestResult core pass s
  | .engineReset w pass durationUs => Sys2Proof.Machine.execEngineReset w pass durationUs s
  | .blockGate w => Sys2Proof.Machine.execBlockGate w s
  | .blockUngate w pass durationUs => Sys2Proof.Machine.execBlockUngate w pass durationUs s
  | .todSet w => Sys2Proof.Machine.execTodSet w s
  | .resetConfigStageHeader w => Sys2Proof.Machine.execResetConfigStageHeader w s
  | .resetConfigStageDescriptor w => Sys2Proof.Machine.execResetConfigStageDescriptor w s
  | .resetConfigCommit w => Sys2Proof.Machine.execResetConfigCommit w s
  | .resetConfigReadHeader w => Sys2Proof.Machine.execResetConfigReadHeader w s
  | .resetConfigReadDescriptor w => Sys2Proof.Machine.execResetConfigReadDescriptor w s
  | .resetConfigDiscard w => Sys2Proof.Machine.execResetConfigDiscard w s
  | .fwStage w => Sys2Proof.Machine.execFwStage w s
  | .fwActivate w => Sys2Proof.Machine.execFwActivate w s
  | .fwActivateTimeout => Sys2Proof.Machine.execFwActivateTimeout s
  | .refclkSelect w => Sys2Proof.Machine.execRefclkSelect w s
  | .gpioClaim w => Sys2Proof.Machine.execGpioClaim w s
  | .gpioRelease w => Sys2Proof.Machine.execGpioRelease w s
  | .gpioAccess w => Sys2Proof.Machine.execGpioAccess w s
  | .ppsSourceSelect w => Sys2Proof.Machine.execPpsSourceSelect w s
  | .powerStatus w => Sys2Proof.Machine.execPowerStatus w s
  | .relayTopologyGet w => Sys2Proof.Machine.execRelayTopologyGet w s
  | .relayPortSet w => Sys2Proof.Machine.execRelayPortSet w s
  | .relayPortStatus w => Sys2Proof.Machine.execRelayPortStatus w s
  | .lltCreate w => Sys2Proof.Machine.execLltCreate w s
  | .lltDestroy w => Sys2Proof.Machine.execLltDestroy w s
  | .relayAccessAllow w => Sys2Proof.Machine.execRelayAccessAllow w s
  | .relayAccessRevoke w => Sys2Proof.Machine.execRelayAccessRevoke w s
  | .relayAccessMap w => Sys2Proof.Machine.execRelayAccessMap w s
  | .relayAccessUnmap w => Sys2Proof.Machine.execRelayAccessUnmap w s
  | .todSyncStatus w => Sys2Proof.Machine.execTodSyncStatus w s
  | .decodeLoad w => Sys2Proof.Machine.execDecodeLoad w s
  | .decodeUnload w => Sys2Proof.Machine.execDecodeUnload w s
  | .decodeQuery w => Sys2Proof.Machine.execDecodeQuery w s
  | .debugEnableSet w => Sys2Proof.Machine.execDebugEnableSet w s
  | .debugEnableGet w => Sys2Proof.Machine.execDebugEnableGet w s
  | .cacheLevelDisable agent level unit => Sys2Proof.Machine.execCacheLevelDisable agent level unit s
  | .cacheLevelEnable agent level unit => Sys2Proof.Machine.execCacheLevelEnable agent level unit s
  | .lltCounterClear llt value => Sys2Proof.Machine.execLltCounterClear llt value s
  | .eventPost => Sys2Proof.Machine.execEventPost s
  | .taskCreation => Sys2Proof.Machine.execTaskCreation s
  | .swapIn core => Sys2Proof.Machine.execSwapIn core s
  | .swapInComplete core => Sys2Proof.Machine.execSwapInComplete core s
  | .quantumExpiry core slot => Sys2Proof.Machine.execQuantumExpiry core slot s
  | .watchdogExpiry core set => Sys2Proof.Machine.execWatchdogExpiry core set s
  | .migrationMove core set => Sys2Proof.Machine.execMigrationMove core set s
  | .migrationArrived core set => Sys2Proof.Machine.execMigrationArrived core set s
  | .coreCheckFailure core check => Sys2Proof.Machine.execCoreCheckFailure core check s
  | .sparingComplete core => Sys2Proof.Machine.execSparingComplete core s
  | .outriderSelfTest phys => Sys2Proof.Machine.execOutriderSelfTest phys s
  | .selfTestComplete unit pass => Sys2Proof.Machine.execSelfTestComplete unit pass s
  | .relayFrame port frame => Sys2Proof.Machine.execRelayFrame port frame s
  | .relayTrainingComplete port lanes peer peerPort flight => Sys2Proof.Machine.execRelayTrainingComplete port lanes peer peerPort flight s
  | .relayLaneFailure port lane => Sys2Proof.Machine.execRelayLaneFailure port lane s
  | .probe port => Sys2Proof.Machine.execProbe port s
  | .answer port => Sys2Proof.Machine.execAnswer port s
  | .grant port => Sys2Proof.Machine.execGrant port s
  | .withdraw port => Sys2Proof.Machine.execWithdraw port s
  | .gone port => Sys2Proof.Machine.execGone port s
  | .cwrite port => Sys2Proof.Machine.execCwrite port s
  | .cread port => Sys2Proof.Machine.execCread port s
  | .cdata port => Sys2Proof.Machine.execCdata port s
  | .flush port => Sys2Proof.Machine.execFlush port s
  | .flushAck port => Sys2Proof.Machine.execFlushAck port s
  | .topo port links => Sys2Proof.Machine.execTopo port links s
  | .relayLinkLoss port => Sys2Proof.Machine.execRelayLinkLoss port s
  | .probeTimeout core set => Sys2Proof.Machine.execProbeTimeout core set s
  | .queuedProbeRouteLoss core set => Sys2Proof.Machine.execQueuedProbeRouteLoss core set s
  | .waitLimitExpiry llt key tid => Sys2Proof.Machine.execWaitLimitExpiry llt key tid s
  | .homeDeviceUnreachable device => Sys2Proof.Machine.execHomeDeviceUnreachable device s
  | .todStampExchange port => Sys2Proof.Machine.execTodStampExchange port s
  | .porstNAssert => Sys2Proof.Machine.execPorstNAssert s
  | .porstNRelease bootsel testEn env => Sys2Proof.Machine.execPorstNRelease bootsel testEn env s
  | .sysrstNAssert durationNs => Sys2Proof.Machine.execSysrstNAssert durationNs s
  | .sysrstNRelease bootsel testEn env => Sys2Proof.Machine.execSysrstNRelease bootsel testEn env s
  | .pwrfailNAssert durationNs gpfOk => Sys2Proof.Machine.execPwrfailNAssert durationNs gpfOk s
  | .railExcursion rail under permille extremeMv durationNs => Sys2Proof.Machine.execRailExcursion rail under permille extremeMv durationNs s
  | .vstbyLow => Sys2Proof.Machine.execVstbyLow s
  | .temperatureReading sensor tenths again => Sys2Proof.Machine.execTemperatureReading sensor tenths again s
  | .thermtrip analog => Sys2Proof.Machine.execThermtrip analog s
  | .pmbusPoll rail answers mv current temp => Sys2Proof.Machine.execPmbusPoll rail answers mv current temp s
  | .pmbAlert rail status => Sys2Proof.Machine.execPmbAlert rail status s
  | .smbusBlockRead command => Sys2Proof.Machine.execSmbusBlockRead command s
  | .jtagAccess kind core set reg value => Sys2Proof.Machine.execJtagAccess kind core set reg value s
  | .logbookTotals => Sys2Proof.Machine.execLogbookTotals s
  | .logbookHourlySeal => Sys2Proof.Machine.execLogbookHourlySeal s
  | .unassignedEncoding core set => Sys2Proof.Machine.execUnassignedEncoding core set s
  | .depotChannelLoss channel => Sys2Proof.Machine.execDepotChannelLoss channel s
  | .cipherPageStorageError page => Sys2Proof.Machine.execCipherPageStorageError page s
  | .engineMirrorCopyComplete engine => Sys2Proof.Machine.execEngineMirrorCopyComplete engine s
  | .dataFrame sc wsn bytes => Sys2Proof.Machine.execDataFrame sc wsn bytes s
  | .portSignalRestored kind port rate => Sys2Proof.Machine.execPortSignalRestored kind port rate s
  | .cxpLinkDown port => Sys2Proof.Machine.execCxpLinkDown port s
  | .iobarSlotRelease core set => Sys2Proof.Machine.execIobarSlotRelease core set s
  | .vstbyRise => Sys2Proof.Machine.execVstbyRise s
  | .railWindowSettled => Sys2Proof.Machine.execRailWindowSettled s

end Sys2Proof.Machine
end

