-- ==== Sys2Proof/Safety.lean ====
section
/-! DEFINITION. The terms in which the statements speak of a run: what it is for a step to go on, for a mailbox command to be taken and answered, and for an instruction to start. -/
namespace Sys2Proof.Machine

/-- The step goes on: it answers a next state, no fault and no refusal. -/
def goesOn (o : Out) : Prop := ∃ t, o = .next t

/-! ### Mailbox commands -/

/-- Window w holds a command of row c that is served next, under the next sequence number, and that passes checks 1 to 4 of R80; `f` says whether the Freight floor chose it (R45, R80, R82). -/
abbrev State.takes (s : State) (c : Command) (w : Nat) (f : Bool) : Prop :=
  (s.win w).state = 1 ∧ (s.win w).inExec = false ∧ s.serving w = true ∧ s.rowFits c w = true ∧ s.nextWindow = some (w, f) ∧
    s.svc.draining = none ∧ (s.win w).reqSeq = ((s.win w).lastDone + 1) % 2 ^ 32 ∧ (s.takeWin w f).checkCmd c (s.mreq w) = none

/-- The state in which the taken command of window w runs: its round and credit have advanced and its entry is mirrored (R45, R46, R71). -/
def State.begun (s : State) (w : Nat) (f : Bool) : State :=
  (s.takeWin w f).onWin w (fun n => { n with inExec := true, entry := some n.newEntry })

/-- A field of the request body of window w: n bytes at an offset. -/
def State.arg (s : State) (w off n : Nat) : Nat := fld (s.mreq w).body off n

/-- In state t window w shows the answer to the command it held in s: DONE, the status, LAST_DONE advanced, and the response (R81, Table 02-15). -/
def State.shows (t s : State) (w st : Nat) (body : List Byte) : Prop :=
  (t.win w).state = 2 ∧ (t.win w).result = st ∧ (t.win w).lastDone = (s.win w).reqSeq ∧ (t.win w).inExec = false ∧
    (t.win w).resp = respBytes st (s.win w).reqSeq t.now body

/-- What the end of a command in window w settles of the in-doubt store: LAST_DONE has advanced (R280, R289). -/
def State.settled (u : State) (w : Nat) : State := (u.onWin w (fun n => { n with lastDone := n.reqSeq })).purgeDoubt

/-- Beside the answer in window w, t is u: the other windows and every other piece of state are those of u. Answering posts EV_MB for a window other than the console's, counts a Courier latency, the order of service has advanced, and the in-doubt store drops the records that LAST_DONE has passed (R45, R46, R81, R289, R392). -/
def State.isBut (t u : State) (w : Nat) : Prop :=
  t = { u with
    windows := t.windows
    indoubt := (u.settled w).indoubt
    subchs := (u.settled w).subchs
    svc := { u.svc with lastTenant := t.svc.lastTenant, credit := t.svc.credit }
    log := { u.log with live := t.log.live }
    posts := if w = 513 then u.posts else u.posts ++ [{ tid := (u.win w).tid, ev := 3, cause := 1, source := w, tod := u64 u.now, cls := u.taskClass (u.win w).tid }] } ∧
    ∀ v, v ≠ w → t.win v = u.win v

/-! ### Events of the channel subsystem -/

/-- Beside the channel subsystem, the memory it writes, the counters, the notifications and the clock, t is s (R266). -/
def State.ioOnly (t s : State) : Prop :=
  t = { s with
    clock := t.clock
    svc := { s.svc with fifo := t.svc.fifo }
    insts := t.insts
    cores := t.cores
    ctxs := t.ctxs
    log := t.log
    ms := t.ms
    subchs := t.subchs
    indoubt := t.indoubt
    doubts := t.doubts
    ioports := t.ioports
    routes := t.routes
    engines := t.engines
    claims := t.claims
    wire := t.wire
    bcus := t.bcus
    dfus := t.dfus
    bcuPool := t.bcuPool
    dfuPool := t.dfuPool
    pages := t.pages
    posts := t.posts
    freeCtr := t.freeCtr }

/-- The record of a WSN is IN_DOUBT in the in-doubt store, with the status of Table 09-11 and an abort result (R280, R281). -/
def State.inStore (t : State) (sc wsn res : Nat) : Prop :=
  ∃ d ∈ t.indoubt, d.sc = sc ∧ d.wsn = wsn ∧ d.state = 6 ∧ d.status = stInDoubt ∧ d.abortRes = res

/-! ### Instructions -/

/-- The set is about to fetch: it can issue, its watchdog has not come due, it enters no Toll Gate by a restart, and no exception is due (R226, R227, R339). -/
abbrev State.fetches (s : State) (core set : Nat) : Prop :=
  s.canIssue core set = true ∧ s.overdue core set = false ∧ s.atGate core set = false ∧ s.dueFault core set = none

/-- The set issues the instruction i at its PC; u is the state its fetch leaves, w its word and am its leaf's AM (R226, Table 04-11 steps 1 to 4). -/
abbrev State.starts (s : State) (core set : Nat) (u : State) (i : Ins) (w am : Nat) : Prop := s.fetches core set ∧ s.front core set = (u, .ok (i, w, am))

/-- Where an instruction of a set executes: not in a pair, not in a custom instruction. -/
def envOf (core set w am : Nat) : Env := { core := core, set := set, w := w, am := am }

/-- n is the address of the next instruction in sequence, formed under the mode of the instruction's leaf (R161, R257). -/
abbrev State.follows (u : State) (core set am n : Nat) : Prop :=
  u.formAddr core (u.ctx core set).inst (u.ctx core set).regs.her am 2 (u64 ((u.ctx core set).regs.pc.toNat + 4)) = .ok n

/-- u with the registers of a set changed and nothing else. -/
def State.withRegs (u : State) (core set : Nat) (f : Regs → Regs) : State := u.onCtx core set (fun c => { c with regs := f c.regs })

/-- N, Z, C and V of x + y + c (R156, R157). -/
def sumFlags (x y : Word) (c : Nat) : Nat :=
  nzcvOf (x + y + word c).msb (x + y + word c == 0) (decide (2 ^ 64 ≤ x.toNat + y.toNat + c)) (decide ((x + y + word c).toInt ≠ x.toInt + y.toInt + c))

/-- N, Z, C and V of x − y − w (R156, R157). -/
def diffFlags (x y : Word) (w : Nat) : Nat :=
  nzcvOf (x - y - word w).msb (x - y - word w == 0) (decide (y.toNat + w ≤ x.toNat)) (decide ((x - y - word w).toInt ≠ x.toInt - y.toInt - w))

/-- Table 05-2 on data: the arithmetic of INTEGER_ARITHMETIC. -/
def arithWord (op : AOp) (x y : Word) : Word :=
  match op with
  | .add => x + y
  | .sub => x - y
  | .neg => -x
  | .min => if x.sle y then x else y
  | .max => if y.sle x then x else y
  | .minu => if x.ule y then x else y
  | .maxu => if y.ule x then x else y
  | .mul => x * y

/-- Table 05-2 on data: the logical, shift, rotate and count operations. -/
def logicWord (op : LOp) (x y : Word) : Word :=
  match op with
  | .and => x &&& y
  | .or => x ||| y
  | .xor => x ^^^ y
  | .andn => x &&& ~~~y
  | .nor => ~~~(x ||| y)
  | .shl => x <<< (y.toNat % 64)
  | .shr => x >>> (y.toNat % 64)
  | .sar => x.sshiftRight (y.toNat % 64)
  | .rol => x.rotateLeft (y.toNat % 64)
  | .ror => x.rotateRight (y.toNat % 64)
  | .clz => x.clz
  | .popc => word ((List.range 64).countP (fun k => x.getLsbD k))
  | .bswap => (x.extractLsb' 0 8) ++ (x.extractLsb' 8 8) ++ (x.extractLsb' 16 8) ++ (x.extractLsb' 24 8) ++ (x.extractLsb' 32 8) ++ (x.extractLsb' 40 8) ++ (x.extractLsb' 48 8) ++ (x.extractLsb' 56 8)

/-- A branch to t stays in its world and enters nothing: outside the enclaves in the normal world, in its own enclave's code otherwise (R330, R333). -/
def State.staysInWorld (u : State) (core set t : Nat) : Prop :=
  match u.targetOf (u.ctx core set).inst t with
  | none => (u.ctx core set).regs.encl = 0
  | some (ia, ra) =>
    if (u.ctx core set).regs.encl = 0 then u.emap.find (ra / 65536) = none
    else (u.emap.find (ra / 65536)).isSome = true ∧ u.enclOk (u.ctx core set).inst (u.ctx core set).regs.encl 2 ia ra = true

/-- A load of the line would make the task leave its slot (EV_MISS, R226). -/
def State.evMiss (u : State) (core set la : Nat) : Bool :=
  !(u.ctx core set).sent && decide (set < 64) && (u.ctx core set).regs.miss != 0 &&
    decide ((u.ctx core set).regs.miss < srcCycles (u.source (u.core core).phys la).1) && u.otherReady core set

/-- An access of a set at the effective address ea is aligned and leads through both stages to the real address ra; v is the state the translation leaves (R163, R257). -/
def State.leads (u : State) (core set am acc ea size ra : Nat) (v : State) : Prop :=
  ea % size = 0 ∧ ∃ a m, u.formAddr core (u.ctx core set).inst (u.ctx core set).regs.her am acc ea = .ok a ∧
    u.translate core (u.ctx core set).inst (u.ctx core set).regs.encl acc a = (v, .ok (ra, m))

/-- A load of the word at ra finds it at once: its line is not in flight and is installed, or the word of the line in flight has arrived; t is the state it leaves (R226, R238). -/
def State.finds (v : State) (core set ra : Nat) (t : State) : Prop :=
  match v.fillOf core (ra / 256) with
  | some f => f.has (ra / 8 % 32) = true ∧ t = v
  | none => v.evMiss core set (ra / 256) = false ∧ t = v.fillFor 1 (v.core core).phys (ra / 256)

/-- A load of memory at ea finds the word x at ra, and leaves the state t (R163, R238). -/
def State.loads (u : State) (core set am ea size ra : Nat) (x : TWord) (t : State) : Prop :=
  ∃ v, u.leads core set am 0 ea size ra v ∧ inDev ra = false ∧ v.finds core set ra t ∧ x = t.wordFor core (t.ctx core set).tid (ra / 8)

/-- The write buffer of a core can take a store of a set to a line now (R122, R238, R264). -/
def State.takesStore (v : State) (core set la : Nat) : Prop :=
  v.withheld (v.ctx core set).tid la = false ∧ v.fillOf core la = none ∧ ((v.core core).wb.length < 32 ∨ v.coalesces core (v.ctx core set).tid la = true)

/-- A store to memory at ea leads to ra, the buffer takes it, and its target word passes the tag checks (R122, R129). -/
def State.stores (u : State) (core set am ea size ra : Nat) (ok : List Nat) (force : Bool) (v : State) : Prop :=
  u.leads core set am 1 ea size ra v ∧ inDev ra = false ∧ v.takesStore core set (ra / 256) ∧
    memTags (v.ctx core set).regs.her false ok ea (ra / 8) (v.wordFor core (v.ctx core set).tid (ra / 8)) = .ok () ∧
    lockCheck force ea (v.wordFor core (v.ctx core set).tid (ra / 8)) = .ok ()

/-- An LDM or STM comes to the element of register i: MPROG names it, and between elements no Drover event is pending, where one can be; v is the state that leaves (R170). -/
def State.comesTo (u : State) (core set i : Nat) (first : Bool) (v : State) : Prop :=
  let m := u.withRegs core set (fun r => r.setTsw 28 24 i)
  if first = false ∧ m.eventsNear core set = true then m.freeBool = false ∧ v = m.drawn else v = m

/-- The elements of LDM from a list of registers on, in order, each at its own address (R169 to R171). -/
def State.elemLoads (core set am mask ea : Nat) (first : Bool) : List Nat → State → State → Prop
  | [], u, t => t = u
  | i :: l, u, t => ∃ m ra x v, u.comesTo core set i first m ∧ m.loads core set am (elemAddr ea mask i) 8 ra x v ∧
      memTags (v.ctx core set).regs.her true loadTypes (elemAddr ea mask i) (ra / 8) x = .ok () ∧
      State.elemLoads core set am mask ea false l ((v.withRegs core set (fun r => r.setG i x)).onCtx core set (fun c => { c with await := .none })) t

/-- The elements of STM from a list of registers on, in order, each at its own address (R169 to R171). -/
def State.elemStores (core set am mask ea : Nat) (first : Bool) : List Nat → State → State → Prop
  | [], u, t => t = u
  | i :: l, u, t => ∃ m ra v, u.comesTo core set i first m ∧ m.stores core set am (elemAddr ea mask i) 8 ra anyType false v ∧
      checkTags (u.ctx core set).regs.her [⟨(u.ctx core set).regs.gpr i, 8, anyType, true⟩] = .ok () ∧
      State.elemStores core set am mask ea false l (v.commitStore core set (ra / 256) (wholeWord ra ((u.ctx core set).regs.gpr i)) false) t

/-- The set uses an F bank that is attached, with TSW.FPA set (R232, R234). -/
def State.usesBank (u : State) (core set : Nat) (k : Bank) : Prop := u.bankOf core set = some k ∧ (u.ctx core set).regs.fpa = true

/-- Slot B of a pair raises no exception of its own from the registers r (R142). -/
def State.slotClear (u : State) (core set w am : Nat) (x y : Short) (r : Regs) : Bool :=
  match (envOf core set w am).slotB x y r u with
  | .ok _ _ => true
  | .error _ _ => false

/-- What a slot of a pair other than a branch does from the registers r: v is the state its access leaves, f what it writes (R140, Table 04-10). -/
def State.slotDoes (u : State) (core set am : Nat) (x : Short) (r : Regs) (v : State) (f : State → State) : Prop :=
  if x.op = 0x14 then
    ∃ ra y, u.loads core set am (r.gpr x.s).datum.toNat 8 ra y v ∧
      memTags (v.ctx core set).regs.her true loadTypes (r.gpr x.s).datum.toNat (ra / 8) y = .ok () ∧ f = fun t => t.withRegs core set (fun q => q.setG x.d y)
  else if x.op = 0x15 then
    ∃ ra, u.stores core set am (r.gpr x.d).datum.toNat 8 ra anyType false v ∧ f = fun t => t.commitStore core set (ra / 256) (wholeWord ra (r.gpr x.s)) false
  else v = u ∧ f = fun t => t.withRegs core set (x.value r)

/-! ### A device that is not running -/

/-- The commands that can bring a held or stopped device to run, or ring a window of it: the release of PORST_N, the rails settling, and the rings and frames of software and console (R77, R89, R403). -/
def wakes : Instr → Bool
  | .porstNRelease _ _ _ => true
  | .railWindowSettled => true
  | .mailboxDoorbell _ _ _ _ => true
  | .consoleFrame _ _ _ _ => true
  | _ => false

/-- The device is held in reset or stopped, no window has a command rung, and no waiting command wakes it (R27, R402). -/
def State.dormant (s : State) : Prop :=
  (s.phase = .held ∨ s.phase = .stopped) ∧ (∀ w, (s.win w).state ≠ 1) ∧ ∀ c ∈ s.pending, wakes c = false

end Sys2Proof.Machine
end

