-- ==== Sys2Proof/Certificates/Slice0/Obligations.lean ====
section
/-! DEFINITION. The statements for the provers: what each command of the block does, when a row completes, and what every step keeps. -/
open Sys2Proof Sys2Proof.Machine

/-- A step runs the command at the front of the queue (log entry 1). For every command c and every state s, a step of s with c at the front of its queue is exec of c on s with the rest of the queue. -/
def Obligations.StepRunsTheFrontCommand : Prop :=
  ∀ (s : State) (c : Instr), step { s with pending := c :: s.pending } = exec c s

/-- On an empty queue one TCLK edge passes (R27, R35, log entry 1, log entry 181). With no command waiting, and with no phase error being slewed away, a step adds 16 to TOD, the queue stays empty, and where no line is cached the step changes nothing but the clock. A device that has stopped changes nothing at all. A device that does not run has no snoop filter at work, so there too only the clock changes. That an empty queue lets an edge pass, and that a snoop filter may then evict an entry, are the choices of log entries 1 and 181. -/
def Obligations.EmptyQueueLetsOneTickPass : Prop :=
  ∀ (s : State), s.pending = [] →
    (s.phase = .stopped → step s = .next s) ∧
    (s.phase ≠ .stopped → s.clock.slew = 0 →
      ∃ t, step s = .next t ∧ t.clock.tod = s.clock.tod + 16 ∧ t.pending = [] ∧ (s.runs = false ∨ s.directory = [] → t = { s with clock := t.clock }))

/-- Advancing the clock by n edges is n single ticks (R35, R37). For every clock whose edge counter is within its 256 positions and every n, the clock after n edges, as computed in one step, is the clock that n single TCLK edges leave: TOD, the phase error still to be slewed away and the edge counter. Advancing to a stamp reaches it, passes no time when it has passed already, and changes nothing but the clock. It relates the fast form that events use to the edge-by-edge rule of R35 and R37. -/
def Obligations.ClockAfterIsThatManyTicks : Prop :=
  ∀ (c : Clock) (n : Nat), c.slewEdge < 256 → 256 ≤ c.tod → c.after n = Nat.repeat Clock.tick n c ∧
    ∀ (s : State) (t : Nat), s.clock = c → t ≤ (s.advanceTo t).clock.tod ∧ (t ≤ s.now → s.advanceTo t = s) ∧ s.advanceTo t = { s with clock := (s.advanceTo t).clock }

/-- Instance queries answer and change nothing; INST_CONFIG_SET, SHARE_SET, COURIER_CAP_SET and IO_TIMEOUT_SET write their instance (R81, R117, R94, R99, R109, R112). A request that is taken completes with status OK and the body of Table 03-6, Table 03-7 or the 13 share words of the instance it names. Beside the answer in its window nothing changes. Outside RESETTING each completes with OK. INST_CONFIG_SET stores ENABLE as DISABLED or STOPPED (a RUNNING instance stays RUNNING), MIGRATE_DECIMAL, BOARD_CPUS and BOOT_ADDR; a share or the cap takes its value and posts SHARE_CHANGE exactly if the value changes; IO_TIMEOUT_SET stores both timeouts. Nothing else changes beside the answer. -/
def Obligations.InstanceQueriesAnswerAndSettingsTakeTheirValues : Prop :=
  (
  ∀ (s : State) (w : Nat) (f : Bool),
    (s.takes cmdInstStatus w f →
      ∃ t, exec (.instStatus w) s = .next t ∧ t.shows s w stOk (s.instStatusBody (s.arg w 0 2)) ∧ t.isBut s w) ∧
    (s.takes cmdInstConfigGet w f →
      ∃ t, exec (.instConfigGet w) s = .next t ∧ t.shows s w stOk (s.configBody (s.arg w 0 2)) ∧ t.isBut s w) ∧
    (s.takes cmdShareGet w f →
      ∃ t, exec (.shareGet w) s = .next t ∧ t.isBut s w ∧
        t.shows s w stOk (((List.range 13).map (· + 1)).flatMap (fun k => beBytes 8 ((s.inst (s.arg w 0 2)).shareWord k))))) ∧
  (
  ∀ (s : State) (w : Nat) (f : Bool),
    let i := s.arg w 0 2
    (s.inst i).state ≠ 3 →
    (s.takes cmdInstConfigSet w f →
      (bit (s.arg w 2 1) 0 = false → s.mgr ≠ i ∧ (s.inst i).state ≠ 2 ∧ ((s.inst i).state = 1 → s.instEmpty i = true)) →
      ((s.inst i).state = 2 → s.arg w 3 1 = (s.inst i).boardCpus ∧ s.arg w 8 8 = (s.inst i).bootAddr) →
      ∃ t, exec (.instConfigSet w) s = .next t ∧ t.shows s w stOk [] ∧
        t.isBut (s.onInst i (fun n => { n with
          state := if bit (s.arg w 2 1) 0 then (if n.state = 0 then 1 else n.state) else 0
          migDec := bit (s.arg w 2 1) 1, boardCpus := s.arg w 3 1, bootAddr := s.arg w 8 8 })) w) ∧
    (s.takes cmdShareSet w f →
      ∃ t, exec (.shareSet w) s = .next t ∧ t.shows s w stOk [] ∧
        t.isBut (if (s.inst i).shareWord (s.arg w 2 1) = s.arg w 8 8 then s
          else (s.onInst i (fun n => n.setShare (s.arg w 2 1) (s.arg w 8 8))).notify i 4 0 i (s.arg w 2 1)) w) ∧
    (s.takes cmdCourierCapSet w f →
      ∃ t, exec (.courierCapSet w) s = .next t ∧ t.shows s w stOk [] ∧
        t.isBut (if (s.inst i).set.cap = s.arg w 4 4 then s
          else (s.onInst i (fun n => { n with set := { n.set with cap := s.arg w 4 4 } })).notify i 4 0 i 9) w) ∧
    (s.takes cmdIoTimeoutSet w f →
      ∃ t, exec (.ioTimeoutSet w) s = .next t ∧ t.shows s w stOk [] ∧
        t.isBut (s.onInst i (fun n => { n with complUs := s.arg w 2 2, abortMs := s.arg w 4 2 })) w))

/-- CORE_ASSIGN, MEMREGION_ADD, MEMREGION_REMOVE and SUBCH_RANGE_ASSIGN change the holdings of an instance (R99, R103, R106, R107, R111). Under the conditions the chapter gives for success each completes with OK: the instance holds the core count, the region, or the subchannel range named, and SHARE_CHANGE of kind 0x0A, 0x0B or 0x0C is posted when the holding changes. The CORE_ASSIGN clause is about a nonzero count that the tasks on the core do not exceed, on a core with no FP Imprecise pending. -/
def Obligations.ResourcesAreAssignedAndRemoved : Prop :=
  ∀ (s : State) (w : Nat) (f : Bool),
    let i := s.arg w 0 2
    (s.inst i).state ≠ 3 →
    (s.takes cmdCoreAssign w f → ∀ core k, core = s.arg w 2 2 → k = s.arg w 4 1 → 0 < k →
      (s.core core).assignWin = none → (s.core core).retired = false → (s.core core).gated = 0 →
      s.othersSets i core + k ≤ 64 → (s.setsOf i core).length ≤ k → (∀ j, (s.ctx core j).regs.pend = 0) →
      ∃ t, exec (.coreAssign w) s = .next t ∧ t.shows s w stOk [] ∧ (t.inst i).sets.getD core 0 = k ∧
        (∀ j, j ≠ i → t.inst j = s.inst j) ∧ (∀ c, c ≠ core → (t.inst i).sets.getD c 0 = (s.inst i).sets.getD c 0) ∧
        t.svc.fifo = (if s.share i core = k then s.svc.fifo else (s.notify i 4 0 i 0x0A).svc.fifo)) ∧
    (∀ r : IRegion, r = { real := s.arg w 8 8, gib := s.arg w 4 4, base := s.arg w 0x10 8 } →
      (s.takes cmdMemregionAdd w f → r ∉ (s.inst i).regions → (s.inst i).regions.length < 64 → s.inConfigured r.real r.gib = true →
        r.base + r.gib * gibB ≤ devBase →
        (∀ p ∈ s.insts, ∀ x ∈ p.2.regions, overlaps r.real (r.gib * gibB) x.real (x.gib * gibB) = false) →
        (∀ x ∈ (s.inst i).regions, overlaps r.base (r.gib * gibB) x.base (x.gib * gibB) = false) →
        ∃ t, exec (.memregionAdd w) s = .next t ∧ t.shows s w stOk [] ∧
          t.isBut ((s.onInst i (fun n => { n with regions := n.regions ++ [r] })).notify i 4 0 i 0x0B) w) ∧
      (s.takes cmdMemregionRemove w f → r ∈ (s.inst i).regions → (s.inst i).state ≠ 2 →
        ((s.inst i).eligible = true → s.mirrored r.real = true → ∃ x ∈ (s.inst i).regions.erase r, s.mirrored x.real = true) →
        ∃ t, exec (.memregionRemove w) s = .next t ∧ t.shows s w stOk [] ∧
          t.isBut ((s.onInst i (fun n => { n with regions := n.regions.erase r })).notify i 4 0 i 0x0B) w)) ∧
    (s.takes cmdSubchRangeAssign w f → ∀ a c, a = s.arg w 4 4 → c = s.arg w 8 4 →
      (∀ p ∈ s.insts, p.1 ≠ i → overlaps a c p.2.scFirst p.2.scCount = false) →
      (∀ p ∈ s.subchs, p.2.live = true → p.2.inst = i → a ≤ p.1 ∧ p.1 < a + c) →
      (∀ p ∈ s.rings, p.2.live = true → p.2.inst = i → a ≤ p.1 ∧ p.1 < a + c) →
      ((s.inst i).scFirst ≠ a ∨ (s.inst i).scCount ≠ c) →
      ∃ t, exec (.subchRangeAssign w) s = .next t ∧ t.shows s w stOk [] ∧
        t.isBut ((s.onInst i (fun n => { n with scFirst := a, scCount := c, scElig := if c = 0 then runsDel n.scElig n.scFirst n.scCount else n.scElig })).notify i 4 0 i 0x0C) w)

/-- COURIER_GRANT and its revocation, MANAGER_TRANSFER, ENDPOINT_ASSIGN and its release take effect (R92, R96, R99, R110, R111, R118, R450). A grant to an instance with a mirrored region, and a revocation, of the whole instance set its eligibility, post SHARE_CHANGE 0x0D if it changes, and mark its classes for the next epoch; a grant or revocation over a range of subchannels sets the eligibility of exactly these numbers. MANAGER_TRANSFER to a RUNNING instance makes it the one Manager and disables the Manager ring. ENDPOINT_ASSIGN makes the instance the owner of a free PCIe-mode port, and the release ends it. -/
def Obligations.EligibilityAndRolesMove : Prop :=
  ∀ (s : State) (w : Nat) (f : Bool),
    let i := s.arg w 0 2
    (s.inst i).state ≠ 3 →
    (s.takes cmdCourierGrant w f → (∃ r ∈ (s.inst i).regions, s.mirrored r.real = true) → s.arg w 2 1 = 0 →
      ∃ t, exec (.courierGrant w) s = .next t ∧ t.shows s w stOk [] ∧
        t.isBut (if (s.inst i).eligible = true then s.onInst i (fun n => { n with eligible := true, reclass := true })
          else (s.onInst i (fun n => { n with eligible := true, reclass := true })).notify i 4 0 i 0x0D) w) ∧
    (s.takes cmdCourierRevoke w f → s.arg w 2 1 = 0 →
      ∃ t, exec (.courierRevoke w) s = .next t ∧ t.shows s w stOk [] ∧
        t.isBut (if (s.inst i).eligible = false then s.onInst i (fun n => { n with eligible := false, reclass := true })
          else (s.onInst i (fun n => { n with eligible := false, reclass := true })).notify i 4 0 i 0x0D) w) ∧
    (s.takes cmdCourierGrant w f → (∃ r ∈ (s.inst i).regions, s.mirrored r.real = true) → s.arg w 2 1 = 1 →
      runsIn (s.inst i).scElig (s.arg w 4 4) (s.arg w 8 4) ≠ s.arg w 8 4 →
      ∃ t, exec (.courierGrant w) s = .next t ∧ t.shows s w stOk [] ∧
        ∀ n, runsHas (t.inst i).scElig n = (runsHas (s.inst i).scElig n || (decide (s.arg w 4 4 ≤ n) && decide (n < s.arg w 4 4 + s.arg w 8 4)))) ∧
    (s.takes cmdCourierRevoke w f → s.arg w 2 1 = 1 →
      runsIn (s.inst i).scElig (s.arg w 4 4) (s.arg w 8 4) ≠ 0 →
      ∃ t, exec (.courierRevoke w) s = .next t ∧ t.shows s w stOk [] ∧
        ∀ n, runsHas (t.inst i).scElig n = (runsHas (s.inst i).scElig n && !(decide (s.arg w 4 4 ≤ n) && decide (n < s.arg w 4 4 + s.arg w 8 4)))) ∧
    (s.takes cmdManagerTransfer w f → (s.inst i).state = 2 → s.mgr ≠ i →
      ∃ t, exec (.managerTransfer w) s = .next t ∧ t.shows s w stOk [] ∧ t.mgr = i ∧ (t.win 512).nrEnable = false ∧
        (t.win 512).lastDone = (if w = 512 then (s.win w).reqSeq else (s.win 512).lastDone)) ∧
    (s.takes cmdEndpointAssign w f → (s.port (s.arg w 2 1)).pcie = true → (s.port (s.arg w 2 1)).owner = none →
      ∃ t, exec (.endpointAssign w) s = .next t ∧ t.shows s w stOk [] ∧
        t.isBut (s.onPort (s.arg w 2 1) (fun x => { x with owner := some i })) w) ∧
    (s.takes cmdEndpointRelease w f → (s.port (s.arg w 2 1)).pcie = true → (s.port (s.arg w 2 1)).owner = some i →
      s.cxpPathUsed i (s.arg w 2 1) = false →
      ∃ t, exec (.endpointRelease w) s = .next t ∧ t.shows s w stOk [] ∧
        t.isBut (s.onPort (s.arg w 2 1) (fun x => { x with owner := none })) w)

/-- INST_RESET stops an instance at its fence, and its completion frees it (R79, R113, Table 03-5). INST_RESET of an enabled instance that is not the Manager runs the reset at its execution stamp, with the mode and sequence number of the request, and answers OK with the fence stamp; what the command changed of the instances joins its completion record. When every record of a RESETTING instance is final, INSTANCE_RESET_COMPLETE runs its last step, after which, in mode 0 and with no FP Imprecise pending on the cores and no task set of the instance in use, the instance is STOPPED with its completion stamp and INSTANCE_RESET_DONE is posted to the Manager. -/
def Obligations.InstanceResetFencesAndCompletes : Prop :=
  ∀ (s : State) (w : Nat) (f : Bool) (i : Nat),
    (s.takes cmdInstReset w f → i = s.arg w 0 2 → s.mgr ≠ i → (s.inst i).state ≠ 0 → (s.inst i).state ≠ 3 →
      ((s.inst i).fence = 0 ∨ (s.inst i).resetSeq ≠ (s.win w).reqSeq + 1) → (s.arg w 2 1 = 1 → (s.inst i).allSets ≠ 0) →
      ∀ u, u = (s.begun w f).resetInst i (s.arg w 2 1) ((s.win w).reqSeq + 1) →
      exec (.instReset w) s = .next ((u.noteChanges (s.begun w f) w).finishCmd w stOk (beBytes 8 (u64 (u.inst i).fence)))) ∧
    (s.runs = true → (s.inst i).state = 3 → s.openRecs i = false → (s.inst i).resetMode = 0 →
      (∀ n, s.setsOf i n = []) → (∀ n k, (s.ctx n k).regs.pend = 0) →
      ∃ t, exec (.instanceResetComplete i) s = .next t ∧ (t.inst i).state = 1 ∧ (t.inst i).resetDone = s.now ∧
        t.svc.fifo = (s.notify 512 0xA 0 i (u64 s.now)).svc.fifo) ∧
    (s.runs = true → (s.inst i).state = 3 → s.openRecs i = false →
      exec (.instanceResetComplete i) s = .next (s.resetDone i))

/-- Grant, renewal and expiry of the Token Keeper lease (R62, R63, R64, R66, R68). A renewal within the lease by the ACTIVE holder whose SFW heartbeat has just come starts a new 100 µs interval and changes only the Service Complex. With no lease held and the guard over, the request of an SP in STANDBY_READY makes it the holder over [now, now + 400,000), and ACTIVE; of two requests in one TCLK cycle that of SP-A is granted. At the end of the interval the holder loses the lease and is FAILED, and the guard lasts 10 µs from that end. At the end of the guard the other SP may be granted the lease, and 2 s after reset the first lease is open to either SP. -/
def Obligations.LeaseIsGrantedRenewedAndEnds : Prop :=
  ∀ (s : State) (p : Nat), s.runs = true → p < 2 →
    (s.svc.holder = some p → s.now < s.svc.leaseEnd → (s.sp p).state = 1 →
      ∃ t, exec (.leaseRenewal p true) s = .next t ∧ t.svc.leaseEnd = s.now + 400000 ∧ t.svc.holder = some p ∧
        (t.sp p).heartbeat = s.now ∧ t = { s with svc := t.svc }) ∧
    (s.svc.holder = none → s.svc.guardEnd = none → (s.sp p).state = 3 →
      (∃ t, exec (.leaseRequest p) s = .next t ∧ t.svc.holder = some p ∧ t.svc.leaseEnd = s.now + 400000 ∧ t.svc.activeSp = p ∧
        (t.sp p).state = 1 ∧ t.svc.firstTaken = true) ∧
      (p = 0 → ∃ t, exec (.leaseRequest 2) s = .next t ∧ t.svc.holder = some 0 ∧ t.svc.leaseEnd = s.now + 400000 ∧ (t.sp 0).state = 1)) ∧
    (s.svc.holder = some p → (s.sp p).state = 1 →
      ∃ t, exec .leaseExpiry s = .next t ∧ t.svc.holder = none ∧ t.svc.guardEnd = some (s.svc.leaseEnd + 40000) ∧ (t.sp p).state = 4) ∧
    (∀ g, s.svc.guardEnd = some g →
      ∃ t, exec .guardEnd s = .next t ∧ t.svc.guardEnd = none ∧ t.svc.guardDone = true ∧ t = { s with svc := t.svc, clock := t.clock }) ∧
    (s.svc.firstTaken = false → s.svc.firstWinDone = false →
      ∃ t, exec .firstLeaseWindowEnd s = .next t ∧ t.svc.firstWinDone = true ∧ t = { s with svc := t.svc, clock := t.clock })

/-- The events of Table 02-2 move a Service Processor between its states (R57, R58, R60, R62, R70, R424, Table 02-2, Table 02-3). An SFW fault, a lost heartbeat or a TSK fault puts an SP of state ACTIVE, STANDBY_SYNC or STANDBY_READY into FAILED; an SFW fault of the holder also releases the lease at once, and a TSK fault does not touch it. An access that Table 02-3 does not allow SFW is such a fault and a read returns 0; an access it allows changes nothing. A passed BIST beside an ACTIVE SP loads the verified slot and leads to STANDBY_SYNC, or to FAILED where no slot verifies; a failed one leads to FAILED with one more failure counted, three at most. The ACTIVE SP resets a FAILED one whose record is sealed and that has fewer than three failed BISTs, and an acknowledged mirror copy makes STANDBY_SYNC STANDBY_READY, unless the 10 s of an FW_ACTIVATE are over, which then ends with the old slot preferred and the standby in BIST. -/
def Obligations.ServiceProcessorsFailAndReturn : Prop :=
  ∀ (s : State) (p : Nat), s.runs = true → p < 2 →
    ((s.sp p).state = 1 ∨ (s.sp p).state = 2 ∨ (s.sp p).state = 3 →
      (∃ t, exec (.sfwFault ⟨p, none⟩) s = .next t ∧ (t.sp p).state = 4 ∧
        t.svc.holder = (if (s.sp p).state = 1 ∧ s.svc.holder = some p then none else s.svc.holder)) ∧
      (∀ res acc, sfwMay res acc = false → ∃ t, exec (.sfwFault ⟨p, some (res, acc)⟩) s = .next t ∧ (t.sp p).state = 4 ∧ (acc = .read → (t.sp p).datum = 0)) ∧
      (∀ res acc, sfwMay res acc = true → exec (.sfwFault ⟨p, some (res, acc)⟩) s = .next s) ∧
      (∃ t, exec (.sfwHeartbeatLoss p) s = .next t ∧ (t.sp p).state = 4 ∧
        t.svc.holder = (if (s.sp p).state = 1 ∧ s.svc.holder = some p then none else s.svc.holder)) ∧
      (∃ t, exec (.tskFault p) s = .next t ∧ (t.sp p).state = 4 ∧ t.svc.holder = s.svc.holder ∧ t.svc.leaseEnd = s.svc.leaseEnd)) ∧
    ((s.sp p).state = 5 → (s.sp (1 - p)).state = 1 →
      (∀ k, s.spSlot = some k → ∃ t, exec (.spBistResult p true) s = .next t ∧ (t.sp p).state = 2 ∧ (t.sp p).bistFails = 0 ∧ (t.sp p).slot = k ∧ (t.sp p).sfwSram = s.slotBytes k) ∧
      (s.spSlot = none → ∃ t, exec (.spBistResult p true) s = .next t ∧ (t.sp p).state = 4) ∧
      (∃ t, exec (.spBistResult p false) s = .next t ∧ (t.sp p).state = 4 ∧ (t.sp p).bistFails = min 3 ((s.sp p).bistFails + 1))) ∧
    ((s.sp p).state = 4 → (s.sp p).failLogged = true → (s.sp p).bistFails < 3 → (s.sp (1 - p)).state = 1 →
      ∃ t, exec (.spReset p) s = .next t ∧ (t.sp p).state = 5 ∧ (t.sp (1 - p)).state = 1) ∧
    ((s.sp p).state = 2 → (s.sp (1 - p)).state = 1 →
      (s.fwLate = false → ∃ t, exec (.mirrorCopyAcknowledged p) s = .next t ∧ (t.sp p).state = 3 ∧ (t.sp (1 - p)).state = 1) ∧
      (∀ v sl old e, s.svc.fwAct = some (v, sl, old, e) → s.svc.fwReload = some (1 - p) → e ≤ s.now →
        ∃ t, exec (.mirrorCopyAcknowledged p) s = .next t ∧ (t.sp p).state = 5 ∧ t.svc.fwAct = none ∧ t.fw.pref = old))

/-- DEVICE_ID and SP_STATUS answer, and SP_SWITCH hands the lease over (R57, R71, R76, R91). DEVICE_ID and SP_STATUS complete with OK and the bodies of Tables 02-22 and 02-23 and change nothing else. SP_SWITCH to an SP in STANDBY_READY, with no other command in execution, releases the lease at once, starts the guard of 10 µs and puts the former holder into STANDBY_SYNC; its completion record is mirrored, and its window stays PENDING for the new ACTIVE SP to answer. SP_SWITCH to the ACTIVE holder answers OK with no effect. -/
def Obligations.ServiceCommandsAnswerAndSwitch : Prop :=
  ∀ (s : State) (w : Nat) (f : Bool),
    (s.takes cmdDeviceId w f → ∃ t, exec (.deviceId w) s = .next t ∧ t.shows s w stOk s.deviceIdBody ∧ t.isBut s w) ∧
    (s.takes cmdSpStatus w f → ∃ t, exec (.spStatus w) s = .next t ∧ t.shows s w stOk s.spStatusBody ∧ t.isBut s w) ∧
    (∀ p, p = s.arg w 0 1 → s.takes cmdSpSwitch w f →
      (s.svc.holder = some p → (s.sp p).state = 1 → ∃ t, exec (.spSwitch w) s = .next t ∧ t.shows s w stOk [] ∧ t.isBut s w) ∧
      (s.svc.holder = some (1 - p) → (s.sp p).state = 3 → s.othersInExec w = false →
        ∃ t, exec (.spSwitch w) s = .next t ∧ t.svc.holder = none ∧ t.svc.guardEnd = some (s.now + 40000) ∧ (t.sp (1 - p)).state = 2 ∧
          (t.sp p).state = 3 ∧ (t.win w).state = 1 ∧ (t.win w).inExec = false ∧
          ∃ e, (t.win w).entry = some e ∧ e.seq = (s.win w).reqSeq ∧ e.code = (s.win w).cmd ∧ e.req = (s.win w).req ∧ e.done = some (stOk, u64 s.now, [])))

/-- A doorbell accepts or refuses its command; NR_CTL, NR_HEAD and a notification act on the ring of their window (R78, R83, R108, R75, R86, R88, Table 02-12). A write to DOORBELL of a window that serves, with STATE other than PENDING and a class code 0, 1 or 2, sets STATE to PENDING, keeps the command code of the request header, and stores the class of admission with the demotion flag; a write while PENDING or of 0b11 sets RING_REFUSED and changes nothing else. Of two writes in one FCLK cycle that both could be accepted the one of the lower TID is, and the other is refused. Setting ENABLE of a disabled ring resets HEAD and TAIL and records the writing task; clearing it disables the ring; FAULT is cleared by writing 1. A write of NR_HEAD within the ring moves HEAD and one outside it changes nothing. With an event waiting and the ring unable to take an entry, NOTIFICATION_WRITE holds its notification while fewer than 64 are held, and the event stays in the FIFO. With the ring open and none held, it writes the entry of the next event at TAIL under the next NSEQ, TAIL advances, and the event leaves the FIFO. -/
def Obligations.DoorbellsAndNotificationRings : Prop :=
  (
  ∀ (s : State) (w v tid : Nat), s.windowUp w = true →
    ((s.win w).state ≠ 1 → v < 3 →
      ∃ t, exec (.mailboxDoorbell w v tid none) s = .next t ∧ (t.win w).state = 1 ∧ (t.win w).cmd = (s.win w).req.getD 0 0 / 2 ^ 48 ∧
        (t.win w).cls = (s.admitCmd w ((s.win w).req.getD 0 0 / 2 ^ 48) v).1 ∧ (t.win w).demoted = (s.admitCmd w ((s.win w).req.getD 0 0 / 2 ^ 48) v).2 ∧
        (t.win w).tid = tid ∧ (t.win w).stamp = s.now ∧ (v ≠ 0 → (t.win w).cls = v) ∧ ∀ x, x ≠ w → t.win x = s.win x) ∧
    ((s.win w).state = 1 ∨ v = 3 →
      exec (.mailboxDoorbell w v tid none) s = .next (s.onWin w (fun n => { n with refused := true }))) ∧
    ((s.win w).state ≠ 1 → v < 3 → ∀ x tid', tid < tid' → x < 3 →
      (∃ t, exec (.mailboxDoorbell w v tid (some (x, tid'))) s = .next t ∧ (t.win w).state = 1 ∧ (t.win w).tid = tid ∧ (t.win w).refused = true) ∧
      (∃ t, exec (.mailboxDoorbell w x tid' (some (v, tid))) s = .next t ∧ (t.win w).state = 1 ∧ (t.win w).tid = tid ∧ (t.win w).refused = true))) ∧
  (
  ∀ (s : State) (w v tid : Nat),
    (s.windowUp w = true →
      (bit v 0 = true → (s.win w).nrEnable = false →
        ∃ t, exec (.nrCtlEnable w v tid) s = .next t ∧ (t.win w).nrEnable = true ∧ (t.win w).nrHead = 0 ∧ (t.win w).nrTail = 0 ∧
          (t.win w).nrTid = tid ∧ t = { s with windows := t.windows } ∧ ∀ x, x ≠ w → t.win x = s.win x) ∧
      (bit v 0 = false → ∃ t, exec (.nrCtlEnable w v tid) s = .next t ∧ (t.win w).nrEnable = false ∧
        (t.win w).nrFault = ((s.win w).nrFault && !bit v 1) ∧ t = { s with windows := t.windows }) ∧
      ∃ t, exec (.nrHeadWrite w v) s = .next t ∧ (t.win w).nrHead = (if v % 4096 < (s.win w).entries then v % 4096 else (s.win w).nrHead) ∧
        t = { s with windows := t.windows }) ∧
    (∀ e, s.phase = .running → s.serving w = true → s.nextEvent w = some e →
      ((s.win w).ringOpen = false → (s.win w).held.length < 64 →
        ∃ t, exec (.notificationWrite w) s = .next t ∧ (t.win w).held = (s.win w).held ++ [e.notif] ∧ t.svc.fifo.length = s.svc.fifo.length ∧
          t = { s with windows := t.windows, svc := { s.svc with fifo := t.svc.fifo } }) ∧
      (∀ u, (s.win w).ringOpen = true → (s.win w).held = [] →
        s.hubPuts (s.ringInst w) 0 ((s.win w).nrBase + 32 * (s.win w).nrTail) (bytesWords (notifBytes ((s.win w).nseq + 1) e.notif)) = .ok u →
        ∃ t, exec (.notificationWrite w) s = .next t ∧ t.ms = u.ms ∧ (t.win w).nseq = (u.win w).nseq + 1 ∧
          (t.win w).nrTail = ((u.win w).nrTail + 1) % (u.win w).entries ∧ t.svc.fifo = u.svc.fifo.eraseP (fun x => x.win == w && x.made == false))))

/-- Console frames act on the console window; a register write reaches its register (R89, Table 02-20, R54, R60, R65, R247, R367). With the console window serving, a frame of the service port’s EtherType and OP 0x01 at a multiple of 8 below 0x1000 is answered to its source from the fused MAC address with OP 0x81, its tag and the register, and changes nothing else; OP 0x02 performs the write as software of the console window would, and is answered with OP 0x82; any other offset or OP is answered with 0xFF and writes nothing; a frame of another EtherType changes nothing. OFFSET, and DATA of a write-done or refused answer, are the model’s choice (log entry 169). A write by a task to an address of device space that its instance may write is the write of the register there. A write by an SP to a mailbox window outside its RESPONSE area is performed while that SP holds an unexpired lease, and is otherwise discarded, counted and recorded. CACHE_CTL of a physical core is written by its TSK with the enable bits of the value, one with L2_EN 0 and an L1 enabled is discarded and recorded, and a write by SFW that would change ENCL_WAYS is a firewall violation. LCTL.CLEAR clears the four counters of a table of this device. -/
def Obligations.ConsoleFramesAndRegisterWrites : Prop :=
  (
  ∀ (s : State) (src op tag off d : Nat), s.windowUp 513 = true →
    (off % 8 = 0 → off < 0x1000 →
      exec (.consoleFrame ⟨0x88B5, src, 1⟩ tag off d) s = .next { s with console := some { dst := src, src := s.fuses.mac, op := 0x81, tag := tag, offset := off, data := s.winRead 513 off } } ∧
      exec (.consoleFrame ⟨0x88B5, src, 2⟩ tag off d) s = .next { s.winWrite 513 off d 0 with console := some { dst := src, src := s.fuses.mac, op := 0x82, tag := tag, offset := off, data := d } }) ∧
    (off % 8 ≠ 0 ∨ 0x1000 ≤ off ∨ (op ≠ 1 ∧ op ≠ 2) →
      exec (.consoleFrame ⟨0x88B5, src, op⟩ tag off d) s = .next { s with console := some { dst := src, src := s.fuses.mac, op := 0xFF, tag := tag, offset := off, data := 0 } }) ∧
    (∀ ty, ty ≠ 0x88B5 → exec (.consoleFrame ⟨ty, src, op⟩ tag off d) s = .next s)) ∧
  (
  ∀ (s : State) (a v : Nat), s.runs = true →
    (a % 8 = 0 → devBase ≤ a →
      (∀ tid, s.visible (tid / 65536 % 512) 0 a true = true → exec (.registerWrite (.task tid) a v) s = .next (s.hubWrite a v tid)) ∧
      (∀ p w off, devRegion a = (0, w, off) → off < 0x900 → s.gateOpen p = true → exec (.registerWrite (.sfw p) a v) s = .next (s.winWrite w off v 0)) ∧
      (∀ p w off, devRegion a = (0, w, off) → s.gateOpen p = false → exec (.registerWrite (.sfw p) a v) s = .next ((s.countB 0x1000).logRec 0x11 0x1000 [a])) ∧
      (∀ p c, devRegion a = (5, c, 0x100) →
        (bit v 2 = false → (bit v 0 = true ∨ bit v 1 = true) →
          exec (.registerWrite (.tsk p) a v) s = .next (s.gateDiscard (devBase + 0x2000000000000 + c * 0x10000 + 0x100))) ∧
        (bit v 2 = true ∨ (bit v 0 = false ∧ bit v 1 = false) → bit v 3 = (s.pcore c).enclWays →
          ∃ t, exec (.registerWrite (.tsk p) a v) s = .next t ∧ t.cacheCtl c = v % 16) ∧
        (p < 2 → bit v 3 ≠ (s.pcore c).enclWays → exec (.registerWrite (.sfw p) a v) s = .next (s.firewall p .write)))) ∧
    (∀ n, n < 16 → (s.llt n).live = true → bit v 0 = true →
      exec (.lltCounterClear n v) s = .next (s.onLlt n (fun x => { x with grants := 0, queued := 0, expired := 0, abandonedN := 0 }))))

/-- CACHE_LEVEL_DISABLE and CACHE_LEVEL_ENABLE change a level’s enable bit (R247, R248). A Service Processor that may write the enable bit takes the Depot out of use after its lines were cleaned and invalidated, and brings it back empty; an L1 of a physical core whose L2 is on is dropped and switched off, and switched on again. A write that would leave L2 off with an L1 on is discarded and recorded. -/
def Obligations.CacheLevelsSwitchOffAndOn : Prop :=
  ∀ (s : State) (p c : Nat), s.runs = true → p < 2 → c < 80 →
    ((s.pcore c).l1d = true → ∃ t, exec (.cacheLevelDisable (.tsk p) 1 c) s = .next t ∧ (t.pcore c).l1d = false ∧ (t.pcore c).l1i = (s.pcore c).l1i ∧ (t.pcore c).l2 = (s.pcore c).l2) ∧
    ((s.pcore c).l1d = false → (s.pcore c).l2 = true → ∃ t, exec (.cacheLevelEnable (.tsk p) 1 c) s = .next t ∧ (t.pcore c).l1d = true ∧ (t.pcore c).l1i = (s.pcore c).l1i ∧ (t.pcore c).l2 = true) ∧
    ((s.pcore c).l1d = true ∨ (s.pcore c).l1i = true → exec (.cacheLevelDisable (.tsk p) 2 c) s = .next (s.gateDiscard (devBase + 0x2000000000000 + c * 0x10000 + 0x100))) ∧
    ((s.pcore c).l2 = false → exec (.cacheLevelEnable (.tsk p) 1 c) s = .next (s.gateDiscard (devBase + 0x2000000000000 + c * 0x10000 + 0x100))) ∧
    (s.gateOpen p = true → s.levelOn 4 0 = true → exec (.cacheLevelDisable (.tsk p) 4 0) s = .next ((s.flushUnits 4 0 64).onWays 4 0 (fun w => { w with disabled := true }))) ∧
    (s.gateOpen p = true → s.levelOn 4 0 = false → exec (.cacheLevelEnable (.tsk p) 4 0) s = .next (s.onWays 4 0 (fun w => { w with disabled := false })))

/-- A failing reference makes the PLL switch or hold over, and a valid one ends holdover (R30, R31, R32, R33, R34). When the reference in use fails and the other is valid, the PLL switches to the other and stays there; when the other has failed too, the PLL holds over and the clock unit is DEGRADED. A failed reference that fails again starts its 1 ms again and changes nothing else. A failed reference that is valid again is marked so at the end of its 1 ms, a PLL that is locked does not return to it by itself, and a holdover ends on it. -/
def Obligations.ReferencesFailAndReturn : Prop :=
  ∀ (s : State) (r : Nat), r < 2 → s.clocked = true →
    ((s.clock.ref r).failed = false → s.clock.sel = r → s.clock.holdover = false →
      ((s.clock.ref (1 - r)).failed = false →
        (∃ t, exec (.refclkEdgeLoss r) s = .next t ∧ (t.clock.ref r).failed = true ∧ t.clock.sel = 1 - r ∧ t.clock.holdover = false) ∧
        (∃ t, exec (.refclkFrequencyFail r) s = .next t ∧ (t.clock.ref r).failed = true ∧ t.clock.sel = 1 - r ∧ t.clock.holdover = false)) ∧
      ((s.clock.ref (1 - r)).failed = true →
        (∃ t, exec (.refclkEdgeLoss r) s = .next t ∧ (t.clock.ref r).failed = true ∧ t.clock.sel = r ∧ t.clock.holdover = true ∧ (t.health clockUnit).state = 1) ∧
        (∃ t, exec (.refclkFrequencyFail r) s = .next t ∧ (t.clock.ref r).failed = true ∧ t.clock.sel = r ∧ t.clock.holdover = true ∧ (t.health clockUnit).state = 1))) ∧
    ((s.clock.ref r).failed = false → s.clock.sel ≠ r →
      ∃ t, exec (.refclkEdgeLoss r) s = .next t ∧ (t.clock.ref r).failed = true ∧ t.clock.sel = s.clock.sel ∧ t.clock.holdover = s.clock.holdover) ∧
    ((s.clock.ref r).failed = true →
      exec (.refclkEdgeLoss r) s = .next (s.onClock (fun c => c.onRef r (fun x => { x with failed := true, failedAt := s.now }))) ∧
      (s.clock.holdover = false → s.clock.relockAt = none → ∃ t, exec (.refclkValid r) s = .next t ∧ (t.clock.ref r).failed = false ∧ t.clock.sel = s.clock.sel) ∧
      (s.clock.holdover = true → ∃ t, exec (.refclkValid r) s = .next t ∧ (t.clock.ref r).failed = false ∧ t.clock.sel = r ∧ t.clock.holdover = false))

/-- PPS edges slew, the output pulses, and epochs and rate windows bring new values (R37, R437, R439, R40, R46, R109, R219). An edge of the selected source with TOD set leaves the negated phase error to be slewed away where the device disciplines TOD itself, and stamps the edge. Two seconds without one mark the source lost and post CLOCK_EVENT code 6. At a whole second PPS_OUT rises for 100 ms from the stamp of the event, and it falls at the end of that time. At the start of a share epoch every instance arbitrates with the weights last set, and no re-evaluation of classes is left due; at the start of a rate window the Courier admissions of every instance count from 0 and its cap is the one last set. The start is the last multiple of 10 µs, or of 100 µs, that TOD has reached. -/
def Obligations.PulsesEpochsAndRateWindows : Prop :=
  (
  ∀ (s : State) (src : Nat), s.clocked = true →
    (s.clock.todSet = true → s.clock.ppsSource = src → src ≠ 0 → s.ownPps = true →
      ∃ t, exec (.ppsEdge src) s = .next t ∧ t.clock.slew = -(ppsError s.now) ∧ t.clock.lastPps = some s.now ∧ t.clock.ppsLost = false ∧ t.clock.tod = s.clock.tod) ∧
    (∀ e, s.clock.lastPps = some e → s.clock.ppsSource = src → src ≠ 0 → s.clock.ppsLost = false →
      ∃ t, exec (.ppsLost src) s = .next t ∧ t.clock.ppsLost = true ∧ ∃ n ∈ t.svc.fifo, n.win = 512 ∧ n.kind = 7 ∧ n.subject = 0x20000 + 6 * 256 + ppsIdx src) ∧
    (s.clock.todSet = true → s.clock.ppsOutSec < s.now - u64 s.now % secT → s.clock.ppsOutEnd = none →
      exec .ppsOutPulse s = .next (s.onClock (fun c => { c with ppsOutSec := c.tod - u64 c.tod % secT, ppsOutEnd := some (c.tod + 100 * msT) }))) ∧
    (∀ e, s.clock.ppsOutEnd = some e → e ≤ s.now → exec .ppsOutEnd s = .next (s.onClock (fun c => { c with ppsOutEnd := none })))) ∧
  (
  ∀ (s : State), s.runs = true →
    (s.clock.epoch < s.now - u64 s.now % 40000 → (∀ p ∈ s.ctxs, (s.inst p.2.inst).reclass = false) →
      ∃ t, exec .shareEpochStart s = .next t ∧ t.clock.epoch = s.now - u64 s.now % 40000 ∧
        t.insts = s.insts.map (fun p => (p.1, { p.2 with reclass := false, force := { p.2.set with cap := p.2.force.cap } })) ∧
        t = { s with clock := t.clock, insts := t.insts }) ∧
    (s.clock.rateWindow < s.now - u64 s.now % 400000 →
      ∃ t, exec .rateWindowStart s = .next t ∧ t.clock.rateWindow = s.now - u64 s.now % 400000 ∧
        (∀ p ∈ t.insts, p.2.capUsed = 0 ∧ p.2.force.cap = p.2.set.cap) ∧ t = { s with clock := t.clock, insts := t.insts }))

/-- A flit CRC failure is replayed, a failed lane remapped, and the fifth lost lane stops the device (R26, R27, R441). A flit that fails its CRC is counted and recorded and nothing else changes. With a lane failed as well the link loses that lane and its unit is DEGRADED while spare lanes remain; when more lanes are lost than the link has spares, 4 on the links of the core and I/O dies and none on that of the MRAM die, the device stops with CATERR_N asserted. The unit code of the MRAM link is the model’s choice (log entry 165). -/
def Obligations.LinkRepliesRemapOrStopTheDevice : Prop :=
  ∀ (s : State) (k : Nat), s.clocked = true → k < 7 →
    exec (.flitCrcFailure k false) s = .next ((s.countB (linkUnit k)).logRec 9 (linkUnit k) [k, 0]) ∧
    (s.linkLost.getD k 0 < (if k = 6 then 0 else 4) → ∃ t, exec (.flitCrcFailure k true) s = .next t ∧ t.linkLost.getD k 0 = s.linkLost.getD k 0 + 1 ∧
      (t.health (linkUnit k)).state = 1 ∧ t.phase = s.phase) ∧
    ((if k = 6 then 0 else 4) ≤ s.linkLost.getD k 0 → ∃ t, exec (.flitCrcFailure k true) s = .next t ∧ t.phase = .stopped ∧ t.pins.caterr = true)

/-- Memory errors are counted and poisoned; repeated correctable errors disable a way (R44, R239, R253, R385, Table 04-3, R240). A correctable error of CXL memory adds one to the CE count of its port and changes only the Logbook. An uncorrectable error of a line whose partner copy is in step and good is repaired, so that only the UE count grows; otherwise the words of the failing 64-byte units become POISON with cause 0x02. An uncorrectable error in a clean frame drops the frame, and one in a dirty frame turns the failing words into POISON with cause 0x01. The scrub runs as Freight; one that finds nothing changes nothing else, and one that finds an error has the same effect as that error. A correctable error in a working way of a cache level or the Depot adds one to the CE count of its unit. While fewer than 15 earlier errors of that way lie within 24 hours the way stays in use; with 15 of them the way is disabled, with the stamp of the first of the 16 in its record. -/
def Obligations.MemoryErrorsCountPoisonAndDisable : Prop :=
  (
  ∀ (s : State) (u la m w i : Nat), s.runs = true →
    exec (.eccCorrectableError 5 u i w) s = .next (s.countCe (unitCode 5 u)) ∧
    (∀ r, s.regionOf (la * 256) = some r → (r.portA = u ∨ r.portB = some u) →
      (∀ b, r.portB = some b → (s.port (if r.portA = u then b else r.portA)).outOfStep = false →
        exec (.eccUncorrectableError 5 u la w m false) s = .next (s.countUe (unitCode 5 u))) ∧
      exec (.eccUncorrectableError 5 u la w m true) s = .next ((s.countUe (unitCode 5 u)).storeLine la (poisonWords 2 la (unitMask m) (s.memLine la)))) ∧
    (∀ l f, l < 5 → l ≠ 2 → s.ms.frames.find (fkey l u i w) = some f →
      exec (.eccUncorrectableError l u i w m false) s = .next ((s.countUe (levelUnit l u)).onMs 
        (fun x => { x with frames := if f.st = 3 then x.frames.put (fkey l u i w) { f with line := poisonWords 1 f.la m f.line } else x.frames.del (fkey l u i w) }))) ∧
    exec (.patrolScrub 5 u i w 0 m) s = .next (s.inClass 2) ∧
    exec (.patrolScrub 5 u i w 1 m) s = exec (.eccCorrectableError 5 u i w) (s.inClass 2) ∧
    exec (.patrolScrub 4 u i w 2 m) s = exec (.eccUncorrectableError 4 u i w m false) (s.inClass 2)) ∧
  (
  ∀ (s : State) (l u i w : Nat), s.runs = true → l ≤ 4 → w < wayCount l → bit (s.ways l u).off w = false → (s.ways l u).removed = false →
    ∀ n, n = (((s.ways l u).errs.filter (fun e => decide (s.now < e.2 + wayInterval))).filter (fun e => e.1 == w)).length →
    (n < 15 → ∃ t, exec (.eccCorrectableError l u i w) s = .next t ∧ (t.health (levelUnit l u)).ce = (s.health (levelUnit l u)).ce + 1 ∧
      bit (t.ways l u).off w = false ∧ t = { s with log := t.log, ms := { s.ms with ways := t.ms.ways } }) ∧
    (15 ≤ n → ∀ x : State, x = (s.countCe (levelUnit l u)).onWays l u (fun y => { y with errs := (w, s.now) :: y.errs.filter (fun e => decide (s.now < e.2 + wayInterval)) }) →
      exec (.eccCorrectableError l u i w) s = .next (x.disableWay l u w ((((x.ways l u).errs.filter (fun e => e.1 == w)).getLast?.map (·.2)).getD s.now))))

/-- CXL ports are lost and come back; evicted lines are written and endpoints reach memory (R242, R255, R249, R327, R450). A third timeout in succession, a link down for 10 µs and a fatal error lose the port: it is out of step, its link code is 3. An earlier timeout is counted and its access reissued: a read of a mirrored line at once to the other copy in step, any other behind what the port has queued. A retrained link has its width, rate and LINK code again, and a lost port of a mirrored region with a partner starts to be copied. When the copy is complete, both copies are in use. A lost Depot channel is removed, and holds no line. The acknowledged writeback of a line evicted from the Depot to a served region leaves the queue and is in memory, under the memory key of an enclave where it is an enclave’s. A DMA read of an assigned endpoint answers the bytes its owner’s instance stage reaches, or none; a DMA write is the write of the engine for that instance; without an owner a read has no answer and a write no effect. -/
def Obligations.PortsWritebacksAndEndpointDma : Prop :=
  (
  ∀ (s : State) (p la : Nat) (wr : Bool), s.runs = true →
    (s.cxlPort p = true → (s.port p).link ≠ 3 →
      ((s.port p).timeouts < 2 → exec (.cxlAccessTimeout p la wr) s = .next ((s.reissue p la wr).onPort p (fun x => { x with timeouts := x.timeouts + 1 }))) ∧
      ((s.port p).timeouts < 2 → wr = true ∨ s.otherPort p la = none → ∃ t, exec (.cxlAccessTimeout p la wr) s = .next t ∧ (t.port p).queue = (s.port p).queue ++ [(la, wr)]) ∧
      (2 ≤ (s.port p).timeouts → ∃ t, exec (.cxlAccessTimeout p la wr) s = .next t ∧ t = (s.reissue p la wr).losePort p 3 ∧ (t.port p).lost = true ∧ (t.port p).outOfStep = true ∧ (t.port p).link = 3) ∧
      (∃ t, exec (.cxlFatalError p) s = .next t ∧ t = s.losePort p 2 ∧ (t.port p).lost = true ∧ (t.port p).outOfStep = true ∧ (t.port p).link = 3)) ∧
    (s.cxlPort p = true → (s.port p).link = 0 →
      ∃ t, exec (.cxlLinkDownTimeout p) s = .next t ∧ (t.port p).lost = true ∧ (t.port p).outOfStep = true ∧ (t.port p).link = 3) ∧
    (∀ x r, p < 12 → ((s.port p).link = 0 ∨ (s.port p).link = 3) → ((s.port p).dev.isSome = true ∨ (s.port p).pcie = true) →
      ∃ t, exec (.cxlPortRetrain p x r) s = .next t ∧ (t.port p).link = linkCode x r ∧ (t.port p).width = x ∧ (t.port p).rate = r ∧ (t.port p).timeouts = 0 ∧
        (t.port p).copying = ((s.port p).outOfStep && !(s.partners p).isEmpty)) ∧
    (p < 12 → (s.port p).copying = true → (∀ b ∈ s.partners p, (s.port b).outOfStep = false) →
      ∃ t, exec (.mirrorResyncComplete p) s = .next t ∧ (t.port p).copying = false ∧ (t.port p).outOfStep = false) ∧
    (p < 64 → (s.ways 4 p).removed = false →
      ∃ t, exec (.depotChannelLoss p) s = .next t ∧ (t.ways 4 p).removed = true ∧ t.ms.frames.between (fkey 4 p 0 0) (fkey 4 (p + 1) 0 0) = [])) ∧
  (
  ∀ (s : State) (p a n la : Nat) (b : List Byte), s.runs = true →
    (∀ e r, s.ms.evict.find? (fun x => x.la == la) = some e → e.dest = 5 → s.regionOf (la * 256) = some r → s.regionServed r = true →
      ∃ t, exec (.evictionWritebackAck la) s = .next t ∧ t.ms.evict = s.ms.evict.eraseP (fun x => x.la == la) ∧
        t.ms.mem = s.ms.mem.setLine la 0 (cryptLine true (s.lineKey la) la e.line).toList ∧
        t = { s with freeCtr := t.freeCtr, ms := { s.ms with evict := t.ms.evict, mem := t.ms.mem, shadow := t.ms.shadow, ports := t.ms.ports } }) ∧
    (p < 12 → (s.port p).pcie = true → ((s.port p).link = 1 ∨ (s.port p).link = 2) →
      (∀ i, (s.port p).owner = some i →
        exec (.endpointDma p true a n b) s = .next (s.engWrite i 0 a b).1 ∧
        (∀ d, s.engRead i 0 a n = .ok d → exec (.endpointDma p false a n b) s = .next (s.onPort p (fun x => { x with answer := some d })))) ∧
      ((s.port p).owner = none → exec (.endpointDma p true a n b) s = .next s ∧
        exec (.endpointDma p false a n b) s = .next (s.onPort p (fun x => { x with answer := none })))))

/-- What a waiting instruction waits for arrives, and its task goes on (R43, R54, R197, R222, R231, R232, R238, R255, R262, R263, R264). The word of a load in WAIT_MEM, once its request is granted at its arbitration point, makes its task READY again with the line in flight, and each further word of the line restarts what waits for it. The oldest entry of a write buffer is performed once its group is committed and its line is not in flight: a cacheable one in memory, a device-space one at its register, counted as outstanding under its TID, path and class until a flushing read is answered. The answer of one of several paths of an IOBAR takes that path’s stores out of the count; a path that does not answer in time raises I/O Store Failed; a task that waits longer than QTM.MISS gives up its slot. A device-space load of a task that is moving leaves its datum with the hub. With no FP Imprecise pending on the core. -/
def Obligations.WaitingInstructionsGoOn : Prop :=
  ∀ (s : State) (core k : Nat), s.runs = true → (∀ j, (s.ctx core j).regs.pend = 0) →
    (∀ la n cls, s.coreLive core = true → k < 68 → (s.ctx core k).await = .line la n cls →
      (∀ v, (s.ctx core k).run = .waitMem → s.fillOf core la = none → s.memGrant (s.memPoint (s.core core).phys la) (core * 128 + k) = some v →
        ∃ t, exec (.loadDataReturn core k) s = .next t ∧ (t.ctx core k).run = .ready ∧ (t.ctx core k).sent = true ∧ (t.ctx core k).await = .none ∧
          (t.ctx core k).regs = (s.ctx core k).regs ∧ (t.fillOf core la).isSome = true) ∧
      (∀ f, s.fillOf core la = some f → exec (.loadDataReturn core k) s = .next ((s.wordArrives core f).wakeLoads core))) ∧
    (∀ e l u, (s.core core).wb = e :: l → e.isOpen = false → u = s.onCore core (fun c => { c with wb := l }) →
      (e.dev = none → s.fillOf core e.addr = none → exec (.storePerformed core) s = .next (u.performEnt core e)) ∧
      (∀ x, e.dev = some (2, 0) → e.words = [x] →
        exec (.storePerformed core) s = .next (({ u with devStores := s.devStores ++ [DevStore.mk e.tid 2 0 e.addr e.cls] }).hubWrite e.addr x.datum.toNat e.tid))) ∧
    (∀ p a cls d, (s.ctx core k).run = .leaving → (s.ctx core k).sent = true → s.outcomes.getD (s.ctx core k).tid .none = .dev 1 p a cls →
      exec (.deviceSpaceLoadReply core k d) s = .next { s with outcomes := s.outcomes.put (s.ctx core k).tid (.datum (u64 d)) }) ∧
    (∀ a cls, (s.ctx core k).run = .ready → (s.ctx core k).await = .dev 2 0 a cls →
      exec (.deviceSpaceLoadReply core k 0) s = .next (((s.onCtx core k (fun c => { c with await := .datum (u64 (s.hubRead a)) })).restart core k).loadIns core k)) ∧
    (∀ n b q, (s.ctx core k).bars.find? (fun b => b.isOn (1, n)) = some b → s.now < b.limit → s.pathDown (1, n) = false → q = (s.ctx core k).bars.filter (fun b => !b.isOn (1, n)) → q ≠ [] →
      exec (.flushingReadAnswer core k 1 n) s = .next (({ s with devStores := s.devStores.filter (fun d => !d.isOn (s.ctx core k).tid (1, n)) }).onCtx core k
        (fun c => { c with bars := q }))) ∧
    (∀ b, minBy (·.limit) ((s.ctx core k).bars.filter (fun b => b.kind != 2)) = some b → (s.ctx core k).barOn (b.kind, b.num) = true → b.limit ≤ s.now →
      exec (.iobarTimeout core k) s = .next (s.ioFail core k (b.kind, b.num) false)) ∧
    ((s.ctx core k).await = .iobar → (s.ctx core k).bars ≠ [] → k < 64 → (s.ctx core k).run = .ready → s.holdsSlot core k = true → (s.ctx core k).regs.miss ≠ 0 → s.otherReady core k = true →
      exec (.iobarSlotRelease core k) s = .next ((s.onCtx core k (fun c => { c with run := .waitBar, since := s.now })).resched core)) ∧
    ((s.ctx core k).run = .waitFp → (s.core core).banks.length < 8 →
      ∃ t, exec (.waitFpRetry core k) s = .next t ∧ (t.ctx core k).run = .ready ∧ (t.ctx core k).regs = (s.ctx core k).regs) ∧
    (core < 12 → ((s.port core).link = 1 ∨ (s.port core).link = 2) →
      exec (.cxpLinkDown core) s = .next ((s.onPort core (fun x => { x with link := 0, downAt := s.now, change := s.now })).failBars (1, core)))

/-- Event posts, task creation, swap-in, quantum and watchdog expiry, and migration (R218, R223, R226, R227, R229, R231). A post to a task without an event queue sets POSTED and sends the wake hint; one whose TSA header names another TID is discarded and counted. A SIGNAL to a task whose CONTROL.RUN is 0 creates nothing. The first placeable queued task gets its set and leaves the queue, and is loaded when the swap-in completes. At quantum expiry the slot passes to the next ready task of the priority, if there is one. A watchdog that is its own guardian is disarmed and posts EV_TMR cause 0x01. A leaving task is saved with STATE MIGRATING and its hints are forwarded, and its arrival makes it resident on the new core. -/
def Obligations.DroverPostsCreatesAndSwaps : Prop :=
  ∀ (s : State) (core k : Nat), s.runs = true →
    (∀ p ps w, s.posts = p :: ps → s.postHeld p = false → ({ s with posts := ps }).tsaWord p.tid 0 = .ok w → (s.inst (tidInst p.tid)).state ≠ 3 →
      (w.datum.toNat ≠ p.tid → exec .eventPost s = .next (({ s with posts := ps }).countA 0xFF0C)) ∧
      (w.datum.toNat = p.tid → ({ s with posts := ps }).tsaGet p.tid 0x28 = 0 → exec .eventPost s = .next (({ s with posts := ps }).postWake p))) ∧
    (∀ tid src au cs h sp, s.creations = (tid, src, au) :: cs →
      s.readWords (tidInst tid) 0 (s.tsa tid) 5 = .ok h → s.readWords (tidInst tid) 0 (s.tsa tid + 0x28) 9 = .ok sp →
      bit (h.getD 1 {}).datum.toNat 0 = false → exec .taskCreation s = .next { s with creations := cs }) ∧
    ((s.core core).swapping = none → (s.core core).sparing = none → (s.core core).reset = none → (s.core core).gated = 0 → (s.core core).retired = false →
      ∀ tid, s.placeable core (s.core core).swapq = some (tid, k, false) → (s.ctx core k).run = .empty →
      exec (.swapIn core) s = .next (s.onCore core (fun c => { c with swapping := some (k, tid), swapq := c.swapq.filter (fun q => q.1 != tid) }))) ∧
    (∀ tid u, (s.core core).swapping = some (k, tid) → (s.onCore core (fun c => { c with swapping := none })).placeTask core k tid = .ok u →
      exec (.swapInComplete core) s = .next (u.refill core)) ∧
    ((s.core core).slot0 = some k → k < 64 → bits (s.ctx core k).regs.qtm.toNat 15 0 ≠ 0 → (s.ctx core k).run = .ready → (s.ctx core k).routine = none → (∀ j, (s.ctx core j).regs.pend = 0) →
      (s.rotation core k = none → exec (.quantumExpiry core 0) s = .next (s.onCtx core k (fun c => { c with used := 0 }))) ∧
      (∀ j, s.rotation core k = some j → ∃ t, exec (.quantumExpiry core 0) s = .next t ∧ (t.core core).slot0 = some j)) ∧
    (k < 64 → (s.ctx core k).run = .ready → (s.ctx core k).regs.wdt ≠ 0 → (s.ctx core k).regs.wdt ≤ s.now → (s.ctx core k).guardian = (s.ctx core k).tid →
      exec (.watchdogExpiry core k) s = .next ((s.onCtx core k (fun c => { c with regs := { c.regs with wdt := 0 } })).post (s.ctx core k).tid 0 1 (s.ctx core k).tid)) ∧
    (∀ d u, k < 64 → (s.ctx core k).run = .leaving → (s.ctx core k).target = some d →
      ((s.ctx core k).sent = false → (s.ctx core k).regs.encl = 0 → (∀ e ∈ (s.core core).wb, e.tid ≠ (s.ctx core k).tid) → s.saveTask core k d 4 = .ok u →
        ∃ t, exec (.migrationMove core k) s = .next t ∧ (t.ctx core k).run = .leaving ∧ (t.ctx core k).sent = true ∧ (t.ctx core k).tid = (s.ctx core k).tid ∧
          ((s.ctx core k).tid, d) ∈ (t.core core).forward) ∧
      ((s.ctx core k).sent = true → exec (.migrationArrived core k) s = .next ((s.moveIn core k d).assignDone core)))

/-- A failed core check is retried, sparing gives the core its Outrider, and self-tests set roles (R373, R374, R378, R380, R385). A check failure rolls the core back, with every Cairn good, and counts a try and a record while fewer than two tries have been made, and the third in succession starts sparing. When sparing completes, the Outrider holds the logical core number. A test of an Outrider marks it testing; a passed one leaves it STANDBY and a failed one FAILED with a SELFTEST_FAIL record. -/
def Obligations.CoresRetryAreSparedAndTested : Prop :=
  ∀ (s : State) (core : Nat),
    (s.coreChecks core = true → ∀ check,
      ((s.core core).tries < 2 → (∀ k, (s.ctx core k).cairnBad = false) → ∃ t, exec (.coreCheckFailure core check) s = .next t ∧ (t.core core).tries = (s.core core).tries + 1 ∧ (t.core core).phys = (s.core core).phys ∧
        t.log.lseq = s.log.lseq + 1) ∧
      (2 ≤ (s.core core).tries → exec (.coreCheckFailure core check) s = .next ((s.onCore core (fun c => { c with firstErr := c.firstErr, injected := s.log.injected || c.injected })).startSparing core 1 none))) ∧
    (s.runs = true → ∀ o cause, (s.core core).sparing = some (o, cause) → (s.core core).hints = [] → (∀ j, (s.ctx core j).regs.pend = 0) →
      ∃ t, exec (.sparingComplete core) s = .next t ∧ (t.core core).phys = o ∧ (t.core core).sparing = none ∧ (t.pcore o).role = (if o = (s.core core).phys then 3 else 1)) ∧
    (s.runs = true → ∀ p, p < 80 → (s.pcore p).role = 2 →
      ((s.pcore p).testing = false → exec (.outriderSelfTest p) s = .next (s.onPCore p (fun k => { k with testing := true }))) ∧
      ((s.pcore p).testing = true →
        (∃ t, exec (.selfTestComplete (unitCode 1 p) true) s = .next t ∧ (t.pcore p).role = 2 ∧ (t.pcore p).test = 1 ∧ (t.health (unitCode 1 p)).state = 2) ∧
        (∃ t, exec (.selfTestComplete (unitCode 1 p) false) s = .next t ∧ (t.pcore p).role = 3 ∧ (t.health (unitCode 1 p)).state = 4)))

/-- Doorbells move the indices of a subchannel, and the entry at SQ_HEAD is admitted under the next WSN (R269, R270, R272, R279, Table 09-3). A write of SQ_TAIL within the ring moves it, and one outside sets the index error; a write of CQ_HEAD outside the ring does the same, and one within it writes held completions while there is room. An entry whose reserved fields are 0, with an explicit class, a chain that passes step 2 to step 4 and a slot that is free, is admitted: SQ_HEAD advances, the next WSN is used up, the slot holds an ACCEPTED record with the user data and class of the entry, the instance has one more waybill. The entry of a stopped Route is refused. Nothing beside the channel subsystem, the instance’s count, memory, the stores of cores drained to it and the counter of free values changes. -/
def Obligations.SubchannelRingsAndAdmission : Prop :=
  ∀ (s : State) (sc v : Nat), s.runs = true → (s.sub sc).live = true →
    ((s.inst (s.sub sc).inst).state = 2 →
      (v % 65536 < (s.sub sc).depth → ∃ t, exec (.subchannelDoorbell sc v) s = .next t ∧ t = s.onSub sc (fun x => { x with sqTail := v % 65536, rungAt := s.now }) ∧
        (t.sub sc).sqTail = v % 65536 ∧ ∀ n, n ≠ sc → t.sub n = s.sub n) ∧
      ((s.sub sc).depth ≤ v % 65536 → exec (.subchannelDoorbell sc v) s = .next (s.onSub sc (fun x => { x with idxErr := true })))) ∧
    ((s.ring sc).live = false →
      ((s.sub sc).depth ≤ v % 65536 → exec (.completionRingHeadWrite sc v) s = .next (s.onSub sc (fun x => { x with idxErr := true }))) ∧
      (v % 65536 < (s.sub sc).depth → (s.sub sc).held = [] → exec (.completionRingHeadWrite sc v) s = .next (s.onSub sc (fun x => { x with cqHead := v % 65536 }))) ∧
      (∀ c, v % 65536 < (s.sub sc).depth → (s.sub sc).held = [c] → ((s.sub sc).cqTail + 1) % (s.sub sc).depth ≠ v % 65536 →
        exec (.completionRingHeadWrite sc v) s = .next ((s.onSub sc (fun x => { x with cqHead := v % 65536, held := [] })).putCompl sc c))) ∧
    ((s.sub sc).sqHead ≠ (s.sub sc).sqTail → s.resetting (s.sub sc).inst = false → (s.route (s.sub sc).route).switching = none →
      (∀ e cmds, (s.route (s.sub sc).route).stopped = false → s.engWords (s.sub sc).inst 0 ((s.sub sc).sq + 32 * (s.sub sc).sqHead) 4 = .ok e →
        (fld e 8 1 = 1 ∨ fld e 8 1 = 2) → zeros e 9 7 = true → fld e 0 8 % 32 = 0 → (s.inClass (fld e 8 1)).admitChain sc (fld e 0 8) = .ok cmds → (s.sub sc).slotBusy = false →
        ∃ t r, exec (.waybillAdmission sc) s = .next t ∧ t.jrec sc (s.sub sc).nextWsn = some r ∧ r.state = 1 ∧ r.cls = fld e 8 1 ∧ r.user = fld e 0x18 8 ∧
          r.subidx = (s.sub sc).sqHead ∧ r.tAccept = s.now ∧ r.cmds = cmds ∧ (t.sub sc).sqHead = ((s.sub sc).sqHead + 1) % (s.sub sc).depth ∧
          (t.sub sc).nextWsn = ((s.sub sc).nextWsn + 1) % 2 ^ 64 ∧ (t.inst (s.sub sc).inst).waybills = (s.inst (s.sub sc).inst).waybills + 1 ∧
          (∀ n, n ≠ sc → t.sub n = s.sub n) ∧ t = { s with subchs := t.subchs, insts := t.insts, ms := t.ms, cores := t.cores, ctxs := t.ctxs, freeCtr := t.freeCtr }) ∧
      ((s.route (s.sub sc).route).stopped = true → exec (.waybillAdmission sc) s = .next
        ((s.onSub sc (fun x => { x with sqHead := ((s.sub sc).sqHead + 1) % (s.sub sc).depth })).refuseEntry sc (s.sub sc).sqHead stRetrySafe)))

/-- Dispatch makes a record DISPATCHED, frames make it ACKED, and the final response of the last command completes it (R39, R275, R278, R281, R282, R285, Table 09-11). A waybill the arbiter of a running Route picks, with an OPERATIONAL path, no dispatch fault, no command to compress and no guarded one, and with its output stage holding the Route’s claim, becomes DISPATCHED on the picked path with one more attempt, and T_DISPATCH and EXCH set. Inside its TIMEOUT, and inside ABORT where an abort is pending, the first frame of an active attempt makes it ACKED and changes nothing but the record and the class of the memory request in hand. A data frame of a READ with DISCARD counts its bytes and writes none; one of a plain READ has its bytes delivered. The final response of the last command, with the length right or LENOK set, makes the record COMPLETE, and RETIRED at once when the completion ring has room. -/
def Obligations.AttemptsRunToTheirFinalResponse : Prop :=
  ∀ (s : State) (sc wsn : Nat), s.runs = true → ∀ r, s.jrec sc wsn = some r → (s.route (s.sub sc).route).stopped = false →
    (s.route (s.sub sc).route).switching = none →
    (∀ cl i fl p, (s.route (s.sub sc).route).quiesce = false → (s.activeEng (s.sub sc).route).isSome = true → s.inflight (s.sub sc).route < 65536 →
      (s.route (s.sub sc).route).arb.pick ((s.dispatchable (s.sub sc).route).map (fun r => (r.cls, r.inst))) = some (cl, i, fl) →
      minBy (·.tAccept) ((s.dispatchable (s.sub sc).route).filter (fun r => r.cls == cl && r.inst == i)) = some r → r.sc = sc → r.wsn = wsn →
      (s.sub sc).pickPath r = some p → r.prepEnd = none → (∀ k ∈ r.left, s.cmdFault r.inst k.2 = none) → (∀ k ∈ r.left, (k.2.cmp && k.2.isOut) = false) → (∀ k ∈ r.left, k.2.guarded = false) →
      s.claim (stageOf ((s.sub sc).paths.getD p {}).kind ((s.sub sc).paths.getD p {}).port) (s.sub sc).route = (s.route (s.sub sc).route).claim →
      ∀ x, ∃ t q, exec (.waybillDispatch (s.sub sc).route x) s = .next t ∧ t.jrec sc wsn = some q ∧ q.state = 2 ∧ q.attempts = r.attempts + 1 ∧ q.path = p ∧ q.exch = x % 2 ^ 32 ∧
        q.tDispatch = s.now ∧ q.tEnd = s.now + (s.sub sc).timeoutMs * msT ∧ q.user = r.user ∧ q.cls = r.cls) ∧
    (r.active = true → s.now < r.tEnd → (r.aborting = true → s.now < r.abortEnd) →
      (∃ t, exec (.targetFirstFrame sc wsn) s = .next t ∧ t.jrec sc wsn = some { r with state := 3 } ∧ t = { s with subchs := t.subchs, ms := { s.ms with cls := r.cls } } ∧ ∀ n, n ≠ sc → t.sub n = s.sub n) ∧
      (r.aborting = false → r.cmd.isIn = true → ∀ b,
        (r.cmd.discard = true → ∃ t, exec (.dataFrame sc wsn b) s = .next t ∧
          t.jrec sc wsn = some { r with state := 3, inData := true, moved := r.moved + b.length } ∧ t = { s with subchs := t.subchs, ms := { s.ms with cls := r.cls } }) ∧
        (r.cmd.discard = false → r.cmd.cph = false → r.cmd.cmp = false → exec (.dataFrame sc wsn b) s = .next
          (((s.inClass r.cls).onRec sc wsn (fun r => { r with state := 3, inData := true, moved := r.moved + b.length })).deliver sc wsn r.moved b))) ∧
      (r.aborting = false → s.inlineLeft sc wsn = none → s.indoubt.any (fun d => d.inDoubt sc (s.sub sc).incarn wsn) = false → (r.cmd.isIn && r.cmd.cmp) = false → r.cmds.length ≤ r.done + 1 → s.resetting r.inst = false → r.inst = (s.sub sc).inst →
        ∀ dev moved sense, (r.cmd.isIn = false → r.transfer = moved) → (r.cmd.isIn = true → r.transfer = r.moved) → (s.sub sc).sense = 0 → r.cond = 0 →
        ∃ t q, exec (.finalResponse sc wsn dev moved sense) s = .next t ∧ t.jrec sc wsn = some q ∧ q.residual = 0 ∧ q.tFinal = s.now ∧
          q.devstat = mergeDev r.devstat (devStat (s.sub sc).profile dev) 0 ∧
          (((s.sub sc).cqFull = false ∧ (s.sub sc).held = [] → q.state = 5 ∧ q.status = stOk ∧ (t.sub sc).retired = (s.sub sc).retired + 1) ∧
           ((s.sub sc).cqFull = true ∨ (s.sub sc).held ≠ [] → q.state = 4 ∧ (t.sub sc).retired = (s.sub sc).retired))))

/-- A timeout and a transport error abort the attempt, and the outcome of the abort decides the record (R39, R281, R282, R283, R285, R287, R288, Table 09-11, Table 09-15). A transport error of an active attempt inside its TIMEOUT, and the end of TIMEOUT, start the abort that Table 09-15 gives for its path; the third timeout in succession loses the path. Inside ABORT a rejected ABTS is followed by TPRLO or an implicit logout, and a rejected TPRLO by the implicit logout. A confirmed abort of kind 1 or 2 ends the record with the status of its condition, sends it back to ACCEPTED where the journal lets it be sent again, and else puts it IN_DOUBT; a final response of the same cycle wins and completes it. Without a confirmation within ABORT it is IN_DOUBT. A record that no path could carry for the interval is CANCELLED with RETRY_SAFE if it was never sent. A late response is kept as evidence with a record IN_DOUBT, and counted against its port where there is none. -/
def Obligations.FailedAttemptsAreAborted : Prop :=
  ∀ (s : State) (sc wsn : Nat), s.runs = true → ∀ r, s.jrec sc wsn = some r →
    (r.active = true → r.aborting = false → r.resp = none → s.heldAnswer sc wsn = false →
      (s.now < r.tEnd → ∃ t q, exec (.transportError sc wsn) s = .next t ∧ t.jrec sc wsn = some q ∧ q.state = r.state ∧ q.abortRes = 1 ∧ q.abortKind = s.abortKindOf sc r.path ∧
        q.tAbort = s.now ∧ q.condStatus = 0 ∧ t.ioOnly s) ∧
      (∃ t q, exec (.attemptTimeout sc wsn) s = .next t ∧ t.jrec sc wsn = some q ∧ q.state = r.state ∧ q.abortRes = 1 ∧
        (((s.sub sc).paths.getD r.path {}).timeouts + 1 < 3 → ((t.sub sc).paths.getD r.path {}).timeouts = ((s.sub sc).paths.getD r.path {}).timeouts + 1) ∧
        (2 ≤ ((s.sub sc).paths.getD r.path {}).timeouts → ((s.sub sc).paths.getD r.path {}).state = 2 → ((t.sub sc).paths.getD r.path {}).state = 3))) ∧
    (r.active = true → r.aborting = true → (s.route (s.sub sc).route).stopped = false → (s.route (s.sub sc).route).switching = none → s.now < r.abortEnd →
      (r.abortKind = 1 → ∃ t q, exec (.abortRejected sc wsn) s = .next t ∧ t.jrec sc wsn = some q ∧ (q.abortKind = 3 ∨ q.abortKind = 4) ∧ q.abortRes = 1 ∧ q.abortEnd = r.abortEnd ∧
        t.ioOnly s) ∧
      (r.abortKind = 3 → ∃ t q, exec (.abortRejected sc wsn) s = .next t ∧ t.jrec sc wsn = some q ∧ q.abortKind = 4 ∧ q.abortRes = 1 ∧ q.abortEnd = r.abortEnd ∧ t = { s with subchs := t.subchs, ms := { s.ms with cls := r.cls } }) ∧
      (r.abortKind = 1 ∨ r.abortKind = 2 → s.answerable sc r = true → s.resetting r.inst = false →
        (∀ dev moved sense, (s.sub sc).sense = 0 → r.inst = (s.sub sc).inst → ∃ t q, exec (.abortConfirmation sc ⟨wsn, some (dev, moved, sense)⟩) s = .next t ∧ t.jrec sc wsn = some q ∧
          (q.state = 4 ∨ q.state = 5) ∧ q.abortRes = 3 ∧ q.tFinal = s.now) ∧
        (r.condStatus ≠ 0 → ∃ t q, exec (.abortConfirmation sc ⟨wsn, none⟩) s = .next t ∧ t.jrec sc wsn = some q ∧ q.state = 7 ∧ q.status = r.condStatus ∧ q.abortRes = 2) ∧
        (r.condStatus = 0 → s.mayRedrive r = true → ∃ t q, exec (.abortConfirmation sc ⟨wsn, none⟩) s = .next t ∧ t.jrec sc wsn = some q ∧ q.state = 1 ∧ q.avoid = some r.path ∧ q.abortRes = 2) ∧
        (r.condStatus = 0 → s.mayRedrive r = false → s.doubtRoom = true → ∃ t, exec (.abortConfirmation sc ⟨wsn, none⟩) s = .next t ∧ t.inStore r.sc wsn 2 ∧ t.jrec sc wsn = none))) ∧
    (r.aborting = true → s.heldAnswer sc wsn = false → s.doubtRoom = true → ∃ t, exec (.abortTimeout sc wsn) s = .next t ∧ t.inStore r.sc wsn 4 ∧ t.jrec sc wsn = none ∧ t.doubts = s.doubts + 1) ∧
    (r.state = 1 → r.noPathEnd ≠ 0 →
      (r.attempts = 0 → ∃ t q, exec (.noPathTimeout sc wsn) s = .next t ∧ t.jrec sc wsn = some q ∧ q.state = 7 ∧ q.status = stRetrySafe) ∧
      (r.attempts ≠ 0 → s.doubtRoom = true → ∃ t, exec (.noPathTimeout sc wsn) s = .next t ∧ t.inStore r.sc wsn r.abortRes ∧ t.jrec sc wsn = none)) ∧
    (∀ inc dev res port sense, r.state = 6 → r.sc = sc → r.incarn = inc → r.wsn = wsn → (s.sub sc).live = true → (s.sub sc).incarn = inc → (s.sub sc).sense = 0 →
      ∃ t q, exec (.lateResponse sc inc wsn dev res port sense) s = .next t ∧ t.jrec sc wsn = some q ∧ q.state = 6 ∧ q.residual = res % 2 ^ 32 ∧ q.rflags = r.rflags ||| 1 ∧
        t = { s with subchs := t.subchs }) ∧
    (∀ inc dev res port sense, r.state ≠ 6 → s.indoubt.any (fun d => d.inDoubt sc inc wsn) = false → ((s.sub sc).live && (s.sub sc).incarn == inc) = false →
      exec (.lateResponse sc inc wsn dev res port sense) s = .next (s.discardAt (stagePort port).1 (stagePort port).2))

/-- Loss and return of a port, logout, and the answers and timeouts of logins move the paths (R283, R285, Table 09-12). The loss of signal of a port that is up takes its link down and loses every path of the subchannels that is on it and is in use, and a restored one has its link and rate again. A logout loses an OPERATIONAL path. A good login answer makes a path that is INITIALISING or LOST OPERATIONAL, a bad one or no answer within 1 s makes it LOST, and a LOST path tries again every second. -/
def Obligations.PathsFollowTheirPortsAndLogins : Prop :=
  ∀ (s : State) (sc p : Nat), s.runs = true →
    (∀ port, port < 32 → (s.portUp 1 port = true →
        (∃ t, exec (.pathSignalLoss 1 port) s = .next t ∧ t.portUp 1 port = false ∧
          (∀ q, q = (s.sub sc).paths.getD p {} → (q.state = 1 ∨ q.state = 2) → q.kind = 1 → q.port = port → ((t.sub sc).paths.getD p {}).state = 3))) ∧
      (∀ rate, s.portUp 1 port = false → ∃ t, exec (.portSignalRestored 1 port rate) s = .next t ∧ t.portUp 1 port = true ∧ (t.ioport port).rate = rate ∧
        (t.ioport port).retrains = (s.ioport port).retrains + 1 ∧ t = { s with ioports := t.ioports, log := t.log, svc := t.svc })) ∧
    ((s.sub sc).live = true → ∀ q, q = (s.sub sc).paths.getD p {} →
      (q.state = 2 → ∃ t, exec (.pathLogout sc p) s = .next t ∧ ((t.sub sc).paths.getD p {}).state = 3 ∧ t.ioOnly s) ∧
      (q.state = 1 ∨ q.state = 3 →
        (s.portUp q.kind q.port = true → s.logins q.kind q.port < 4096 → ∃ t, exec (.loginResult sc p true) s = .next t ∧ ((t.sub sc).paths.getD p {}).state = 2) ∧
        (∃ t, exec (.loginResult sc p false) s = .next t ∧ ((t.sub sc).paths.getD p {}).state = 3)) ∧
      (q.state = 1 → ∃ t, exec (.loginTimeout sc p) s = .next t ∧ ((t.sub sc).paths.getD p {}).state = 3 ∧ t.clock = (s.advanceTo (q.loginAt + secT)).clock) ∧
      (q.state = 3 → ∃ t, exec (.loginRetry sc p) s = .next t ∧ (t.sub sc).paths.getD p {} = { q with loginAt := t.now } ∧ t.clock = (s.advanceTo (q.loginAt + secT)).clock ∧
        t = { s with clock := t.clock, subchs := t.subchs }))

/-- Heartbeats, claims, failures and self-tests of the Channel Engines of a Route (R290, R291, R292, R293, R294). A heartbeat of the active engine is stamped. The failure of the active engine, found by a checker or by a lost heartbeat, with its standby ready, starts a switchover to the standby; without a standby it stops the Route. An output stage takes a claim ahead of its own and acknowledges it, one sent again is stamped again, and a frame with the stored claim is on the wire, the first one after a switchover ending its gap, while one with another claim is discarded without a trace. Once every stage has acknowledged, with no frame held, the new engine is ACTIVE under the next claim. A failed loopback fails the standby, a passed self-test makes a FAILED engine STANDBY_SYNC, and the complete mirror copy makes it STANDBY_READY. -/
def Obligations.RoutesSwitchOverUnderClaims : Prop :=
  ∀ (s : State) (r n : Nat), s.runs = true →
    (s.activeEng r = some n → (s.route r).switching = none →
      (∃ t, exec (.engineHeartbeat r) s = .next t ∧ (t.route r).beat = t.now ∧ t.clock = (s.advanceTo ((s.route r).beat + 4000)).clock ∧ t = { s with clock := t.clock, routes := t.routes }) ∧
      (n = 2 * r ∨ n = 2 * r + 1 → (s.engine (mate n)).state = 3 →
        (∃ t, exec (.heartbeatLoss r) s = .next t ∧ (t.engine n).state = 4 ∧ (t.route r).switching = some (mate n, false)) ∧
        (∃ t, exec (.engineCheckerFault n) s = .next t ∧ (t.engine n).state = 4 ∧ (t.route r).switching = some (mate n, false) ∧
          (t.route r).unacked = s.stages.map (fun k => (k, s.now)))) ∧
      (n = 2 * r ∨ n = 2 * r + 1 → (s.engine (mate n)).state ≠ 3 → (s.route r).win = none →
        ∃ t, exec (.engineCheckerFault n) s = .next t ∧ (t.engine n).state = 4 ∧ (t.route r).stopped = true)) ∧
    (∀ stage c, stage ∈ s.stages →
      (1 ≤ (c + 2 ^ 32 - s.claim stage r) % 2 ^ 32 → (c + 2 ^ 32 - s.claim stage r) % 2 ^ 32 < 2 ^ 31 → c < 2 ^ 32 →
        ∃ t, exec (.claimWrite r stage c) s = .next t ∧ t.claim stage r = c ∧ t = { s with claims := t.claims, routes := t.routes } ∧
          (c = ((s.route r).claim + 1) % 2 ^ 32 → (t.route r).unacked = (s.route r).unacked.filter (fun u => u.1 != stage))) ∧
      (s.claim stage r = c →
        ((s.route r).gap = none → exec (.outputStageFrame stage r c) s = .next { s.onRoute r (fun x => { x with lastFrame := s.now }) with wire := (stage, r, c) :: s.wire }) ∧
        (∀ old last inj, (s.route r).gap = some (old, last, inj) → ∃ t, exec (.outputStageFrame stage r c) s = .next t ∧ (t.route r).gap = none ∧
          (t.route r).lastGap = (s.now - last) / 4 ∧ (t.route r).lastFrame = s.now ∧ t.wire = (stage, r, c) :: s.wire)) ∧
      (s.claim stage r ≠ c → exec (.outputStageFrame stage r c) s = .next s)) ∧
    (∀ stage at0, (s.route r).unacked = [(stage, at0)] →
      ∃ t, exec (.claimWriteResend r stage) s = .next t ∧ (t.route r).unacked = [(stage, t.now)] ∧ t.clock = (s.advanceTo (at0 + 2000)).clock ∧ t = { s with clock := t.clock, routes := t.routes }) ∧
    (∀ byCmd, (s.route r).switching = some (n, byCmd) → (s.route r).unacked = [] → (s.route r).held = [] →
      ∃ t, exec (.claimsAcknowledged r) s = .next t ∧ (t.engine n).state = 1 ∧ (t.route r).claim = ((s.route r).claim + 1) % 2 ^ 32 ∧ (t.route r).switching = none ∧
        (t.route r).switchovers = (s.route r).switchovers + 1) ∧
    ((s.route r).switching = none → (n = 2 * r ∨ n = 2 * r + 1) → (s.engine n).state = 3 → (s.engine (mate n)).state = 1 → (s.route r).win = none →
      (∃ t, exec (.standbyLoopback r true) s = .next t ∧ t = { s with clock := t.clock, routes := t.routes }) ∧
      (∃ t, exec (.standbyLoopback r false) s = .next t ∧ (t.engine n).state = 4 ∧ (t.engine n).loopFails = ((s.engine n).loopFails + 1) % 2 ^ 32 ∧ (t.engine (mate n)).state = 1)) ∧
    ((s.engine n).state = 4 → (s.engine n).tested = false → (s.engine n).win = none → (s.route (n / 2)).switching = none → (s.route (n / 2)).stopped = false →
      (∃ t, exec (.engineSelfTestResult n true) s = .next t ∧ (t.engine n).state = 2) ∧
      (∃ t, exec (.engineSelfTestResult n false) s = .next t ∧ (t.engine n).state = 4 ∧ (t.engine n).tested = true)) ∧
    ((s.engine n).state = 2 → (s.engine (mate n)).state = 1 →
      ∃ t, exec (.engineMirrorCopyComplete n) s = .next t ∧ (t.engine n).state = 3 ∧ t = { s with engines := t.engines, log := t.log, svc := t.svc })

/-- Subchannel commands create and configure; journal and route commands answer (R268, R279, R285, R286, R295, Table 09-17, Table 09-19, R280, R289, R290, R293). Under the conditions for success each command completes with OK. SUBCH_CREATE of a free number with journal room makes a live subchannel of the caller with the fields of Table 09-17, WSN 1 next, and the incarnation one above the number’s last; SUBCH_DESTROY of one with no outstanding and no IN_DOUBT record removes it; PATH_ADD of an empty index makes the path LOGGING_IN; PATH_REMOVE empties one with no active attempt and drains one that has some; PROFILE_SET changes the profile and the block size. The two queries change nothing. Beside the answer nothing else changes. JOURNAL_QUERY answers the 128 bytes of the record it finds and INDOUBT_LIST the identities of the IN_DOUBT records, up to 55. INDOUBT_RESOLVE of an IN_DOUBT record of the caller settles it: DONE makes it RETIRED with OK, NOT_DONE CANCELLED with RETRY_SAFE, and REDRIVE, in the same incarnation and with its slot free, ACCEPTED in its slot again. LOGIN_QUERY and ROUTE_STATUS change nothing. ROUTE_SWITCH to the active engine answers OK with no effect, and to a ready standby, with no data phase open, it starts the switchover while its window stays PENDING. -/
def Obligations.SubchannelJournalAndRouteCommands : Prop :=
  (
  ∀ (s : State) (w : Nat) (f : Bool) (n p : Nat), n = s.arg w 0 4 → p = s.arg w 4 1 →
    (s.takes cmdSubchCreate w f → (s.sub n).live = false → (s.ring n).live = false → s.journalRoom (2 ^ s.arg w 4 1) = true →
      ∃ t c y, exec (.subchCreate w) s = .next t ∧ c = (s.incarnOf n + 1) % 2 ^ 32 ∧ t.shows s w stOk (beBytes 4 c ++ beBytes 4 0) ∧ t.sub n = y ∧
        y.live = true ∧ y.inst = w ∧ y.log2 = s.arg w 4 1 ∧ y.profile = s.arg w 5 1 ∧ y.block = s.arg w 6 1 ∧ y.route = s.arg w 7 1 ∧ y.sq = s.arg w 8 8 ∧
        y.cq = s.arg w 0x10 8 ∧ y.sense = s.arg w 0x18 8 ∧ y.evTid = s.arg w 0x20 8 ∧ y.timeoutMs = s.arg w 0x28 4 ∧ y.maxAtt = s.arg w 0x2C 1 ∧ y.incarn = c ∧
        y.nextWsn = 1 ∧ y.slots = [] ∧ y.paths = [] ∧ t.incarnOf n = c ∧ t.isBut { s with subchs := s.subchs.put n y, incarns := s.incarns.put n c } w) ∧
    (s.takes cmdSubchDestroy w f → (s.sub n).live = true → (s.sub n).hasRec (fun r => r.outstanding || r.state == 6) = false →
      ∃ t, exec (.subchDestroy w) s = .next t ∧ t.shows s w stOk [] ∧ (t.sub n).live = false ∧ t.isBut { s with subchs := s.subchs.del n } w) ∧
    (s.takes cmdSubchQuery w f → ∃ t, exec (.subchQuery w) s = .next t ∧ t.shows s w stOk (s.subchBody n) ∧ t.isBut s w) ∧
    (s.takes cmdPathAdd w f → (s.sub n).live = true → s.arg w 5 1 = 1 → pathForm (s.sub n).profile (s.mreq w).body = true → ((s.sub n).paths.getD p {}).state = 0 →
      ∃ t v, exec (.pathAdd w) s = .next t ∧ t.shows s w stOk [] ∧ (t.sub n).paths.getD p {} = v ∧ v.state = 1 ∧ v.kind = 1 ∧ v.port = s.arg w 6 1 ∧ v.pref = s.arg w 7 1 ∧
        v.target = bytesAt (s.mreq w).body 8 0x120 ∧ v.loginAt = s.now ∧ (∀ q, q ≠ p → (t.sub n).paths.getD q {} = (s.sub n).paths.getD q {}) ∧
        t.isBut (s.onSub n (fun x => { x with paths := x.paths.put p v })) w) ∧
    (s.takes cmdPathRemove w f → (s.sub n).live = true → ((s.sub n).paths.getD p {}).state = 2 →
      ((s.sub n).activeOn p = 0 → ∃ t, exec (.pathRemove w) s = .next t ∧ t.shows s w stOk [] ∧ (t.sub n).paths.find p = none ∧ t.isBut (s.onSub n (fun x => { x with paths := x.paths.del p })) w) ∧
      ((s.sub n).activeOn p ≠ 0 → ∃ t, exec (.pathRemove w) s = .next t ∧ t.shows s w stOk [] ∧ ((t.sub n).paths.getD p {}).state = 4 ∧
        t.isBut (s.onPath n p (fun x => { x with state := 4, change := s.now })) w)) ∧
    (s.takes cmdPathQuery w f → ∃ t, exec (.pathQuery w) s = .next t ∧ t.isBut s w ∧ t.shows s w stOk ((List.range 8).flatMap (fun k =>
      beBytes 1 ((s.sub n).paths.getD k {}).kind ++ beBytes 1 ((s.sub n).paths.getD k {}).port ++ beBytes 1 ((s.sub n).paths.getD k {}).state ++ beBytes 1 ((s.sub n).paths.getD k {}).pref ++
      beBytes 4 ((s.sub n).activeOn k) ++ beBytes 8 ((s.sub n).paths.getD k {}).fails ++ beBytes 8 (u64 ((s.sub n).paths.getD k {}).change)))) ∧
    (s.takes cmdProfileSet w f → (s.sub n).live = true → (s.sub n).hasRec JRec.outstanding = false → (∀ q ∈ (s.sub n).paths, q.2.state ≠ 0 → kindFits q.2.kind p = true) →
      ∃ t, exec (.profileSet w) s = .next t ∧ t.shows s w stOk [] ∧ t.isBut (s.onSub n (fun x => { x with profile := p, block := s.arg w 5 1 })) w)) ∧
  (
  ∀ (s : State) (w : Nat) (f : Bool) (n : Nat), n = s.arg w 0 4 →
    (s.takes cmdJournalQuery w f → (s.sub n).live = true → s.arg w 8 8 ≠ 0 → s.arg w 8 8 < (s.sub n).nextWsn → ∀ r, s.findRec n (s.arg w 8 8) = some r →
      ∃ t, exec (.journalQuery w) s = .next t ∧ t.shows s w stOk r.bytes ∧ t.isBut s w) ∧
    (s.takes cmdIndoubtList w f → ∀ l, l = (s.doubtList (s.arg w 0 2) (s.arg w 4 4)).filter (fun r => decide (s.arg w 8 8 < r.doubtNo)) → l.length ≤ 55 →
      ∃ t, exec (.indoubtList w) s = .next t ∧ t.isBut s w ∧ t.shows s w stOk (beBytes 4 l.length ++ beBytes 4 0 ++ beBytes 8 0 ++
        l.flatMap (fun r => beBytes 4 r.sc ++ beBytes 4 r.incarn ++ beBytes 8 r.wsn ++ beBytes 8 r.user ++ beBytes 8 (u64 r.tFinal)))) ∧
    (∀ (u : State) (q : MReq) (all : List JRec) (r : JRec), u = (s.begun w f).purgeDoubt → q = s.mreq w → all = u.indoubt ++ (u.sub n).slots.map (·.2) →
      all.find? (fun r => r.state != 6 && r.sc == n && r.resolveSeq == q.seq && r.resolveWin == q.w && r.resolveSeq != 0) = none →
      all.find? (namedRec q) = some r → r.inst = w →
      (s.takes (cmdResolve 1) w f → s.arg w 0x10 1 = 1 → ∃ t v, exec (.indoubtResolveDone w) s = .next t ∧ t.shows s w stOk (resolveBody r.incarn r.wsn) ∧
        v = u.settle q (fun r => { r with state := 5, status := stOk, tRetire := s.now }) ∧ (∀ d ∈ v.indoubt, namedRec q d = false) ∧
        (∀ d ∈ u.indoubt, namedRec q d = true → ∃ e ∈ t.indoubt, e.sc = n ∧ e.wsn = d.wsn ∧ e.incarn = d.incarn ∧ e.state = 5 ∧ e.status = stOk) ∧
        t.isBut (if (u.sub n).live = true ∧ (u.sub n).incarn = r.incarn then v.onSub n (fun x => { x with retired := x.retired + 1 }) else v) w) ∧
      (s.takes (cmdResolve 2) w f → s.arg w 0x10 1 = 2 → ∃ t v, exec (.indoubtResolveNotDone w) s = .next t ∧ t.shows s w stOk (resolveBody r.incarn r.wsn) ∧
        v = u.settle q (fun r => { r with state := 7, status := stRetrySafe, tRetire := s.now }) ∧ (∀ d ∈ v.indoubt, namedRec q d = false) ∧
        (∀ d ∈ u.indoubt, namedRec q d = true → ∃ e ∈ t.indoubt, e.sc = n ∧ e.wsn = d.wsn ∧ e.incarn = d.incarn ∧ e.state = 7 ∧ e.status = stRetrySafe) ∧ t.isBut v w) ∧
      (s.takes (cmdResolve 3) w f → s.arg w 0x10 1 = 3 → (u.sub n).live = true → (u.sub n).inst = r.inst → (u.sub n).incarn = r.incarn → (u.sub n).slots.find (r.wsn % (u.sub n).depth) = none →
        ∃ t d, exec (.indoubtResolveRedrive w) s = .next t ∧ t.shows s w stOk (resolveBody r.incarn r.wsn) ∧ t.jrec n r.wsn = some d ∧ d.state = 1 ∧ d.user = r.user ∧
          d.attempts = r.attempts ∧ (t.inst w).waybills = (s.inst w).waybills + 1)) ∧
    (s.takes cmdLoginQuery w f → s.arg w 0 1 = 1 → ∀ p, p = s.ioport (s.arg w 1 1) → ∃ t, exec (.loginQuery w) s = .next t ∧ t.isBut s w ∧
      t.shows s w stOk (beBytes 1 (b2n p.up) ++ beBytes 1 (p.rate / 8) ++ beBytes 2 (s.logins 1 (s.arg w 1 1)) ++ beBytes 4 p.localId ++ beBytes 8 p.name ++ beBytes 8 p.retrains ++ beBytes 8 (u64 p.change))) ∧
    (s.takes cmdRouteStatus w f → ∀ r o, r = s.arg w 0 1 → o = s.route r → ∃ t, exec (.routeStatus w) s = .next t ∧ t.isBut s w ∧
      t.shows s w stOk (beBytes 1 ((s.activeEng r).getD 0xFF) ++ beBytes 1 (s.engine (2 * r)).state ++ beBytes 1 (s.engine (2 * r + 1)).state ++ beBytes 1 0 ++ beBytes 4 o.claim ++
        beBytes 4 (s.inflight r) ++ beBytes 4 (((s.engine (2 * r)).loopFails + (s.engine (2 * r + 1)).loopFails) % 2 ^ 32) ++ beBytes 8 o.switchovers ++ beBytes 8 (u64 o.lastSwitch) ++ beBytes 8 o.lastGap)) ∧
    (s.takes cmdRouteSwitch w f → ∀ r e, r = s.arg w 0 1 → e = s.arg w 1 1 → (s.route r).win = none →
      ((s.engine e).state = 1 → ∃ t, exec (.routeSwitch w) s = .next t ∧ t.shows s w stOk [] ∧ t.isBut s w) ∧
      ((s.engine e).state = 3 → (s.route r).switching = none → s.inPhase r = false → ∃ t, exec (.routeSwitch w) s = .next t ∧ (t.route r).switching = some (e, true) ∧
        (t.route r).unacked = s.stages.map (fun k => (k, s.now)) ∧ (t.route r).win = some w ∧ (t.win w).state = 1 ∧ (t.win w).inExec = true)))

/-- Ring doorbells, admission, dispatch, release, segments, and the reseeding of Block Cipher Units (R297, R307, R309, R310, R311, R312, R313, R314, R399, Table 10-2, Table 10-11). A write of SQ_TAIL of a ring within it moves the index. An entry of a cipher ring that passes the steps of Table 10-11 joins the pool with its fields; its page must hold it. A free unit starts the request that waits in it: the page counts it, latches its key and the request runs. A release without a mismatch writes the enciphered blocks and completes the request, and one with a mismatch counts it against the unit and ends a ring request with CIPHER_FAULT. A transform with more than one segment left goes back to the waiting place. A good reseed counts and stamps it, and a bad one withdraws the unit. A page storage error erases the page’s key and ends the requests in flight on the page; with none in flight it does nothing else. -/
def Obligations.CipherRequestsRunToRelease : Prop :=
  ∀ (s : State) (n v : Nat), s.runs = true →
    ((s.ring n).live = true → s.doorOpen n = true → v % 65536 < (s.ring n).depth →
      exec (.requestRingDoorbell n v) s = .next (s.onRing n (fun x => { x with sqTail := v % 65536 }))) ∧
    (∀ e q, (s.ring n).live = true → (s.ring n).kind = 0 → (s.ring n).sqHead ≠ (s.ring n).sqTail → s.resetting (s.ring n).inst = false →
      s.engWords (s.ring n).inst (s.ring n).encl ((s.ring n).sq + 64 * (s.ring n).sqHead) 8 = .ok e → q = entryReq (s.ring n) n (s.ring n).sqHead e → cipherForm e = true → fld e 1 1 % 4 = 1 →
      (s.inst (s.ring n).inst).requests < (s.inst (s.ring n).inst).reqLimit → s.reqHeld q = true →
      ∃ t, exec (.requestAdmission n) s = .next t ∧ t.bcuPool = s.bcuPool ++ [{ q with cls := 1 }] ∧ (t.ring n).sqHead = ((s.ring n).sqHead + 1) % (s.ring n).depth ∧
        (t.inst (s.ring n).inst).requests = (s.inst (s.ring n).inst).requests + 1 ∧ t = { s with rings := t.rings, insts := t.insts, bcuPool := t.bcuPool, ms := { s.ms with cls := 1 } }) ∧
    (∀ q b, (s.bcu n).serves = true → (s.bcu n).running = none → (s.bcu n).waiting = some q → q.src = 0 → q.stamp = 0 → q.guard = false → s.pageServes q.inst 0 q.page = true →
      (s.page q.page).state = 2 → bit (s.page q.page).perm 5 = false → (s.inClass q.cls).engRead q.inst 0 q.from_ q.len = .ok b →
      ∃ t r, exec (.bcuDispatch n) s = .next t ∧ (t.bcu n).running = some r ∧ (t.bcu n).waiting = none ∧ r.input = b ∧ r.key = (s.page q.page).key ∧ r.gen = (s.page q.page).gen ∧
        r.stamp = max 1 s.now ∧ (t.page q.page).inflight = (s.page q.page).inflight + 1 ∧ t = { s with bcus := t.bcus, pages := t.pages }) ∧
    (∀ q, (s.bcu n).running = some q → q.src = 0 →
      (s.engRange q.inst 0 q.to_ q.len = true → (s.bcu n).inject = false → ∀ w, w = ((s.leaveUnit n q (q.len / 16)).inClass q.cls).engWrite q.inst 0 q.to_ (reqOut q (q.op == 2)) →
        exec (.bcuRelease n false) s = .next (w.1.endReq q stOk n w.2 q.len 0)) ∧
      (∃ u, u = (s.onBcu n (fun u => { u with running := none, inject := false })).asInjected (s.bcu n).inject (fun s => s.unitMiss false n) ∧ (u.bcu n).faults = ((s.bcu n).faults + 1) % 2 ^ 32 ∧
        exec (.bcuRelease n true) s = .next ((u.onPage q.page (fun p => { p with inflight := p.inflight - 1 })).endReq q stCipherFault n 0 0 0))) ∧
    (∀ q, (s.bcu n).running = some q → q.src = 3 → 65536 < q.left → s.segReady q = false → exec (.inlineSegmentEnd n) s = .next s) ∧
    (∀ q r, (s.bcu n).running = some q → q.src = 3 → 65536 < q.left → s.jrec q.sc q.wsn = some r → r.cmd.isOut = true → (s.bcu n).waiting = none →
      ∃ t d, exec (.inlineSegmentEnd n) s = .next t ∧ (t.bcu n).running = some { q with left := q.left - 65536 } ∧ (t.bcu n).work = (s.bcu n).work + 4096 ∧ t.jrec q.sc q.wsn = some d ∧
        d.out = r.out ++ aesCtr q.key 4096 ((r.cmd.tb.2.2.2 + r.out.length / 16) % 2 ^ 128) ((q.input.drop r.out.length).take 65536) ∧
        t = { s with bcus := t.bcus, subchs := t.subchs, ms := { s.ms with cls := r.cls } }) ∧
    ((s.bcu n).state = 1 →
      (∃ t, exec (.drbgReseed n true) s = .next t ∧ (t.bcu n).reseeds = (s.bcu n).reseeds + 1 ∧ (t.bcu n).lastSeed = t.now ∧ t.clock = (s.advanceTo ((s.bcu n).lastSeed + msT)).clock ∧ t = { s with clock := t.clock, bcus := t.bcus }) ∧
      (∃ t, exec (.drbgReseed n false) s = .next t ∧ (t.bcu n).state = 2 ∧ (t.bcu n).running = none ∧ (t.bcu n).waiting = none)) ∧
    (n < 4096 → (s.page n).state = 2 ∨ (s.page n).state = 4 →
      exec (.cipherPageStorageError n) s = .next ((s.onPage n (fun x => { x with state := 3, key := [] })).abortOn n) ∧
      ((∀ q ∈ s.bcuReqs, q.page ≠ n) → s.subchs = [] → exec (.cipherPageStorageError n) s = .next (s.onPage n (fun x => { x with state := 3, key := [] }))))

/-- Dispatch, completion and failures of Deflate Units (R310, R317, R318, R319, R320). A free Deflate Unit in service starts the ring request that waits in it, with its dictionary latched; without the dictionary the request ends with NOT_PERMITTED. A ring compression without a mismatch whose output lies in range writes it and completes with OK; a first verify mismatch sends the request to another unit and is counted. A parity failure withdraws the unit: its health is WITHDRAWN and the requests it held return to the front of the pool. -/
def Obligations.DeflateRequestsRunToCompletion : Prop :=
  ∀ (s : State) (n : Nat), s.runs = true →
    (∀ q, (s.dfu n).serves = true → (s.dfu n).running = none → (s.dfu n).waiting = some q → q.src = 1 → q.stamp = 0 →
      (∀ b, (if q.dict = 0xFF then some [] else s.dictOf q.inst q.dict) = some b →
        ∃ t, exec (.dfuDispatch n) s = .next t ∧ (t.dfu n).running = some { q with dictBytes := b, stamp := max 1 s.now } ∧ (t.dfu n).waiting = none ∧ t = { s with dfus := t.dfus }) ∧
      (q.dict ≠ 0xFF → s.dictOf q.inst q.dict = none → exec (.dfuDispatch n) s = .next ((s.onDfu n (fun u => { u with waiting := none })).endReq q stNotPermitted n 0 0 0))) ∧
    (∀ q b v u, (s.dfu n).running = some q → v = (s.inClass q.cls).onDfu n (fun u => { u with running := none }) → v.engPrefix q.inst q.encl (q.len + 1) q.from_ q.len = (b, 0) →
      u = v.onDfu n (fun u => { u with work := u.work + b.length }) →
      (∀ w, q.src = 1 → q.op = 1 → (s.dfu n).inject = false → v.engReach q.inst q.encl q.to_ (deflateOut q b).1.length = (deflateOut q b).1.length →
        w = u.engWrite q.inst q.encl q.to_ (deflateOut q b).1 →
        exec (.dfuCompletion n false) s = .next (w.1.endReq q stOk n (if w.2 ≠ 0 then w.2 else (deflateOut q b).2) (deflateOut q b).1.length (checkOf q.framing b))) ∧
      (q.op = 1 → q.verify = true → q.misses = 0 →
        ∃ t, exec (.dfuCompletion n true) s = .next t ∧ t.dfuPool.head? = some { q with misses := 1, avoid := some n } ∧ (t.dfu n).faults = ((s.dfu n).faults + 1) % 2 ^ 32 ∧ (t.dfu n).running = none)) ∧
    (n < 8 → (s.dfu n).state = 1 → ∃ t, exec (.dfuParityFailure n) s = .next t ∧ (t.dfu n).state = 2 ∧ (t.dfu n).running = none ∧ (t.dfu n).waiting = none ∧
      t.dfuPool = (s.dfu n).running.toList ++ (s.dfu n).waiting.toList ++ s.dfuPool ∧ (t.health (unitCode 8 n)).state = 5)

/-- The cipher page commands, and the commands of rings and dictionaries (R98, R298, R301, R302, R321, Table 10-2, Table 10-4, R308, R320, Table 10-14, Table 10-15). CPAGE_ALLOC without an enclave, within the share, gives the lowest free page, EMPTY, with its permissions. CPAGE_KEY_WRITE with a generation above the page’s stores the key and makes it KEYED with the counter mark 0, and answers the key check value. CPAGE_KEY_ERASE and CPAGE_FREE erase the key of a page; with nothing dispatched on it nothing else changes, and a freed page is free. CPAGE_QUERY answers the six registers and changes nothing, and CPAGE_PERM_SET stores the permissions. CRING_CREATE of a free number makes a live request ring of the caller with its kind, depth and addresses; CRING_DESTROY removes one with no admitted request. DICT_LOAD into an empty slot stores the bytes read and answers their Adler-32; DICT_FREE empties the slot. DICT_QUERY and CIPHER_UNIT_STATUS change nothing. -/
def Obligations.CipherPagesRingsAndDictionaries : Prop :=
  (
  ∀ (s : State) (w : Nat) (f : Bool) (p : Nat), p = s.arg w 0 2 →
    (s.takes cmdCpageAlloc w f → p = 0 → (s.pages.find? (fun x => x.2.state != 0 && x.2.allocSeq == some ((s.win w).reqSeq, w))) = none → s.pagesHeld w < (s.inst w).cpages →
      ∀ n, (List.range 4096).find? (fun n => (s.page n).state == 0) = some n →
      ∃ t, exec (.cpageAlloc w) s = .next t ∧ t.shows s w stOk (beBytes 2 n ++ beBytes 6 0) ∧ (t.page n).state = 1 ∧ (t.page n).inst = w ∧ (t.page n).encl = 0 ∧ (t.page n).perm = s.arg w 2 1 ∧
        (t.page n).key = [] ∧ (∀ m, m ≠ n → t.page m = s.page m) ∧ t.isBut { s with pages := t.pages } w) ∧
    (s.takes cmdCpageKeyWrite w f → ∀ key, (s.begun w f).keyAt w (s.arg w 8 8) (s.arg w 2 1 + 1) = some key → (s.page p).encl = 0 → (s.page p).gen < s.arg w 4 4 →
      ∃ t, exec (.cpageKeyWrite w) s = .next t ∧ t.shows s w stOk ((sha384 key).take 4 ++ beBytes 4 0) ∧
        t.isBut (s.onPage p (fun x => { x with state := 2, key := key, keylen := s.arg w 2 1, gen := s.arg w 4 4, test := s.arg w 3 1 == 1, mark := 0 })) w) ∧
    ((s.page p).state = 2 → (s.page p).inflight = 0 → (∀ q ∈ s.bcuReqs, q.page ≠ p) → s.subchs = [] →
      (s.takes cmdCpageKeyErase w f → ∃ t, exec (.cpageKeyErase w) s = .next t ∧ t.shows s w stOk [] ∧ t.isBut (s.onPage p (fun x => { x with state := 3, key := [] })) w) ∧
      (s.takes cmdCpageFree w f → ∃ t, exec (.cpageFree w) s = .next t ∧ t.shows s w stOk [] ∧ (t.page p).state = 0 ∧ (t.page p).key = [] ∧ (t.page p).gen = 0 ∧
        (∀ m, m ≠ p → t.page m = s.page m) ∧ t.isBut { s with pages := t.pages } w)) ∧
    (s.takes cmdCpageQuery w f → ∃ t, exec (.cpageQuery w) s = .next t ∧ t.isBut s w ∧
      t.shows s w stOk (beBytes 8 ((s.page p).gen * 2 ^ 32 + b2n (s.page p).test * 2 ^ 31 + (s.page p).perm * 2 ^ 16 + (s.page p).keylen * 2 ^ 8 + (s.page p).state) ++
        beBytes 8 ((s.page p).encl * 2 ^ 16 + (s.page p).inst) ++ beBytes 8 ((s.page p).mark / 2 ^ 64) ++ beBytes 8 ((s.page p).mark % 2 ^ 64) ++ beBytes 8 (s.page p).kcv ++ beBytes 8 (s.page p).inflight)) ∧
    (s.takes cmdCpagePermSet w f → ∃ t, exec (.cpagePermSet w) s = .next t ∧ t.shows s w stOk [] ∧ t.isBut (s.onPage p (fun x => { x with perm := s.arg w 2 1 })) w)) ∧
  (
  ∀ (s : State) (w : Nat) (f : Bool),
    (∀ n, n = s.arg w 0 4 →
      (s.takes cmdCringCreate w f → (s.sub n).live = false → (s.ring n).live = false → s.arg w 4 1 = 1 →
        ∃ t, exec (.cringCreate w) s = .next t ∧ t.shows s w stOk [] ∧ (t.ring n).live = true ∧ (t.ring n).inst = w ∧ (t.ring n).encl = 0 ∧ (t.ring n).kind = 0 ∧ (t.ring n).log2 = s.arg w 5 1 ∧
          (t.ring n).sq = s.arg w 8 8 ∧ (t.ring n).cq = s.arg w 0x10 8 ∧ (t.ring n).evTid = s.arg w 0x18 8 ∧ (∀ m, m ≠ n → t.ring m = s.ring m) ∧ t.isBut { s with rings := t.rings } w) ∧
      (s.takes cmdCringDestroy w f → (s.ring n).live = true → s.ringBusy n = false →
        ∃ t, exec (.cringDestroy w) s = .next t ∧ t.shows s w stOk [] ∧ (t.ring n).live = false ∧ t.isBut { s with rings := s.rings.del n } w)) ∧
    (∀ k, k = s.arg w 0 1 →
      (s.takes cmdDictLoad w f → s.dictOf w k = none → ∀ b, (s.begun w f).engRead w 0 (s.arg w 8 8) (s.arg w 4 4) = .ok b →
        ∃ t, exec (.dictLoad w) s = .next t ∧ t.shows s w stOk (beBytes 4 (adler32 b) ++ beBytes 4 0) ∧ t.dictOf w k = some b ∧ t.isBut { s with dicts := t.dicts } w) ∧
      (s.takes cmdDictFree w f → ∃ t, exec (.dictFree w) s = .next t ∧ t.shows s w stOk [] ∧ t.dictOf w k = none ∧
        (∀ j, j ≠ w * 64 + k → t.dicts.find j = s.dicts.find j) ∧ t.isBut { s with dicts := t.dicts } w)) ∧
    (s.takes cmdDictQuery w f → (∀ k, k < 64 → s.dictOf w k = none) → ∃ t, exec (.dictQuery w) s = .next t ∧ t.shows s w stOk (List.replicate 520 0) ∧ t.isBut s w) ∧
    (s.takes cmdCipherUnitStatus w f → ∃ t, exec (.cipherUnitStatus w) s = .next t ∧ t.isBut s w ∧
      t.shows s w stOk ((List.range 8).flatMap (fun n => (s.bcu n).entry) ++ (List.range 8).flatMap (fun n => (s.dfu n).entry))))

/-- ENCL_CREATE to ENCL_ATTEST make, measure, query and destroy enclaves (R322, R324, R327, R342, R347, Table 11-6, Table 11-8). ENCL_CREATE gives the caller’s lowest free number an enclave that is CREATED, measured over the request, stamped, and with a key that is free; ENCL_ADD_GRANULE without MEASURE of a granule that no enclave holds maps it with its flags and changes no enclave; ENCL_REMOVE_GRANULE unmaps and wipes a granule no slot or vector base lies in. ENCL_FINALISE of an enclave that passes its check makes it FINAL with the last measurement step. ENCL_DESTROY of one that no task is in leaves it without granules and rings. ENCL_QUERY changes nothing, and ENCL_ATTEST answers the report of Table 11-8 and its ECDSA P-384 signature by the device attestation key, with a nonce that is free. -/
def Obligations.EnclaveCommands : Prop :=
  ∀ (s : State) (w : Nat) (f : Bool) (e : Nat), e = s.arg w 0 2 →
    (s.takes cmdEnclCreate w f → (s.encls.between (w * 4096) (w * 4096 + 4096)).find? (fun p => p.2.state != 0 && p.2.seq == (s.win w).reqSeq + 1) = none →
      (s.encls.filter (fun p => p.2.state != 0)).length < 4096 → ∀ n, ((List.range 4095).map (· + 1)).find? (fun n => (s.encl w n).state == 0) = some n →
      ∃ t, exec (.enclCreate w) s = .next t ∧ t.shows s w stOk (beBytes 2 n ++ beBytes 6 0) ∧ (t.encl w n).state = 1 ∧ (t.encl w n).threads = s.arg w 0 1 ∧ (t.encl w n).evba = s.arg w 8 8 ∧
        (t.encl w n).esa = s.arg w 0x10 8 ∧ (t.encl w n).meas = sha384 (ascii "OLS9ENCL" ++ bytesAt (s.mreq w).body 0 0x20) ∧ (t.encl w n).created = u64 s.now ∧ (t.encl w n).bound = [] ∧
        (t.encl w n).key = bytesAt (Config.freeBytes s.freeCtr 64) 0 64 ∧ (∀ m, m ≠ w * 4096 + n → t.encls.find m = s.encls.find m) ∧ t.isBut { s with encls := t.encls, freeCtr := t.freeCtr } w) ∧
    (s.enclNamed w e = true →
      (s.takes cmdEnclAddGranule w f → ∀ ra, (s.begun w f).instStage w 0 (s.arg w 8 8) false = .mem ra → s.emap.find (ra / 65536) = none → bit (s.arg w 2 1) 0 = false →
        ((s.encl w e).state = 2 → bit (s.arg w 2 1) 1 = false) →
        ∃ t, exec (.enclAddGranule w) s = .next t ∧ t.shows s w stOk [] ∧ t.encls = s.encls ∧ (∀ g, g ≠ ra / 65536 → t.emap.find g = s.emap.find g) ∧
          t.emap.find (ra / 65536) = some { code := bit (s.arg w 2 1) 1, write := bit (s.arg w 2 1) 2, inst := w, encl := e, iaddr := s.arg w 8 8 / 65536 }) ∧
      (s.takes cmdEnclRemoveGranule w f → ∀ p, s.emap.find? (fun p => p.2.inst == w && p.2.encl == e && p.2.iaddr == s.arg w 8 8 / 65536) = some p → (s.encl w e).needs (s.arg w 8 8 / 65536) = false →
        ∃ t, exec (.enclRemoveGranule w) s = .next t ∧ t.shows s w stOk [] ∧ t.emap.find p.1 = none ∧ t.isBut ((s.begun w f).dropGranule p.1) w) ∧
      (s.takes cmdEnclFinalise w f → (s.encl w e).state = 1 → s.finalOk w e = true → s.enclPages w e = [] →
        ∃ t, exec (.enclFinalise w) s = .next t ∧ t.shows s w stOk [] ∧ t.isBut (s.onEncl w e (fun x => { x with state := 2, meas := sha384 (x.meas ++ ascii "FINAL") })) w) ∧
      (s.takes cmdEnclDestroy w f → (s.encl w e).bound = [] →
        ∃ t, exec (.enclDestroy w) s = .next t ∧ t.shows s w stOk [] ∧ (t.encl w e).state = 0 ∧ (t.encl w e).key = [] ∧ t.granules w e = [] ∧ ∀ p ∈ t.rings, ¬(p.2.inst = w ∧ p.2.encl = e)) ∧
      (s.takes cmdEnclAttest w f → (s.encl w e).state = 2 →
        ∃ t k r, exec (.enclAttest w) s = .next t ∧ t.isBut { s with freeCtr := t.freeCtr } w ∧
          r = bytesAt (s.encl w e).meas 0 48 ++ bytesAt (s.mreq w).body 8 64 ++ bytesAt s.fuses.serial 0 16 ++ beBytes 2 w ++ beBytes 2 e ++ beBytes 1 (s.encl w e).flags ++
            [2#8, 1#8, 0#8] ++ beBytes 8 (u64 s.now) ∧
          t.shows s w stOk (r ++ ecdsaSign (scalar384 Config.attestKey) k r))) ∧
    (s.takes cmdEnclQuery w f → ∀ i k, i = s.arg w 0 2 → k = s.arg w 2 2 → s.enclNamed i k = true →
      ∃ t, exec (.enclQuery w) s = .next t ∧ t.isBut s w ∧ t.shows s w stOk (beBytes 1 (s.encl i k).state ++ beBytes 1 (s.encl i k).threads ++ beBytes 1 (s.encl i k).bound.length ++
        beBytes 1 (s.encl i k).flags ++ beBytes 4 (s.granules i k).length ++ bytesAt (s.encl i k).meas 0 48 ++ beBytes 8 (s.encl i k).created))

/-- ENCL_CORE_ENABLE, HOLD_QUERY, deferred gating and the debug enables (R343, R344, R345, R346). A core’s enclave ways are turned off when no task holds it, and on when asked. HOLD_QUERY answers the holders of a core and since when, and changes nothing. A deferral whose block stays held to its end of 10 ms ends with HOLD_ACTIVE; one whose block is released before it is performed and ends with OK, and one released at its end is too late. The debug enables take the four bits of the request and are read back. -/
def Obligations.HoldsAndDebugEnables : Prop :=
  ∀ (s : State) (w : Nat) (f : Bool),
    (s.takes cmdEnclCoreEnable w f → ∀ n p, n = s.arg w 0 2 → p = (s.core n).phys →
      (s.arg w 2 1 = 0 → s.coreUsers n = 0 → ∃ t, exec (.enclCoreEnable w) s = .next t ∧ t.shows s w stOk [] ∧ t.enclCore n = false ∧ t.isBut (s.onPCore p (fun k => { k with enclWays := false })) w) ∧
      (s.arg w 2 1 = 1 → s.enclCore n = true → ∃ t, exec (.enclCoreEnable w) s = .next t ∧ t.shows s w stOk [] ∧ t.isBut s w) ∧
      (s.arg w 2 1 = 1 → s.enclCore n = false → ∃ t, exec (.enclCoreEnable w) s = .next t ∧ t.shows s w stOk [] ∧ t.isBut ((s.begun w f).enclOn p) w)) ∧
    (s.takes cmdHoldQuery w f → s.arg w 0 1 = 1 → ∀ n, n = s.arg w 2 2 → ∃ t, exec (.holdQuery w) s = .next t ∧ t.isBut s w ∧
      t.shows s w stOk (beBytes 1 (min (s.coreUsers n) 1) ++ beBytes 3 0 ++ beBytes 4 (s.coreUsers n) ++ beBytes 8 (if s.coreUsers n = 0 then 0 else u64 (s.core n).heldSince))) ∧
    (∀ k n d, s.runs = true →
      (s.deferred.find? (fun d => d.kind == k && d.number == n) = some d → 0 < s.holdUsers k n →
        ∃ t, exec (.deferredGatingExpiry k n) s = .next t ∧ t.deferred = s.deferred.erase d ∧ t.clock = (s.advanceTo d.end_).clock ∧
          t = { s with clock := t.clock, deferred := t.deferred, svc := { s.svc with fifo := s.svc.fifo ++ [{ win := d.win, kind := 9, status := stHoldActive, subject := d.code, tod := u64 t.now, detail := d.seq }] } }) ∧
      (s.deferred.filter (fun d => d.kind == k && d.number == n) = [d] → s.holdUsers k n = 0 →
        (s.now < d.end_ → d.code = 0x0703 → d.kind = 1 → ∃ t, exec (.holdRelease k n) s = .next t ∧ (t.core d.number).gated = d.mode ∧ (t.core d.number).slot0 = none ∧
          (t.core d.number).slot1 = none ∧ t.deferred = s.deferred.erase d ∧ t = { s with cores := t.cores, deferred := t.deferred, svc := { s.svc with fifo := t.svc.fifo } }) ∧
        (d.end_ ≤ s.now → exec (.holdRelease k n) s = .next (s.endDeferred d stHoldActive)))) ∧
    (s.takes cmdDebugEnableSet w f → ∃ t, exec (.debugEnableSet w) s = .next t ∧ t.shows s w stOk [] ∧ t.debugWord = s.arg w 0 1 % 16 ∧
      t.isBut { s with dbgNi := bit (s.arg w 0 1) 0, dbgInv := bit (s.arg w 0 1) 1, dbgEni := bit (s.arg w 0 1) 2, dbgEinv := bit (s.arg w 0 1) 3 } w) ∧
    (s.takes cmdDebugEnableGet w f → ∃ t, exec (.debugEnableGet w) s = .next t ∧ t.shows s w stOk (beBytes 1 s.debugWord ++ beBytes 7 0) ∧ t.isBut s w)

/-- Health and unit commands answer; injected faults follow (R241, R255, R377, R385, R394, Table 13-11, R344, Table 13-14). The four queries answer the words and bodies of the chapter and change nothing. CORE_SPARE of a core with a usable Outrider starts its sparing, and its window stays PENDING. SELFTEST_RUN of an Outrider in STANDBY answers the result; a passed test leaves the role, and a failed one makes it FAILED with a SELFTEST_FAIL record. With INV set, a kind that fits its unit, and EINV and the CONSENT of each enclave that holds the unit or the address, the injection is recorded and waits. The fault of kind 7 or 8 makes the next check of its unit fail, and one of kind 5 fails the active engine of the Route; the injection then waits no longer. -/
def Obligations.HealthUnitsAndInjectedFaults : Prop :=
  (
  ∀ (s : State) (w : Nat) (f : Bool),
    (s.takes cmdHealthGet w f → ∃ t, exec (.healthGet w) s = .next t ∧ t.isBut s w ∧
      t.shows s w stOk (((List.range (s.arg w 4 2)).map (fun k => unitCode (s.arg w 0 1) (s.arg w 2 2 + k))).flatMap (fun u => beBytes 8 (s.health u).word))) ∧
    (s.takes cmdSpareStatus w f → ∃ t, exec (.spareStatus w) s = .next t ∧ t.isBut s w ∧
      t.shows s w stOk (beBytes 1 ((List.range 80).filter (s.usable true)).length ++ beBytes 1 ((List.range 80).filter (s.usable false)).length ++ beBytes 6 0 ++
        (List.range 80).flatMap (fun p => beBytes 1 (s.pcore p).role ++ beBytes 1 (b2n (isChPhys p)) ++ beBytes 1 ((s.lcoreOf p).getD 0xFF) ++ beBytes 1 (s.pcore p).test))) ∧
    (s.takes cmdCoreSpare w f → ∀ n o, n = s.arg w 0 2 → s.ranUnder 0x0505 (s.mreq w) = none → (s.core n).retired = false → (s.core n).sparing = none → (s.core n).reset = none →
      s.pickOutrider (s.core n).phys = some o →
      ∃ t, exec (.coreSpare w) s = .next t ∧ (t.core n).sparing = some (o, 4) ∧ (t.core n).spareWin = some w ∧ (t.pcore o).testing = false ∧ (t.win w).state = 1 ∧ (t.win w).inExec = true) ∧
    (∀ us u, u = s.arg w 0 4 → u / 256 = 1 → (s.pcore (u % 256)).role = 2 →
      (s.takes (cmdSelftestRun true us) w f → ∃ t, exec (.selftestRun w true us) s = .next t ∧ t.shows s w stOk (beBytes 1 1 ++ beBytes 3 0 ++ beBytes 4 us) ∧
        t.isBut (s.onPCore (u % 256) (fun k => { k with test := 1, testing := false })) w) ∧
      (s.takes (cmdSelftestRun false us) w f → ∃ t, exec (.selftestRun w false us) s = .next t ∧ t.shows s w stOk (beBytes 1 2 ++ beBytes 3 0 ++ beBytes 4 us) ∧
        (t.pcore (u % 256)).role = 3 ∧ (t.pcore (u % 256)).test = 2 ∧ (t.health u).state = 4 ∧ t.log.lseq = s.log.lseq + 1)) ∧
    (s.takes cmdWayStatus w f → ∃ t, exec (.wayStatus w) s = .next t ∧ t.shows s w stOk (s.wayBody (s.arg w 0 1) (s.arg w 2 2)) ∧ t.isBut s w) ∧
    (s.takes cmdMemportStatus w f → ∃ t, exec (.memportStatus w) s = .next t ∧ t.shows s w stOk (s.memportBody (s.arg w 0 1)) ∧ t.isBut s w)) ∧
  (
  ∀ (s : State) (w : Nat) (f : Bool),
    (s.takes cmdErrorInject w f → ∀ k u a, k = s.arg w 0 1 → u = s.arg w 4 4 → a = s.arg w 8 8 → s.ranUnder 0x0A02 (s.mreq w) = none →
      (s.dbgInv = true → s.einvOk k u a = true → (injectClasses k).contains (u / 256) = true →
        ∃ t, exec (.errorInject w) s = .next t ∧ t.shows s w stOk [] ∧ t.log.inject = s.log.inject ++ [(k, u, a)] ∧ t.log.lseq = s.log.lseq + 1) ∧
      (s.dbgInv = false → ∃ t, exec (.errorInject w) s = .next t ∧ t.shows s w stNotPermitted [] ∧ t.isBut s w)) ∧
    (s.runs = true → ∀ i u a,
      (s.log.inject[i]? = some (7, u, a) → ∃ t, exec (.faultInjection i) s = .next t ∧ (t.bcu (u % 256)).inject = true ∧ t.log = { s.log with inject := s.log.inject.eraseIdx i, injected := false } ∧
        t = { s with bcus := t.bcus, log := t.log }) ∧
      (s.log.inject[i]? = some (8, u, a) → ∃ t, exec (.faultInjection i) s = .next t ∧ (t.dfu (u % 256)).inject = true ∧ t.log.inject = s.log.inject.eraseIdx i ∧ t = { s with dfus := t.dfus, log := t.log }) ∧
      (∀ n, s.log.inject[i]? = some (5, u, a) → s.activeEng (u % 256 / 2) = some n → ∃ t, exec (.faultInjection i) s = .next t ∧ (t.engine n).state = 4 ∧ t.log.inject = s.log.inject.eraseIdx i)))

/-- LOG_INFO to LOG_NOTE, the hourly totals and the hourly seal (R389, R390, R391, R392, R393, R394). The queries of the Logbook answer the bodies of chapter 13 and change nothing; LOG_READ answers the records from the LSEQ asked for on. LOG_NOTE appends one record of its text while fewer than 16 were written within a second, acting once under its sequence number. Every hour a TOTALS record takes the next LSEQ with the live counters, and the records of an hour are sealed. -/
def Obligations.LogbookCommandsAndHours : Prop :=
  ∀ (s : State) (w : Nat) (f : Bool),
    (s.takes cmdLogInfo w f → ∃ t, exec (.logInfo w) s = .next t ∧ t.isBut s w ∧ t.shows s w stOk (beBytes 8 s.log.lseq ++
      beBytes 8 (match s.log.events.getLast? with | some r => r.lseq | none => 0) ++ beBytes 4 s.log.keep.length ++ beBytes 4 442368 ++ beBytes 8 s.log.lastSeal ++
      beBytes 4 (s.ctrOf 0xFF00).a ++ beBytes 4 (s.ctrOf 0xFF00).b ++ beBytes 8 s.log.totals.lseq ++ beBytes 1 s.logSource ++ beBytes 15 0)) ∧
    (s.takes cmdLogRead w f → ∀ l, l = (if s.arg w 0 1 = 1 then s.log.events else s.log.keep).reverse.dropWhile (fun r => decide (r.lseq < s.arg w 8 8)) → l.length ≤ s.arg w 4 4 →
      ∃ t, exec (.logRead w) s = .next t ∧ t.isBut s w ∧ t.shows s w stOk (beBytes 4 l.length ++ beBytes 4 0 ++ beBytes 8 0 ++ l.flatMap LogRec.bytes)) ∧
    (s.takes cmdLogCountersGet w f → ∃ t, exec (.logCountersGet w) s = .next t ∧ t.isBut s w ∧ t.shows s w stOk (beBytes 1 s.logSource ++ beBytes 7 0 ++
      ((List.range (s.arg w 4 2)).map (fun k => unitCode (s.arg w 0 1) (s.arg w 2 2 + k))).flatMap (fun u =>
        beBytes 8 (s.ctrOf u).ce ++ beBytes 8 (s.ctrOf u).ue ++ beBytes 8 (s.ctrOf u).a ++ beBytes 8 (s.ctrOf u).b))) ∧
    (s.takes cmdLogHistogramGet w f → ∃ t, exec (.logHistogramGet w) s = .next t ∧ t.isBut s w ∧ t.shows s w stOk (beBytes 1 s.logSource ++ beBytes 7 0 ++
      (if s.arg w 0 1 = 1 then (List.range 36).flatMap (fun b => beBytes 4 (s.totalsOf.temp.getD (s.arg w 2 2 * 64 + b) 0))
       else (List.range 17).flatMap (fun b => beBytes 8 (s.totalsOf.lat.getD (s.arg w 2 2 * 32 + b) 0))))) ∧
    (s.takes cmdLogNote w f → s.ranUnder 0x0604 (s.mreq w) = none → ∀ recent, recent = s.log.notes.filter (fun t => decide (s.now < t + secT)) → recent.length < 16 →
      ∃ t r, exec (.logNote w) s = .next t ∧ t.shows s w stOk (beBytes 8 (s.log.lseq + 1)) ∧ t.log.lseq = s.log.lseq + 1 ∧ t.log.notes = s.now :: recent ∧ t.log.events.head? = some r ∧
        r.kind = 0x15 ∧ r.text = (s.mreq w).body ++ beBytes 8 (s.win w).reqSeq ∧ t.ranUnder 0x0604 (s.mreq w) = some (stOk, beBytes 8 (s.log.lseq + 1))) ∧
    (s.tskUp = true → ∀ u, u = s.advanceTo (s.log.lastHour + hourT) →
      ∃ t, exec .logbookTotals s = .next t ∧ t.log.lseq = s.log.lseq + 1 ∧ t.log.totals = { t.log.live with lseq := s.log.lseq + 1 } ∧ t.log.lastHour = u.now ∧ t = { s with clock := u.clock, log := t.log }) ∧
    (s.tskUp = true → ∀ u, u = s.advanceTo (s.log.sealHour + hourT) →
      ∃ t, exec .logbookHourlySeal s = .next t ∧ t.log = { s.log.seal u.now 0 with sealHour := u.now } ∧ t.log.unsealed = [] ∧ t = { s with clock := u.clock, log := t.log })

/-- SYSTEM_RESET, CORE_RESET, ENGINE_RESET, BLOCK_GATE and BLOCK_UNGATE (R411, R413, R414, R420, R421). SYSTEM_RESET resets the device at its execution stamp and answers nothing; with BOOTSEL 0b10 or 0b11 it ends in recovery mode. CORE_RESET of an idle core with an empty store buffer takes it down until its self-test result; a passed one leaves the core on its physical core, and a chain still active after 10 ms ends the command with BUSY. ENGINE_RESET of a withdrawn Block Cipher Unit that passes puts it in service. BLOCK_GATE gates an unheld core without task sets and a unit with nothing in it, and BLOCK_UNGATE takes a clock-gated unit back. -/
def Obligations.ResetsAndGatesOfBlocks : Prop :=
  ∀ (s : State) (w : Nat) (f : Bool),
    (∀ b env, s.takes (cmdSystemReset b env) w f →
      exec (.systemReset w b env) s = .next (((s.begun w f).sysReset.startUp false 3 b false env).noteChanges (s.begun w f) w) ∧
      (2 ≤ b → ∃ t, exec (.systemReset w b env) s = .next t ∧ t.phase = .recovery ∧ t.windows = [] ∧ t.subchs = [] ∧ t.insts = [])) ∧
    (s.takes cmdCoreReset w f → ∀ n, n = s.arg w 0 2 → s.ranUnder 0x0701 (s.mreq w) = none → (s.core n).reset = none → (s.core n).retired = false → (s.core n).sparing = none →
      s.holdUsers 1 n = 0 → s.coreIdle n = true → s.busySets n = [] → (s.core n).wb = [] →
      ∃ t, exec (.coreReset w) s = .next t ∧ (t.core n).reset = some (w, (s.win w).reqSeq, s.now, false) ∧ (t.core n).slot0 = none ∧ (t.core n).slot1 = none ∧ (t.core n).tlb = [] ∧
        (t.win w).state = 1 ∧ (t.win w).inExec = true) ∧
    (s.runs = true → ∀ core v seq t0,
      ((s.core core).reset = some (v, seq, t0, true) → ∃ t, exec (.coreResetChainTimeout core) s = .next t ∧ (t.core core).reset = none ∧
        t = ((s.advanceTo (t0 + 10 * msT)).onCore core (fun c => { c with reset := none })).endMb v stBusy []) ∧
      ((s.core core).reset = some (v, seq, t0, false) → exec (.coreSelfTestResult core true) s = .next (s.coreResetDone core v seq true) ∧
        ((s.core core).hints = [] → (∀ j, (s.ctx core j).regs.pend = 0) → ∃ t, exec (.coreSelfTestResult core true) s = .next t ∧ (t.core core).reset = none ∧ (t.core core).phys = (s.core core).phys ∧
          (t.pcore (s.core core).phys).test = 1))) ∧
    (∀ us n, s.takes (cmdEngineReset true us) w f → s.arg w 0 4 = 7 * 256 + n → n < 8 → s.ranUnder 0x0702 (s.mreq w) = none → s.holdUsers 2 n = 0 → (s.bcu n).state = 2 → (s.bcu n).running = none →
      ∃ t, exec (.engineReset w true us) s = .next t ∧ t.shows s w stOk (beBytes 1 1 ++ beBytes 3 0 ++ beBytes 4 us) ∧ (t.bcu n).state = 1 ∧ (t.health (unitCode 7 n)).state = 0 ∧
        (∀ m, m ≠ n → t.bcu m = s.bcu m)) ∧
    (s.takes cmdBlockGate w f → ∀ k m n, k = s.arg w 0 1 → m = s.arg w 1 1 → n = s.arg w 2 2 → s.gatedOf k n = 0 → s.holdUsers k n = 0 →
      (k = 1 → s.hasSets n = false → ∃ t, exec (.blockGate w) s = .next t ∧ t.shows s w stOk [] ∧ t.isBut (s.onCore n (fun c => { c with gated := m, slot0 := none, slot1 := none })) w) ∧
      (k = 2 → (s.bcu n).running = none → (s.bcu n).waiting = none → (∀ q ∈ s.bcuReqs, q.src ≠ 2) →
        ∃ t, exec (.blockGate w) s = .next t ∧ t.shows s w stOk [] ∧ t.isBut (s.onBcu n (fun u => { u with gated := m, waiting := none })) w)) ∧
    (∀ pass us n, s.takes (cmdBlockUngate pass us) w f → s.arg w 0 1 = 3 → n = s.arg w 2 2 → (s.dfu n).gated = 1 → s.ranUnder 0x0704 (s.mreq w) = none →
      ∃ t, exec (.blockUngate w pass us) s = .next t ∧ t.shows s w stOk (beBytes 1 1 ++ beBytes 3 0 ++ beBytes 4 0) ∧ (t.dfu n) = { s.dfu n with gated := 0 } ∧ t.ranUnder 0x0704 (s.mreq w) = some (stOk, beBytes 1 1 ++ beBytes 3 0 ++ beBytes 4 0))

/-- Configuration commands answer and write; decode table commands load, read and clear (R409, R422, R423, Table 15-6, Table 15-9, R145, R149, R150, R151, R152, Table 04-13). TOD_SET to a later value, where the device disciplines TOD itself, steps TOD to it and answers the value left. The header and descriptor operations write the staging copy, the read operations answer the newest valid stored copy, DISCARD makes the staging copy again, and a commit whose CRC matches, that is valid and changes no SYSTEM descriptor writes the older stored copy under the next GEN. An image that its fused key signs and that obeys its rules is loaded into an empty slot and its digest is answered; one whose key is not fused, or is revoked, is refused with NOT_PERMITTED; one that the slot holds already is answered again, and another is refused with BUSY. UNLOAD empties the slot. The query changes nothing. -/
def Obligations.ConfigurationAndDecodeTableCommands : Prop :=
  (
  ∀ (s : State) (w : Nat) (f : Bool),
    (s.takes cmdTodSet w f → s.ranUnder 0x0705 (s.mreq w) = none → s.relay.sync ≠ 1 → s.relay.sync ≠ 2 → s.now < 2 ^ 64 →
      ∃ t, exec (.todSet w) s = .next t ∧ (t.win w).state = 2 ∧ (t.win w).result = stOk ∧ (t.win w).resp = respBytes stOk (s.win w).reqSeq t.now (beBytes 8 (u64 s.now)) ∧ t.now = s.arg w 0 8) ∧
    (s.takes cmdCfgHeader w f → ∃ t, exec (.resetConfigStageHeader w) s = .next t ∧ t.shows s w stOk [] ∧
      t.isBut (s.onStaging (fun b => bytesAt (s.mreq w).body 8 0x30 ++ bytesAt b 0x30 8 ++ bytesAt (s.mreq w).body 0x40 8 ++ bytesAt b 0x40 0x800)) w) ∧
    (s.takes cmdCfgDescriptor w f → ∃ t, exec (.resetConfigStageDescriptor w) s = .next t ∧ t.shows s w stOk [] ∧
      t.isBut (s.onStaging (fun b => putBytes (bytesAt b 0 cfgLen) (0x40 + 32 * s.arg w 2 2) (bytesAt (s.mreq w).body 8 32))) w) ∧
    (s.takes cmdCfgCommit w f → ∀ b c, b = bytesAt s.fw.staging 0 cfgLen → s.newestCopy = some c → s.arg w 8 4 = cfgCrc b →
      (cfgBody c.2 = cfgBody b → ∃ t, exec (.resetConfigCommit w) s = .next t ∧ t.shows s w stOk (beBytes 4 (cfgGen c.2) ++ beBytes 4 0) ∧ t.isBut s w) ∧
      (cfgBody c.2 ≠ cfgBody b → s.configOk b = true → sysDescr c.2 = sysDescr b →
        ∃ t, exec (.resetConfigCommit w) s = .next t ∧ t.shows s w stOk (beBytes 4 ((cfgGen c.2 + 1) % 2 ^ 32) ++ beBytes 4 0) ∧ t.isBut (s.begun w f).commitCfg.1 w ∧
          (if c.1 = 0 then t.fw.cfg1 = t.fw.staging ∧ t.fw.cfg0 = s.fw.cfg0 else t.fw.cfg0 = t.fw.staging ∧ t.fw.cfg1 = s.fw.cfg1))) ∧
    (∀ c, s.newestCopy = some c →
      (s.takes cmdCfgReadHeader w f → ∃ t, exec (.resetConfigReadHeader w) s = .next t ∧ t.shows s w stOk (bytesAt c.2 0 0x40) ∧ t.isBut s w) ∧
      (s.takes cmdCfgReadDescriptor w f → ∃ t, exec (.resetConfigReadDescriptor w) s = .next t ∧ t.shows s w stOk (bytesAt c.2 (0x40 + 32 * s.arg w 2 2) 32) ∧ t.isBut s w) ∧
      (s.takes cmdCfgDiscard w f → ∃ t, exec (.resetConfigDiscard w) s = .next t ∧ t.shows s w stOk [] ∧ t.isBut (s.onStaging (fun _ => c.2)) w))) ∧
  (
  ∀ (s : State) (w : Nat) (f : Bool) (k : Nat), k = s.arg w 0 1 →
    (s.takes cmdDecodeLoad w f → ∀ b, (s.begun w f).engRead s.mgr 0 (s.arg w 8 8) imageSize = .ok b →
      (s.decode.find k = none →
        (s.decodeKey b = true → imageSigned b = true → imageFields b k = true →
          ∃ t, exec (.decodeLoad w) s = .next t ∧ t.shows s w stOk (sha384 b) ∧ t.decode.find k = some { image := b, digest := sha384 b } ∧ t.isBut { s with decode := t.decode } w) ∧
        (s.decodeKey b = false → ∃ t, exec (.decodeLoad w) s = .next t ∧ t.shows s w stNotPermitted [] ∧ t.isBut s w)) ∧
      (∀ r, s.decode.find k = some r →
        (r.digest = sha384 b → ∃ t, exec (.decodeLoad w) s = .next t ∧ t.shows s w stOk (sha384 b) ∧ t.isBut s w) ∧
        (r.digest ≠ sha384 b → ∃ t, exec (.decodeLoad w) s = .next t ∧ t.shows s w stBusy [] ∧ t.isBut s w))) ∧
    (s.takes cmdDecodeUnload w f → ∃ t, exec (.decodeUnload w) s = .next t ∧ t.shows s w stOk [] ∧ t.decode.find k = none ∧ (∀ j, j ≠ k → t.decode.find j = s.decode.find j) ∧ t.isBut { s with decode := t.decode } w) ∧
    (s.takes cmdDecodeQuery w f → ∃ t, exec (.decodeQuery w) s = .next t ∧ t.isBut s w ∧
      t.shows s w stOk (beBytes 8 ((s.decode.map (fun p => 2 ^ p.1)).foldl (· + ·) 0) ++ (List.range 64).flatMap (fun k => match s.decode.find k with | some r => r.entry | none => beBytes 16 0))))

/-- FW_STAGE, FW_ACTIVATE, reference, GPIO and PPS commands (R48, R408, R424, R434, R447, R448). FW_STAGE writes the TSK patch area from its offset. FW_ACTIVATE of a patch that verifies marks it for the next start-up; of SFW, with a slot that verifies and the standby ready, it makes the slot preferred, resets the standby to load it, and its window stays PENDING; after 10 s without the standby the preference returns. REFCLK_SELECT of a valid reference switches to it. A free GPIO pin is claimed for the Manager and a claimed one released; GPIO_ACCESS drives the masked pins together; PPS_SOURCE_SELECT takes its source. POWER_STATUS changes nothing. -/
def Obligations.FirmwareAndPinCommands : Prop :=
  ∀ (s : State) (w : Nat) (f : Bool) (p : Nat), p = s.arg w 0 1 →
    (s.takes cmdFwStage w f → s.svc.fwAct = none → p = 2 → ∃ t, exec (.fwStage w) s = .next t ∧ t.shows s w stOk [] ∧
      t.isBut { s with fw := { s.fw with tskStaged := putBytes s.fw.tskStaged (s.arg w 4 4) (bytesAt (s.mreq w).body 8 ((s.mreq w).len - 8)), pending := s.fw.pending && s.arg w 4 4 != 0 } } w) ∧
    (s.takes cmdFwActivate w f →
      (p = 2 → s.fwStatus 2 s.fw.tskStaged = stOk → ∃ t, exec (.fwActivate w) s = .next t ∧ t.shows s w stOk [] ∧ t.isBut { s with fw := { s.fw with pending := true } } w) ∧
      (∀ h, p = 1 → h < 2 → s.svc.holder = some h → s.svc.fwAct = none → s.ranUnder 0x0708 (s.mreq w) = none → s.slotStatus (1 - s.fw.pref) = stOk → (s.sp (1 - h)).state = 3 →
        ∃ t, exec (.fwActivate w) s = .next t ∧ t.fw.pref = 1 - s.fw.pref ∧ t.svc.fwAct = some (w, 1 - s.fw.pref, 1 - (1 - s.fw.pref), s.now + 10 * secT) ∧ (t.sp (1 - h)).state = 5 ∧
          (t.win w).state = 1 ∧ (t.win w).inExec = true)) ∧
    (∀ v sl old t0 h, s.runs = true → s.svc.fwAct = some (v, sl, old, t0) → s.svc.fwReload = some h → h < 2 → (s.sp (1 - h)).state ≠ 3 →
      ∃ t, exec .fwActivateTimeout s = .next t ∧ t.fw.pref = old ∧ t.svc.fwAct = none ∧ (t.sp (1 - h)).state = 5 ∧ (t.sp (1 - h)).slot = old) ∧
    (s.takes cmdRefclkSelect w f → s.clock.sel ≠ p → (s.clock.ref p).failed = false → ∃ t, exec (.refclkSelect w) s = .next t ∧ t.shows s w stOk [] ∧ t.clock.sel = p ∧ t.isBut ((s.begun w f).switchRef p) w) ∧
    (s.takes cmdGpioClaim w f → (s.gpio p).claim = 0 → s.arg w 1 1 ≠ 0 → ∃ t, exec (.gpioClaim w) s = .next t ∧ t.shows s w stOk [] ∧
      t.isBut (s.onGpio p (fun g => { g with claim := s.arg w 1 1, holder := s.mgr, dir := false })) w) ∧
    (s.takes cmdGpioRelease w f → (s.gpio p).claim = 1 → ∃ t, exec (.gpioRelease w) s = .next t ∧ t.shows s w stOk [] ∧ t.isBut (s.onGpio p (fun g => { g with claim := 0, dir := false })) w) ∧
    (s.takes cmdGpioAccess w f → (∀ k ∈ maskBits (s.arg w 0 2) 16, (s.gpio k).claim = 1) → ∀ u, u = s.drivePins (s.arg w 0 2) (s.arg w 2 2) (s.arg w 4 2) →
      ∃ t, exec (.gpioAccess w) s = .next t ∧ t.shows s w stOk u.gpioBody ∧ t.isBut u w) ∧
    (s.takes cmdPpsSourceSelect w f → (p = 2 → (s.gpio 12).claim = 2) → s.clock.ppsSource ≠ p → ∃ t, exec (.ppsSourceSelect w) s = .next t ∧ t.shows s w stOk [] ∧
      t.isBut (s.onClock (fun c => { c with ppsSource := p, lastPps := none, ppsLost := false })) w) ∧
    (s.takes cmdPowerStatus w f → ∃ t, exec (.powerStatus w) s = .next t ∧ t.shows s w stOk s.powerBody ∧ t.isBut s w)

/-- PORST_N, SYSRST_N, VSTBY and the rails hold, start and reset the device (R402, R403, R406, R411, R412, R429, R430, R431). PORST_N asserted holds the device: every unit is at its reset values, CATERR is off and a power cycle is counted. Its release with a rail out of its window waits, and with every rail in its window starts the device; BOOTSEL 0b10 or 0b11 leads to recovery mode. The settling of the rails puts every rail in its window. VSTBY below its limit is as an assertion of PORST_N and takes every rail off, and with VSTBY back its rail is on. SYSRST_N of 1 µs or more resets every unit of a running device and holds it, and its release starts it. -/
def Obligations.ResetPinsHoldAndStartTheDevice : Prop :=
  ∀ (s : State) (b : Nat) (te : Bool) (env : StartEnv),
    (s.pins.porst = false → ∃ t, exec .porstNAssert s = .next t ∧ t.phase = .held ∧ t.pins.porst = true ∧ t.pins.caterr = false ∧ t.pins.thermtrip = false ∧ t.windows = [] ∧ t.insts = [] ∧
      t.cores = [] ∧ t.ctxs = [] ∧ t.clock.tod = 0 ∧ t.log.poc = s.log.poc + 1 ∧ t.fw = s.fw ∧ t.subchs = s.subchs) ∧
    (s.phase = .held → s.pins.porst = true → s.pins.vstby = true →
      (s.railsUp = false → exec (.porstNRelease b te env) s = .next { s with pins := { s.pins with porst := false, release := some (b, te, env) } }) ∧
      (s.railsUp = true → exec (.porstNRelease b te env) s = .next (s.startUp true 1 b te env) ∧
        (2 ≤ b → ∃ t, exec (.porstNRelease b te env) s = .next t ∧ t.phase = .recovery ∧ t.pins.porst = false))) ∧
    (s.phase = .held → s.pins.vstby = true → s.pins.release = none → ∃ t, exec .railWindowSettled s = .next t ∧ t.railsUp = true ∧ t.phase = .held ∧ t = { s with pins := t.pins }) ∧
    (s.pins.vstby = true → ∃ t, exec .vstbyLow s = .next t ∧ t.pins.vstby = false ∧ (∀ k, k < 10 → (t.rail k).on = false) ∧ (s.pins.porst = false → t.phase = .held) ∧ t.pins.release = none) ∧
    (s.pins.vstby = false → ∃ t, exec .vstbyRise s = .next t ∧ t.pins.vstby = true ∧ (t.rail 9).on = true ∧ (t.rail 9).inWin = true ∧ t = { s with pins := t.pins }) ∧
    (∀ ns, s.awake = true → 1000 ≤ ns → ∃ t, exec (.sysrstNAssert ns) s = .next t ∧ t.phase = .sysHeld ∧ t.pins.sysrst = some s.now ∧ t.windows = [] ∧ t.subchs = [] ∧ t.insts = [] ∧ t.cores = []) ∧
    (s.phase = .sysHeld → exec (.sysrstNRelease b te env) s = .next (s.startUp false 2 b te env) ∧
      (2 ≤ b → ∃ t, exec (.sysrstNRelease b te env) s = .next t ∧ t.phase = .recovery ∧ t.pins.sysrst = none))

/-- Power failure, rail excursions, temperature and THERMTRIP (R392, R416, R417, R429, R431, R440). PWRFAIL_N of 100 ns or more leaves the device stopped, with a POWER_FAIL record. An excursion within the window, or shorter than 1 µs, counts nothing; one outside the window is counted, and one of more than 80 per mille for 2 µs on a rail other than VSTBY stops the device with CATERR. A first temperature reading is kept and counted in its bin, and the second reading is kept. At 130 °C, or by the analog comparator, every unit stops with THERMTRIP. -/
def Obligations.PowerTemperatureAndRails : Prop :=
  ∀ (s : State),
    (∀ ns ok, s.awake = true → 100 ≤ ns → ∃ t, exec (.pwrfailNAssert ns ok) s = .next t ∧ t.phase = .stopped ∧ t.log.gpf = some (t.log.poc, (List.range 12).filter (fun p => ok.contains p && ((if s.phase = .running then s.drain else s).port p).dev.isSome))) ∧
    (∀ r under pm mv ns, r < 10 → s.clocked = true →
      (pm ≤ 30 ∨ ns < 1000 → exec (.railExcursion r under pm mv ns) s = .next s) ∧
      (50 < pm → pm ≤ 80 → 1000 ≤ ns → ∃ t, exec (.railExcursion r under pm mv ns) s = .next t ∧ t.phase = s.phase ∧ (t.rail r).underN = (s.rail r).underN + b2n under ∧
        (t.rail r).overN = (s.rail r).overN + b2n (!under) ∧ t.log.lseq = s.log.lseq + 1) ∧
      (80 < pm → 2000 ≤ ns → r ≠ 9 → ∃ t, exec (.railExcursion r under pm mv ns) s = .next t ∧ t.phase = .stopped ∧ t.pins.caterr = true)) ∧
    (∀ k d, s.clocked = true → k < 32 →
      (∃ t, exec (.temperatureReading k d false) s = .next t ∧ t.pins.temp.find k = some d ∧ t.log.live.temp.getD (k * 64 + tempBin d) 0 = min (s.log.live.temp.getD (k * 64 + tempBin d) 0 + 1) 0xFFFFFFFF ∧
        t = { s with pins := { s.pins with temp := t.pins.temp }, log := { s.log with live := { s.log.live with temp := t.log.live.temp } } }) ∧
      (exec (.temperatureReading k d true) s = .next { s with pins := { s.pins with temp := s.pins.temp.put k d } })) ∧
    (s.phase ≠ .held → s.pins.thermtrip = false →
      (∃ t, exec (.thermtrip true) s = .next t ∧ t.phase = .stopped ∧ t.pins = { s.pins with thermtrip := true }) ∧
      (1300 ≤ s.hottest.2 → ∃ t, exec (.thermtrip false) s = .next t ∧ t.phase = .stopped ∧ t.pins.thermtrip = true) ∧
      (s.hottest.2 < 1300 → exec (.thermtrip false) s = .next s))

/-- PMBus, SMBus and JTAG (R344, R432, R433, R434, R438). A regulator that answers a poll gives its readings, and one that does not loses its telemetry. PMB_ALERT reads and logs the status word. An SMBus block read of command 1 answers the first 16 bytes of POWER_STATUS, and of any other command nothing, also on standby power. A boundary scan of a held device answers freely; with INV clear, debug of a task of the normal world has no answer and changes no register; with INV set, a task is halted and resumed and its registers are read and written. -/
def Obligations.TelemetryAndJtag : Prop :=
  ∀ (s : State),
    (∀ r mv c d, s.clocked = true → r < 10 →
      exec (.pmbusPoll r true mv c d) s = .next (s.onRail r (fun x => { x with telemetry := true, mv := mv % 65536, current := c % 65536, vrTemp := d })) ∧
      exec (.pmbusPoll r false mv c d) s = .next (s.onRail r (fun x => { x with telemetry := false }))) ∧
    (∀ r st, s.clocked = true → r < 10 → ∃ t, exec (.pmbAlert r st) s = .next t ∧ t.pins.pmbStatus.find r = some (st % 65536) ∧ t.log.lseq = s.log.lseq + 1 ∧ t = { s with pins := { s.pins with pmbStatus := t.pins.pmbStatus }, log := t.log }) ∧
    (s.pins.vstby = true →
      exec (.smbusBlockRead 1) s = .next { s with pins := { s.pins with smb := some (s.powerBody.take 16) } } ∧
      ∀ c, c ≠ 1 → exec (.smbusBlockRead c) s = .next { s with pins := { s.pins with smb := none } }) ∧
    (∀ core set reg v,
      (s.pins.porst = true → s.pins.vstby = true → ∃ t a, exec (.jtagAccess 0 core set reg v) s = .next t ∧ t.pins.jtag = some a ∧ t = { s with pins := { s.pins with jtag := some a }, freeCtr := t.freeCtr }) ∧
      (s.runs = true → set < 68 → (s.ctx core set).run ≠ .empty → (s.ctx core set).regs.encl = 0 →
        (s.dbgInv = false → ∀ k, (k = 1 ∨ k = 2 ∨ k = 3 ∨ k = 4) → exec (.jtagAccess k core set reg v) s = .next (s.jtagAnswer none)) ∧
        (s.dbgInv = true →
          exec (.jtagAccess 3 core set reg v) s = .next (s.jtagAnswer (some (s.debugReg core set reg))) ∧
          ((∀ j, (s.ctx core j).regs.pend = 0) → ∃ t, exec (.jtagAccess 1 core set reg v) s = .next t ∧ (t.ctx core set).halted = true ∧ t.pins.jtag = some 0) ∧
          (reg < 32 → reg ≠ 0 → s.endGroup core set = s → ∃ t, exec (.jtagAccess 4 core set reg (some 5)) s = .next t ∧ ((t.ctx core set).regs.gpr reg).datum = word 5 ∧
            ((t.ctx core set).regs.gpr reg).tag = ((s.ctx core set).regs.gpr reg).tag ∧ ∀ n, n < 32 → n ≠ reg → (t.ctx core set).regs.gpr n = (s.ctx core set).regs.gpr n))))

/-- RELAY_TOPOLOGY_GET to TOD_SYNC_STATUS describe and configure the Relay (R355, R357, R359, R360, R368, R370, Table 12-11). The three queries answer the bodies of chapter 12 and change nothing. RELAY_PORT_SET enables a port, which goes on training, and disables one, which is then off. LLT_CREATE in a free number with room makes an empty table and answers its exclusive handle; LLT_DESTROY of one without waiters removes it and its cached keys. ALLOW and REVOKE change the pairs a table lets in, and MAP and UNMAP the tables an instance reaches. Beside the answer nothing else changes. -/
def Obligations.RelayCommandsAnswerAndConfigure : Prop :=
  ∀ (s : State) (w : Nat) (f : Bool),
    (s.takes cmdRelayTopologyGet w f → ∃ t, exec (.relayTopologyGet w) s = .next t ∧ t.isBut s w ∧
      t.shows s w stOk (beBytes 1 s.relay.self ++ beBytes 1 s.relay.master ++ beBytes 1 s.connected.length ++ beBytes 5 0 ++ (List.range 64).flatMap (fun k =>
        match (distFrom s.relay.graph s.relay.self).find k with
        | some n => beBytes 1 1 ++ beBytes 1 n ++ beBytes 1 ((s.nextHop k).getD 0xFF) ++ [0#8]
        | none => [0#8, 0#8, 0xFF#8, 0#8]))) ∧
    (∀ p, p = s.arg w 0 1 → s.rlyEth p = false →
      (s.takes cmdRelayPortSet w f → s.arg w 1 1 = 1 → (s.rport p).enabled = false →
        ∃ t, exec (.relayPortSet w) s = .next t ∧ t.shows s w stOk [] ∧ t.isBut (s.onRport p (fun x => { x with enabled := true, badLanes := [], state := 1, change := u64 s.now })) w) ∧
      (s.takes cmdRelayPortSet w f → s.arg w 1 1 = 0 → (s.rport p).enabled = true → (s.rport p).carries = false →
        ∃ t, exec (.relayPortSet w) s = .next t ∧ t.shows s w stOk [] ∧ (t.rport p).enabled = false ∧ (t.rport p).state = 0 ∧ (t.rport p).peer = 0xFF ∧ (t.health (unitCode 0xB p)).state = 5) ∧
      (s.takes cmdRelayPortStatus w f → ∃ t, exec (.relayPortStatus w) s = .next t ∧ t.isBut s w ∧
        t.shows s w stOk (beBytes 1 (s.rport p).state ++ beBytes 1 (s.rport p).lanes ++ beBytes 1 (s.rport p).peer ++ beBytes 1 (s.rport p).peerPort ++ beBytes 4 (s.rport p).flight ++
          beBytes 8 (s.rport p).replays ++ beBytes 8 (s.rport p).retrains ++ beBytes 8 (s.rport p).discards ++ beBytes 8 (s.rport p).change))) ∧
    (∀ n, n = s.arg w 0 1 →
      (s.takes cmdLltCreate w f → (s.llt n).live = false → s.systemUsed + lltBytes (s.arg w 1 1) ≤ s.systemBytes →
        ∃ t, exec (.lltCreate w) s = .next t ∧ t.shows s w stOk (beBytes 8 (lltHandle s.relay.self n)) ∧ t.isBut (s.onLlt n (fun _ => { live := true, log2 := s.arg w 1 1, waitUs := s.arg w 4 4 })) w) ∧
      (s.takes cmdLltDestroy w f → (s.llt n).live = true → (∀ k ∈ (s.llt n).keys, k.2.waits = []) →
        ∃ t, exec (.lltDestroy w) s = .next t ∧ t.shows s w stOk [] ∧ (t.llt n).live = false ∧
          t.isBut (s.onRelay (fun r => { r with llts := r.llts.del n, cache := r.cache.filter (fun c => c.1 != n) })) w)) ∧
    (∀ n q, n = s.arg w 4 1 → q = s.mreq w →
      (s.takes cmdRelayAccessAllow w f → (s.llt n).live = true → q.pair ∉ (s.llt n).allow →
        ∃ t, exec (.relayAccessAllow w) s = .next t ∧ t.shows s w stOk [] ∧ t.isBut (s.onLlt n (fun t => { t with allow := t.allow ++ [q.pair] })) w) ∧
      (s.takes cmdRelayAccessRevoke w f → (s.llt n).live = true →
        ∃ t, exec (.relayAccessRevoke w) s = .next t ∧ t.shows s w stOk [] ∧ q.pair ∉ (t.llt n).allow ∧ t.isBut (s.onLlt n (fun t => { t with allow := t.allow.filter (fun p => p != q.pair) })) w) ∧
      (s.takes cmdRelayAccessMap w f → q.table ∉ (s.inst (s.arg w 2 2)).llts →
        ∃ t, exec (.relayAccessMap w) s = .next t ∧ t.shows s w stOk [] ∧ t.isBut (s.onInst (s.arg w 2 2) (fun n => { n with llts := n.llts ++ [q.table] })) w) ∧
      (s.takes cmdRelayAccessUnmap w f →
        ∃ t, exec (.relayAccessUnmap w) s = .next t ∧ t.shows s w stOk [] ∧ q.table ∉ (t.inst (s.arg w 2 2)).llts ∧ t.isBut (s.onInst (s.arg w 2 2) (fun n => { n with llts := n.llts.filter (fun t => t != q.table) })) w)) ∧
    (s.takes cmdTodSyncStatus w f → ∃ t, exec (.todSyncStatus w) s = .next t ∧ t.isBut s w ∧
      t.shows s w stOk (beBytes 1 s.relay.sync ++ beBytes 1 s.relay.master ++ beBytes 1 ((distFrom s.relay.graph s.relay.master).getD s.relay.self 0) ++ beBytes 5 0 ++
        beBytes 8 (i64 s.relay.offset) ++ beBytes 8 s.relay.lastEvent ++ beBytes 8 0))

/-- Frames, training, lane failures and link loss of a Relay port, and the Time-of-Day exchange (R349, R350, R352, R355, R357, R368). A good frame with the next FSEQ and no flits is taken: FSEQ, acknowledgment and credits follow it. The first bad frame of a run starts a replay, and further ones change nothing. Training with a flight time above 32 gives a LONG port that carries no link, and with a new neighbour a port that is up. A lane failure that leaves a half whole retrains the port, and one that does not loses the link, as does 10 µs without a frame: the port is DOWN with no neighbour, and its health is failed. An exchange on a port not toward the master stamps the frame and nothing more. -/
def Obligations.RelayPortsTrainCarryAndLoseFrames : Prop :=
  ∀ (s : State) (p : Nat), s.runs = true →
    (∀ fr, (s.rport p).state = 2 ∨ (s.rport p).state = 4 ∨ (s.rport p).state = 5 →
      (fr.ok = true → fr.slots = [] → fr.fseq = ((s.rport p).rxSeq + 1) % 65536 → (s.rport p).out = [] →
        ∃ t, exec (.relayFrame p fr) s = .next t ∧ t.rport p = (s.rport p).take fr s.now ∧ t.relay.lastFrame.find p = some s.now ∧ (∀ q, q ≠ p → t.rport q = s.rport q) ∧
          t = { s with relay := { s.relay with ports := t.relay.ports, lastFrame := t.relay.lastFrame } }) ∧
      (fr.ok = false → (s.rport p).rxBad = true → exec (.relayFrame p fr) s = .next s) ∧
      (fr.ok = false → (s.rport p).rxBad = false → (s.rport p).replayAt = [] →
        ∃ t, exec (.relayFrame p fr) s = .next t ∧ (t.rport p).rxBad = true ∧ (t.rport p).replays = (s.rport p).replays + 1 ∧ (t.rport p).rxSeq = (s.rport p).rxSeq ∧ (t.rport p).state = (s.rport p).state) ∧
      (∃ t, exec (.relayLinkLoss p) s = .next t ∧ (t.rport p).state = 3 ∧ (t.rport p).peer = 0xFF ∧ (t.health (unitCode 0xB p)).state = 4) ∧
      (∀ lane, lane < 4 →
        ((s.rport p).badLanes = [] → ∃ t, exec (.relayLaneFailure p lane) s = .next t ∧ (t.rport p).state = 1 ∧ (t.rport p).badLanes = [lane] ∧ (t.rport p).retrains = (s.rport p).retrains + 1 ∧
          t = { s with relay := { s.relay with ports := t.relay.ports }, log := t.log }) ∧
        ((s.rport p).badLanes = [lane + 4] → ∃ t, exec (.relayLaneFailure p lane) s = .next t ∧ (t.rport p).state = 3))) ∧
    (∀ peer pp fl, (s.rport p).enabled = true → s.rlyEth p = false → (s.rport p).state = 3 → (s.rport p).badLanes = [] →
      (32 < fl → ∃ t, exec (.relayTrainingComplete p 8 peer pp fl) s = .next t ∧ (t.rport p).state = 4 ∧ (t.rport p).lanes = 8 ∧ (t.rport p).peer = peer ∧ t.relay.graph = s.relay.graph) ∧
      (fl ≤ 32 → s.duplicate p peer pp = false → ∃ t, exec (.relayTrainingComplete p 8 peer pp fl) s = .next t ∧ (t.rport p).state = 2 ∧ (t.rport p).lanes = 8 ∧ (t.rport p).peer = peer ∧
        (t.rport p).peerPort = pp)) ∧
    ((s.rport p).state = 2 → (s.relay.master = s.relay.self ∨ s.nextHop s.relay.master ≠ some p) →
      ∃ t, exec (.todStampExchange p) s = .next t ∧ t.clock = (s.advanceTo ((s.rport p).exchAt + msT)).clock ∧ (t.rport p).myTx = some (t.now % 2 ^ 32) ∧ (t.rport p).exchAt = t.now ∧
        t = { s with clock := t.clock, relay := { s.relay with ports := t.relay.ports } })

/-- Lock tables grant, queue and release; answers and control flits are carried (R359, R361, R362, R364, R365, R231, R262, R355, R363, R367). A probe for a free key, from an allowed instance, with an entry left, is granted: the task holds the key alone, and the answer goes out. LTRY of a key another task holds exclusively changes no hold and no waiter, and LLOCK queues the task. LREL of the only hold frees the key. A withdrawn waiter leaves the queue, as does one whose limit ends, which is counted. After GONE, and after 10 ms without a route to a device, no hold of what is gone remains in any table. An answer before the end of the interval that queues a probe leaves its task waiting as queued, and a final answer or a grant gives the task its result word, kept at the hub where the task is not resident. A control write acknowledges with CDATA and a control read answers the register; the CDATA of a write ends the outstanding store. FLUSH is answered with FLUSH_ACK. A neighbour list seen already changes nothing but the flit’s place, and a new one is noted. A probe unanswered for 1 ms, and a queued one without a route for 1 ms, end with outcome 0x0A. -/
def Obligations.LockTablesAndTheirFlits : Prop :=
  (
  ∀ (s : State) (port : Nat), s.runs = true →
    (∀ fl T, firstFlit port 1 [] s.relay.rx = some fl → fl.dst = s.relay.self → fl.src = s.relay.self → T = s.llt fl.llt → T.live = true → T.allow.contains (fl.src, fl.tid / 65536) = true →
      (fl.arg % 4 < 2 → T.keys.find fl.key = none → T.used < 2 ^ T.log2 →
        ∃ t a k, exec (.probe port) s = .next t ∧ (t.llt fl.llt).keys.find fl.key = some k ∧ k.holds = [(fl.tid, fl.src, fl.arg / 4 % 2)] ∧ k.waits = [] ∧ (t.llt fl.llt).grants = T.grants + 1 ∧
          t.relay.rx = s.relay.rx.erase (port, fl) ++ [(6, a)] ∧ a.type = 2 ∧ a.tid = fl.tid ∧ a.key = fl.key ∧ a.result = resultWord false (heldMode (fl.arg / 4 % 2)) 0) ∧
      (∀ k, T.keys.find fl.key = some k → k.waits = [] → k.abandoned = false →
        (∀ x d, k.holds = [(x, d, 0)] → (x ≠ fl.tid ∨ d ≠ fl.src) →
          (fl.arg % 4 = 1 → ∃ t a, exec (.probe port) s = .next t ∧ (t.llt fl.llt).keys.find fl.key = some k ∧ t.relay.rx = s.relay.rx.erase (port, fl) ++ [(6, a)] ∧ a.result = resultWord false 0 3) ∧
          (fl.arg % 4 = 0 → T.waiters < 2 ^ T.log2 → ∃ t a q, exec (.probe port) s = .next t ∧ (t.llt fl.llt).keys.find fl.key = some q ∧ q.holds = k.holds ∧
            q.waits = [(fl.tid, fl.src, fl.arg / 4 % 2, s.now, fl.cls)] ∧ t.relay.rx = s.relay.rx.erase (port, fl) ++ [(6, a)] ∧ a.result = resultWord false 0 0xB)) ∧
        (fl.arg % 4 = 2 → ∀ m, k.holds = [(fl.tid, fl.src, m)] → ∃ t a, exec (.probe port) s = .next t ∧ (t.llt fl.llt).keys.find fl.key = none ∧
          t.relay.rx = s.relay.rx.erase (port, fl) ++ [(6, a)] ∧ a.result = resultWord false 0 5))) ∧
    (∀ fl k x d st c, firstFlit port 4 [] s.relay.rx = some fl → fl.dst = s.relay.self → (s.llt fl.llt).keys.find fl.key = some k → k.holds = [(x, d, 0)] → k.waits = [(fl.tid, fl.src, st, c)] →
      ∃ t, exec (.withdraw port) s = .next t ∧ (t.llt fl.llt).keys.find fl.key = some { k with waits := [] }) ∧
    (∀ n key k x d tid src m st c, (s.llt n).keys.find key = some k → k.holds = [(x, d, 0)] → k.waits = [(tid, src, m, st, c)] → st + (s.llt n).waitUs * usT ≤ s.now →
      ∃ t, exec (.waitLimitExpiry n key tid) s = .next t ∧ (t.llt n).keys.find key = some { k with waits := [] } ∧ (t.llt n).expired = (s.llt n).expired + 1) ∧
    (∀ fl, firstFlit port 5 [] s.relay.rx = some fl → fl.dst = s.relay.self →
      ∃ t, exec (.gone port) s = .next t ∧ ∀ n key, ∀ h ∈ ((t.llt n).keys.getD key {}).holds, goneSel fl h.1 h.2.1 = false) ∧
    (∀ dev t0, s.relay.noRoute.find dev = some t0 → s.reaches dev = false →
      ∃ t, exec (.homeDeviceUnreachable dev) s = .next t ∧ ∀ n key, ∀ h ∈ ((t.llt n).keys.getD key {}).holds, h.2.1 ≠ dev)) ∧
  (
  ∀ (s : State) (port : Nat), s.runs = true → ∀ fl u, fl.dst = s.relay.self → u = s.onRelay (fun r => { r with rx := r.rx.erase (port, fl) }) →
    (∀ op mode home llt key stamp q ok cl, s.whereTid fl.tid = none → s.outcomes.getD fl.tid .none = .probe op mode home llt key stamp q ok cl → home = fl.src → llt = fl.llt → key = fl.key →
      op + 4 * mode = fl.arg % 8 → fl.cls ≠ 0 → s.probeLate (.probe op mode home llt key stamp q ok cl) = false →
      (firstFlit port 2 [] s.relay.rx = some fl →
        (fl.result % 256 = 0xB → exec (.answer port) s = .next { u with outcomes := s.outcomes.put fl.tid (.probe op mode home llt key stamp true ok cl) }) ∧
        (fl.result % 256 ≠ 0xB → exec (.answer port) s = .next { u with outcomes := s.outcomes.put fl.tid (.datum fl.result) })) ∧
      (firstFlit port 3 [] s.relay.rx = some fl → fl.result % 256 ≠ 0xB → exec (.grant port) s = .next { u with outcomes := s.outcomes.put fl.tid (.datum fl.result) })) ∧
    (firstFlit port 6 [] s.relay.rx = some fl → fl.src = s.relay.self → ∃ t a, exec (.cwrite port) s = .next t ∧ t.relay.rx = s.relay.rx.erase (port, fl) ++ [(6, a)] ∧ a.type = 8 ∧ a.tid = fl.tid ∧ a.arg = fl.arg ∧
      a.llt = fl.llt ∧ (fl.arg ≠ 0x28 → t = { s with relay := { s.relay with rx := t.relay.rx } })) ∧
    (firstFlit port 7 [] s.relay.rx = some fl → fl.src = s.relay.self → ∃ t a, exec (.cread port) s = .next t ∧ t = { s with relay := { s.relay with rx := s.relay.rx.erase (port, fl) ++ [(6, a)] } } ∧ a.type = 8 ∧
      a.tid = fl.tid ∧ a.result = (s.llt fl.llt).reg fl.arg) ∧
    (firstFlit port 8 [] s.relay.rx = some fl → ∀ ra cl, s.relay.creqs = [(fl.tid, fl.src, fl.llt, fl.arg, false)] →
      s.devStores = [{ tid := fl.tid, kind := 3, num := fl.src, addr := ra, cls := cl }] → lltOf ra = (fl.llt, fl.arg) →
      exec (.cdata port) s = .next { s with relay := { s.relay with rx := s.relay.rx.erase (port, fl), creqs := [] }, devStores := [] }) ∧
    (firstFlit port 9 [] s.relay.rx = some fl → fl.src = s.relay.self → ∃ t a, exec (.flush port) s = .next t ∧ t = { s with relay := { s.relay with rx := s.relay.rx.erase (port, fl) ++ [(6, a)] } } ∧ a.type = 0xA ∧ a.tid = fl.tid) ∧
    (firstFlit port 0xA [] s.relay.rx = some fl → (s.whereTid fl.tid = none → exec (.flushAck port) s = .next u) ∧
      ∀ core set, s.whereTid fl.tid = some (core, set) → exec (.flushAck port) s = .next (u.flushed core set (3, fl.src))) ∧
    (∀ links, firstFlit port 0xB [] s.relay.rx = some fl → fl.src ≠ s.relay.self →
      (s.relay.seen.find fl.src = some (fl.arg % 64) → exec (.topo port links) s = .next u) ∧
      (s.relay.seen.find fl.src ≠ some (fl.arg % 64) → ∃ t, exec (.topo port links) s = .next t ∧ t.relay.seen.find fl.src = some (fl.arg % 64))) ∧
    (∀ core set op mode home llt key stamp ok cl,
      (s.sentBy core set = .probe op mode home llt key stamp false ok cl → exec (.probeTimeout core set) s = .next (((s.advanceTo (stamp + msT)).countUnanswered (s.ctx core set).tid).lockResult (s.ctx core set).tid (resultWord false 0 0xA))) ∧
      (∀ t0, s.sentBy core set = .probe op mode home llt key stamp true ok cl → s.relay.noRoute.find home = some t0 → s.reaches home = false →
        exec (.queuedProbeRouteLoss core set) s = .next (((s.advanceTo (t0 + msT)).countUnanswered (s.ctx core set).tid).lockResult (s.ctx core set).tid (resultWord false 0 0xA)))))

/-- INTEGER_ARITHMETIC, ADDC_SUBB, LOGICAL_SHIFT_ROTATE, CMP, LUI, GTAG and STAG write their results and retire (R154, R156, R157, R128, R129, R131). When the set issues the instruction and its operand tags are accepted, the next state is the one its fetch leaves with exactly these changes: D takes the result of Table 05-2 with the tag of Table 04-4 (RAW in Heritage state), the flags take N, Z, C and V where the table marks them, and the instruction retires at the next address. GTAG takes any tag. STAG writes the tag named in B [7:0], 0x8 and 0x9 with tag-override authority alone. -/
def Obligations.IntegerAndTagInstructionsComplete : Prop :=
  ∀ (s u : State) (core set w am n : Nat),
    let c := u.ctx core set
    let r := c.regs
    let done := fun (f : Regs → Regs) => (u.withRegs core set f).retire core set n false false
    u.follows core set am n →
    (∀ op d a b, s.starts core set u (.arith op d a b) w am → checkTags r.her (arithOpds op 1 2 (r.gpr a) (r.src b)) = .ok () →
      let x := (r.gpr a).datum
      let y := (r.src b).datum
      let fl := match b with
        | .imm _ => r.nzcv
        | .reg _ => (match op with
          | .add => sumFlags x y 0
          | .sub => diffFlags x y 0
          | .neg => diffFlags 0 x 0
          | _ => r.nzcv)
      exec (.integerArithmetic core set) s = .next (done (fun q => (q.setG d ⟨arithWord op x y, arithTag op q.her (r.gpr a) (r.src b)⟩).setNzcv fl))) ∧
    (∀ sub d a b, s.starts core set u (.carry sub d a b) w am → checkTags r.her [⟨r.gpr a, 1, tyInt, false⟩, ⟨r.gpr b, 2, tyInt, false⟩] = .ok () →
      let x := (r.gpr a).datum
      let y := (r.gpr b).datum
      let k := b2n (bit r.nzcv 1)
      exec (.addcSubb core set) s = .next (done (fun q =>
        (q.setG d ⟨if sub then x - y - word (1 - k) else x + y + word k, resTag q.her Tag.int⟩).setNzcv (if sub then diffFlags x y (1 - k) else sumFlags x y k)))) ∧
    (∀ op d a b, s.starts core set u (.logic op d a b) w am → checkTags r.her [⟨r.gpr a, 1, tyIntRaw, false⟩, ⟨r.src b, 2, tyIntRaw, false⟩] = .ok () →
      exec (.logicalShiftRotate core set) s = .next (done (fun q => q.setG d ⟨logicWord op (r.gpr a).datum (r.src b).datum, logicTag q.her (r.gpr a) (r.src b)⟩))) ∧
    (∀ a b, s.starts core set u (.cmp a b) w am →
      checkTags r.her (match b with | .reg _ => cmpOpds 1 2 (r.gpr a) (r.src b) | .imm _ => [⟨r.gpr a, 1, tyInt, false⟩]) = .ok () →
      exec (.cmp core set) s = .next (done (fun q => q.setNzcv (diffFlags (r.gpr a).datum (r.src b).datum 0)))) ∧
    (∀ d v, s.starts core set u (.lui d v) w am →
      exec (.lui core set) s = .next (done (fun q => q.setG d ⟨word v, resTag q.her Tag.int⟩))) ∧
    (∀ d a, s.starts core set u (.gtag d a) w am →
      exec (.gtag core set) s = .next (done (fun q => q.setG d ⟨(r.gpr a).tag.setWidth 64, resTag q.her Tag.int⟩))) ∧
    (∀ d a b, s.starts core set u (.stag d a b) w am → checkTags r.her [⟨r.gpr a, 1, anyType, true⟩, ⟨r.gpr b, 2, tyInt, true⟩] = .ok () →
      ∀ t : Tag, t = (r.gpr b).datum.setWidth 8 → t.type < 10 → ((t.type = 8 ∨ t.type = 9) → authority set r = true) →
      exec (.stag core set) s = .next (done (fun q => q.setG d ⟨(r.gpr a).datum, t⟩)))

/-- MULW and MULWU write both halves of the product to an even pair; G0 of a pair is discarded; an odd D is illegal (R127, R158). With accepted operands the high half of the 128-bit product goes to D and the low half to D + 1, both tagged as Table 04-4 states; with D = G0 only G1 is written; a word with an odd D decodes to no instruction, so the row of unassigned encodings takes Illegal Operation. A read of G0 gives datum 0 with tag INT, and a write to it changes nothing. -/
def Obligations.MultiplyWideWritesTheRegisterPair : Prop :=
  (∀ (r : Regs) (x : TWord), r.gpr 0 = ⟨0, 0x10#8⟩ ∧ r.setG 0 x = r) ∧
  (∀ (s u : State) (core set w am n : Nat) (signed : Bool) (d a b : Nat),
    let r := (u.ctx core set).regs
    let x := (r.gpr a).datum
    let y := (r.gpr b).datum
    let p : BitVec 128 := if signed then x.signExtend 128 * y.signExtend 128 else x.setWidth 128 * y.setWidth 128
    let hi := fun (q : Regs) => (⟨p.extractLsb' 64 64, resTag q.her Tag.int⟩ : TWord)
    let lo := fun (q : Regs) => (⟨p.extractLsb' 0 64, resTag q.her Tag.int⟩ : TWord)
    u.follows core set am n → s.starts core set u (.mulw signed d a b) w am →
    checkTags r.her [⟨r.gpr a, 1, tyInt, false⟩, ⟨r.gpr b, 2, tyInt, false⟩] = .ok () →
    exec (.mulw core set) s = .next ((u.withRegs core set (fun q => (q.setG d (hi q)).setG (d + 1) (lo q))).retire core set n false false) ∧
    (d = 0 → exec (.mulw core set) s = .next ((u.withRegs core set (fun q => q.setG 1 (lo q))).retire core set n false false))) ∧
  (∀ (s u : State) (core set w am : Nat), bit w 31 = false → bits w 30 25 = 2 → (bits w 9 0 = 1 ∨ bits w 9 0 = 2) → bits w 24 20 % 2 = 1 →
    s.fetches core set → s.fetchIns core set = (u, .ok (w, am)) →
    exec (.unassignedEncoding core set) s = .next (u.takeException core set ⟨1, 0, w⟩ 0))

/-- DIV, DIVU, REM and REMU truncate toward zero; a zero divisor and the overflow raise Divide Check (R159). With accepted operands, a nonzero divisor and no overflow, D alone takes the truncated quotient or the remainder, whose sign is the dividend's and whose magnitude is below the divisor's. A divisor of 0, and -2^63 by -1 for DIV and REM, raise Divide Check from the state in which nothing is written. -/
def Obligations.DivisionTruncatesTowardZero : Prop :=
  (∀ (s u : State) (core set w am n : Nat) (signed rem : Bool) (d a b : Nat),
    let r := (u.ctx core set).regs
    let x := (r.gpr a).datum
    let y := (r.gpr b).datum
    let v := if signed then (if rem then x.srem y else x.sdiv y) else (if rem then x % y else x / y)
    let ovf := signed = true ∧ x = 0x8000000000000000#64 ∧ y = 0xFFFFFFFFFFFFFFFF#64
    s.starts core set u (.div signed rem d a b) w am → checkTags r.her [⟨r.gpr a, 1, tyInt, false⟩, ⟨r.gpr b, 2, tyInt, false⟩] = .ok () →
    (u.follows core set am n → y ≠ 0 → ¬ovf →
      exec (.div core set) s = .next ((u.withRegs core set (fun q => q.setG d ⟨v, resTag q.her Tag.int⟩)).retire core set n false false)) ∧
    (y = 0 → exec (.div core set) s = .next (u.takeException core set ⟨8, 0, 0⟩ 0)) ∧
    (ovf → exec (.div core set) s = .next (u.takeException core set ⟨8, 0, 1⟩ 0))) ∧
  (∀ x y : Word, y ≠ 0 → (x.srem y).toInt.natAbs < y.toInt.natAbs ∧ 0 ≤ (x.srem y).toInt * x.toInt ∧ (x % y).toNat < y.toNat ∧
    (x / y).toNat * y.toNat + (x % y).toNat = x.toNat)

/-- B, CALL, BR, CALLR and RET retire at their target with the link; a branch not taken goes on in sequence; pairs write both slots (R140, R141, R155, R161, R162). For a target that is a multiple of 4 and lies in the task's world: B retires at PC + DISP where its condition holds and else at the next address; CALL writes G31 and CALLR writes D with PC + 4 as a PTR, the target read first; BR and RET go to G A. A pair that breaks no pairing rule, with accepted operands and no exception from slot B, performs both slots from the registers as they stood before it and retires as one instruction, at the address of a branch in slot B that is taken. -/
def Obligations.BranchesGoToTheirTargets : Prop :=
  ∀ (s u : State) (core set w am n : Nat),
    let c := u.ctx core set
    let r := c.regs
    u.follows core set am n →
    let go := fun (f : State → State) t => (f u).retire core set t false false
    let aim := fun ea t => u.formAddr core c.inst r.her am 2 (u64 ea) = .ok t ∧ t % 4 = 0 ∧ u.staysInWorld core set t
    (∀ k x t, s.starts core set u (.b k x) w am →
      (condHolds k r.nzcv = true → aim (r.pc.toNat + x) t → exec (.b core set) s = .next (go id t)) ∧
      (condHolds k r.nzcv = false → exec (.b core set) s = .next (go id n))) ∧
    (∀ x t, s.starts core set u (.call x) w am → aim (r.pc.toNat + x) t →
      exec (.call core set) s = .next (go (fun q => q.withRegs core set (fun z => z.setG 31 ⟨word n, resTag r.her Tag.ptr⟩)) t)) ∧
    (∀ a t, checkTags r.her [⟨r.gpr a, 1, tyPtr, false⟩] = .ok () → aim (r.gpr a).datum.toNat t →
      (s.starts core set u (.br a) w am → exec (.br core set) s = .next (go id t)) ∧
      (s.starts core set u (.ret a) w am → exec (.ret core set) s = .next (go id t)) ∧
      (∀ d, s.starts core set u (.callr d a) w am →
        exec (.callr core set) s = .next (go (fun q => q.withRegs core set (fun z => z.setG d ⟨word n, resTag r.her Tag.ptr⟩)) t))) ∧
    (∀ x y, s.starts core set u (.pair x y) w am → pairBreach x y = none → checkTags r.her (x.opds r u.freeBool) = .ok () → checkTags r.her (y.opds r u.freeBool) = .ok () →
      u.slotClear core set w am x y r = true → ∀ v f, u.slotDoes core set am x r v f → v.follows core set am n → (v.ctx core set).regs = r →
        (∀ v2 g, y.isBranch = false → v.slotDoes core set am y r v2 g → v2.follows core set am n →
          exec (.pairedShortOperations core set) s = .next ((g (f v2)).retire core set n false false)) ∧
        (∀ t, v.formAddr core (v.ctx core set).inst r.her am 2 (u64 (if y.op = 0x18 then (r.gpr 31).datum.toNat else (r.gpr y.s).datum.toNat)) = .ok t → t % 4 = 0 → v.staysInWorld core set t →
          (y.op = 0x16 ∨ y.op = 0x18 ∨ (y.op = 0x17 ∧ condHolds y.d r.nzcv = true)) →
          exec (.pairedShortOperations core set) s = .next ((f v).retire core set t false false)) ∧
        (y.op = 0x17 → condHolds y.d r.nzcv = false → exec (.pairedShortOperations core set) s = .next ((f v).retire core set n false false)) ∧
        (y.op = 0x19 → (64 ≤ set ∨ r.pend = 0 ∨ v.yieldSwitches core set = false) →
          exec (.pairedShortOperations core set) s = .next (((f v).retire core set n false true).evYield core set)))

/-- TOLL_GATE_ENTRY, TEXIT and CUSTOM_INSTRUCTION complete; an unassigned encoding takes Illegal Operation (R143, R146, R147, R330, R331, R332, R334, R339). A branch whose target is a Toll Gate that accepts the task retires with its link, the F bank is saved and the task enters the enclave in the slot found; TGATE inside its enclave only retires; TEXIT with accepted operands leaves the enclave for a normal-world address; a restarted task at an enclave granule enters as by a branch. A custom instruction whose routine runs to its end retires with what the routine left, and Drover events that came meanwhile are taken. A word that decodes to nothing, or an instruction not legal in its state, raises Illegal Operation. -/
def Obligations.WorldChangesAndCustomInstructionsComplete : Prop :=
  ∀ (s u : State) (core set w am n : Nat),
    let c := u.ctx core set
    let r := c.regs
    (∀ i ea link t ia ra m k v, s.starts core set u i w am → s.gateFits core set = true → u.follows core set am n →
      ((∃ a x, i = .b a x ∧ condHolds a r.nzcv = true ∧ ea = r.pc.toNat + x ∧ link = none) ∨
        (∃ x, i = .call x ∧ ea = r.pc.toNat + x ∧ link = some 31) ∨
        (∃ a, (i = .br a ∨ i = .ret a) ∧ checkTags r.her [⟨r.gpr a, 1, tyPtr, false⟩] = .ok () ∧ ea = (r.gpr a).datum.toNat ∧ link = none) ∨
        (∃ a d, i = .callr d a ∧ checkTags r.her [⟨r.gpr a, 1, tyPtr, false⟩] = .ok () ∧ ea = (r.gpr a).datum.toNat ∧ link = some d)) →
      u.formAddr core c.inst r.her am 2 (u64 ea) = .ok t → t % 4 = 0 → u.targetOf c.inst t = some (ia, ra) → r.encl = 0 → u.emap.find (ra / 65536) = some m →
      u.gateSlot core c.inst r.her ia ra m = some k → r.pend = 0 → u.saveBank core set = .ok v →
      exec (.tollGateEntry core set) s = .next (((match link with | some d => v.withRegs core set (fun z => z.setG d ⟨word n, resTag r.her Tag.ptr⟩) | none => v).retire core set t false false).enterGate core set t m.encl k)) ∧
    (s.starts core set u .tgate w am → r.encl ≠ 0 → u.follows core set am n → s.gateFits core set = true → exec (.tollGateEntry core set) s = .next (u.retire core set n false true)) ∧
    (s.canIssue core set = true → s.atGate core set = true → s.dueFault core set = none → exec (.tollGateEntry core set) s = .next (s.freshGate core set)) ∧
    (∀ a b, s.starts core set u (.texit a b) w am → checkTags r.her [⟨r.gpr a, 1, tyInt, false⟩, ⟨r.gpr b, 2, tyPtr, false⟩] = .ok () →
      set < 64 → r.encl ≠ 0 → (∀ ia ra, u.targetOf c.inst (r.gpr b).datum.toNat = some (ia, ra) → u.emap.find (ra / 65536) = none) →
      (r.gpr b).datum.toNat % 4 = 0 → r.pend = 0 →
      exec (.texit core set) s = .next (u.leaveEnclave core set (r.gpr a).datum.toNat (r.gpr b).datum.toNat)) ∧
    (∀ k d a b cc x v, s.starts core set u (.custom k d a b cc) w am → u.imageFor c k = some x →
      checkTags r.her (customOpds x (r.gpr a) (r.gpr b) (r.gpr cc)) = .ok () →
      (envOf core set w am).routine x d (r.gpr a) (r.gpr b) (r.gpr cc)
        (u.onCtx core set (fun q => match q.await with | .datum z => { q with replies := q.replies ++ [z], await := .none } | _ => q)) = .ok () v → v.follows core set am n →
      exec (.customInstruction core set) s = .next ((v.retire core set n false false).routineDone core set)) ∧
    (∀ k, s.fetches core set → s.fetchIns core set = (u, .ok (w, am)) →
      decodeIns w = .error k → exec (.unassignedEncoding core set) s = .next (u.takeException core set ⟨1, 0, w⟩ k)) ∧
    (∀ i, s.fetches core set → s.fetchIns core set = (u, .ok (w, am)) →
      decodeIns w = .ok i → u.legal c i = false → exec (.unassignedEncoding core set) s = .next (u.takeException core set ⟨1, 0, w⟩ 0))

/-- LD, LDZ_LDS, LDRES, LDTAG and LDM write their registers from memory (R54, R129, R163, R165, R166, R169). For an address that is aligned and leads to memory, whose line the load does not leave its slot for, and a word whose tag is accepted, D takes the word (LD, LDRES), the zero- or sign-extended bytes (LDZ, LDS) or the tag (LDTAG, no tag check), and LDRES takes the reservation of the granule. A device-space LD whose reply has come writes the datum tagged INT. LDZ, LDS, LDRES and LDTAG of device space raise Alignment, Device Access and Protection. LDM loads the registers of its mask from MPROG on, in order. -/
def Obligations.LoadsWriteTheirRegister : Prop :=
  ∀ (s u : State) (core set w am n : Nat),
    let c := u.ctx core set
    let r := c.regs
    (∀ a, checkTags r.her [⟨r.gpr a, 1, tyPtr, false⟩] = .ok () → ∀ disp ea, ea = u64 ((r.gpr a).datum.toNat + disp) →
      (∀ d ra x v, s.starts core set u (.ld d a disp) w am →
        u.loads core set am ea 8 ra x v → memTags (v.ctx core set).regs.her true loadTypes ea (ra / 8) x = .ok () → v.follows core set am n →
        exec (.ld core set) s = .next ((v.withRegs core set (fun q => q.setG d x)).retire core set n false false)) ∧
      (∀ d ra v x, s.starts core set u (.ld d a disp) w am → u.leads core set am 0 ea 8 ra v → inDev ra = true → (v.ctx core set).replies = [] →
        (v.ctx core set).await = .datum x → v.follows core set am n →
        exec (.ld core set) s = .next (((v.withRegs core set (fun q => q.setG d ⟨word x, Tag.int⟩)).onCtx core set (fun q => { q with group := 63 })).retire core set n false false)) ∧
      (∀ sg size d ra x v, s.starts core set u (.ldx sg size d a disp) w am →
        (u.loads core set am ea size ra x v → memTags r.her true subTypes ea (ra / 8) x = .ok () → v.follows core set am n →
          let y := x.datum.toNat / 2 ^ (8 * (8 - ra % 8 - size)) % 2 ^ (8 * size)
          exec (.ldzLds core set) s = .next ((v.withRegs core set (fun q => q.setG d ⟨if sg then (BitVec.ofNat (8 * size) y).signExtend 64 else word y, resTag r.her Tag.int⟩)).retire core set n false false)) ∧
        (u.leads core set am 0 ea size ra v → inDev ra = true → exec (.ldzLds core set) s = .next (v.takeException core set ⟨5, ea, 0⟩ 0))) ∧
      (∀ d ra x v, s.starts core set u (.ldres d a disp) w am →
        (u.loads core set am ea 8 ra x v → memTags r.her true loadTypes ea (ra / 8) x = .ok () → v.follows core set am n →
          exec (.ldres core set) s = .next (((v.withRegs core set (fun q => q.setG d x)).onCtx core set (fun q => { q with resv := some (ra / 256), resvOpen := true })).retire core set n false false)) ∧
        (u.leads core set am 0 ea 8 ra v → inDev ra = true → exec (.ldres core set) s = .next (v.takeException core set ⟨0xF, ea, 0⟩ 0))) ∧
      (∀ d ra x v, s.starts core set u (.ldtag d a) w am → disp = 0 →
        (u.loads core set am ea 8 ra x v → v.follows core set am n →
          exec (.ldtag core set) s = .next ((v.withRegs core set (fun q => q.setG d ⟨x.tag.setWidth 64, resTag r.her Tag.int⟩)).retire core set n false false)) ∧
        (u.leads core set am 0 ea 8 ra v → inDev ra = true → exec (.ldtag core set) s = .next (v.takeException core set ⟨7, ea, 4⟩ 0)))) ∧
    (∀ m a disp v, s.starts core set u (.ldm m a disp) w am → checkTags r.her [⟨r.gpr a, 1, tyPtr, false⟩, ⟨r.gpr m, 5, tyIntRaw, false⟩] = .ok () →
      let mask := (r.gpr m).datum.toNat % 2 ^ 32
      let ea := u64 ((r.gpr a).datum.toNat + disp)
      bit mask a = false → bit mask m = false → ea % 8 = 0 → State.elemLoads core set am mask ea true (maskFrom mask r.mprog) u v → v.follows core set am n →
      exec (.ldm core set) s = .next (v.retire core set n false false))

/-- ST, STS, STTX, STCOND and STM commit their words to the write buffer (R54, R122, R163, R165, R167, R169, R264). For an address that is aligned and leads to memory, a buffer that takes the store and a target word whose tag and LOCK accept it, the store commits to its line: the whole tagged word (ST, STTX, STM), or the low bytes of S at their place (STS). STCOND stores exactly if the reservation is live on the granule, writes Z with the outcome, clears N, C and V and gives up the reservation. A device-space ST enters the buffer alone in its group with the datum. STTX with tag-override authority overwrites a LOCKed word. STM stores the registers of its mask from MPROG on, in order. -/
def Obligations.StoresCommitToTheWriteBuffer : Prop :=
  ∀ (s u : State) (core set w am n : Nat),
    let c := u.ctx core set
    let r := c.regs
    (∀ b a disp, let ea := u64 ((r.gpr a).datum.toNat + disp)
      (∀ ra v, s.starts core set u (.st b a disp) w am → checkTags r.her [⟨r.gpr a, 1, tyPtr, true⟩, ⟨r.gpr b, 5, anyType, true⟩] = .ok () → v.follows core set am n →
        (u.stores core set am ea 8 ra anyType false v →
          exec (.st core set) s = .next ((v.commitStore core set (ra / 256) (wholeWord ra (r.gpr b)) false).retire core set n false false)) ∧
        (u.leads core set am 1 ea 8 ra v → inDev ra = true → (r.gpr b).type ≠ 9 → (v.core core).wb.length < 32 →
          exec (.st core set) s = .next (((v.commitDev core set ra (r.gpr b).datum).onCtx core set (fun q => { q with group := 63 })).retire core set n false false))) ∧
      (∀ size ra v, s.starts core set u (.sts size b a disp) w am → checkTags r.her [⟨r.gpr a, 1, tyPtr, false⟩, ⟨r.gpr b, 5, tyIntRaw, false⟩] = .ok () →
        (u.stores core set am ea size ra stsTypes false v → v.follows core set am n →
          exec (.sts core set) s = .next ((v.commitStore core set (ra / 256)
            (subWord ra size (r.gpr b).datum (stsTag r.her (v.wordFor core (v.ctx core set).tid (ra / 8)).tag)) false).retire core set n false false)) ∧
        (u.leads core set am 1 ea size ra v → inDev ra = true → exec (.sts core set) s = .next (v.takeException core set ⟨5, ea, 1⟩ 0))) ∧
      (∀ ra v, s.starts core set u (.stcond b a disp) w am → checkTags r.her [⟨r.gpr a, 1, tyPtr, false⟩, ⟨r.gpr b, 5, anyType, false⟩] = .ok () →
        (u.stores core set am ea 8 ra anyType false v → v.follows core set am n →
          ∃ live : Bool, (live = true ↔ (v.ctx core set).resv = some (ra / 256)) ∧
            exec (.stcond core set) s = .next (((if live then v.commitStore core set (ra / 256) (wholeWord ra (r.gpr b)) true else v).onCtx core set
              (fun q => { q with resv := none, regs := q.regs.setNzcv (if live then 4 else 0) })).retire core set n false true)) ∧
        (u.leads core set am 1 ea 8 ra v → inDev ra = true → exec (.stcond core set) s = .next (v.takeException core set ⟨0xF, ea, 0⟩ 0)))) ∧
    (∀ a b ra v, s.starts core set u (.sttx a b) w am → checkTags r.her [⟨r.gpr a, 1, tyPtr, false⟩, ⟨r.gpr b, 2, anyType, false⟩] = .ok () →
      u.stores core set am (r.gpr a).datum.toNat 8 ra anyType (authority set r) v → v.follows core set am n →
      exec (.sttx core set) s = .next ((v.commitStore core set (ra / 256) (wholeWord ra (r.gpr b)) false).retire core set n false false)) ∧
    (∀ m a disp v, s.starts core set u (.stm m a disp) w am → checkTags r.her [⟨r.gpr a, 1, tyPtr, false⟩, ⟨r.gpr m, 5, tyIntRaw, false⟩] = .ok () →
      let mask := (r.gpr m).datum.toNat % 2 ^ 32
      let ea := u64 ((r.gpr a).datum.toNat + disp)
      ea % 8 = 0 → State.elemStores core set am mask ea true (maskFrom mask r.mprog) u v → v.follows core set am n →
      exec (.stm core set) s = .next (v.retire core set n false false))

/-- MFS reads and each MTS row writes the special register of Table 05-7, or raises Protection (R121, R171, R174, R175, R179, R189, R221, R227). MFS writes the register with the tag of the table; a trap register outside a trap set raises Protection. MTS with an accepted source writes the writable fields: TSW keeps the rest and lets MPROG stand; EVQ also writes the TSA; QTM keeps MISS for 1 to 63; WDT arms or disarms; FPSR keeps a rounding field for a reserved code; AUTH and the trap registers are written in trap sets alone, VBA with tag-override authority. Read-only registers discard the write. -/
def Obligations.SpecialRegistersReadAndWrite : Prop :=
  (∀ (s u : State) (core set w am n : Nat),
    let c := u.ctx core set
    let r := c.regs
    let done := fun (f : Regs → Regs) => (u.withRegs core set f).retire core set n false false
    let none_ := u.retire core set n false false
    u.follows core set am n →
    (∀ d k, s.starts core set u (.mfs d k) w am →
      (k < 0x010 ∨ 64 ≤ set → exec (.mfs core set) s = .next (done (fun q => q.setG d ⟨word (u.special core set k), resTag r.her (mfsTag k)⟩))) ∧
      (0x010 ≤ k → set < 64 → exec (.mfs core set) s = .next (u.takeException core set ⟨7, 0, 8 + k * 16⟩ 0))) ∧
    (∀ a, let v := (r.gpr a).datum.toNat
      let ok := fun (ty : List Nat) => checkTags r.her [⟨r.gpr a, 1, ty, false⟩] = .ok ()
      (∀ k, s.starts core set u (.mts k a) w am →
        (k = 0 → ok tyInt → exec (.mtsTsw core set) s = .next ((u.withRegs core set (fun q => { q with tsw := word (tswWrite q.tsw.toNat v) })).retire core set n true false)) ∧
        ([0x001, 0x009, 0x00A, 0x00B, 0x00C].contains k = true → ok subTypes → exec (.mtsTsw core set) s = .next none_) ∧
        (k = 2 → ok tyPtr → v % 64 = 0 →
          (64 ≤ set → exec (.mtsEvq core set) s = .next (done (fun q => { q with evq := word v }))) ∧
          (∀ t, set < 64 → u.hubPut c.inst 0 (u.tsa c.tid + 0x28) (TWord.ptr (word v)) = .ok t → t.follows core set am n →
            exec (.mtsEvq core set) s = .next ((t.withRegs core set (fun q => { q with evq := word v })).retire core set n false false))) ∧
        (k = 2 → ok tyPtr → v % 64 ≠ 0 → exec (.mtsEvq core set) s = .next (u.takeException core set ⟨5, v, 1⟩ 0)) ∧
        (k = 3 → ok tyInt → exec (.mtsQtm core set) s = .next (done (fun q =>
          { q with qtm := word ((if 1 ≤ bits v 31 16 ∧ bits v 31 16 ≤ 63 then bits q.qtm.toNat 31 16 else bits v 31 16) * 2 ^ 16 + bits v 15 0) }))) ∧
        (k = 4 → ok tyInt → exec (.mtsWdt core set) s = .next (done (fun q => { q with wdt := if v % 2 ^ 48 = 0 then 0 else u.now + v % 2 ^ 48 }))) ∧
        (k = 5 → ok tyInt → exec (.mtsFpsr core set) s = .next (done (fun q => { q with fpsr := word (fpsrWrite q.fpsr.toNat v) }))) ∧
        (k = 6 → ok subTypes → exec (.mtsFpsr core set) s = .next none_) ∧
        (k = 7 → ok tyInt → (64 ≤ set → exec (.mtsAuth core set) s = .next (done (fun q => { q with toa := bit v 0 }))) ∧
          (set < 64 → exec (.mtsAuth core set) s = .next (u.takeException core set ⟨7, 0, 0x79⟩ 0))) ∧
        (k = 8 → ok tyPtr → v % 4096 = 0 →
          (authority set r = true → exec (.mtsVba core set) s = .next ((u.onInst c.inst (fun q => { q with vba := v })).retire core set n false false)) ∧
          (authority set r = false → exec (.mtsVba core set) s = .next (u.takeException core set ⟨7, 0, 0x89⟩ 0))) ∧
        (k = 0x010 → 64 ≤ set → ok tyPtr → exec (.mtsXpcXtsw core set) s = .next (done (fun q => { q with xpc := word v }))) ∧
        (k = 0x011 → 64 ≤ set → ok tyInt → exec (.mtsXpcXtsw core set) s = .next (done (fun q => { q with xtsw := word (xtswWrite q.xtsw.toNat v) }))) ∧
        (0x012 ≤ k → 64 ≤ set → ok subTypes → exec (.mtsXpcXtsw core set) s = .next none_)))) ∧
  (∀ old v : Nat, old < 2 ^ 64 →
    (∀ k, k < 64 → bit (tswWrite old v) k = bit (if (32 ≤ k ∧ k ≤ 35) ∨ (20 ≤ k ∧ k ≤ 28) then v else old) k) ∧
    (∀ k, k < 64 → bit (xtswWrite old v) k = bit (if (32 ≤ k ∧ k ≤ 35) ∨ (20 ≤ k ∧ k ≤ 28) ∨ k = 63 then v else old) k) ∧
    (∀ k, k < 64 → bit (fpsrWrite old v) k = bit (if k ≤ 4 ∨ (8 ≤ k ∧ k ≤ 12) ∨ (28 ≤ k ∧ k ≤ 30 ∧ bits v 30 28 ≤ 4) ∨ (24 ≤ k ∧ k ≤ 26 ∧ bits v 26 24 ≤ 4) then v else old) k))

/-- MBAR, IOBAR, FSYNC, ISYNC, YIELD, SIGNAL, LLOCK_LTRY and LREL complete when what they wait for is done (R173, R180, R197, R199, R224, R225, R261, R262, R360, R361). With no buffered store of the task MBAR and ISYNC retire and end the group, ISYNC discarding what the task may have fetched before; FSYNC retires with PEND 0; IOBAR when no device path holds a store of the task or every flushing read is answered, else it waits for those it issues, or fails at once. YIELD retires and raises EV_YIELD. SIGNAL to a task of the own instance whose TSA header can be read posts EV_IPI with the signaller, at once where it signals itself. A lock instruction first sends its probe, once, and completes with the answer, alone in its group. -/
def Obligations.BarriersYieldSignalAndLocksComplete : Prop :=
  ∀ (s u : State) (core set w am n : Nat),
    let c := u.ctx core set
    let r := c.regs
    u.follows core set am n →
    (s.starts core set u .mbar w am → u.buffered core c.tid = [] → exec (.mbar core set) s = .next (u.retire core set n false true)) ∧
    (s.starts core set u .isync w am → u.buffered core c.tid = [] →
      exec (.isync core set) s = .next ((u.onMs (fun m => { m with stale := m.stale.filter (fun x => x.2.2 != c.tid) })).retire core set n false true)) ∧
    (s.starts core set u .fsync w am →
      (r.pend = 0 → exec (.fsync core set) s = .next (u.retire core set n false true)) ∧
      (r.pend ≠ 0 → exec (.fsync core set) s = .next (u.takeException core set ⟨9, 0, 0⟩ 0))) ∧
    (s.starts core set u .iobar w am →
      (c.await = .iobar → c.bars = [] → exec (.iobar core set) s = .next (u.retire core set n false true)) ∧
      (c.await ≠ .iobar → (∀ x ∈ u.buffered core c.tid, x.dev = none) →
        (u.paths c.tid = [] → exec (.iobar core set) s = .next ((u.onCtx core set (fun q => { q with bars := [] })).retire core set n false true)) ∧
        (u.paths c.tid ≠ [] → ∀ v, v = (u.endGroup core set).issueBars core set →
          (v.barFails core set = none → exec (.iobar core set) s = .next (v.onCtx core set (fun q => { q with await := .iobar }))) ∧
          (∀ p down, v.barFails core set = some (p, down) → exec (.iobar core set) s = .next (v.ioFail core set p down))))) ∧
    (s.starts core set u .yield w am → (64 ≤ set ∨ r.pend = 0 ∨ u.yieldSwitches core set = false) →
      exec (.yield core set) s = .next ((u.retire core set n false true).evYield core set)) ∧
    (∀ a x, s.starts core set u (.signal a) w am → checkTags r.her [⟨r.gpr a, 1, subTypes, false⟩] = .ok () →
      let v := (r.gpr a).datum.toNat
      ((r.gpr a).type = 1 ∨ r.her = true) → v < 2 ^ 25 → v / 65536 = c.inst → u.tsaWord v 0 = .ok x → (u.endGroup core set).follows core set am n →
      let p := (u.endGroup core set).post v 1 1 c.tid
      ∀ t, t = (({ p with creations := p.creations ++ [(v, c.tid, authority set r)] } : State).onCtx core set (fun q => { q with group := 63 })).retire core set n false false →
      exec (.signal core set) s = .next (if v = c.tid then t.makePosts v else t)) ∧
    (∀ d a b x, c.await = .datum x →
      let t := ((u.withRegs core set (fun q => q.setG d ⟨word x, resTag r.her Tag.int⟩)).onCtx core set (fun q => { q with group := 63 })).retire core set n false false
      (∀ y, s.starts core set u (.lock y d a b) w am → exec (.llockLtry core set) s = .next t) ∧
      (s.starts core set u (.lrel d a b) w am → exec (.lrel core set) s = .next t)) ∧
    (∀ d a b, c.await = .none → checkTags r.her [⟨r.gpr a, 1, anyType, false⟩, ⟨r.gpr b, 2, anyType, false⟩] = .ok () →
      ((r.gpr a).type = 1 ∨ (r.her = true ∧ (r.gpr a).type ≠ 9)) → (r.gpr a).tag.shared = true → ((r.gpr b).type = 7 ∨ (r.her = true ∧ (r.gpr b).type ≠ 9)) →
      let h := (r.gpr b).datum.toNat
      let key := (r.gpr a).datum.toNat
      r.encl = 0 → handleOk h = true → (u.inst c.inst).llts.contains (bits h 53 48, bits h 35 32) = true →
      let sent := fun op => ((u.endGroup core set).onCtx core set (fun q => { q with await := .probe op (h % 2) (bits h 53 48) (bits h 35 32) key u.now false u.now q.cls })).inject
        { type := 1, cls := c.cls, dst := bits h 53 48, llt := bits h 35 32, tid := c.tid, key := key, arg := op + 4 * (h % 2) }
      (∀ y, s.starts core set u (.lock y d a b) w am → exec (.llockLtry core set) s = .next (sent (b2n y))) ∧
      (s.starts core set u (.lrel d a b) w am → exec (.lrel core set) s = .next (sent 2)))

/-- Cache maintenance by address, by set and way, and TLBINV act and retire, ending the group (R244, R245, R246). By address, with a PTR that leads to memory and no unperformed store to the line, the line is cleaned or invalidated at LEVEL and below and the instruction retires; device space raises Protection. By set and way, within the ranges of Table 08-6 and with tag-override authority at L3 and the Depot, the frame is acted on; else Protection. TLBINV drops the instance's translations of the page, or all, once no store of the instance waits. Nothing else changes. -/
def Obligations.CacheMaintenanceCompletes : Prop :=
  ∀ (s u : State) (core set w am n : Nat),
    let c := u.ctx core set
    let r := c.regs
    (∀ level op a ra v, s.starts core set u (.maint level op a) w am → checkTags r.her [⟨r.gpr a, 1, tyPtr, false⟩] = .ok () →
      let ea := (r.gpr a).datum.toNat
      u.leads core set am (if op = 0 then 0 else 1) ea 1 ra v →
      (inDev ra = false → v.lineStores (ra / 256) = false → v.follows core set am n →
        exec (.cacheMaintenanceByAddress core set) s = .next ((v.maintLine level op (ra / 256)).retire core set n false true)) ∧
      (inDev ra = true → exec (.cacheMaintenanceByAddress core set) s = .next (v.takeException core set ⟨7, ea, (if op = 0 then 0 else 1) + 4⟩ 0))) ∧
    (∀ level op a, s.starts core set u (.maintSw level op a) w am → checkTags r.her [⟨r.gpr a, 1, tyInt, false⟩] = .ok () →
      let v := (r.gpr a).datum.toNat
      let p := (u.core core).phys
      let unit := if level ≤ 2 then p else if level = 3 then p / 20 * 20 + bits v 53 48 else bits v 53 48
      let ok := bits v 63 54 = 0 ∧ bits v 47 32 = 0 ∧ bits v 53 48 < (if level ≤ 2 then 1 else if level = 3 then 20 else 64) ∧
        bits v 31 8 < setCount level unit ∧ bits v 7 0 < wayCount level
      (level < 3 ∨ authority set r = true → ok → u.follows core set am n →
        exec (.cacheMaintenanceBySetWay core set) s = .next ((u.maintFrame level op (fkey level unit (bits v 31 8) (bits v 7 0)) c.inst r.encl).retire core set n false true)) ∧
      (level < 3 ∨ authority set r = true → ¬ok → exec (.cacheMaintenanceBySetWay core set) s = .next (u.takeException core set ⟨7, v, if op = 0 then 0 else 1⟩ 0)) ∧
      (3 ≤ level → authority set r = false → exec (.cacheMaintenanceBySetWay core set) s = .next (u.takeException core set ⟨7, 0, if op = 0 then 0 else 1⟩ 0))) ∧
    ((∀ p ∈ u.cores, ∀ x ∈ p.2.wb, tidInst x.tid ≠ c.inst) → u.follows core set am n →
      (∀ a, s.starts core set u (.tlbinv true a) w am → exec (.tlbinv core set) s = .next ((u.tlbDrop c.inst none).retire core set n false true)) ∧
      (∀ a x, s.starts core set u (.tlbinv false a) w am → checkTags r.her [⟨r.gpr a, 1, tyPtr, false⟩] = .ok () →
        u.formAddr core c.inst r.her am 0 (r.gpr a).datum.toNat = .ok x →
        exec (.tlbinv core set) s = .next ((u.tlbDrop c.inst (some x)).retire core set n false true)))

/-- The binary and decimal floating-point rows write their results and flags and retire (R183, R186, R188, R191, R196, R201). For a set that holds a bank, on a Chancery core for the decimal rows, with halves of the accepted type: the arithmetic rows write F D with the result in the format and raise the flags of the operation; FABS, FNEG and FMOV change only the sign; FCVTFI and FCVTI convert; FCMP and DCMP write N, Z, C and V; FMIN, FMAX and DQUANT write their result. A disabled flag raises nothing more; nothing else but the use stamp of the bank changes. -/
def Obligations.FloatingPointInstructionsComplete : Prop :=
  ∀ (s u : State) (core set w am n : Nat) (k : Bank),
    let r := (u.ctx core set).regs
    let e := envOf core set w am
    let v := fun (f : Fmt) a => f.decode (fbits f.width (fget k.f a))
    let ok := fun (f : Fmt) (l : List Nat) => checkTags r.her ((List.range l.length).flatMap (fun j => halves f.width (j + 1) (fpType f.dec) (fget k.f (l.getD j 0)))) = .ok ()
    let wr := fun (f : Fmt) d (x : Fv × Nat) => (e.setF d (freg f.width (fpTag r.her f.dec) (f.encode x.1)) (u.withRegs core set (fun q => q.raiseFp x.2))).retire core set n false false
    let two := fun (o : Out) (f : Fmt) dir (j d a b : Nat) =>
      (j = 0 → ok f [a, b] → o = .next (wr f d (f.add dir (v f a) (v f b)))) ∧
      (j = 1 → ok f [a, b] → o = .next (wr f d (f.sub dir (v f a) (v f b)))) ∧
      (j = 2 → ok f [a, b] → o = .next (wr f d (f.mul dir (v f a) (v f b)))) ∧
      (j = 3 → ok f [a, b] → o = .next (wr f d (f.div dir (v f a) (v f b)))) ∧
      (j = 4 → ok f [a] → o = .next (wr f d (f.sqrt dir (v f a)))) ∧
      (j = 5 → ok f [a] → o = .next (wr f d (f.rnd dir (v f a))))
    u.follows core set am n → u.usesBank core set k →
    (∀ op fmt d a b, s.starts core set u (.bfp op fmt d a b) w am →
      let f := binFmt fmt
      let o := exec (.binaryFpArithmetic core set) s
      let dir := bits r.fpsr.toNat 26 24
      let m := fbits f.width (fget k.f a)
      (match op with
        | .add => two o f dir 0 d a b
        | .sub => two o f dir 1 d a b
        | .mul => two o f dir 2 d a b
        | .div => two o f dir 3 d a b
        | .sqrt => two o f dir 4 d a b
        | .rnd => two o f dir 5 d a b
        | .cvt t => ok f [a] → o = .next (wr (binFmt t) d ((binFmt t).cvt f dir (v f a)))
        | .cvtfi => checkTags r.her [⟨r.gpr a, 1, tyInt, false⟩] = .ok () → o = .next (wr f d (f.ofInt dir (r.gpr a).datum.toInt))
        | .abs => ok f [a] → o = .next ((e.setF d (freg f.width (fpTag r.her false) (m % 2 ^ (f.width - 1))) u).retire core set n false false)
        | .neg => ok f [a] → o = .next ((e.setF d (freg f.width (fpTag r.her false) (m % 2 ^ (f.width - 1) + (if bit m (f.width - 1) then 0 else 2 ^ (f.width - 1)))) u).retire core set n false false)
        | .mov => ok f [a] → o = .next ((e.setF d (freg f.width (fpTag r.her false) m) u).retire core set n false false))) ∧
    (∀ op fmt d a b g, s.starts core set u (.bfma op fmt d a b g) w am → ok (binFmt fmt) [a, b, g] →
      let f := binFmt fmt
      exec (.binaryFpArithmetic core set) s = .next (wr f d (f.fma (bits r.fpsr.toNat 26 24) (decide (2 ≤ op)) (op % 2 == 1) (v f a) (v f b) (v f g)))) ∧
    (core < u.chCores →
      (∀ op fmt d a b, s.starts core set u (.dfp op fmt d a b) w am →
        let f := decFmt fmt
        let o := exec (.decimalFpArithmetic core set) s
        let dir := bits r.fpsr.toNat 30 28
        (match op with
          | .add => two o f dir 0 d a b
          | .sub => two o f dir 1 d a b
          | .mul => two o f dir 2 d a b
          | .div => two o f dir 3 d a b
          | .sqrt => two o f dir 4 d a b
          | .rnd => two o f dir 5 d a b
          | .cvt t => ok f [a] → o = .next (wr (decFmt t) d ((decFmt t).cvt f dir (v f a)))
          | .cvtfi => checkTags r.her [⟨r.gpr a, 1, tyInt, false⟩] = .ok () → o = .next (wr f d (f.ofInt dir (r.gpr a).datum.toInt)))) ∧
      (∀ op fmt d a b g, s.starts core set u (.dfma op fmt d a b g) w am → ok (decFmt fmt) [a, b, g] →
        let f := decFmt fmt
        exec (.decimalFpArithmetic core set) s = .next (wr f d (f.fma (bits r.fpsr.toNat 30 28) (decide (2 ≤ op)) (op % 2 == 1) (v f a) (v f b) (v f g)))) ∧
      (∀ fmt d a b, s.starts core set u (.dquant fmt d a b) w am → ok (decFmt fmt) [a, b] →
        exec (.dquant core set) s = .next (wr (decFmt fmt) d ((decFmt fmt).quantize (bits r.fpsr.toNat 30 28) (v (decFmt fmt) a) (v (decFmt fmt) b))))) ∧
    (∀ mx fmt d a b, s.starts core set u (.fminmax mx fmt d a b) w am → ok (binFmt fmt) [a, b] →
      exec (.fminFmax core set) s = .next (wr (binFmt fmt) d ((binFmt fmt).minmax mx (v (binFmt fmt) a) (v (binFmt fmt) b)))) ∧
    (∀ dec fmt a b, s.starts core set u (.fcmp dec fmt a b) w am → (dec = true → core < u.chCores) → ok (fmtOf dec fmt) [a, b] →
      let x := (fmtOf dec fmt).cmp (v (fmtOf dec fmt) a) (v (fmtOf dec fmt) b)
      exec (.fcmpDcmp core set) s = .next ((e.touchF (u.withRegs core set (fun q => (q.setNzcv x.1).raiseFp x.2))).retire core set n false false)) ∧
    (∀ dec fmt d a, s.starts core set u (.fcvti dec fmt d a) w am → (dec = true → core < u.chCores) → ok (fmtOf dec fmt) [a] →
      let x := (fmtOf dec fmt).toInt (if dec then bits r.fpsr.toNat 30 28 else bits r.fpsr.toNat 26 24) (v (fmtOf dec fmt) a)
      exec (.fcvtiDcvti core set) s = .next ((e.touchF (u.withRegs core set (fun q => (q.setG d ⟨word x.1, resTag q.her Tag.int⟩).raiseFp x.2))).retire core set n false false))

/-- FMVG_GMVF, FLD and FST move F registers (R54, R131, R184, R185). For a set that holds a bank: FMVG writes the selected part of F A to G D as INT, GMVF the selected part of F D from G A as BFP and keeps the rest. FLD of 4, 8 or 16 bytes from memory words of accepted type copies datum and tag, the high half 0 for 4 and 8 bytes; a device-space FLD of 8 bytes takes the reply as INT. In Heritage state every half that FLD writes and every word that FST stores is tagged RAW. FST commits the words of its size to the write buffer, both words of 16 bytes in order; a device-space FST of 8 bytes sends the datum. -/
def Obligations.FloatMovesLoadsAndStoresComplete : Prop :=
  ∀ (s u : State) (core set w am n : Nat) (k : Bank),
    let r := (u.ctx core set).regs
    let e := envOf core set w am
    u.usesBank core set k →
    (u.follows core set am n →
      (∀ part d a, s.starts core set u (.fmvg part d a) w am →
        let h := if part = 2 then (fget k.f a).hi else (fget k.f a).lo
        checkTags r.her [⟨h, 1, [4], false⟩] = .ok () →
        exec (.fmvgGmvf core set) s = .next ((e.touchF (u.withRegs core set (fun q =>
          q.setG d ⟨if part = 0 then (h.datum.setWidth 32).setWidth 64 else h.datum, resTag q.her Tag.int⟩))).retire core set n false false)) ∧
      (∀ part d a, s.starts core set u (.gmvf part d a) w am → checkTags r.her [⟨r.gpr a, 1, tyInt, false⟩] = .ok () →
        let x := fget k.f d
        let y := (r.gpr a).datum
        let t := resTag r.her Tag.bfp
        exec (.fmvgGmvf core set) s = .next ((e.setF d (if part = 0 then { x with lo := ⟨(x.lo.datum.extractLsb' 32 32) ++ (y.extractLsb' 0 32), t⟩ }
          else if part = 1 then { x with lo := ⟨y, t⟩ } else { x with hi := ⟨y, t⟩ }) u).retire core set n false false))) ∧
    (∀ size d a disp ra x v, s.starts core set u (.fld size d a disp) w am → checkTags r.her [⟨r.gpr a, 1, tyPtr, false⟩] = .ok () →
      let ea := u64 ((r.gpr a).datum.toNat + disp)
      (u.loads core set am ea size ra x v → memTags r.her true fldTypes ea (ra / 8) x = .ok () →
        (size = 4 → v.follows core set am n →
          exec (.fld core set) s = .next ((e.setF d ⟨⟨0, resTag r.her x.tag⟩, ⟨word (x.datum.toNat / 2 ^ (8 * (8 - ra % 8 - 4)) % 2 ^ 32), resTag r.her x.tag⟩⟩ v).retire core set n false false)) ∧
        (size = 8 → v.follows core set am n → exec (.fld core set) s = .next ((e.setF d ⟨⟨0, resTag r.her x.tag⟩, ⟨x.datum, resTag r.her x.tag⟩⟩ v).retire core set n false false)) ∧
        (size = 16 → ∀ t y, v.finds core set (ra + 8) t → y = t.wordFor core (t.ctx core set).tid ((ra + 8) / 8) → memTags r.her true fldTypes (ea + 8) (ra / 8 + 1) y = .ok () → t.follows core set am n →
          exec (.fld core set) s = .next ((e.setF d ⟨⟨x.datum, resTag r.her x.tag⟩, ⟨y.datum, resTag r.her y.tag⟩⟩ t).retire core set n false false))) ∧
      (∀ z, size = 8 → u.leads core set am 0 ea 8 ra v → inDev ra = true → (v.ctx core set).replies = [] → (v.ctx core set).await = .datum z → v.follows core set am n →
        exec (.fld core set) s = .next (((e.setF d ⟨⟨0, resTag r.her Tag.int⟩, ⟨word z, resTag r.her Tag.int⟩⟩ v).onCtx core set (fun q => { q with group := 63 })).retire core set n false false))) ∧
    (∀ size d a disp ra v, s.starts core set u (.fst size d a disp) w am →
      let x := fget k.f d
      let half := fun (y : TWord) => (⟨y.datum, resTag r.her y.tag⟩ : TWord)
      let ea := u64 ((r.gpr a).datum.toNat + disp)
      checkTags r.her (⟨r.gpr a, 1, tyPtr, false⟩ :: halves (8 * size) 5 subTypes x) = .ok () → v.follows core set am n →
      (u.stores core set am ea size ra anyType false v →
        (size = 4 → exec (.fst core set) s = .next ((e.touchF (v.commitStore core set (ra / 256) (subWord ra 4 x.lo.datum (some (half x.lo).tag)) false)).retire core set n false false)) ∧
        (size = 8 → exec (.fst core set) s = .next ((e.touchF (v.commitStore core set (ra / 256) (wholeWord ra (half x.lo)) false)).retire core set n false false)) ∧
        (size = 16 → v.takesStore core set ((ra + 8) / 256) →
          memTags (v.ctx core set).regs.her false anyType (ea + 8) ((ra + 8) / 8) (v.wordFor core (v.ctx core set).tid ((ra + 8) / 8)) = .ok () →
          lockCheck false (ea + 8) (v.wordFor core (v.ctx core set).tid ((ra + 8) / 8)) = .ok () →
          exec (.fst core set) s = .next ((e.touchF ((v.commitStore core set (ra / 256) (wholeWord ra (half x.hi)) false).commitStore core set ((ra + 8) / 256) (wholeWord (ra + 8) (half x.lo)) false)).retire core set n false false))) ∧
      (size = 8 → u.leads core set am 1 ea 8 ra v → inDev ra = true → (v.core core).wb.length < 32 →
        exec (.fst core set) s = .next ((e.touchF ((v.commitDev core set ra x.lo.datum).onCtx core set (fun q => { q with group := 63 }))).retire core set n false false)))

/-- PACKED_DECIMAL, PDIV_PREM, PTOB_PTOD, BTOP_DTOP, VECTOR_CARRYLESS and BENC_BDEC complete (R204, R205, R208, R210, R304, R305, R306). When the words of a packed operand are reached, their tags are accepted and the computation of Table 06-8 gives a result, the first field takes it with its sign, or PCMP writes the flags; conversions write their register or field; vector operations write F D tagged RAW; BENC and BDEC write the answer of the unit. The signed value of a result is the sum, difference, product, quotient or remainder of the signed operands. -/
def Obligations.PackedAndVectorInstructionsComplete : Prop :=
  (∀ (s u : State) (core set w am n : Nat),
    let r := (u.ctx core set).regs
    let e := envOf core set w am
    (∀ (o : Out) op a b l1 l2,
      ((∃ p, s.starts core set u (.packed p a b l1 l2) w am ∧ op = .arith p ∧ o = exec (.packedDecimal core set) s) ∨
        (∃ m, s.starts core set u (.pdiv m a b l1 l2) w am ∧ op = (if m then .rem else .div) ∧ o = exec (.pdivPrem core set) s)) →
      checkTags r.her [⟨r.gpr a, 1, tyPtr, false⟩, ⟨r.gpr b, 2, tyPtr, false⟩] = .ok () →
      let ea := (r.gpr a).datum.toNat
      let eb := (r.gpr b).datum.toNat
      let rd := decide (op ≠ .arith .zadd)
      ∀ pa pb wa wb v u1 u2 u3 u4 u5, e.pAddr rd (decide (op ≠ .arith .cmp)) (wordParts 3 ea l1) u = .ok pa u1 → e.pAddr true false (wordParts 3 eb l2) u1 = .ok pb u2 →
        (if op = .arith .cmp then u3 = u2 else e.pReady pa u2 = .ok () u3) → e.pWords rd pa u3 = .ok wa u4 → e.pWords true pb u4 = .ok wb u5 →
        pTags r.her ((pa.zip wa).map (fun p => ⟨p.1, p.2, rd, decide (op ≠ .arith .cmp)⟩) ++ (pb.zip wb).map (fun p => ⟨p.1, p.2, true, false⟩)) = .ok () →
        packedRun r.her am op ea eb l1 l2 (pBytes pa wa) (pBytes pb wb) = .ok v → u5.follows core set am n →
        o = .next ((if op = .arith .cmp then u5.withRegs core set (fun q => q.setNzcv (pcmpFlags (packedVal (pBytes pa wa)) (packedVal (pBytes pb wb))))
          else e.pCommit (pTag r.her) pa (packField l1 v.1 v.2) u5).retire core set n false false)) ∧
    (∀ d a len p v, (envOf core set w am).pRead a len u = .ok p v → v.follows core set am n →
      let x := signed p.2.1 p.2.2
      (s.starts core set u (.ptob d a len) w am → -(2 ^ 63) ≤ x → x < 2 ^ 63 →
        exec (.ptobPtod core set) s = .next ((v.withRegs core set (fun q => q.setG d ⟨BitVec.ofInt 64 x, resTag r.her Tag.int⟩)).retire core set n false false)) ∧
      (∀ k, s.starts core set u (.ptod d a len) w am → u.usesBank core set k →
        exec (.ptobPtod core set) s = .next ((e.setF d (freg 128 (fpTag r.her true) (d128.encode (.fin p.2.1 p.2.2 0))) v).retire core set n false false))) ∧
    (∀ a b len f v, s.starts core set u (.btop a b len) w am → checkTags r.her [⟨r.gpr a, 1, tyPtr, false⟩, ⟨r.gpr b, 2, tyInt, false⟩] = .ok () →
      e.pWrite (r.gpr a).datum.toNat len none (decide ((r.gpr b).datum.toInt < 0), (r.gpr b).datum.toInt.natAbs) u = .ok f v → v.follows core set am n →
      exec (.btopDtop core set) s = .next ((f v).retire core set n false false)) ∧
    (∀ a b len f v k neg x y, s.starts core set u (.dtop a b len) w am → u.usesBank core set k →
      checkTags r.her (⟨r.gpr a, 1, tyPtr, false⟩ :: halves 128 2 [5] (fget k.f b)) = .ok () → d128.decode (fbits 128 (fget k.f b)) = .fin neg x y →
      e.pWrite (r.gpr a).datum.toNat len none (neg, x) u = .ok f v → v.follows core set am n →
      exec (.btopDtop core set) s = .next ((e.touchF (f v)).retire core set n false false)) ∧
    (∀ k, u.follows core set am n → u.usesBank core set k →
      (∀ op d a b, s.starts core set u (.vec op d a b) w am → checkTags r.her (vecOpds op (fget k.f a) (fget k.f b)) = .ok () →
        exec (.vectorCarryless core set) s = .next ((e.setF d (rawReg (vecVal op (fget k.f a) (fget k.f b))) u).retire core set n false false)) ∧
      (∀ dec d a b y, s.starts core set u (.bcrypt dec d a b) w am → checkTags r.her (halves 128 1 tyIntRaw (fget k.f a) ++ [⟨r.gpr b, 2, tyInt, false⟩]) = .ok () →
        (u.ctx core set).await = .block true y → exec (.bencBdec core set) s = .next ((e.setF d (rawReg y) u).retire core set n false false)))) ∧
  (∀ her am op a b l1 l2 x y v, packedRun her am op a b l1 l2 x y = .ok v →
    let p := signed (packedVal x).1 (packedVal x).2
    let q := signed (packedVal y).1 (packedVal y).2
    signed v.1 v.2 = (match op with
      | .arith .add => p + q
      | .arith .sub => p - q
      | .arith .mul => p * q
      | .arith .zadd => q
      | .arith .cmp => p
      | .div => p.tdiv q
      | .rem => p.tmod q) ∧ v.2 < 10 ^ (2 * l1 - 1))

/-- An exact sum or difference of zero is positive in every direction but RDN; x + x and x - (-x) of a zero keep its sign (R190). For finite operands of every format of Table 06-1 whose exact sum, or difference, is zero, the result of the addition or subtraction is a zero with sign - where the operands are zeros of one effective sign -, and else with sign + in every direction except RDN (0b011), where it is -. -/
def Obligations.ExactZeroSumsHaveTheStatedSign : Prop :=
  ∀ (f : Fmt) (dir : Nat) (n1 n2 : Bool) (c1 c2 : Nat) (e1 e2 e : Int), f ∈ [b32, b64, b128, d64, d128] → e ≤ e1 → e ≤ e2 →
    let x := signed n1 (c1 * f.b ^ (e1 - e).toNat)
    let y := signed n2 (c2 * f.b ^ (e2 - e).toNat)
    (x + y = 0 → ∃ q, f.add dir (.fin n1 c1 e1) (.fin n2 c2 e2) = (.fin (if c1 = 0 ∧ n1 = n2 then n1 else decide (dir = 3)) 0 q, 0)) ∧
    (x - y = 0 → ∃ q, f.sub dir (.fin n1 c1 e1) (.fin n2 c2 e2) = (.fin (if c1 = 0 ∧ n1 ≠ n2 then n1 else decide (dir = 3)) 0 q, 0)) ∧
    (∀ q, (f.add dir (.fin n1 0 q) (.fin n1 0 q)).1.neg = n1 ∧ (f.sub dir (.fin n1 0 q) (.fin (!n1) 0 q)).1.neg = n1)

/-- FCMP and DCMP set N, Z, C and V by the relation of their operands, and NV for a signalling NaN alone (R193). For all operands the flags are those of Table 06-6: unordered where either is a NaN, else by the order of the values, infinities beyond every number; NV is raised exactly for a signalling NaN and nothing else is. +0 and -0 compare equal. EQ, GT, GE, LS and VS read =, >, >=, less or equal, and unordered; LT and LE hold for unordered operands too. -/
def Obligations.ComparisonsSetTheFlagsOfTheirRelation : Prop :=
  ∀ (f : Fmt), f ∈ [b32, b64, b128, d64, d128] →
    (∀ a b : Fv, (a.isNan = true ∨ b.isNan = true) → (f.cmp a b).1 = nzcvOf false false true true) ∧
    (∀ a b : Fv, (f.cmp a b).2 = if a.isSnan = true ∨ b.isSnan = true then fNV else 0) ∧
    (∀ (n1 n2 : Bool) (c1 c2 : Nat) (e1 e2 e : Int), e ≤ e1 → e ≤ e2 →
      let x := signed n1 (c1 * f.b ^ (e1 - e).toNat)
      let y := signed n2 (c2 * f.b ^ (e2 - e).toNat)
      let g := (f.cmp (.fin n1 c1 e1) (.fin n2 c2 e2)).1
      (x < y → g = nzcvOf true false false false) ∧ (x = y → g = nzcvOf false true true false) ∧ (y < x → g = nzcvOf false false true false)) ∧
    (∀ (n1 n2 : Bool) (c : Nat) (e : Int),
      (f.cmp (.inf n1) (.inf n2)).1 = (if n1 = n2 then nzcvOf false true true false else if n1 then nzcvOf true false false false else nzcvOf false false true false) ∧
      (f.cmp (.inf n1) (.fin n2 c e)).1 = (if n1 then nzcvOf true false false false else nzcvOf false false true false) ∧
      (f.cmp (.fin n2 c e) (.inf n1)).1 = (if n1 then nzcvOf false false true false else nzcvOf true false false false)) ∧
    (∀ a b : Fv, let g := (f.cmp a b).1
      let nan := a.isNan = true ∨ b.isNan = true
      (condHolds 6 g = true ↔ nan) ∧
      (condHolds 0 g = true ↔ ¬nan ∧ f.order a b = .eq) ∧ (condHolds 12 g = true ↔ ¬nan ∧ f.order a b = .gt) ∧
      (condHolds 10 g = true ↔ ¬nan ∧ f.order a b ≠ .lt) ∧ (condHolds 9 g = true ↔ ¬nan ∧ f.order a b ≠ .gt) ∧
      (nan → condHolds 11 g = true ∧ condHolds 13 g = true))

/-- A held or stopped device with nothing rung and no waking command waiting stays so at every step (R27, R402, R77). From every state in which the device is held or stopped, no window has a command rung, and no waiting command is one that can wake it, a step answers a next state with the same three properties: nothing executes, is served or starts. But for PORST_N asserted and VSTBY lost, which reset units, the step changes at most the queue, the clock, the pins, the Logbook, the notification registers of windows and the counter of free values. -/
def Obligations.DormancyIsKeptByEveryStep : Prop :=
  ∀ s : State, s.dormant → ∃ t, step s = .next t ∧ t.dormant ∧ t.pending = s.pending.tail ∧
    (s.pending.head? = some .porstNAssert ∨ s.pending.head? = some .vstbyLow ∨
      t = { s with pending := t.pending, clock := t.clock, pins := t.pins, log := t.log, windows := t.windows, freeCtr := t.freeCtr })

/-- The state after reset is held and dormant: no command waits, no set issues and no window is served but the console (R27, R402, R89). State.reset has the device held with PORST_N asserted and CATERR_N not, an empty queue, and is dormant; no set of any core can issue, and no window but 513 is up. That VSTBY is present at reset is the model's choice (log entry 3). -/
def Obligations.ResetIsDormant : Prop :=
  State.reset.dormant ∧ State.reset.pending = [] ∧ State.reset.phase = .held ∧ State.reset.pins.porst = true ∧ State.reset.pins.caterr = false ∧
    (∀ core set, State.reset.canIssue core set = false) ∧ (∀ w, State.reset.windowUp w = true → w = 513)
end

