-- ==== Sys2Proof/Laws/Tab.lean ====
section
/-! SUPPORT. Laws of finite tables: what a key reads after an update. -/
namespace Sys2Proof

/-- A key reads what was put there. -/
@[simp] theorem Tab.find_put_self {α : Type} (t : Tab α) (n : Nat) (x : α) : Tab.find (Tab.put t n x) n = some x := by
  induction t with
  | nil => simp [Tab.put, Tab.find]
  | cons p t ih =>
    unfold Tab.put
    split
    · simp [Tab.find]
    · split
      · simp [Tab.find]
      · rename_i h; simpa [Tab.find, h] using ih

/-- Another key reads as before a put. -/
theorem Tab.find_put_ne {α : Type} (t : Tab α) (n m : Nat) (x : α) (h : m ≠ n) : Tab.find (Tab.put t n x) m = Tab.find t m := by
  induction t with
  | nil => simp [Tab.put, Tab.find, Ne.symm h]
  | cons p t ih =>
    unfold Tab.put
    split
    · simp [Tab.find, Ne.symm h]
    · split
      · rename_i h2; simp [Tab.find, h2, Ne.symm h]
      · simp [Tab.find, ih]

/-- What a key reads after a put. -/
theorem Tab.getD_put {α : Type} (t : Tab α) (n m : Nat) (d x : α) : Tab.getD (Tab.put t n x) m d = if m = n then x else Tab.getD t m d := by
  unfold Tab.getD
  split
  · rename_i h; rw [h, Tab.find_put_self]; rfl
  · rename_i h; rw [Tab.find_put_ne _ _ _ _ h]

/-- What a key reads after an update: the changed value at the updated key, the old one elsewhere. -/
theorem Tab.getD_upd {α : Type} (t : Tab α) (n m : Nat) (d : α) (f : α → α) : Tab.getD (Tab.upd t n d f) m d = if m = n then f (Tab.getD t n d) else Tab.getD t m d := by
  rw [Tab.upd, Tab.getD_put]

/-- A removed key is not listed. -/
@[simp] theorem Tab.find_del_self {α : Type} (t : Tab α) (n : Nat) : Tab.find (Tab.del t n) n = none := by
  unfold Tab.del
  induction t with
  | nil => rfl
  | cons p t ih =>
    rw [List.filter_cons]
    split
    · rename_i h; simp only [bne_iff_ne] at h; simpa [Tab.find, h] using ih
    · exact ih

/-- Removing a key leaves the others. -/
theorem Tab.find_del_ne {α : Type} (t : Tab α) (n m : Nat) (h : m ≠ n) : Tab.find (Tab.del t n) m = Tab.find t m := by
  unfold Tab.del
  induction t with
  | nil => rfl
  | cons p t ih =>
    rw [List.filter_cons]
    split
    · simp [Tab.find, ih]
    · rename_i h2; simp only [bne_iff_ne, ne_eq, Decidable.not_not] at h2; simp [Tab.find, ih, h2, Ne.symm h]

end Sys2Proof
end

