-- ==== Sys2Proof/Laws/State.lean ====
section
/-! SUPPORT. What each update of State leaves unchanged: one lemma for each update and field, and what it writes (Machine/Ops.lean). -/
namespace Sys2Proof.Machine

variable (s : State)

/-! ### onWin -/

@[simp] theorem State.onWin_phase (w : Nat) (f : Window → Window) : (s.onWin w f).phase = s.phase := rfl
@[simp] theorem State.onWin_clock (w : Nat) (f : Window → Window) : (s.onWin w f).clock = s.clock := rfl
@[simp] theorem State.onWin_pins (w : Nat) (f : Window → Window) : (s.onWin w f).pins = s.pins := rfl
@[simp] theorem State.onWin_svc (w : Nat) (f : Window → Window) : (s.onWin w f).svc = s.svc := rfl
@[simp] theorem State.onWin_mgr (w : Nat) (f : Window → Window) : (s.onWin w f).mgr = s.mgr := rfl
@[simp] theorem State.onWin_insts (w : Nat) (f : Window → Window) : (s.onWin w f).insts = s.insts := rfl
@[simp] theorem State.onWin_log (w : Nat) (f : Window → Window) : (s.onWin w f).log = s.log := rfl
@[simp] theorem State.onWin_fw (w : Nat) (f : Window → Window) : (s.onWin w f).fw = s.fw := rfl
@[simp] theorem State.onWin_fuses (w : Nat) (f : Window → Window) : (s.onWin w f).fuses = s.fuses := rfl
@[simp] theorem State.onWin_cores (w : Nat) (f : Window → Window) : (s.onWin w f).cores = s.cores := rfl
@[simp] theorem State.onWin_pcores (w : Nat) (f : Window → Window) : (s.onWin w f).pcores = s.pcores := rfl
@[simp] theorem State.onWin_ctxs (w : Nat) (f : Window → Window) : (s.onWin w f).ctxs = s.ctxs := rfl
@[simp] theorem State.onWin_ms (w : Nat) (f : Window → Window) : (s.onWin w f).ms = s.ms := rfl
@[simp] theorem State.onWin_linkLost (w : Nat) (f : Window → Window) : (s.onWin w f).linkLost = s.linkLost := rfl
@[simp] theorem State.onWin_devStores (w : Nat) (f : Window → Window) : (s.onWin w f).devStores = s.devStores := rfl
@[simp] theorem State.onWin_subchs (w : Nat) (f : Window → Window) : (s.onWin w f).subchs = s.subchs := rfl
@[simp] theorem State.onWin_incarns (w : Nat) (f : Window → Window) : (s.onWin w f).incarns = s.incarns := rfl
@[simp] theorem State.onWin_incarnBase (w : Nat) (f : Window → Window) : (s.onWin w f).incarnBase = s.incarnBase := rfl
@[simp] theorem State.onWin_indoubt (w : Nat) (f : Window → Window) : (s.onWin w f).indoubt = s.indoubt := rfl
@[simp] theorem State.onWin_doubts (w : Nat) (f : Window → Window) : (s.onWin w f).doubts = s.doubts := rfl
@[simp] theorem State.onWin_ioports (w : Nat) (f : Window → Window) : (s.onWin w f).ioports = s.ioports := rfl
@[simp] theorem State.onWin_routes (w : Nat) (f : Window → Window) : (s.onWin w f).routes = s.routes := rfl
@[simp] theorem State.onWin_engines (w : Nat) (f : Window → Window) : (s.onWin w f).engines = s.engines := rfl
@[simp] theorem State.onWin_claims (w : Nat) (f : Window → Window) : (s.onWin w f).claims = s.claims := rfl
@[simp] theorem State.onWin_wire (w : Nat) (f : Window → Window) : (s.onWin w f).wire = s.wire := rfl
@[simp] theorem State.onWin_rings (w : Nat) (f : Window → Window) : (s.onWin w f).rings = s.rings := rfl
@[simp] theorem State.onWin_bcus (w : Nat) (f : Window → Window) : (s.onWin w f).bcus = s.bcus := rfl
@[simp] theorem State.onWin_dfus (w : Nat) (f : Window → Window) : (s.onWin w f).dfus = s.dfus := rfl
@[simp] theorem State.onWin_bcuArb (w : Nat) (f : Window → Window) : (s.onWin w f).bcuArb = s.bcuArb := rfl
@[simp] theorem State.onWin_dfuArb (w : Nat) (f : Window → Window) : (s.onWin w f).dfuArb = s.dfuArb := rfl
@[simp] theorem State.onWin_bcuPool (w : Nat) (f : Window → Window) : (s.onWin w f).bcuPool = s.bcuPool := rfl
@[simp] theorem State.onWin_dfuPool (w : Nat) (f : Window → Window) : (s.onWin w f).dfuPool = s.dfuPool := rfl
@[simp] theorem State.onWin_pages (w : Nat) (f : Window → Window) : (s.onWin w f).pages = s.pages := rfl
@[simp] theorem State.onWin_dicts (w : Nat) (f : Window → Window) : (s.onWin w f).dicts = s.dicts := rfl
@[simp] theorem State.onWin_encls (w : Nat) (f : Window → Window) : (s.onWin w f).encls = s.encls := rfl
@[simp] theorem State.onWin_emap (w : Nat) (f : Window → Window) : (s.onWin w f).emap = s.emap := rfl
@[simp] theorem State.onWin_relay (w : Nat) (f : Window → Window) : (s.onWin w f).relay = s.relay := rfl
@[simp] theorem State.onWin_decode (w : Nat) (f : Window → Window) : (s.onWin w f).decode = s.decode := rfl
@[simp] theorem State.onWin_dbgNi (w : Nat) (f : Window → Window) : (s.onWin w f).dbgNi = s.dbgNi := rfl
@[simp] theorem State.onWin_dbgInv (w : Nat) (f : Window → Window) : (s.onWin w f).dbgInv = s.dbgInv := rfl
@[simp] theorem State.onWin_dbgEni (w : Nat) (f : Window → Window) : (s.onWin w f).dbgEni = s.dbgEni := rfl
@[simp] theorem State.onWin_dbgEinv (w : Nat) (f : Window → Window) : (s.onWin w f).dbgEinv = s.dbgEinv := rfl
@[simp] theorem State.onWin_deferred (w : Nat) (f : Window → Window) : (s.onWin w f).deferred = s.deferred := rfl
@[simp] theorem State.onWin_posts (w : Nat) (f : Window → Window) : (s.onWin w f).posts = s.posts := rfl
@[simp] theorem State.onWin_creations (w : Nat) (f : Window → Window) : (s.onWin w f).creations = s.creations := rfl
@[simp] theorem State.onWin_outcomes (w : Nat) (f : Window → Window) : (s.onWin w f).outcomes = s.outcomes := rfl
@[simp] theorem State.onWin_kept (w : Nat) (f : Window → Window) : (s.onWin w f).kept = s.kept := rfl
@[simp] theorem State.onWin_fresh (w : Nat) (f : Window → Window) : (s.onWin w f).fresh = s.fresh := rfl
@[simp] theorem State.onWin_console (w : Nat) (f : Window → Window) : (s.onWin w f).console = s.console := rfl
@[simp] theorem State.onWin_recSp (w : Nat) (f : Window → Window) : (s.onWin w f).recSp = s.recSp := rfl
@[simp] theorem State.onWin_freeCtr (w : Nat) (f : Window → Window) : (s.onWin w f).freeCtr = s.freeCtr := rfl
@[simp] theorem State.onWin_pending (w : Nat) (f : Window → Window) : (s.onWin w f).pending = s.pending := rfl

/-! ### onInst -/

@[simp] theorem State.onInst_phase (w : Nat) (f : Inst → Inst) : (s.onInst w f).phase = s.phase := rfl
@[simp] theorem State.onInst_clock (w : Nat) (f : Inst → Inst) : (s.onInst w f).clock = s.clock := rfl
@[simp] theorem State.onInst_pins (w : Nat) (f : Inst → Inst) : (s.onInst w f).pins = s.pins := rfl
@[simp] theorem State.onInst_svc (w : Nat) (f : Inst → Inst) : (s.onInst w f).svc = s.svc := rfl
@[simp] theorem State.onInst_windows (w : Nat) (f : Inst → Inst) : (s.onInst w f).windows = s.windows := rfl
@[simp] theorem State.onInst_mgr (w : Nat) (f : Inst → Inst) : (s.onInst w f).mgr = s.mgr := rfl
@[simp] theorem State.onInst_log (w : Nat) (f : Inst → Inst) : (s.onInst w f).log = s.log := rfl
@[simp] theorem State.onInst_fw (w : Nat) (f : Inst → Inst) : (s.onInst w f).fw = s.fw := rfl
@[simp] theorem State.onInst_fuses (w : Nat) (f : Inst → Inst) : (s.onInst w f).fuses = s.fuses := rfl
@[simp] theorem State.onInst_cores (w : Nat) (f : Inst → Inst) : (s.onInst w f).cores = s.cores := rfl
@[simp] theorem State.onInst_pcores (w : Nat) (f : Inst → Inst) : (s.onInst w f).pcores = s.pcores := rfl
@[simp] theorem State.onInst_ctxs (w : Nat) (f : Inst → Inst) : (s.onInst w f).ctxs = s.ctxs := rfl
@[simp] theorem State.onInst_ms (w : Nat) (f : Inst → Inst) : (s.onInst w f).ms = s.ms := rfl
@[simp] theorem State.onInst_linkLost (w : Nat) (f : Inst → Inst) : (s.onInst w f).linkLost = s.linkLost := rfl
@[simp] theorem State.onInst_devStores (w : Nat) (f : Inst → Inst) : (s.onInst w f).devStores = s.devStores := rfl
@[simp] theorem State.onInst_subchs (w : Nat) (f : Inst → Inst) : (s.onInst w f).subchs = s.subchs := rfl
@[simp] theorem State.onInst_incarns (w : Nat) (f : Inst → Inst) : (s.onInst w f).incarns = s.incarns := rfl
@[simp] theorem State.onInst_incarnBase (w : Nat) (f : Inst → Inst) : (s.onInst w f).incarnBase = s.incarnBase := rfl
@[simp] theorem State.onInst_indoubt (w : Nat) (f : Inst → Inst) : (s.onInst w f).indoubt = s.indoubt := rfl
@[simp] theorem State.onInst_doubts (w : Nat) (f : Inst → Inst) : (s.onInst w f).doubts = s.doubts := rfl
@[simp] theorem State.onInst_ioports (w : Nat) (f : Inst → Inst) : (s.onInst w f).ioports = s.ioports := rfl
@[simp] theorem State.onInst_routes (w : Nat) (f : Inst → Inst) : (s.onInst w f).routes = s.routes := rfl
@[simp] theorem State.onInst_engines (w : Nat) (f : Inst → Inst) : (s.onInst w f).engines = s.engines := rfl
@[simp] theorem State.onInst_claims (w : Nat) (f : Inst → Inst) : (s.onInst w f).claims = s.claims := rfl
@[simp] theorem State.onInst_wire (w : Nat) (f : Inst → Inst) : (s.onInst w f).wire = s.wire := rfl
@[simp] theorem State.onInst_rings (w : Nat) (f : Inst → Inst) : (s.onInst w f).rings = s.rings := rfl
@[simp] theorem State.onInst_bcus (w : Nat) (f : Inst → Inst) : (s.onInst w f).bcus = s.bcus := rfl
@[simp] theorem State.onInst_dfus (w : Nat) (f : Inst → Inst) : (s.onInst w f).dfus = s.dfus := rfl
@[simp] theorem State.onInst_bcuArb (w : Nat) (f : Inst → Inst) : (s.onInst w f).bcuArb = s.bcuArb := rfl
@[simp] theorem State.onInst_dfuArb (w : Nat) (f : Inst → Inst) : (s.onInst w f).dfuArb = s.dfuArb := rfl
@[simp] theorem State.onInst_bcuPool (w : Nat) (f : Inst → Inst) : (s.onInst w f).bcuPool = s.bcuPool := rfl
@[simp] theorem State.onInst_dfuPool (w : Nat) (f : Inst → Inst) : (s.onInst w f).dfuPool = s.dfuPool := rfl
@[simp] theorem State.onInst_pages (w : Nat) (f : Inst → Inst) : (s.onInst w f).pages = s.pages := rfl
@[simp] theorem State.onInst_dicts (w : Nat) (f : Inst → Inst) : (s.onInst w f).dicts = s.dicts := rfl
@[simp] theorem State.onInst_encls (w : Nat) (f : Inst → Inst) : (s.onInst w f).encls = s.encls := rfl
@[simp] theorem State.onInst_emap (w : Nat) (f : Inst → Inst) : (s.onInst w f).emap = s.emap := rfl
@[simp] theorem State.onInst_relay (w : Nat) (f : Inst → Inst) : (s.onInst w f).relay = s.relay := rfl
@[simp] theorem State.onInst_decode (w : Nat) (f : Inst → Inst) : (s.onInst w f).decode = s.decode := rfl
@[simp] theorem State.onInst_dbgNi (w : Nat) (f : Inst → Inst) : (s.onInst w f).dbgNi = s.dbgNi := rfl
@[simp] theorem State.onInst_dbgInv (w : Nat) (f : Inst → Inst) : (s.onInst w f).dbgInv = s.dbgInv := rfl
@[simp] theorem State.onInst_dbgEni (w : Nat) (f : Inst → Inst) : (s.onInst w f).dbgEni = s.dbgEni := rfl
@[simp] theorem State.onInst_dbgEinv (w : Nat) (f : Inst → Inst) : (s.onInst w f).dbgEinv = s.dbgEinv := rfl
@[simp] theorem State.onInst_deferred (w : Nat) (f : Inst → Inst) : (s.onInst w f).deferred = s.deferred := rfl
@[simp] theorem State.onInst_posts (w : Nat) (f : Inst → Inst) : (s.onInst w f).posts = s.posts := rfl
@[simp] theorem State.onInst_creations (w : Nat) (f : Inst → Inst) : (s.onInst w f).creations = s.creations := rfl
@[simp] theorem State.onInst_outcomes (w : Nat) (f : Inst → Inst) : (s.onInst w f).outcomes = s.outcomes := rfl
@[simp] theorem State.onInst_kept (w : Nat) (f : Inst → Inst) : (s.onInst w f).kept = s.kept := rfl
@[simp] theorem State.onInst_fresh (w : Nat) (f : Inst → Inst) : (s.onInst w f).fresh = s.fresh := rfl
@[simp] theorem State.onInst_console (w : Nat) (f : Inst → Inst) : (s.onInst w f).console = s.console := rfl
@[simp] theorem State.onInst_recSp (w : Nat) (f : Inst → Inst) : (s.onInst w f).recSp = s.recSp := rfl
@[simp] theorem State.onInst_freeCtr (w : Nat) (f : Inst → Inst) : (s.onInst w f).freeCtr = s.freeCtr := rfl
@[simp] theorem State.onInst_pending (w : Nat) (f : Inst → Inst) : (s.onInst w f).pending = s.pending := rfl

/-! ### onCore -/

@[simp] theorem State.onCore_phase (w : Nat) (f : LCore → LCore) : (s.onCore w f).phase = s.phase := rfl
@[simp] theorem State.onCore_clock (w : Nat) (f : LCore → LCore) : (s.onCore w f).clock = s.clock := rfl
@[simp] theorem State.onCore_pins (w : Nat) (f : LCore → LCore) : (s.onCore w f).pins = s.pins := rfl
@[simp] theorem State.onCore_svc (w : Nat) (f : LCore → LCore) : (s.onCore w f).svc = s.svc := rfl
@[simp] theorem State.onCore_windows (w : Nat) (f : LCore → LCore) : (s.onCore w f).windows = s.windows := rfl
@[simp] theorem State.onCore_mgr (w : Nat) (f : LCore → LCore) : (s.onCore w f).mgr = s.mgr := rfl
@[simp] theorem State.onCore_insts (w : Nat) (f : LCore → LCore) : (s.onCore w f).insts = s.insts := rfl
@[simp] theorem State.onCore_log (w : Nat) (f : LCore → LCore) : (s.onCore w f).log = s.log := rfl
@[simp] theorem State.onCore_fw (w : Nat) (f : LCore → LCore) : (s.onCore w f).fw = s.fw := rfl
@[simp] theorem State.onCore_fuses (w : Nat) (f : LCore → LCore) : (s.onCore w f).fuses = s.fuses := rfl
@[simp] theorem State.onCore_pcores (w : Nat) (f : LCore → LCore) : (s.onCore w f).pcores = s.pcores := rfl
@[simp] theorem State.onCore_ctxs (w : Nat) (f : LCore → LCore) : (s.onCore w f).ctxs = s.ctxs := rfl
@[simp] theorem State.onCore_ms (w : Nat) (f : LCore → LCore) : (s.onCore w f).ms = s.ms := rfl
@[simp] theorem State.onCore_linkLost (w : Nat) (f : LCore → LCore) : (s.onCore w f).linkLost = s.linkLost := rfl
@[simp] theorem State.onCore_devStores (w : Nat) (f : LCore → LCore) : (s.onCore w f).devStores = s.devStores := rfl
@[simp] theorem State.onCore_subchs (w : Nat) (f : LCore → LCore) : (s.onCore w f).subchs = s.subchs := rfl
@[simp] theorem State.onCore_incarns (w : Nat) (f : LCore → LCore) : (s.onCore w f).incarns = s.incarns := rfl
@[simp] theorem State.onCore_incarnBase (w : Nat) (f : LCore → LCore) : (s.onCore w f).incarnBase = s.incarnBase := rfl
@[simp] theorem State.onCore_indoubt (w : Nat) (f : LCore → LCore) : (s.onCore w f).indoubt = s.indoubt := rfl
@[simp] theorem State.onCore_doubts (w : Nat) (f : LCore → LCore) : (s.onCore w f).doubts = s.doubts := rfl
@[simp] theorem State.onCore_ioports (w : Nat) (f : LCore → LCore) : (s.onCore w f).ioports = s.ioports := rfl
@[simp] theorem State.onCore_routes (w : Nat) (f : LCore → LCore) : (s.onCore w f).routes = s.routes := rfl
@[simp] theorem State.onCore_engines (w : Nat) (f : LCore → LCore) : (s.onCore w f).engines = s.engines := rfl
@[simp] theorem State.onCore_claims (w : Nat) (f : LCore → LCore) : (s.onCore w f).claims = s.claims := rfl
@[simp] theorem State.onCore_wire (w : Nat) (f : LCore → LCore) : (s.onCore w f).wire = s.wire := rfl
@[simp] theorem State.onCore_rings (w : Nat) (f : LCore → LCore) : (s.onCore w f).rings = s.rings := rfl
@[simp] theorem State.onCore_bcus (w : Nat) (f : LCore → LCore) : (s.onCore w f).bcus = s.bcus := rfl
@[simp] theorem State.onCore_dfus (w : Nat) (f : LCore → LCore) : (s.onCore w f).dfus = s.dfus := rfl
@[simp] theorem State.onCore_bcuArb (w : Nat) (f : LCore → LCore) : (s.onCore w f).bcuArb = s.bcuArb := rfl
@[simp] theorem State.onCore_dfuArb (w : Nat) (f : LCore → LCore) : (s.onCore w f).dfuArb = s.dfuArb := rfl
@[simp] theorem State.onCore_bcuPool (w : Nat) (f : LCore → LCore) : (s.onCore w f).bcuPool = s.bcuPool := rfl
@[simp] theorem State.onCore_dfuPool (w : Nat) (f : LCore → LCore) : (s.onCore w f).dfuPool = s.dfuPool := rfl
@[simp] theorem State.onCore_pages (w : Nat) (f : LCore → LCore) : (s.onCore w f).pages = s.pages := rfl
@[simp] theorem State.onCore_dicts (w : Nat) (f : LCore → LCore) : (s.onCore w f).dicts = s.dicts := rfl
@[simp] theorem State.onCore_encls (w : Nat) (f : LCore → LCore) : (s.onCore w f).encls = s.encls := rfl
@[simp] theorem State.onCore_emap (w : Nat) (f : LCore → LCore) : (s.onCore w f).emap = s.emap := rfl
@[simp] theorem State.onCore_relay (w : Nat) (f : LCore → LCore) : (s.onCore w f).relay = s.relay := rfl
@[simp] theorem State.onCore_decode (w : Nat) (f : LCore → LCore) : (s.onCore w f).decode = s.decode := rfl
@[simp] theorem State.onCore_dbgNi (w : Nat) (f : LCore → LCore) : (s.onCore w f).dbgNi = s.dbgNi := rfl
@[simp] theorem State.onCore_dbgInv (w : Nat) (f : LCore → LCore) : (s.onCore w f).dbgInv = s.dbgInv := rfl
@[simp] theorem State.onCore_dbgEni (w : Nat) (f : LCore → LCore) : (s.onCore w f).dbgEni = s.dbgEni := rfl
@[simp] theorem State.onCore_dbgEinv (w : Nat) (f : LCore → LCore) : (s.onCore w f).dbgEinv = s.dbgEinv := rfl
@[simp] theorem State.onCore_deferred (w : Nat) (f : LCore → LCore) : (s.onCore w f).deferred = s.deferred := rfl
@[simp] theorem State.onCore_posts (w : Nat) (f : LCore → LCore) : (s.onCore w f).posts = s.posts := rfl
@[simp] theorem State.onCore_creations (w : Nat) (f : LCore → LCore) : (s.onCore w f).creations = s.creations := rfl
@[simp] theorem State.onCore_outcomes (w : Nat) (f : LCore → LCore) : (s.onCore w f).outcomes = s.outcomes := rfl
@[simp] theorem State.onCore_kept (w : Nat) (f : LCore → LCore) : (s.onCore w f).kept = s.kept := rfl
@[simp] theorem State.onCore_fresh (w : Nat) (f : LCore → LCore) : (s.onCore w f).fresh = s.fresh := rfl
@[simp] theorem State.onCore_console (w : Nat) (f : LCore → LCore) : (s.onCore w f).console = s.console := rfl
@[simp] theorem State.onCore_recSp (w : Nat) (f : LCore → LCore) : (s.onCore w f).recSp = s.recSp := rfl
@[simp] theorem State.onCore_freeCtr (w : Nat) (f : LCore → LCore) : (s.onCore w f).freeCtr = s.freeCtr := rfl
@[simp] theorem State.onCore_pending (w : Nat) (f : LCore → LCore) : (s.onCore w f).pending = s.pending := rfl

/-! ### onPCore -/

@[simp] theorem State.onPCore_phase (w : Nat) (f : PCore → PCore) : (s.onPCore w f).phase = s.phase := rfl
@[simp] theorem State.onPCore_clock (w : Nat) (f : PCore → PCore) : (s.onPCore w f).clock = s.clock := rfl
@[simp] theorem State.onPCore_pins (w : Nat) (f : PCore → PCore) : (s.onPCore w f).pins = s.pins := rfl
@[simp] theorem State.onPCore_svc (w : Nat) (f : PCore → PCore) : (s.onPCore w f).svc = s.svc := rfl
@[simp] theorem State.onPCore_windows (w : Nat) (f : PCore → PCore) : (s.onPCore w f).windows = s.windows := rfl
@[simp] theorem State.onPCore_mgr (w : Nat) (f : PCore → PCore) : (s.onPCore w f).mgr = s.mgr := rfl
@[simp] theorem State.onPCore_insts (w : Nat) (f : PCore → PCore) : (s.onPCore w f).insts = s.insts := rfl
@[simp] theorem State.onPCore_log (w : Nat) (f : PCore → PCore) : (s.onPCore w f).log = s.log := rfl
@[simp] theorem State.onPCore_fw (w : Nat) (f : PCore → PCore) : (s.onPCore w f).fw = s.fw := rfl
@[simp] theorem State.onPCore_fuses (w : Nat) (f : PCore → PCore) : (s.onPCore w f).fuses = s.fuses := rfl
@[simp] theorem State.onPCore_cores (w : Nat) (f : PCore → PCore) : (s.onPCore w f).cores = s.cores := rfl
@[simp] theorem State.onPCore_ctxs (w : Nat) (f : PCore → PCore) : (s.onPCore w f).ctxs = s.ctxs := rfl
@[simp] theorem State.onPCore_ms (w : Nat) (f : PCore → PCore) : (s.onPCore w f).ms = s.ms := rfl
@[simp] theorem State.onPCore_linkLost (w : Nat) (f : PCore → PCore) : (s.onPCore w f).linkLost = s.linkLost := rfl
@[simp] theorem State.onPCore_devStores (w : Nat) (f : PCore → PCore) : (s.onPCore w f).devStores = s.devStores := rfl
@[simp] theorem State.onPCore_subchs (w : Nat) (f : PCore → PCore) : (s.onPCore w f).subchs = s.subchs := rfl
@[simp] theorem State.onPCore_incarns (w : Nat) (f : PCore → PCore) : (s.onPCore w f).incarns = s.incarns := rfl
@[simp] theorem State.onPCore_incarnBase (w : Nat) (f : PCore → PCore) : (s.onPCore w f).incarnBase = s.incarnBase := rfl
@[simp] theorem State.onPCore_indoubt (w : Nat) (f : PCore → PCore) : (s.onPCore w f).indoubt = s.indoubt := rfl
@[simp] theorem State.onPCore_doubts (w : Nat) (f : PCore → PCore) : (s.onPCore w f).doubts = s.doubts := rfl
@[simp] theorem State.onPCore_ioports (w : Nat) (f : PCore → PCore) : (s.onPCore w f).ioports = s.ioports := rfl
@[simp] theorem State.onPCore_routes (w : Nat) (f : PCore → PCore) : (s.onPCore w f).routes = s.routes := rfl
@[simp] theorem State.onPCore_engines (w : Nat) (f : PCore → PCore) : (s.onPCore w f).engines = s.engines := rfl
@[simp] theorem State.onPCore_claims (w : Nat) (f : PCore → PCore) : (s.onPCore w f).claims = s.claims := rfl
@[simp] theorem State.onPCore_wire (w : Nat) (f : PCore → PCore) : (s.onPCore w f).wire = s.wire := rfl
@[simp] theorem State.onPCore_rings (w : Nat) (f : PCore → PCore) : (s.onPCore w f).rings = s.rings := rfl
@[simp] theorem State.onPCore_bcus (w : Nat) (f : PCore → PCore) : (s.onPCore w f).bcus = s.bcus := rfl
@[simp] theorem State.onPCore_dfus (w : Nat) (f : PCore → PCore) : (s.onPCore w f).dfus = s.dfus := rfl
@[simp] theorem State.onPCore_bcuArb (w : Nat) (f : PCore → PCore) : (s.onPCore w f).bcuArb = s.bcuArb := rfl
@[simp] theorem State.onPCore_dfuArb (w : Nat) (f : PCore → PCore) : (s.onPCore w f).dfuArb = s.dfuArb := rfl
@[simp] theorem State.onPCore_bcuPool (w : Nat) (f : PCore → PCore) : (s.onPCore w f).bcuPool = s.bcuPool := rfl
@[simp] theorem State.onPCore_dfuPool (w : Nat) (f : PCore → PCore) : (s.onPCore w f).dfuPool = s.dfuPool := rfl
@[simp] theorem State.onPCore_pages (w : Nat) (f : PCore → PCore) : (s.onPCore w f).pages = s.pages := rfl
@[simp] theorem State.onPCore_dicts (w : Nat) (f : PCore → PCore) : (s.onPCore w f).dicts = s.dicts := rfl
@[simp] theorem State.onPCore_encls (w : Nat) (f : PCore → PCore) : (s.onPCore w f).encls = s.encls := rfl
@[simp] theorem State.onPCore_emap (w : Nat) (f : PCore → PCore) : (s.onPCore w f).emap = s.emap := rfl
@[simp] theorem State.onPCore_relay (w : Nat) (f : PCore → PCore) : (s.onPCore w f).relay = s.relay := rfl
@[simp] theorem State.onPCore_decode (w : Nat) (f : PCore → PCore) : (s.onPCore w f).decode = s.decode := rfl
@[simp] theorem State.onPCore_dbgNi (w : Nat) (f : PCore → PCore) : (s.onPCore w f).dbgNi = s.dbgNi := rfl
@[simp] theorem State.onPCore_dbgInv (w : Nat) (f : PCore → PCore) : (s.onPCore w f).dbgInv = s.dbgInv := rfl
@[simp] theorem State.onPCore_dbgEni (w : Nat) (f : PCore → PCore) : (s.onPCore w f).dbgEni = s.dbgEni := rfl
@[simp] theorem State.onPCore_dbgEinv (w : Nat) (f : PCore → PCore) : (s.onPCore w f).dbgEinv = s.dbgEinv := rfl
@[simp] theorem State.onPCore_deferred (w : Nat) (f : PCore → PCore) : (s.onPCore w f).deferred = s.deferred := rfl
@[simp] theorem State.onPCore_posts (w : Nat) (f : PCore → PCore) : (s.onPCore w f).posts = s.posts := rfl
@[simp] theorem State.onPCore_creations (w : Nat) (f : PCore → PCore) : (s.onPCore w f).creations = s.creations := rfl
@[simp] theorem State.onPCore_outcomes (w : Nat) (f : PCore → PCore) : (s.onPCore w f).outcomes = s.outcomes := rfl
@[simp] theorem State.onPCore_kept (w : Nat) (f : PCore → PCore) : (s.onPCore w f).kept = s.kept := rfl
@[simp] theorem State.onPCore_fresh (w : Nat) (f : PCore → PCore) : (s.onPCore w f).fresh = s.fresh := rfl
@[simp] theorem State.onPCore_console (w : Nat) (f : PCore → PCore) : (s.onPCore w f).console = s.console := rfl
@[simp] theorem State.onPCore_recSp (w : Nat) (f : PCore → PCore) : (s.onPCore w f).recSp = s.recSp := rfl
@[simp] theorem State.onPCore_freeCtr (w : Nat) (f : PCore → PCore) : (s.onPCore w f).freeCtr = s.freeCtr := rfl
@[simp] theorem State.onPCore_pending (w : Nat) (f : PCore → PCore) : (s.onPCore w f).pending = s.pending := rfl

/-! ### onCtx -/

@[simp] theorem State.onCtx_phase (w k : Nat) (f : Ctx → Ctx) : (s.onCtx w k f).phase = s.phase := rfl
@[simp] theorem State.onCtx_clock (w k : Nat) (f : Ctx → Ctx) : (s.onCtx w k f).clock = s.clock := rfl
@[simp] theorem State.onCtx_pins (w k : Nat) (f : Ctx → Ctx) : (s.onCtx w k f).pins = s.pins := rfl
@[simp] theorem State.onCtx_svc (w k : Nat) (f : Ctx → Ctx) : (s.onCtx w k f).svc = s.svc := rfl
@[simp] theorem State.onCtx_windows (w k : Nat) (f : Ctx → Ctx) : (s.onCtx w k f).windows = s.windows := rfl
@[simp] theorem State.onCtx_mgr (w k : Nat) (f : Ctx → Ctx) : (s.onCtx w k f).mgr = s.mgr := rfl
@[simp] theorem State.onCtx_insts (w k : Nat) (f : Ctx → Ctx) : (s.onCtx w k f).insts = s.insts := rfl
@[simp] theorem State.onCtx_log (w k : Nat) (f : Ctx → Ctx) : (s.onCtx w k f).log = s.log := rfl
@[simp] theorem State.onCtx_fw (w k : Nat) (f : Ctx → Ctx) : (s.onCtx w k f).fw = s.fw := rfl
@[simp] theorem State.onCtx_fuses (w k : Nat) (f : Ctx → Ctx) : (s.onCtx w k f).fuses = s.fuses := rfl
@[simp] theorem State.onCtx_cores (w k : Nat) (f : Ctx → Ctx) : (s.onCtx w k f).cores = s.cores := rfl
@[simp] theorem State.onCtx_pcores (w k : Nat) (f : Ctx → Ctx) : (s.onCtx w k f).pcores = s.pcores := rfl
@[simp] theorem State.onCtx_ms (w k : Nat) (f : Ctx → Ctx) : (s.onCtx w k f).ms = s.ms := rfl
@[simp] theorem State.onCtx_linkLost (w k : Nat) (f : Ctx → Ctx) : (s.onCtx w k f).linkLost = s.linkLost := rfl
@[simp] theorem State.onCtx_devStores (w k : Nat) (f : Ctx → Ctx) : (s.onCtx w k f).devStores = s.devStores := rfl
@[simp] theorem State.onCtx_subchs (w k : Nat) (f : Ctx → Ctx) : (s.onCtx w k f).subchs = s.subchs := rfl
@[simp] theorem State.onCtx_incarns (w k : Nat) (f : Ctx → Ctx) : (s.onCtx w k f).incarns = s.incarns := rfl
@[simp] theorem State.onCtx_incarnBase (w k : Nat) (f : Ctx → Ctx) : (s.onCtx w k f).incarnBase = s.incarnBase := rfl
@[simp] theorem State.onCtx_indoubt (w k : Nat) (f : Ctx → Ctx) : (s.onCtx w k f).indoubt = s.indoubt := rfl
@[simp] theorem State.onCtx_doubts (w k : Nat) (f : Ctx → Ctx) : (s.onCtx w k f).doubts = s.doubts := rfl
@[simp] theorem State.onCtx_ioports (w k : Nat) (f : Ctx → Ctx) : (s.onCtx w k f).ioports = s.ioports := rfl
@[simp] theorem State.onCtx_routes (w k : Nat) (f : Ctx → Ctx) : (s.onCtx w k f).routes = s.routes := rfl
@[simp] theorem State.onCtx_engines (w k : Nat) (f : Ctx → Ctx) : (s.onCtx w k f).engines = s.engines := rfl
@[simp] theorem State.onCtx_claims (w k : Nat) (f : Ctx → Ctx) : (s.onCtx w k f).claims = s.claims := rfl
@[simp] theorem State.onCtx_wire (w k : Nat) (f : Ctx → Ctx) : (s.onCtx w k f).wire = s.wire := rfl
@[simp] theorem State.onCtx_rings (w k : Nat) (f : Ctx → Ctx) : (s.onCtx w k f).rings = s.rings := rfl
@[simp] theorem State.onCtx_bcus (w k : Nat) (f : Ctx → Ctx) : (s.onCtx w k f).bcus = s.bcus := rfl
@[simp] theorem State.onCtx_dfus (w k : Nat) (f : Ctx → Ctx) : (s.onCtx w k f).dfus = s.dfus := rfl
@[simp] theorem State.onCtx_bcuArb (w k : Nat) (f : Ctx → Ctx) : (s.onCtx w k f).bcuArb = s.bcuArb := rfl
@[simp] theorem State.onCtx_dfuArb (w k : Nat) (f : Ctx → Ctx) : (s.onCtx w k f).dfuArb = s.dfuArb := rfl
@[simp] theorem State.onCtx_bcuPool (w k : Nat) (f : Ctx → Ctx) : (s.onCtx w k f).bcuPool = s.bcuPool := rfl
@[simp] theorem State.onCtx_dfuPool (w k : Nat) (f : Ctx → Ctx) : (s.onCtx w k f).dfuPool = s.dfuPool := rfl
@[simp] theorem State.onCtx_pages (w k : Nat) (f : Ctx → Ctx) : (s.onCtx w k f).pages = s.pages := rfl
@[simp] theorem State.onCtx_dicts (w k : Nat) (f : Ctx → Ctx) : (s.onCtx w k f).dicts = s.dicts := rfl
@[simp] theorem State.onCtx_encls (w k : Nat) (f : Ctx → Ctx) : (s.onCtx w k f).encls = s.encls := rfl
@[simp] theorem State.onCtx_emap (w k : Nat) (f : Ctx → Ctx) : (s.onCtx w k f).emap = s.emap := rfl
@[simp] theorem State.onCtx_relay (w k : Nat) (f : Ctx → Ctx) : (s.onCtx w k f).relay = s.relay := rfl
@[simp] theorem State.onCtx_decode (w k : Nat) (f : Ctx → Ctx) : (s.onCtx w k f).decode = s.decode := rfl
@[simp] theorem State.onCtx_dbgNi (w k : Nat) (f : Ctx → Ctx) : (s.onCtx w k f).dbgNi = s.dbgNi := rfl
@[simp] theorem State.onCtx_dbgInv (w k : Nat) (f : Ctx → Ctx) : (s.onCtx w k f).dbgInv = s.dbgInv := rfl
@[simp] theorem State.onCtx_dbgEni (w k : Nat) (f : Ctx → Ctx) : (s.onCtx w k f).dbgEni = s.dbgEni := rfl
@[simp] theorem State.onCtx_dbgEinv (w k : Nat) (f : Ctx → Ctx) : (s.onCtx w k f).dbgEinv = s.dbgEinv := rfl
@[simp] theorem State.onCtx_deferred (w k : Nat) (f : Ctx → Ctx) : (s.onCtx w k f).deferred = s.deferred := rfl
@[simp] theorem State.onCtx_posts (w k : Nat) (f : Ctx → Ctx) : (s.onCtx w k f).posts = s.posts := rfl
@[simp] theorem State.onCtx_creations (w k : Nat) (f : Ctx → Ctx) : (s.onCtx w k f).creations = s.creations := rfl
@[simp] theorem State.onCtx_outcomes (w k : Nat) (f : Ctx → Ctx) : (s.onCtx w k f).outcomes = s.outcomes := rfl
@[simp] theorem State.onCtx_kept (w k : Nat) (f : Ctx → Ctx) : (s.onCtx w k f).kept = s.kept := rfl
@[simp] theorem State.onCtx_fresh (w k : Nat) (f : Ctx → Ctx) : (s.onCtx w k f).fresh = s.fresh := rfl
@[simp] theorem State.onCtx_console (w k : Nat) (f : Ctx → Ctx) : (s.onCtx w k f).console = s.console := rfl
@[simp] theorem State.onCtx_recSp (w k : Nat) (f : Ctx → Ctx) : (s.onCtx w k f).recSp = s.recSp := rfl
@[simp] theorem State.onCtx_freeCtr (w k : Nat) (f : Ctx → Ctx) : (s.onCtx w k f).freeCtr = s.freeCtr := rfl
@[simp] theorem State.onCtx_pending (w k : Nat) (f : Ctx → Ctx) : (s.onCtx w k f).pending = s.pending := rfl

/-! ### onSub -/

@[simp] theorem State.onSub_phase (w : Nat) (f : Subch → Subch) : (s.onSub w f).phase = s.phase := rfl
@[simp] theorem State.onSub_clock (w : Nat) (f : Subch → Subch) : (s.onSub w f).clock = s.clock := rfl
@[simp] theorem State.onSub_pins (w : Nat) (f : Subch → Subch) : (s.onSub w f).pins = s.pins := rfl
@[simp] theorem State.onSub_svc (w : Nat) (f : Subch → Subch) : (s.onSub w f).svc = s.svc := rfl
@[simp] theorem State.onSub_windows (w : Nat) (f : Subch → Subch) : (s.onSub w f).windows = s.windows := rfl
@[simp] theorem State.onSub_mgr (w : Nat) (f : Subch → Subch) : (s.onSub w f).mgr = s.mgr := rfl
@[simp] theorem State.onSub_insts (w : Nat) (f : Subch → Subch) : (s.onSub w f).insts = s.insts := rfl
@[simp] theorem State.onSub_log (w : Nat) (f : Subch → Subch) : (s.onSub w f).log = s.log := rfl
@[simp] theorem State.onSub_fw (w : Nat) (f : Subch → Subch) : (s.onSub w f).fw = s.fw := rfl
@[simp] theorem State.onSub_fuses (w : Nat) (f : Subch → Subch) : (s.onSub w f).fuses = s.fuses := rfl
@[simp] theorem State.onSub_cores (w : Nat) (f : Subch → Subch) : (s.onSub w f).cores = s.cores := rfl
@[simp] theorem State.onSub_pcores (w : Nat) (f : Subch → Subch) : (s.onSub w f).pcores = s.pcores := rfl
@[simp] theorem State.onSub_ctxs (w : Nat) (f : Subch → Subch) : (s.onSub w f).ctxs = s.ctxs := rfl
@[simp] theorem State.onSub_ms (w : Nat) (f : Subch → Subch) : (s.onSub w f).ms = s.ms := rfl
@[simp] theorem State.onSub_linkLost (w : Nat) (f : Subch → Subch) : (s.onSub w f).linkLost = s.linkLost := rfl
@[simp] theorem State.onSub_devStores (w : Nat) (f : Subch → Subch) : (s.onSub w f).devStores = s.devStores := rfl
@[simp] theorem State.onSub_incarns (w : Nat) (f : Subch → Subch) : (s.onSub w f).incarns = s.incarns := rfl
@[simp] theorem State.onSub_incarnBase (w : Nat) (f : Subch → Subch) : (s.onSub w f).incarnBase = s.incarnBase := rfl
@[simp] theorem State.onSub_indoubt (w : Nat) (f : Subch → Subch) : (s.onSub w f).indoubt = s.indoubt := rfl
@[simp] theorem State.onSub_doubts (w : Nat) (f : Subch → Subch) : (s.onSub w f).doubts = s.doubts := rfl
@[simp] theorem State.onSub_ioports (w : Nat) (f : Subch → Subch) : (s.onSub w f).ioports = s.ioports := rfl
@[simp] theorem State.onSub_routes (w : Nat) (f : Subch → Subch) : (s.onSub w f).routes = s.routes := rfl
@[simp] theorem State.onSub_engines (w : Nat) (f : Subch → Subch) : (s.onSub w f).engines = s.engines := rfl
@[simp] theorem State.onSub_claims (w : Nat) (f : Subch → Subch) : (s.onSub w f).claims = s.claims := rfl
@[simp] theorem State.onSub_wire (w : Nat) (f : Subch → Subch) : (s.onSub w f).wire = s.wire := rfl
@[simp] theorem State.onSub_rings (w : Nat) (f : Subch → Subch) : (s.onSub w f).rings = s.rings := rfl
@[simp] theorem State.onSub_bcus (w : Nat) (f : Subch → Subch) : (s.onSub w f).bcus = s.bcus := rfl
@[simp] theorem State.onSub_dfus (w : Nat) (f : Subch → Subch) : (s.onSub w f).dfus = s.dfus := rfl
@[simp] theorem State.onSub_bcuArb (w : Nat) (f : Subch → Subch) : (s.onSub w f).bcuArb = s.bcuArb := rfl
@[simp] theorem State.onSub_dfuArb (w : Nat) (f : Subch → Subch) : (s.onSub w f).dfuArb = s.dfuArb := rfl
@[simp] theorem State.onSub_bcuPool (w : Nat) (f : Subch → Subch) : (s.onSub w f).bcuPool = s.bcuPool := rfl
@[simp] theorem State.onSub_dfuPool (w : Nat) (f : Subch → Subch) : (s.onSub w f).dfuPool = s.dfuPool := rfl
@[simp] theorem State.onSub_pages (w : Nat) (f : Subch → Subch) : (s.onSub w f).pages = s.pages := rfl
@[simp] theorem State.onSub_dicts (w : Nat) (f : Subch → Subch) : (s.onSub w f).dicts = s.dicts := rfl
@[simp] theorem State.onSub_encls (w : Nat) (f : Subch → Subch) : (s.onSub w f).encls = s.encls := rfl
@[simp] theorem State.onSub_emap (w : Nat) (f : Subch → Subch) : (s.onSub w f).emap = s.emap := rfl
@[simp] theorem State.onSub_relay (w : Nat) (f : Subch → Subch) : (s.onSub w f).relay = s.relay := rfl
@[simp] theorem State.onSub_decode (w : Nat) (f : Subch → Subch) : (s.onSub w f).decode = s.decode := rfl
@[simp] theorem State.onSub_dbgNi (w : Nat) (f : Subch → Subch) : (s.onSub w f).dbgNi = s.dbgNi := rfl
@[simp] theorem State.onSub_dbgInv (w : Nat) (f : Subch → Subch) : (s.onSub w f).dbgInv = s.dbgInv := rfl
@[simp] theorem State.onSub_dbgEni (w : Nat) (f : Subch → Subch) : (s.onSub w f).dbgEni = s.dbgEni := rfl
@[simp] theorem State.onSub_dbgEinv (w : Nat) (f : Subch → Subch) : (s.onSub w f).dbgEinv = s.dbgEinv := rfl
@[simp] theorem State.onSub_deferred (w : Nat) (f : Subch → Subch) : (s.onSub w f).deferred = s.deferred := rfl
@[simp] theorem State.onSub_posts (w : Nat) (f : Subch → Subch) : (s.onSub w f).posts = s.posts := rfl
@[simp] theorem State.onSub_creations (w : Nat) (f : Subch → Subch) : (s.onSub w f).creations = s.creations := rfl
@[simp] theorem State.onSub_outcomes (w : Nat) (f : Subch → Subch) : (s.onSub w f).outcomes = s.outcomes := rfl
@[simp] theorem State.onSub_kept (w : Nat) (f : Subch → Subch) : (s.onSub w f).kept = s.kept := rfl
@[simp] theorem State.onSub_fresh (w : Nat) (f : Subch → Subch) : (s.onSub w f).fresh = s.fresh := rfl
@[simp] theorem State.onSub_console (w : Nat) (f : Subch → Subch) : (s.onSub w f).console = s.console := rfl
@[simp] theorem State.onSub_recSp (w : Nat) (f : Subch → Subch) : (s.onSub w f).recSp = s.recSp := rfl
@[simp] theorem State.onSub_freeCtr (w : Nat) (f : Subch → Subch) : (s.onSub w f).freeCtr = s.freeCtr := rfl
@[simp] theorem State.onSub_pending (w : Nat) (f : Subch → Subch) : (s.onSub w f).pending = s.pending := rfl

/-! ### onRing -/

@[simp] theorem State.onRing_phase (w : Nat) (f : Ring → Ring) : (s.onRing w f).phase = s.phase := rfl
@[simp] theorem State.onRing_clock (w : Nat) (f : Ring → Ring) : (s.onRing w f).clock = s.clock := rfl
@[simp] theorem State.onRing_pins (w : Nat) (f : Ring → Ring) : (s.onRing w f).pins = s.pins := rfl
@[simp] theorem State.onRing_svc (w : Nat) (f : Ring → Ring) : (s.onRing w f).svc = s.svc := rfl
@[simp] theorem State.onRing_windows (w : Nat) (f : Ring → Ring) : (s.onRing w f).windows = s.windows := rfl
@[simp] theorem State.onRing_mgr (w : Nat) (f : Ring → Ring) : (s.onRing w f).mgr = s.mgr := rfl
@[simp] theorem State.onRing_insts (w : Nat) (f : Ring → Ring) : (s.onRing w f).insts = s.insts := rfl
@[simp] theorem State.onRing_log (w : Nat) (f : Ring → Ring) : (s.onRing w f).log = s.log := rfl
@[simp] theorem State.onRing_fw (w : Nat) (f : Ring → Ring) : (s.onRing w f).fw = s.fw := rfl
@[simp] theorem State.onRing_fuses (w : Nat) (f : Ring → Ring) : (s.onRing w f).fuses = s.fuses := rfl
@[simp] theorem State.onRing_cores (w : Nat) (f : Ring → Ring) : (s.onRing w f).cores = s.cores := rfl
@[simp] theorem State.onRing_pcores (w : Nat) (f : Ring → Ring) : (s.onRing w f).pcores = s.pcores := rfl
@[simp] theorem State.onRing_ctxs (w : Nat) (f : Ring → Ring) : (s.onRing w f).ctxs = s.ctxs := rfl
@[simp] theorem State.onRing_ms (w : Nat) (f : Ring → Ring) : (s.onRing w f).ms = s.ms := rfl
@[simp] theorem State.onRing_linkLost (w : Nat) (f : Ring → Ring) : (s.onRing w f).linkLost = s.linkLost := rfl
@[simp] theorem State.onRing_devStores (w : Nat) (f : Ring → Ring) : (s.onRing w f).devStores = s.devStores := rfl
@[simp] theorem State.onRing_subchs (w : Nat) (f : Ring → Ring) : (s.onRing w f).subchs = s.subchs := rfl
@[simp] theorem State.onRing_incarns (w : Nat) (f : Ring → Ring) : (s.onRing w f).incarns = s.incarns := rfl
@[simp] theorem State.onRing_incarnBase (w : Nat) (f : Ring → Ring) : (s.onRing w f).incarnBase = s.incarnBase := rfl
@[simp] theorem State.onRing_indoubt (w : Nat) (f : Ring → Ring) : (s.onRing w f).indoubt = s.indoubt := rfl
@[simp] theorem State.onRing_doubts (w : Nat) (f : Ring → Ring) : (s.onRing w f).doubts = s.doubts := rfl
@[simp] theorem State.onRing_ioports (w : Nat) (f : Ring → Ring) : (s.onRing w f).ioports = s.ioports := rfl
@[simp] theorem State.onRing_routes (w : Nat) (f : Ring → Ring) : (s.onRing w f).routes = s.routes := rfl
@[simp] theorem State.onRing_engines (w : Nat) (f : Ring → Ring) : (s.onRing w f).engines = s.engines := rfl
@[simp] theorem State.onRing_claims (w : Nat) (f : Ring → Ring) : (s.onRing w f).claims = s.claims := rfl
@[simp] theorem State.onRing_wire (w : Nat) (f : Ring → Ring) : (s.onRing w f).wire = s.wire := rfl
@[simp] theorem State.onRing_bcus (w : Nat) (f : Ring → Ring) : (s.onRing w f).bcus = s.bcus := rfl
@[simp] theorem State.onRing_dfus (w : Nat) (f : Ring → Ring) : (s.onRing w f).dfus = s.dfus := rfl
@[simp] theorem State.onRing_bcuArb (w : Nat) (f : Ring → Ring) : (s.onRing w f).bcuArb = s.bcuArb := rfl
@[simp] theorem State.onRing_dfuArb (w : Nat) (f : Ring → Ring) : (s.onRing w f).dfuArb = s.dfuArb := rfl
@[simp] theorem State.onRing_bcuPool (w : Nat) (f : Ring → Ring) : (s.onRing w f).bcuPool = s.bcuPool := rfl
@[simp] theorem State.onRing_dfuPool (w : Nat) (f : Ring → Ring) : (s.onRing w f).dfuPool = s.dfuPool := rfl
@[simp] theorem State.onRing_pages (w : Nat) (f : Ring → Ring) : (s.onRing w f).pages = s.pages := rfl
@[simp] theorem State.onRing_dicts (w : Nat) (f : Ring → Ring) : (s.onRing w f).dicts = s.dicts := rfl
@[simp] theorem State.onRing_encls (w : Nat) (f : Ring → Ring) : (s.onRing w f).encls = s.encls := rfl
@[simp] theorem State.onRing_emap (w : Nat) (f : Ring → Ring) : (s.onRing w f).emap = s.emap := rfl
@[simp] theorem State.onRing_relay (w : Nat) (f : Ring → Ring) : (s.onRing w f).relay = s.relay := rfl
@[simp] theorem State.onRing_decode (w : Nat) (f : Ring → Ring) : (s.onRing w f).decode = s.decode := rfl
@[simp] theorem State.onRing_dbgNi (w : Nat) (f : Ring → Ring) : (s.onRing w f).dbgNi = s.dbgNi := rfl
@[simp] theorem State.onRing_dbgInv (w : Nat) (f : Ring → Ring) : (s.onRing w f).dbgInv = s.dbgInv := rfl
@[simp] theorem State.onRing_dbgEni (w : Nat) (f : Ring → Ring) : (s.onRing w f).dbgEni = s.dbgEni := rfl
@[simp] theorem State.onRing_dbgEinv (w : Nat) (f : Ring → Ring) : (s.onRing w f).dbgEinv = s.dbgEinv := rfl
@[simp] theorem State.onRing_deferred (w : Nat) (f : Ring → Ring) : (s.onRing w f).deferred = s.deferred := rfl
@[simp] theorem State.onRing_posts (w : Nat) (f : Ring → Ring) : (s.onRing w f).posts = s.posts := rfl
@[simp] theorem State.onRing_creations (w : Nat) (f : Ring → Ring) : (s.onRing w f).creations = s.creations := rfl
@[simp] theorem State.onRing_outcomes (w : Nat) (f : Ring → Ring) : (s.onRing w f).outcomes = s.outcomes := rfl
@[simp] theorem State.onRing_kept (w : Nat) (f : Ring → Ring) : (s.onRing w f).kept = s.kept := rfl
@[simp] theorem State.onRing_fresh (w : Nat) (f : Ring → Ring) : (s.onRing w f).fresh = s.fresh := rfl
@[simp] theorem State.onRing_console (w : Nat) (f : Ring → Ring) : (s.onRing w f).console = s.console := rfl
@[simp] theorem State.onRing_recSp (w : Nat) (f : Ring → Ring) : (s.onRing w f).recSp = s.recSp := rfl
@[simp] theorem State.onRing_freeCtr (w : Nat) (f : Ring → Ring) : (s.onRing w f).freeCtr = s.freeCtr := rfl
@[simp] theorem State.onRing_pending (w : Nat) (f : Ring → Ring) : (s.onRing w f).pending = s.pending := rfl

/-! ### onRoute -/

@[simp] theorem State.onRoute_phase (w : Nat) (f : Route → Route) : (s.onRoute w f).phase = s.phase := rfl
@[simp] theorem State.onRoute_clock (w : Nat) (f : Route → Route) : (s.onRoute w f).clock = s.clock := rfl
@[simp] theorem State.onRoute_pins (w : Nat) (f : Route → Route) : (s.onRoute w f).pins = s.pins := rfl
@[simp] theorem State.onRoute_svc (w : Nat) (f : Route → Route) : (s.onRoute w f).svc = s.svc := rfl
@[simp] theorem State.onRoute_windows (w : Nat) (f : Route → Route) : (s.onRoute w f).windows = s.windows := rfl
@[simp] theorem State.onRoute_mgr (w : Nat) (f : Route → Route) : (s.onRoute w f).mgr = s.mgr := rfl
@[simp] theorem State.onRoute_insts (w : Nat) (f : Route → Route) : (s.onRoute w f).insts = s.insts := rfl
@[simp] theorem State.onRoute_log (w : Nat) (f : Route → Route) : (s.onRoute w f).log = s.log := rfl
@[simp] theorem State.onRoute_fw (w : Nat) (f : Route → Route) : (s.onRoute w f).fw = s.fw := rfl
@[simp] theorem State.onRoute_fuses (w : Nat) (f : Route → Route) : (s.onRoute w f).fuses = s.fuses := rfl
@[simp] theorem State.onRoute_cores (w : Nat) (f : Route → Route) : (s.onRoute w f).cores = s.cores := rfl
@[simp] theorem State.onRoute_pcores (w : Nat) (f : Route → Route) : (s.onRoute w f).pcores = s.pcores := rfl
@[simp] theorem State.onRoute_ctxs (w : Nat) (f : Route → Route) : (s.onRoute w f).ctxs = s.ctxs := rfl
@[simp] theorem State.onRoute_ms (w : Nat) (f : Route → Route) : (s.onRoute w f).ms = s.ms := rfl
@[simp] theorem State.onRoute_linkLost (w : Nat) (f : Route → Route) : (s.onRoute w f).linkLost = s.linkLost := rfl
@[simp] theorem State.onRoute_devStores (w : Nat) (f : Route → Route) : (s.onRoute w f).devStores = s.devStores := rfl
@[simp] theorem State.onRoute_subchs (w : Nat) (f : Route → Route) : (s.onRoute w f).subchs = s.subchs := rfl
@[simp] theorem State.onRoute_incarns (w : Nat) (f : Route → Route) : (s.onRoute w f).incarns = s.incarns := rfl
@[simp] theorem State.onRoute_incarnBase (w : Nat) (f : Route → Route) : (s.onRoute w f).incarnBase = s.incarnBase := rfl
@[simp] theorem State.onRoute_indoubt (w : Nat) (f : Route → Route) : (s.onRoute w f).indoubt = s.indoubt := rfl
@[simp] theorem State.onRoute_doubts (w : Nat) (f : Route → Route) : (s.onRoute w f).doubts = s.doubts := rfl
@[simp] theorem State.onRoute_ioports (w : Nat) (f : Route → Route) : (s.onRoute w f).ioports = s.ioports := rfl
@[simp] theorem State.onRoute_engines (w : Nat) (f : Route → Route) : (s.onRoute w f).engines = s.engines := rfl
@[simp] theorem State.onRoute_claims (w : Nat) (f : Route → Route) : (s.onRoute w f).claims = s.claims := rfl
@[simp] theorem State.onRoute_wire (w : Nat) (f : Route → Route) : (s.onRoute w f).wire = s.wire := rfl
@[simp] theorem State.onRoute_rings (w : Nat) (f : Route → Route) : (s.onRoute w f).rings = s.rings := rfl
@[simp] theorem State.onRoute_bcus (w : Nat) (f : Route → Route) : (s.onRoute w f).bcus = s.bcus := rfl
@[simp] theorem State.onRoute_dfus (w : Nat) (f : Route → Route) : (s.onRoute w f).dfus = s.dfus := rfl
@[simp] theorem State.onRoute_bcuArb (w : Nat) (f : Route → Route) : (s.onRoute w f).bcuArb = s.bcuArb := rfl
@[simp] theorem State.onRoute_dfuArb (w : Nat) (f : Route → Route) : (s.onRoute w f).dfuArb = s.dfuArb := rfl
@[simp] theorem State.onRoute_bcuPool (w : Nat) (f : Route → Route) : (s.onRoute w f).bcuPool = s.bcuPool := rfl
@[simp] theorem State.onRoute_dfuPool (w : Nat) (f : Route → Route) : (s.onRoute w f).dfuPool = s.dfuPool := rfl
@[simp] theorem State.onRoute_pages (w : Nat) (f : Route → Route) : (s.onRoute w f).pages = s.pages := rfl
@[simp] theorem State.onRoute_dicts (w : Nat) (f : Route → Route) : (s.onRoute w f).dicts = s.dicts := rfl
@[simp] theorem State.onRoute_encls (w : Nat) (f : Route → Route) : (s.onRoute w f).encls = s.encls := rfl
@[simp] theorem State.onRoute_emap (w : Nat) (f : Route → Route) : (s.onRoute w f).emap = s.emap := rfl
@[simp] theorem State.onRoute_relay (w : Nat) (f : Route → Route) : (s.onRoute w f).relay = s.relay := rfl
@[simp] theorem State.onRoute_decode (w : Nat) (f : Route → Route) : (s.onRoute w f).decode = s.decode := rfl
@[simp] theorem State.onRoute_dbgNi (w : Nat) (f : Route → Route) : (s.onRoute w f).dbgNi = s.dbgNi := rfl
@[simp] theorem State.onRoute_dbgInv (w : Nat) (f : Route → Route) : (s.onRoute w f).dbgInv = s.dbgInv := rfl
@[simp] theorem State.onRoute_dbgEni (w : Nat) (f : Route → Route) : (s.onRoute w f).dbgEni = s.dbgEni := rfl
@[simp] theorem State.onRoute_dbgEinv (w : Nat) (f : Route → Route) : (s.onRoute w f).dbgEinv = s.dbgEinv := rfl
@[simp] theorem State.onRoute_deferred (w : Nat) (f : Route → Route) : (s.onRoute w f).deferred = s.deferred := rfl
@[simp] theorem State.onRoute_posts (w : Nat) (f : Route → Route) : (s.onRoute w f).posts = s.posts := rfl
@[simp] theorem State.onRoute_creations (w : Nat) (f : Route → Route) : (s.onRoute w f).creations = s.creations := rfl
@[simp] theorem State.onRoute_outcomes (w : Nat) (f : Route → Route) : (s.onRoute w f).outcomes = s.outcomes := rfl
@[simp] theorem State.onRoute_kept (w : Nat) (f : Route → Route) : (s.onRoute w f).kept = s.kept := rfl
@[simp] theorem State.onRoute_fresh (w : Nat) (f : Route → Route) : (s.onRoute w f).fresh = s.fresh := rfl
@[simp] theorem State.onRoute_console (w : Nat) (f : Route → Route) : (s.onRoute w f).console = s.console := rfl
@[simp] theorem State.onRoute_recSp (w : Nat) (f : Route → Route) : (s.onRoute w f).recSp = s.recSp := rfl
@[simp] theorem State.onRoute_freeCtr (w : Nat) (f : Route → Route) : (s.onRoute w f).freeCtr = s.freeCtr := rfl
@[simp] theorem State.onRoute_pending (w : Nat) (f : Route → Route) : (s.onRoute w f).pending = s.pending := rfl

/-! ### onEngine -/

@[simp] theorem State.onEngine_phase (w : Nat) (f : Engine → Engine) : (s.onEngine w f).phase = s.phase := rfl
@[simp] theorem State.onEngine_clock (w : Nat) (f : Engine → Engine) : (s.onEngine w f).clock = s.clock := rfl
@[simp] theorem State.onEngine_pins (w : Nat) (f : Engine → Engine) : (s.onEngine w f).pins = s.pins := rfl
@[simp] theorem State.onEngine_svc (w : Nat) (f : Engine → Engine) : (s.onEngine w f).svc = s.svc := rfl
@[simp] theorem State.onEngine_windows (w : Nat) (f : Engine → Engine) : (s.onEngine w f).windows = s.windows := rfl
@[simp] theorem State.onEngine_mgr (w : Nat) (f : Engine → Engine) : (s.onEngine w f).mgr = s.mgr := rfl
@[simp] theorem State.onEngine_insts (w : Nat) (f : Engine → Engine) : (s.onEngine w f).insts = s.insts := rfl
@[simp] theorem State.onEngine_log (w : Nat) (f : Engine → Engine) : (s.onEngine w f).log = s.log := rfl
@[simp] theorem State.onEngine_fw (w : Nat) (f : Engine → Engine) : (s.onEngine w f).fw = s.fw := rfl
@[simp] theorem State.onEngine_fuses (w : Nat) (f : Engine → Engine) : (s.onEngine w f).fuses = s.fuses := rfl
@[simp] theorem State.onEngine_cores (w : Nat) (f : Engine → Engine) : (s.onEngine w f).cores = s.cores := rfl
@[simp] theorem State.onEngine_pcores (w : Nat) (f : Engine → Engine) : (s.onEngine w f).pcores = s.pcores := rfl
@[simp] theorem State.onEngine_ctxs (w : Nat) (f : Engine → Engine) : (s.onEngine w f).ctxs = s.ctxs := rfl
@[simp] theorem State.onEngine_ms (w : Nat) (f : Engine → Engine) : (s.onEngine w f).ms = s.ms := rfl
@[simp] theorem State.onEngine_linkLost (w : Nat) (f : Engine → Engine) : (s.onEngine w f).linkLost = s.linkLost := rfl
@[simp] theorem State.onEngine_devStores (w : Nat) (f : Engine → Engine) : (s.onEngine w f).devStores = s.devStores := rfl
@[simp] theorem State.onEngine_subchs (w : Nat) (f : Engine → Engine) : (s.onEngine w f).subchs = s.subchs := rfl
@[simp] theorem State.onEngine_incarns (w : Nat) (f : Engine → Engine) : (s.onEngine w f).incarns = s.incarns := rfl
@[simp] theorem State.onEngine_incarnBase (w : Nat) (f : Engine → Engine) : (s.onEngine w f).incarnBase = s.incarnBase := rfl
@[simp] theorem State.onEngine_indoubt (w : Nat) (f : Engine → Engine) : (s.onEngine w f).indoubt = s.indoubt := rfl
@[simp] theorem State.onEngine_doubts (w : Nat) (f : Engine → Engine) : (s.onEngine w f).doubts = s.doubts := rfl
@[simp] theorem State.onEngine_ioports (w : Nat) (f : Engine → Engine) : (s.onEngine w f).ioports = s.ioports := rfl
@[simp] theorem State.onEngine_routes (w : Nat) (f : Engine → Engine) : (s.onEngine w f).routes = s.routes := rfl
@[simp] theorem State.onEngine_claims (w : Nat) (f : Engine → Engine) : (s.onEngine w f).claims = s.claims := rfl
@[simp] theorem State.onEngine_wire (w : Nat) (f : Engine → Engine) : (s.onEngine w f).wire = s.wire := rfl
@[simp] theorem State.onEngine_rings (w : Nat) (f : Engine → Engine) : (s.onEngine w f).rings = s.rings := rfl
@[simp] theorem State.onEngine_bcus (w : Nat) (f : Engine → Engine) : (s.onEngine w f).bcus = s.bcus := rfl
@[simp] theorem State.onEngine_dfus (w : Nat) (f : Engine → Engine) : (s.onEngine w f).dfus = s.dfus := rfl
@[simp] theorem State.onEngine_bcuArb (w : Nat) (f : Engine → Engine) : (s.onEngine w f).bcuArb = s.bcuArb := rfl
@[simp] theorem State.onEngine_dfuArb (w : Nat) (f : Engine → Engine) : (s.onEngine w f).dfuArb = s.dfuArb := rfl
@[simp] theorem State.onEngine_bcuPool (w : Nat) (f : Engine → Engine) : (s.onEngine w f).bcuPool = s.bcuPool := rfl
@[simp] theorem State.onEngine_dfuPool (w : Nat) (f : Engine → Engine) : (s.onEngine w f).dfuPool = s.dfuPool := rfl
@[simp] theorem State.onEngine_pages (w : Nat) (f : Engine → Engine) : (s.onEngine w f).pages = s.pages := rfl
@[simp] theorem State.onEngine_dicts (w : Nat) (f : Engine → Engine) : (s.onEngine w f).dicts = s.dicts := rfl
@[simp] theorem State.onEngine_encls (w : Nat) (f : Engine → Engine) : (s.onEngine w f).encls = s.encls := rfl
@[simp] theorem State.onEngine_emap (w : Nat) (f : Engine → Engine) : (s.onEngine w f).emap = s.emap := rfl
@[simp] theorem State.onEngine_relay (w : Nat) (f : Engine → Engine) : (s.onEngine w f).relay = s.relay := rfl
@[simp] theorem State.onEngine_decode (w : Nat) (f : Engine → Engine) : (s.onEngine w f).decode = s.decode := rfl
@[simp] theorem State.onEngine_dbgNi (w : Nat) (f : Engine → Engine) : (s.onEngine w f).dbgNi = s.dbgNi := rfl
@[simp] theorem State.onEngine_dbgInv (w : Nat) (f : Engine → Engine) : (s.onEngine w f).dbgInv = s.dbgInv := rfl
@[simp] theorem State.onEngine_dbgEni (w : Nat) (f : Engine → Engine) : (s.onEngine w f).dbgEni = s.dbgEni := rfl
@[simp] theorem State.onEngine_dbgEinv (w : Nat) (f : Engine → Engine) : (s.onEngine w f).dbgEinv = s.dbgEinv := rfl
@[simp] theorem State.onEngine_deferred (w : Nat) (f : Engine → Engine) : (s.onEngine w f).deferred = s.deferred := rfl
@[simp] theorem State.onEngine_posts (w : Nat) (f : Engine → Engine) : (s.onEngine w f).posts = s.posts := rfl
@[simp] theorem State.onEngine_creations (w : Nat) (f : Engine → Engine) : (s.onEngine w f).creations = s.creations := rfl
@[simp] theorem State.onEngine_outcomes (w : Nat) (f : Engine → Engine) : (s.onEngine w f).outcomes = s.outcomes := rfl
@[simp] theorem State.onEngine_kept (w : Nat) (f : Engine → Engine) : (s.onEngine w f).kept = s.kept := rfl
@[simp] theorem State.onEngine_fresh (w : Nat) (f : Engine → Engine) : (s.onEngine w f).fresh = s.fresh := rfl
@[simp] theorem State.onEngine_console (w : Nat) (f : Engine → Engine) : (s.onEngine w f).console = s.console := rfl
@[simp] theorem State.onEngine_recSp (w : Nat) (f : Engine → Engine) : (s.onEngine w f).recSp = s.recSp := rfl
@[simp] theorem State.onEngine_freeCtr (w : Nat) (f : Engine → Engine) : (s.onEngine w f).freeCtr = s.freeCtr := rfl
@[simp] theorem State.onEngine_pending (w : Nat) (f : Engine → Engine) : (s.onEngine w f).pending = s.pending := rfl

/-! ### onPage -/

@[simp] theorem State.onPage_phase (w : Nat) (f : CPage → CPage) : (s.onPage w f).phase = s.phase := rfl
@[simp] theorem State.onPage_clock (w : Nat) (f : CPage → CPage) : (s.onPage w f).clock = s.clock := rfl
@[simp] theorem State.onPage_pins (w : Nat) (f : CPage → CPage) : (s.onPage w f).pins = s.pins := rfl
@[simp] theorem State.onPage_svc (w : Nat) (f : CPage → CPage) : (s.onPage w f).svc = s.svc := rfl
@[simp] theorem State.onPage_windows (w : Nat) (f : CPage → CPage) : (s.onPage w f).windows = s.windows := rfl
@[simp] theorem State.onPage_mgr (w : Nat) (f : CPage → CPage) : (s.onPage w f).mgr = s.mgr := rfl
@[simp] theorem State.onPage_insts (w : Nat) (f : CPage → CPage) : (s.onPage w f).insts = s.insts := rfl
@[simp] theorem State.onPage_log (w : Nat) (f : CPage → CPage) : (s.onPage w f).log = s.log := rfl
@[simp] theorem State.onPage_fw (w : Nat) (f : CPage → CPage) : (s.onPage w f).fw = s.fw := rfl
@[simp] theorem State.onPage_fuses (w : Nat) (f : CPage → CPage) : (s.onPage w f).fuses = s.fuses := rfl
@[simp] theorem State.onPage_cores (w : Nat) (f : CPage → CPage) : (s.onPage w f).cores = s.cores := rfl
@[simp] theorem State.onPage_pcores (w : Nat) (f : CPage → CPage) : (s.onPage w f).pcores = s.pcores := rfl
@[simp] theorem State.onPage_ctxs (w : Nat) (f : CPage → CPage) : (s.onPage w f).ctxs = s.ctxs := rfl
@[simp] theorem State.onPage_ms (w : Nat) (f : CPage → CPage) : (s.onPage w f).ms = s.ms := rfl
@[simp] theorem State.onPage_linkLost (w : Nat) (f : CPage → CPage) : (s.onPage w f).linkLost = s.linkLost := rfl
@[simp] theorem State.onPage_devStores (w : Nat) (f : CPage → CPage) : (s.onPage w f).devStores = s.devStores := rfl
@[simp] theorem State.onPage_subchs (w : Nat) (f : CPage → CPage) : (s.onPage w f).subchs = s.subchs := rfl
@[simp] theorem State.onPage_incarns (w : Nat) (f : CPage → CPage) : (s.onPage w f).incarns = s.incarns := rfl
@[simp] theorem State.onPage_incarnBase (w : Nat) (f : CPage → CPage) : (s.onPage w f).incarnBase = s.incarnBase := rfl
@[simp] theorem State.onPage_indoubt (w : Nat) (f : CPage → CPage) : (s.onPage w f).indoubt = s.indoubt := rfl
@[simp] theorem State.onPage_doubts (w : Nat) (f : CPage → CPage) : (s.onPage w f).doubts = s.doubts := rfl
@[simp] theorem State.onPage_ioports (w : Nat) (f : CPage → CPage) : (s.onPage w f).ioports = s.ioports := rfl
@[simp] theorem State.onPage_routes (w : Nat) (f : CPage → CPage) : (s.onPage w f).routes = s.routes := rfl
@[simp] theorem State.onPage_engines (w : Nat) (f : CPage → CPage) : (s.onPage w f).engines = s.engines := rfl
@[simp] theorem State.onPage_claims (w : Nat) (f : CPage → CPage) : (s.onPage w f).claims = s.claims := rfl
@[simp] theorem State.onPage_wire (w : Nat) (f : CPage → CPage) : (s.onPage w f).wire = s.wire := rfl
@[simp] theorem State.onPage_rings (w : Nat) (f : CPage → CPage) : (s.onPage w f).rings = s.rings := rfl
@[simp] theorem State.onPage_bcus (w : Nat) (f : CPage → CPage) : (s.onPage w f).bcus = s.bcus := rfl
@[simp] theorem State.onPage_dfus (w : Nat) (f : CPage → CPage) : (s.onPage w f).dfus = s.dfus := rfl
@[simp] theorem State.onPage_bcuArb (w : Nat) (f : CPage → CPage) : (s.onPage w f).bcuArb = s.bcuArb := rfl
@[simp] theorem State.onPage_dfuArb (w : Nat) (f : CPage → CPage) : (s.onPage w f).dfuArb = s.dfuArb := rfl
@[simp] theorem State.onPage_bcuPool (w : Nat) (f : CPage → CPage) : (s.onPage w f).bcuPool = s.bcuPool := rfl
@[simp] theorem State.onPage_dfuPool (w : Nat) (f : CPage → CPage) : (s.onPage w f).dfuPool = s.dfuPool := rfl
@[simp] theorem State.onPage_dicts (w : Nat) (f : CPage → CPage) : (s.onPage w f).dicts = s.dicts := rfl
@[simp] theorem State.onPage_encls (w : Nat) (f : CPage → CPage) : (s.onPage w f).encls = s.encls := rfl
@[simp] theorem State.onPage_emap (w : Nat) (f : CPage → CPage) : (s.onPage w f).emap = s.emap := rfl
@[simp] theorem State.onPage_relay (w : Nat) (f : CPage → CPage) : (s.onPage w f).relay = s.relay := rfl
@[simp] theorem State.onPage_decode (w : Nat) (f : CPage → CPage) : (s.onPage w f).decode = s.decode := rfl
@[simp] theorem State.onPage_dbgNi (w : Nat) (f : CPage → CPage) : (s.onPage w f).dbgNi = s.dbgNi := rfl
@[simp] theorem State.onPage_dbgInv (w : Nat) (f : CPage → CPage) : (s.onPage w f).dbgInv = s.dbgInv := rfl
@[simp] theorem State.onPage_dbgEni (w : Nat) (f : CPage → CPage) : (s.onPage w f).dbgEni = s.dbgEni := rfl
@[simp] theorem State.onPage_dbgEinv (w : Nat) (f : CPage → CPage) : (s.onPage w f).dbgEinv = s.dbgEinv := rfl
@[simp] theorem State.onPage_deferred (w : Nat) (f : CPage → CPage) : (s.onPage w f).deferred = s.deferred := rfl
@[simp] theorem State.onPage_posts (w : Nat) (f : CPage → CPage) : (s.onPage w f).posts = s.posts := rfl
@[simp] theorem State.onPage_creations (w : Nat) (f : CPage → CPage) : (s.onPage w f).creations = s.creations := rfl
@[simp] theorem State.onPage_outcomes (w : Nat) (f : CPage → CPage) : (s.onPage w f).outcomes = s.outcomes := rfl
@[simp] theorem State.onPage_kept (w : Nat) (f : CPage → CPage) : (s.onPage w f).kept = s.kept := rfl
@[simp] theorem State.onPage_fresh (w : Nat) (f : CPage → CPage) : (s.onPage w f).fresh = s.fresh := rfl
@[simp] theorem State.onPage_console (w : Nat) (f : CPage → CPage) : (s.onPage w f).console = s.console := rfl
@[simp] theorem State.onPage_recSp (w : Nat) (f : CPage → CPage) : (s.onPage w f).recSp = s.recSp := rfl
@[simp] theorem State.onPage_freeCtr (w : Nat) (f : CPage → CPage) : (s.onPage w f).freeCtr = s.freeCtr := rfl
@[simp] theorem State.onPage_pending (w : Nat) (f : CPage → CPage) : (s.onPage w f).pending = s.pending := rfl

/-! ### onBcu -/

@[simp] theorem State.onBcu_phase (w : Nat) (f : Unit → Unit) : (s.onBcu w f).phase = s.phase := rfl
@[simp] theorem State.onBcu_clock (w : Nat) (f : Unit → Unit) : (s.onBcu w f).clock = s.clock := rfl
@[simp] theorem State.onBcu_pins (w : Nat) (f : Unit → Unit) : (s.onBcu w f).pins = s.pins := rfl
@[simp] theorem State.onBcu_svc (w : Nat) (f : Unit → Unit) : (s.onBcu w f).svc = s.svc := rfl
@[simp] theorem State.onBcu_windows (w : Nat) (f : Unit → Unit) : (s.onBcu w f).windows = s.windows := rfl
@[simp] theorem State.onBcu_mgr (w : Nat) (f : Unit → Unit) : (s.onBcu w f).mgr = s.mgr := rfl
@[simp] theorem State.onBcu_insts (w : Nat) (f : Unit → Unit) : (s.onBcu w f).insts = s.insts := rfl
@[simp] theorem State.onBcu_log (w : Nat) (f : Unit → Unit) : (s.onBcu w f).log = s.log := rfl
@[simp] theorem State.onBcu_fw (w : Nat) (f : Unit → Unit) : (s.onBcu w f).fw = s.fw := rfl
@[simp] theorem State.onBcu_fuses (w : Nat) (f : Unit → Unit) : (s.onBcu w f).fuses = s.fuses := rfl
@[simp] theorem State.onBcu_cores (w : Nat) (f : Unit → Unit) : (s.onBcu w f).cores = s.cores := rfl
@[simp] theorem State.onBcu_pcores (w : Nat) (f : Unit → Unit) : (s.onBcu w f).pcores = s.pcores := rfl
@[simp] theorem State.onBcu_ctxs (w : Nat) (f : Unit → Unit) : (s.onBcu w f).ctxs = s.ctxs := rfl
@[simp] theorem State.onBcu_ms (w : Nat) (f : Unit → Unit) : (s.onBcu w f).ms = s.ms := rfl
@[simp] theorem State.onBcu_linkLost (w : Nat) (f : Unit → Unit) : (s.onBcu w f).linkLost = s.linkLost := rfl
@[simp] theorem State.onBcu_devStores (w : Nat) (f : Unit → Unit) : (s.onBcu w f).devStores = s.devStores := rfl
@[simp] theorem State.onBcu_subchs (w : Nat) (f : Unit → Unit) : (s.onBcu w f).subchs = s.subchs := rfl
@[simp] theorem State.onBcu_incarns (w : Nat) (f : Unit → Unit) : (s.onBcu w f).incarns = s.incarns := rfl
@[simp] theorem State.onBcu_incarnBase (w : Nat) (f : Unit → Unit) : (s.onBcu w f).incarnBase = s.incarnBase := rfl
@[simp] theorem State.onBcu_indoubt (w : Nat) (f : Unit → Unit) : (s.onBcu w f).indoubt = s.indoubt := rfl
@[simp] theorem State.onBcu_doubts (w : Nat) (f : Unit → Unit) : (s.onBcu w f).doubts = s.doubts := rfl
@[simp] theorem State.onBcu_ioports (w : Nat) (f : Unit → Unit) : (s.onBcu w f).ioports = s.ioports := rfl
@[simp] theorem State.onBcu_routes (w : Nat) (f : Unit → Unit) : (s.onBcu w f).routes = s.routes := rfl
@[simp] theorem State.onBcu_engines (w : Nat) (f : Unit → Unit) : (s.onBcu w f).engines = s.engines := rfl
@[simp] theorem State.onBcu_claims (w : Nat) (f : Unit → Unit) : (s.onBcu w f).claims = s.claims := rfl
@[simp] theorem State.onBcu_wire (w : Nat) (f : Unit → Unit) : (s.onBcu w f).wire = s.wire := rfl
@[simp] theorem State.onBcu_rings (w : Nat) (f : Unit → Unit) : (s.onBcu w f).rings = s.rings := rfl
@[simp] theorem State.onBcu_dfus (w : Nat) (f : Unit → Unit) : (s.onBcu w f).dfus = s.dfus := rfl
@[simp] theorem State.onBcu_bcuArb (w : Nat) (f : Unit → Unit) : (s.onBcu w f).bcuArb = s.bcuArb := rfl
@[simp] theorem State.onBcu_dfuArb (w : Nat) (f : Unit → Unit) : (s.onBcu w f).dfuArb = s.dfuArb := rfl
@[simp] theorem State.onBcu_bcuPool (w : Nat) (f : Unit → Unit) : (s.onBcu w f).bcuPool = s.bcuPool := rfl
@[simp] theorem State.onBcu_dfuPool (w : Nat) (f : Unit → Unit) : (s.onBcu w f).dfuPool = s.dfuPool := rfl
@[simp] theorem State.onBcu_pages (w : Nat) (f : Unit → Unit) : (s.onBcu w f).pages = s.pages := rfl
@[simp] theorem State.onBcu_dicts (w : Nat) (f : Unit → Unit) : (s.onBcu w f).dicts = s.dicts := rfl
@[simp] theorem State.onBcu_encls (w : Nat) (f : Unit → Unit) : (s.onBcu w f).encls = s.encls := rfl
@[simp] theorem State.onBcu_emap (w : Nat) (f : Unit → Unit) : (s.onBcu w f).emap = s.emap := rfl
@[simp] theorem State.onBcu_relay (w : Nat) (f : Unit → Unit) : (s.onBcu w f).relay = s.relay := rfl
@[simp] theorem State.onBcu_decode (w : Nat) (f : Unit → Unit) : (s.onBcu w f).decode = s.decode := rfl
@[simp] theorem State.onBcu_dbgNi (w : Nat) (f : Unit → Unit) : (s.onBcu w f).dbgNi = s.dbgNi := rfl
@[simp] theorem State.onBcu_dbgInv (w : Nat) (f : Unit → Unit) : (s.onBcu w f).dbgInv = s.dbgInv := rfl
@[simp] theorem State.onBcu_dbgEni (w : Nat) (f : Unit → Unit) : (s.onBcu w f).dbgEni = s.dbgEni := rfl
@[simp] theorem State.onBcu_dbgEinv (w : Nat) (f : Unit → Unit) : (s.onBcu w f).dbgEinv = s.dbgEinv := rfl
@[simp] theorem State.onBcu_deferred (w : Nat) (f : Unit → Unit) : (s.onBcu w f).deferred = s.deferred := rfl
@[simp] theorem State.onBcu_posts (w : Nat) (f : Unit → Unit) : (s.onBcu w f).posts = s.posts := rfl
@[simp] theorem State.onBcu_creations (w : Nat) (f : Unit → Unit) : (s.onBcu w f).creations = s.creations := rfl
@[simp] theorem State.onBcu_outcomes (w : Nat) (f : Unit → Unit) : (s.onBcu w f).outcomes = s.outcomes := rfl
@[simp] theorem State.onBcu_kept (w : Nat) (f : Unit → Unit) : (s.onBcu w f).kept = s.kept := rfl
@[simp] theorem State.onBcu_fresh (w : Nat) (f : Unit → Unit) : (s.onBcu w f).fresh = s.fresh := rfl
@[simp] theorem State.onBcu_console (w : Nat) (f : Unit → Unit) : (s.onBcu w f).console = s.console := rfl
@[simp] theorem State.onBcu_recSp (w : Nat) (f : Unit → Unit) : (s.onBcu w f).recSp = s.recSp := rfl
@[simp] theorem State.onBcu_freeCtr (w : Nat) (f : Unit → Unit) : (s.onBcu w f).freeCtr = s.freeCtr := rfl
@[simp] theorem State.onBcu_pending (w : Nat) (f : Unit → Unit) : (s.onBcu w f).pending = s.pending := rfl

/-! ### onDfu -/

@[simp] theorem State.onDfu_phase (w : Nat) (f : Unit → Unit) : (s.onDfu w f).phase = s.phase := rfl
@[simp] theorem State.onDfu_clock (w : Nat) (f : Unit → Unit) : (s.onDfu w f).clock = s.clock := rfl
@[simp] theorem State.onDfu_pins (w : Nat) (f : Unit → Unit) : (s.onDfu w f).pins = s.pins := rfl
@[simp] theorem State.onDfu_svc (w : Nat) (f : Unit → Unit) : (s.onDfu w f).svc = s.svc := rfl
@[simp] theorem State.onDfu_windows (w : Nat) (f : Unit → Unit) : (s.onDfu w f).windows = s.windows := rfl
@[simp] theorem State.onDfu_mgr (w : Nat) (f : Unit → Unit) : (s.onDfu w f).mgr = s.mgr := rfl
@[simp] theorem State.onDfu_insts (w : Nat) (f : Unit → Unit) : (s.onDfu w f).insts = s.insts := rfl
@[simp] theorem State.onDfu_log (w : Nat) (f : Unit → Unit) : (s.onDfu w f).log = s.log := rfl
@[simp] theorem State.onDfu_fw (w : Nat) (f : Unit → Unit) : (s.onDfu w f).fw = s.fw := rfl
@[simp] theorem State.onDfu_fuses (w : Nat) (f : Unit → Unit) : (s.onDfu w f).fuses = s.fuses := rfl
@[simp] theorem State.onDfu_cores (w : Nat) (f : Unit → Unit) : (s.onDfu w f).cores = s.cores := rfl
@[simp] theorem State.onDfu_pcores (w : Nat) (f : Unit → Unit) : (s.onDfu w f).pcores = s.pcores := rfl
@[simp] theorem State.onDfu_ctxs (w : Nat) (f : Unit → Unit) : (s.onDfu w f).ctxs = s.ctxs := rfl
@[simp] theorem State.onDfu_ms (w : Nat) (f : Unit → Unit) : (s.onDfu w f).ms = s.ms := rfl
@[simp] theorem State.onDfu_linkLost (w : Nat) (f : Unit → Unit) : (s.onDfu w f).linkLost = s.linkLost := rfl
@[simp] theorem State.onDfu_devStores (w : Nat) (f : Unit → Unit) : (s.onDfu w f).devStores = s.devStores := rfl
@[simp] theorem State.onDfu_subchs (w : Nat) (f : Unit → Unit) : (s.onDfu w f).subchs = s.subchs := rfl
@[simp] theorem State.onDfu_incarns (w : Nat) (f : Unit → Unit) : (s.onDfu w f).incarns = s.incarns := rfl
@[simp] theorem State.onDfu_incarnBase (w : Nat) (f : Unit → Unit) : (s.onDfu w f).incarnBase = s.incarnBase := rfl
@[simp] theorem State.onDfu_indoubt (w : Nat) (f : Unit → Unit) : (s.onDfu w f).indoubt = s.indoubt := rfl
@[simp] theorem State.onDfu_doubts (w : Nat) (f : Unit → Unit) : (s.onDfu w f).doubts = s.doubts := rfl
@[simp] theorem State.onDfu_ioports (w : Nat) (f : Unit → Unit) : (s.onDfu w f).ioports = s.ioports := rfl
@[simp] theorem State.onDfu_routes (w : Nat) (f : Unit → Unit) : (s.onDfu w f).routes = s.routes := rfl
@[simp] theorem State.onDfu_engines (w : Nat) (f : Unit → Unit) : (s.onDfu w f).engines = s.engines := rfl
@[simp] theorem State.onDfu_claims (w : Nat) (f : Unit → Unit) : (s.onDfu w f).claims = s.claims := rfl
@[simp] theorem State.onDfu_wire (w : Nat) (f : Unit → Unit) : (s.onDfu w f).wire = s.wire := rfl
@[simp] theorem State.onDfu_rings (w : Nat) (f : Unit → Unit) : (s.onDfu w f).rings = s.rings := rfl
@[simp] theorem State.onDfu_bcus (w : Nat) (f : Unit → Unit) : (s.onDfu w f).bcus = s.bcus := rfl
@[simp] theorem State.onDfu_bcuArb (w : Nat) (f : Unit → Unit) : (s.onDfu w f).bcuArb = s.bcuArb := rfl
@[simp] theorem State.onDfu_dfuArb (w : Nat) (f : Unit → Unit) : (s.onDfu w f).dfuArb = s.dfuArb := rfl
@[simp] theorem State.onDfu_bcuPool (w : Nat) (f : Unit → Unit) : (s.onDfu w f).bcuPool = s.bcuPool := rfl
@[simp] theorem State.onDfu_dfuPool (w : Nat) (f : Unit → Unit) : (s.onDfu w f).dfuPool = s.dfuPool := rfl
@[simp] theorem State.onDfu_pages (w : Nat) (f : Unit → Unit) : (s.onDfu w f).pages = s.pages := rfl
@[simp] theorem State.onDfu_dicts (w : Nat) (f : Unit → Unit) : (s.onDfu w f).dicts = s.dicts := rfl
@[simp] theorem State.onDfu_encls (w : Nat) (f : Unit → Unit) : (s.onDfu w f).encls = s.encls := rfl
@[simp] theorem State.onDfu_emap (w : Nat) (f : Unit → Unit) : (s.onDfu w f).emap = s.emap := rfl
@[simp] theorem State.onDfu_relay (w : Nat) (f : Unit → Unit) : (s.onDfu w f).relay = s.relay := rfl
@[simp] theorem State.onDfu_decode (w : Nat) (f : Unit → Unit) : (s.onDfu w f).decode = s.decode := rfl
@[simp] theorem State.onDfu_dbgNi (w : Nat) (f : Unit → Unit) : (s.onDfu w f).dbgNi = s.dbgNi := rfl
@[simp] theorem State.onDfu_dbgInv (w : Nat) (f : Unit → Unit) : (s.onDfu w f).dbgInv = s.dbgInv := rfl
@[simp] theorem State.onDfu_dbgEni (w : Nat) (f : Unit → Unit) : (s.onDfu w f).dbgEni = s.dbgEni := rfl
@[simp] theorem State.onDfu_dbgEinv (w : Nat) (f : Unit → Unit) : (s.onDfu w f).dbgEinv = s.dbgEinv := rfl
@[simp] theorem State.onDfu_deferred (w : Nat) (f : Unit → Unit) : (s.onDfu w f).deferred = s.deferred := rfl
@[simp] theorem State.onDfu_posts (w : Nat) (f : Unit → Unit) : (s.onDfu w f).posts = s.posts := rfl
@[simp] theorem State.onDfu_creations (w : Nat) (f : Unit → Unit) : (s.onDfu w f).creations = s.creations := rfl
@[simp] theorem State.onDfu_outcomes (w : Nat) (f : Unit → Unit) : (s.onDfu w f).outcomes = s.outcomes := rfl
@[simp] theorem State.onDfu_kept (w : Nat) (f : Unit → Unit) : (s.onDfu w f).kept = s.kept := rfl
@[simp] theorem State.onDfu_fresh (w : Nat) (f : Unit → Unit) : (s.onDfu w f).fresh = s.fresh := rfl
@[simp] theorem State.onDfu_console (w : Nat) (f : Unit → Unit) : (s.onDfu w f).console = s.console := rfl
@[simp] theorem State.onDfu_recSp (w : Nat) (f : Unit → Unit) : (s.onDfu w f).recSp = s.recSp := rfl
@[simp] theorem State.onDfu_freeCtr (w : Nat) (f : Unit → Unit) : (s.onDfu w f).freeCtr = s.freeCtr := rfl
@[simp] theorem State.onDfu_pending (w : Nat) (f : Unit → Unit) : (s.onDfu w f).pending = s.pending := rfl

/-! ### onPort -/

@[simp] theorem State.onPort_phase (w : Nat) (f : CxlPort → CxlPort) : (s.onPort w f).phase = s.phase := rfl
@[simp] theorem State.onPort_clock (w : Nat) (f : CxlPort → CxlPort) : (s.onPort w f).clock = s.clock := rfl
@[simp] theorem State.onPort_pins (w : Nat) (f : CxlPort → CxlPort) : (s.onPort w f).pins = s.pins := rfl
@[simp] theorem State.onPort_svc (w : Nat) (f : CxlPort → CxlPort) : (s.onPort w f).svc = s.svc := rfl
@[simp] theorem State.onPort_windows (w : Nat) (f : CxlPort → CxlPort) : (s.onPort w f).windows = s.windows := rfl
@[simp] theorem State.onPort_mgr (w : Nat) (f : CxlPort → CxlPort) : (s.onPort w f).mgr = s.mgr := rfl
@[simp] theorem State.onPort_insts (w : Nat) (f : CxlPort → CxlPort) : (s.onPort w f).insts = s.insts := rfl
@[simp] theorem State.onPort_log (w : Nat) (f : CxlPort → CxlPort) : (s.onPort w f).log = s.log := rfl
@[simp] theorem State.onPort_fw (w : Nat) (f : CxlPort → CxlPort) : (s.onPort w f).fw = s.fw := rfl
@[simp] theorem State.onPort_fuses (w : Nat) (f : CxlPort → CxlPort) : (s.onPort w f).fuses = s.fuses := rfl
@[simp] theorem State.onPort_cores (w : Nat) (f : CxlPort → CxlPort) : (s.onPort w f).cores = s.cores := rfl
@[simp] theorem State.onPort_pcores (w : Nat) (f : CxlPort → CxlPort) : (s.onPort w f).pcores = s.pcores := rfl
@[simp] theorem State.onPort_ctxs (w : Nat) (f : CxlPort → CxlPort) : (s.onPort w f).ctxs = s.ctxs := rfl
@[simp] theorem State.onPort_linkLost (w : Nat) (f : CxlPort → CxlPort) : (s.onPort w f).linkLost = s.linkLost := rfl
@[simp] theorem State.onPort_devStores (w : Nat) (f : CxlPort → CxlPort) : (s.onPort w f).devStores = s.devStores := rfl
@[simp] theorem State.onPort_subchs (w : Nat) (f : CxlPort → CxlPort) : (s.onPort w f).subchs = s.subchs := rfl
@[simp] theorem State.onPort_incarns (w : Nat) (f : CxlPort → CxlPort) : (s.onPort w f).incarns = s.incarns := rfl
@[simp] theorem State.onPort_incarnBase (w : Nat) (f : CxlPort → CxlPort) : (s.onPort w f).incarnBase = s.incarnBase := rfl
@[simp] theorem State.onPort_indoubt (w : Nat) (f : CxlPort → CxlPort) : (s.onPort w f).indoubt = s.indoubt := rfl
@[simp] theorem State.onPort_doubts (w : Nat) (f : CxlPort → CxlPort) : (s.onPort w f).doubts = s.doubts := rfl
@[simp] theorem State.onPort_ioports (w : Nat) (f : CxlPort → CxlPort) : (s.onPort w f).ioports = s.ioports := rfl
@[simp] theorem State.onPort_routes (w : Nat) (f : CxlPort → CxlPort) : (s.onPort w f).routes = s.routes := rfl
@[simp] theorem State.onPort_engines (w : Nat) (f : CxlPort → CxlPort) : (s.onPort w f).engines = s.engines := rfl
@[simp] theorem State.onPort_claims (w : Nat) (f : CxlPort → CxlPort) : (s.onPort w f).claims = s.claims := rfl
@[simp] theorem State.onPort_wire (w : Nat) (f : CxlPort → CxlPort) : (s.onPort w f).wire = s.wire := rfl
@[simp] theorem State.onPort_rings (w : Nat) (f : CxlPort → CxlPort) : (s.onPort w f).rings = s.rings := rfl
@[simp] theorem State.onPort_bcus (w : Nat) (f : CxlPort → CxlPort) : (s.onPort w f).bcus = s.bcus := rfl
@[simp] theorem State.onPort_dfus (w : Nat) (f : CxlPort → CxlPort) : (s.onPort w f).dfus = s.dfus := rfl
@[simp] theorem State.onPort_bcuArb (w : Nat) (f : CxlPort → CxlPort) : (s.onPort w f).bcuArb = s.bcuArb := rfl
@[simp] theorem State.onPort_dfuArb (w : Nat) (f : CxlPort → CxlPort) : (s.onPort w f).dfuArb = s.dfuArb := rfl
@[simp] theorem State.onPort_bcuPool (w : Nat) (f : CxlPort → CxlPort) : (s.onPort w f).bcuPool = s.bcuPool := rfl
@[simp] theorem State.onPort_dfuPool (w : Nat) (f : CxlPort → CxlPort) : (s.onPort w f).dfuPool = s.dfuPool := rfl
@[simp] theorem State.onPort_pages (w : Nat) (f : CxlPort → CxlPort) : (s.onPort w f).pages = s.pages := rfl
@[simp] theorem State.onPort_dicts (w : Nat) (f : CxlPort → CxlPort) : (s.onPort w f).dicts = s.dicts := rfl
@[simp] theorem State.onPort_encls (w : Nat) (f : CxlPort → CxlPort) : (s.onPort w f).encls = s.encls := rfl
@[simp] theorem State.onPort_emap (w : Nat) (f : CxlPort → CxlPort) : (s.onPort w f).emap = s.emap := rfl
@[simp] theorem State.onPort_relay (w : Nat) (f : CxlPort → CxlPort) : (s.onPort w f).relay = s.relay := rfl
@[simp] theorem State.onPort_decode (w : Nat) (f : CxlPort → CxlPort) : (s.onPort w f).decode = s.decode := rfl
@[simp] theorem State.onPort_dbgNi (w : Nat) (f : CxlPort → CxlPort) : (s.onPort w f).dbgNi = s.dbgNi := rfl
@[simp] theorem State.onPort_dbgInv (w : Nat) (f : CxlPort → CxlPort) : (s.onPort w f).dbgInv = s.dbgInv := rfl
@[simp] theorem State.onPort_dbgEni (w : Nat) (f : CxlPort → CxlPort) : (s.onPort w f).dbgEni = s.dbgEni := rfl
@[simp] theorem State.onPort_dbgEinv (w : Nat) (f : CxlPort → CxlPort) : (s.onPort w f).dbgEinv = s.dbgEinv := rfl
@[simp] theorem State.onPort_deferred (w : Nat) (f : CxlPort → CxlPort) : (s.onPort w f).deferred = s.deferred := rfl
@[simp] theorem State.onPort_posts (w : Nat) (f : CxlPort → CxlPort) : (s.onPort w f).posts = s.posts := rfl
@[simp] theorem State.onPort_creations (w : Nat) (f : CxlPort → CxlPort) : (s.onPort w f).creations = s.creations := rfl
@[simp] theorem State.onPort_outcomes (w : Nat) (f : CxlPort → CxlPort) : (s.onPort w f).outcomes = s.outcomes := rfl
@[simp] theorem State.onPort_kept (w : Nat) (f : CxlPort → CxlPort) : (s.onPort w f).kept = s.kept := rfl
@[simp] theorem State.onPort_fresh (w : Nat) (f : CxlPort → CxlPort) : (s.onPort w f).fresh = s.fresh := rfl
@[simp] theorem State.onPort_console (w : Nat) (f : CxlPort → CxlPort) : (s.onPort w f).console = s.console := rfl
@[simp] theorem State.onPort_recSp (w : Nat) (f : CxlPort → CxlPort) : (s.onPort w f).recSp = s.recSp := rfl
@[simp] theorem State.onPort_freeCtr (w : Nat) (f : CxlPort → CxlPort) : (s.onPort w f).freeCtr = s.freeCtr := rfl
@[simp] theorem State.onPort_pending (w : Nat) (f : CxlPort → CxlPort) : (s.onPort w f).pending = s.pending := rfl

/-! ### onRport -/

@[simp] theorem State.onRport_phase (w : Nat) (f : RPort → RPort) : (s.onRport w f).phase = s.phase := rfl
@[simp] theorem State.onRport_clock (w : Nat) (f : RPort → RPort) : (s.onRport w f).clock = s.clock := rfl
@[simp] theorem State.onRport_pins (w : Nat) (f : RPort → RPort) : (s.onRport w f).pins = s.pins := rfl
@[simp] theorem State.onRport_svc (w : Nat) (f : RPort → RPort) : (s.onRport w f).svc = s.svc := rfl
@[simp] theorem State.onRport_windows (w : Nat) (f : RPort → RPort) : (s.onRport w f).windows = s.windows := rfl
@[simp] theorem State.onRport_mgr (w : Nat) (f : RPort → RPort) : (s.onRport w f).mgr = s.mgr := rfl
@[simp] theorem State.onRport_insts (w : Nat) (f : RPort → RPort) : (s.onRport w f).insts = s.insts := rfl
@[simp] theorem State.onRport_log (w : Nat) (f : RPort → RPort) : (s.onRport w f).log = s.log := rfl
@[simp] theorem State.onRport_fw (w : Nat) (f : RPort → RPort) : (s.onRport w f).fw = s.fw := rfl
@[simp] theorem State.onRport_fuses (w : Nat) (f : RPort → RPort) : (s.onRport w f).fuses = s.fuses := rfl
@[simp] theorem State.onRport_cores (w : Nat) (f : RPort → RPort) : (s.onRport w f).cores = s.cores := rfl
@[simp] theorem State.onRport_pcores (w : Nat) (f : RPort → RPort) : (s.onRport w f).pcores = s.pcores := rfl
@[simp] theorem State.onRport_ctxs (w : Nat) (f : RPort → RPort) : (s.onRport w f).ctxs = s.ctxs := rfl
@[simp] theorem State.onRport_ms (w : Nat) (f : RPort → RPort) : (s.onRport w f).ms = s.ms := rfl
@[simp] theorem State.onRport_linkLost (w : Nat) (f : RPort → RPort) : (s.onRport w f).linkLost = s.linkLost := rfl
@[simp] theorem State.onRport_devStores (w : Nat) (f : RPort → RPort) : (s.onRport w f).devStores = s.devStores := rfl
@[simp] theorem State.onRport_subchs (w : Nat) (f : RPort → RPort) : (s.onRport w f).subchs = s.subchs := rfl
@[simp] theorem State.onRport_incarns (w : Nat) (f : RPort → RPort) : (s.onRport w f).incarns = s.incarns := rfl
@[simp] theorem State.onRport_incarnBase (w : Nat) (f : RPort → RPort) : (s.onRport w f).incarnBase = s.incarnBase := rfl
@[simp] theorem State.onRport_indoubt (w : Nat) (f : RPort → RPort) : (s.onRport w f).indoubt = s.indoubt := rfl
@[simp] theorem State.onRport_doubts (w : Nat) (f : RPort → RPort) : (s.onRport w f).doubts = s.doubts := rfl
@[simp] theorem State.onRport_ioports (w : Nat) (f : RPort → RPort) : (s.onRport w f).ioports = s.ioports := rfl
@[simp] theorem State.onRport_routes (w : Nat) (f : RPort → RPort) : (s.onRport w f).routes = s.routes := rfl
@[simp] theorem State.onRport_engines (w : Nat) (f : RPort → RPort) : (s.onRport w f).engines = s.engines := rfl
@[simp] theorem State.onRport_claims (w : Nat) (f : RPort → RPort) : (s.onRport w f).claims = s.claims := rfl
@[simp] theorem State.onRport_wire (w : Nat) (f : RPort → RPort) : (s.onRport w f).wire = s.wire := rfl
@[simp] theorem State.onRport_rings (w : Nat) (f : RPort → RPort) : (s.onRport w f).rings = s.rings := rfl
@[simp] theorem State.onRport_bcus (w : Nat) (f : RPort → RPort) : (s.onRport w f).bcus = s.bcus := rfl
@[simp] theorem State.onRport_dfus (w : Nat) (f : RPort → RPort) : (s.onRport w f).dfus = s.dfus := rfl
@[simp] theorem State.onRport_bcuArb (w : Nat) (f : RPort → RPort) : (s.onRport w f).bcuArb = s.bcuArb := rfl
@[simp] theorem State.onRport_dfuArb (w : Nat) (f : RPort → RPort) : (s.onRport w f).dfuArb = s.dfuArb := rfl
@[simp] theorem State.onRport_bcuPool (w : Nat) (f : RPort → RPort) : (s.onRport w f).bcuPool = s.bcuPool := rfl
@[simp] theorem State.onRport_dfuPool (w : Nat) (f : RPort → RPort) : (s.onRport w f).dfuPool = s.dfuPool := rfl
@[simp] theorem State.onRport_pages (w : Nat) (f : RPort → RPort) : (s.onRport w f).pages = s.pages := rfl
@[simp] theorem State.onRport_dicts (w : Nat) (f : RPort → RPort) : (s.onRport w f).dicts = s.dicts := rfl
@[simp] theorem State.onRport_encls (w : Nat) (f : RPort → RPort) : (s.onRport w f).encls = s.encls := rfl
@[simp] theorem State.onRport_emap (w : Nat) (f : RPort → RPort) : (s.onRport w f).emap = s.emap := rfl
@[simp] theorem State.onRport_decode (w : Nat) (f : RPort → RPort) : (s.onRport w f).decode = s.decode := rfl
@[simp] theorem State.onRport_dbgNi (w : Nat) (f : RPort → RPort) : (s.onRport w f).dbgNi = s.dbgNi := rfl
@[simp] theorem State.onRport_dbgInv (w : Nat) (f : RPort → RPort) : (s.onRport w f).dbgInv = s.dbgInv := rfl
@[simp] theorem State.onRport_dbgEni (w : Nat) (f : RPort → RPort) : (s.onRport w f).dbgEni = s.dbgEni := rfl
@[simp] theorem State.onRport_dbgEinv (w : Nat) (f : RPort → RPort) : (s.onRport w f).dbgEinv = s.dbgEinv := rfl
@[simp] theorem State.onRport_deferred (w : Nat) (f : RPort → RPort) : (s.onRport w f).deferred = s.deferred := rfl
@[simp] theorem State.onRport_posts (w : Nat) (f : RPort → RPort) : (s.onRport w f).posts = s.posts := rfl
@[simp] theorem State.onRport_creations (w : Nat) (f : RPort → RPort) : (s.onRport w f).creations = s.creations := rfl
@[simp] theorem State.onRport_outcomes (w : Nat) (f : RPort → RPort) : (s.onRport w f).outcomes = s.outcomes := rfl
@[simp] theorem State.onRport_kept (w : Nat) (f : RPort → RPort) : (s.onRport w f).kept = s.kept := rfl
@[simp] theorem State.onRport_fresh (w : Nat) (f : RPort → RPort) : (s.onRport w f).fresh = s.fresh := rfl
@[simp] theorem State.onRport_console (w : Nat) (f : RPort → RPort) : (s.onRport w f).console = s.console := rfl
@[simp] theorem State.onRport_recSp (w : Nat) (f : RPort → RPort) : (s.onRport w f).recSp = s.recSp := rfl
@[simp] theorem State.onRport_freeCtr (w : Nat) (f : RPort → RPort) : (s.onRport w f).freeCtr = s.freeCtr := rfl
@[simp] theorem State.onRport_pending (w : Nat) (f : RPort → RPort) : (s.onRport w f).pending = s.pending := rfl

/-! ### onLlt -/

@[simp] theorem State.onLlt_phase (w : Nat) (f : Llt → Llt) : (s.onLlt w f).phase = s.phase := rfl
@[simp] theorem State.onLlt_clock (w : Nat) (f : Llt → Llt) : (s.onLlt w f).clock = s.clock := rfl
@[simp] theorem State.onLlt_pins (w : Nat) (f : Llt → Llt) : (s.onLlt w f).pins = s.pins := rfl
@[simp] theorem State.onLlt_svc (w : Nat) (f : Llt → Llt) : (s.onLlt w f).svc = s.svc := rfl
@[simp] theorem State.onLlt_windows (w : Nat) (f : Llt → Llt) : (s.onLlt w f).windows = s.windows := rfl
@[simp] theorem State.onLlt_mgr (w : Nat) (f : Llt → Llt) : (s.onLlt w f).mgr = s.mgr := rfl
@[simp] theorem State.onLlt_insts (w : Nat) (f : Llt → Llt) : (s.onLlt w f).insts = s.insts := rfl
@[simp] theorem State.onLlt_log (w : Nat) (f : Llt → Llt) : (s.onLlt w f).log = s.log := rfl
@[simp] theorem State.onLlt_fw (w : Nat) (f : Llt → Llt) : (s.onLlt w f).fw = s.fw := rfl
@[simp] theorem State.onLlt_fuses (w : Nat) (f : Llt → Llt) : (s.onLlt w f).fuses = s.fuses := rfl
@[simp] theorem State.onLlt_cores (w : Nat) (f : Llt → Llt) : (s.onLlt w f).cores = s.cores := rfl
@[simp] theorem State.onLlt_pcores (w : Nat) (f : Llt → Llt) : (s.onLlt w f).pcores = s.pcores := rfl
@[simp] theorem State.onLlt_ctxs (w : Nat) (f : Llt → Llt) : (s.onLlt w f).ctxs = s.ctxs := rfl
@[simp] theorem State.onLlt_ms (w : Nat) (f : Llt → Llt) : (s.onLlt w f).ms = s.ms := rfl
@[simp] theorem State.onLlt_linkLost (w : Nat) (f : Llt → Llt) : (s.onLlt w f).linkLost = s.linkLost := rfl
@[simp] theorem State.onLlt_devStores (w : Nat) (f : Llt → Llt) : (s.onLlt w f).devStores = s.devStores := rfl
@[simp] theorem State.onLlt_subchs (w : Nat) (f : Llt → Llt) : (s.onLlt w f).subchs = s.subchs := rfl
@[simp] theorem State.onLlt_incarns (w : Nat) (f : Llt → Llt) : (s.onLlt w f).incarns = s.incarns := rfl
@[simp] theorem State.onLlt_incarnBase (w : Nat) (f : Llt → Llt) : (s.onLlt w f).incarnBase = s.incarnBase := rfl
@[simp] theorem State.onLlt_indoubt (w : Nat) (f : Llt → Llt) : (s.onLlt w f).indoubt = s.indoubt := rfl
@[simp] theorem State.onLlt_doubts (w : Nat) (f : Llt → Llt) : (s.onLlt w f).doubts = s.doubts := rfl
@[simp] theorem State.onLlt_ioports (w : Nat) (f : Llt → Llt) : (s.onLlt w f).ioports = s.ioports := rfl
@[simp] theorem State.onLlt_routes (w : Nat) (f : Llt → Llt) : (s.onLlt w f).routes = s.routes := rfl
@[simp] theorem State.onLlt_engines (w : Nat) (f : Llt → Llt) : (s.onLlt w f).engines = s.engines := rfl
@[simp] theorem State.onLlt_claims (w : Nat) (f : Llt → Llt) : (s.onLlt w f).claims = s.claims := rfl
@[simp] theorem State.onLlt_wire (w : Nat) (f : Llt → Llt) : (s.onLlt w f).wire = s.wire := rfl
@[simp] theorem State.onLlt_rings (w : Nat) (f : Llt → Llt) : (s.onLlt w f).rings = s.rings := rfl
@[simp] theorem State.onLlt_bcus (w : Nat) (f : Llt → Llt) : (s.onLlt w f).bcus = s.bcus := rfl
@[simp] theorem State.onLlt_dfus (w : Nat) (f : Llt → Llt) : (s.onLlt w f).dfus = s.dfus := rfl
@[simp] theorem State.onLlt_bcuArb (w : Nat) (f : Llt → Llt) : (s.onLlt w f).bcuArb = s.bcuArb := rfl
@[simp] theorem State.onLlt_dfuArb (w : Nat) (f : Llt → Llt) : (s.onLlt w f).dfuArb = s.dfuArb := rfl
@[simp] theorem State.onLlt_bcuPool (w : Nat) (f : Llt → Llt) : (s.onLlt w f).bcuPool = s.bcuPool := rfl
@[simp] theorem State.onLlt_dfuPool (w : Nat) (f : Llt → Llt) : (s.onLlt w f).dfuPool = s.dfuPool := rfl
@[simp] theorem State.onLlt_pages (w : Nat) (f : Llt → Llt) : (s.onLlt w f).pages = s.pages := rfl
@[simp] theorem State.onLlt_dicts (w : Nat) (f : Llt → Llt) : (s.onLlt w f).dicts = s.dicts := rfl
@[simp] theorem State.onLlt_encls (w : Nat) (f : Llt → Llt) : (s.onLlt w f).encls = s.encls := rfl
@[simp] theorem State.onLlt_emap (w : Nat) (f : Llt → Llt) : (s.onLlt w f).emap = s.emap := rfl
@[simp] theorem State.onLlt_decode (w : Nat) (f : Llt → Llt) : (s.onLlt w f).decode = s.decode := rfl
@[simp] theorem State.onLlt_dbgNi (w : Nat) (f : Llt → Llt) : (s.onLlt w f).dbgNi = s.dbgNi := rfl
@[simp] theorem State.onLlt_dbgInv (w : Nat) (f : Llt → Llt) : (s.onLlt w f).dbgInv = s.dbgInv := rfl
@[simp] theorem State.onLlt_dbgEni (w : Nat) (f : Llt → Llt) : (s.onLlt w f).dbgEni = s.dbgEni := rfl
@[simp] theorem State.onLlt_dbgEinv (w : Nat) (f : Llt → Llt) : (s.onLlt w f).dbgEinv = s.dbgEinv := rfl
@[simp] theorem State.onLlt_deferred (w : Nat) (f : Llt → Llt) : (s.onLlt w f).deferred = s.deferred := rfl
@[simp] theorem State.onLlt_posts (w : Nat) (f : Llt → Llt) : (s.onLlt w f).posts = s.posts := rfl
@[simp] theorem State.onLlt_creations (w : Nat) (f : Llt → Llt) : (s.onLlt w f).creations = s.creations := rfl
@[simp] theorem State.onLlt_outcomes (w : Nat) (f : Llt → Llt) : (s.onLlt w f).outcomes = s.outcomes := rfl
@[simp] theorem State.onLlt_kept (w : Nat) (f : Llt → Llt) : (s.onLlt w f).kept = s.kept := rfl
@[simp] theorem State.onLlt_fresh (w : Nat) (f : Llt → Llt) : (s.onLlt w f).fresh = s.fresh := rfl
@[simp] theorem State.onLlt_console (w : Nat) (f : Llt → Llt) : (s.onLlt w f).console = s.console := rfl
@[simp] theorem State.onLlt_recSp (w : Nat) (f : Llt → Llt) : (s.onLlt w f).recSp = s.recSp := rfl
@[simp] theorem State.onLlt_freeCtr (w : Nat) (f : Llt → Llt) : (s.onLlt w f).freeCtr = s.freeCtr := rfl
@[simp] theorem State.onLlt_pending (w : Nat) (f : Llt → Llt) : (s.onLlt w f).pending = s.pending := rfl

/-! ### onEncl -/

@[simp] theorem State.onEncl_phase (w k : Nat) (f : Encl → Encl) : (s.onEncl w k f).phase = s.phase := rfl
@[simp] theorem State.onEncl_clock (w k : Nat) (f : Encl → Encl) : (s.onEncl w k f).clock = s.clock := rfl
@[simp] theorem State.onEncl_pins (w k : Nat) (f : Encl → Encl) : (s.onEncl w k f).pins = s.pins := rfl
@[simp] theorem State.onEncl_svc (w k : Nat) (f : Encl → Encl) : (s.onEncl w k f).svc = s.svc := rfl
@[simp] theorem State.onEncl_windows (w k : Nat) (f : Encl → Encl) : (s.onEncl w k f).windows = s.windows := rfl
@[simp] theorem State.onEncl_mgr (w k : Nat) (f : Encl → Encl) : (s.onEncl w k f).mgr = s.mgr := rfl
@[simp] theorem State.onEncl_insts (w k : Nat) (f : Encl → Encl) : (s.onEncl w k f).insts = s.insts := rfl
@[simp] theorem State.onEncl_log (w k : Nat) (f : Encl → Encl) : (s.onEncl w k f).log = s.log := rfl
@[simp] theorem State.onEncl_fw (w k : Nat) (f : Encl → Encl) : (s.onEncl w k f).fw = s.fw := rfl
@[simp] theorem State.onEncl_fuses (w k : Nat) (f : Encl → Encl) : (s.onEncl w k f).fuses = s.fuses := rfl
@[simp] theorem State.onEncl_cores (w k : Nat) (f : Encl → Encl) : (s.onEncl w k f).cores = s.cores := rfl
@[simp] theorem State.onEncl_pcores (w k : Nat) (f : Encl → Encl) : (s.onEncl w k f).pcores = s.pcores := rfl
@[simp] theorem State.onEncl_ctxs (w k : Nat) (f : Encl → Encl) : (s.onEncl w k f).ctxs = s.ctxs := rfl
@[simp] theorem State.onEncl_ms (w k : Nat) (f : Encl → Encl) : (s.onEncl w k f).ms = s.ms := rfl
@[simp] theorem State.onEncl_linkLost (w k : Nat) (f : Encl → Encl) : (s.onEncl w k f).linkLost = s.linkLost := rfl
@[simp] theorem State.onEncl_devStores (w k : Nat) (f : Encl → Encl) : (s.onEncl w k f).devStores = s.devStores := rfl
@[simp] theorem State.onEncl_subchs (w k : Nat) (f : Encl → Encl) : (s.onEncl w k f).subchs = s.subchs := rfl
@[simp] theorem State.onEncl_incarns (w k : Nat) (f : Encl → Encl) : (s.onEncl w k f).incarns = s.incarns := rfl
@[simp] theorem State.onEncl_incarnBase (w k : Nat) (f : Encl → Encl) : (s.onEncl w k f).incarnBase = s.incarnBase := rfl
@[simp] theorem State.onEncl_indoubt (w k : Nat) (f : Encl → Encl) : (s.onEncl w k f).indoubt = s.indoubt := rfl
@[simp] theorem State.onEncl_doubts (w k : Nat) (f : Encl → Encl) : (s.onEncl w k f).doubts = s.doubts := rfl
@[simp] theorem State.onEncl_ioports (w k : Nat) (f : Encl → Encl) : (s.onEncl w k f).ioports = s.ioports := rfl
@[simp] theorem State.onEncl_routes (w k : Nat) (f : Encl → Encl) : (s.onEncl w k f).routes = s.routes := rfl
@[simp] theorem State.onEncl_engines (w k : Nat) (f : Encl → Encl) : (s.onEncl w k f).engines = s.engines := rfl
@[simp] theorem State.onEncl_claims (w k : Nat) (f : Encl → Encl) : (s.onEncl w k f).claims = s.claims := rfl
@[simp] theorem State.onEncl_wire (w k : Nat) (f : Encl → Encl) : (s.onEncl w k f).wire = s.wire := rfl
@[simp] theorem State.onEncl_rings (w k : Nat) (f : Encl → Encl) : (s.onEncl w k f).rings = s.rings := rfl
@[simp] theorem State.onEncl_bcus (w k : Nat) (f : Encl → Encl) : (s.onEncl w k f).bcus = s.bcus := rfl
@[simp] theorem State.onEncl_dfus (w k : Nat) (f : Encl → Encl) : (s.onEncl w k f).dfus = s.dfus := rfl
@[simp] theorem State.onEncl_bcuArb (w k : Nat) (f : Encl → Encl) : (s.onEncl w k f).bcuArb = s.bcuArb := rfl
@[simp] theorem State.onEncl_dfuArb (w k : Nat) (f : Encl → Encl) : (s.onEncl w k f).dfuArb = s.dfuArb := rfl
@[simp] theorem State.onEncl_bcuPool (w k : Nat) (f : Encl → Encl) : (s.onEncl w k f).bcuPool = s.bcuPool := rfl
@[simp] theorem State.onEncl_dfuPool (w k : Nat) (f : Encl → Encl) : (s.onEncl w k f).dfuPool = s.dfuPool := rfl
@[simp] theorem State.onEncl_pages (w k : Nat) (f : Encl → Encl) : (s.onEncl w k f).pages = s.pages := rfl
@[simp] theorem State.onEncl_dicts (w k : Nat) (f : Encl → Encl) : (s.onEncl w k f).dicts = s.dicts := rfl
@[simp] theorem State.onEncl_emap (w k : Nat) (f : Encl → Encl) : (s.onEncl w k f).emap = s.emap := rfl
@[simp] theorem State.onEncl_relay (w k : Nat) (f : Encl → Encl) : (s.onEncl w k f).relay = s.relay := rfl
@[simp] theorem State.onEncl_decode (w k : Nat) (f : Encl → Encl) : (s.onEncl w k f).decode = s.decode := rfl
@[simp] theorem State.onEncl_dbgNi (w k : Nat) (f : Encl → Encl) : (s.onEncl w k f).dbgNi = s.dbgNi := rfl
@[simp] theorem State.onEncl_dbgInv (w k : Nat) (f : Encl → Encl) : (s.onEncl w k f).dbgInv = s.dbgInv := rfl
@[simp] theorem State.onEncl_dbgEni (w k : Nat) (f : Encl → Encl) : (s.onEncl w k f).dbgEni = s.dbgEni := rfl
@[simp] theorem State.onEncl_dbgEinv (w k : Nat) (f : Encl → Encl) : (s.onEncl w k f).dbgEinv = s.dbgEinv := rfl
@[simp] theorem State.onEncl_deferred (w k : Nat) (f : Encl → Encl) : (s.onEncl w k f).deferred = s.deferred := rfl
@[simp] theorem State.onEncl_posts (w k : Nat) (f : Encl → Encl) : (s.onEncl w k f).posts = s.posts := rfl
@[simp] theorem State.onEncl_creations (w k : Nat) (f : Encl → Encl) : (s.onEncl w k f).creations = s.creations := rfl
@[simp] theorem State.onEncl_outcomes (w k : Nat) (f : Encl → Encl) : (s.onEncl w k f).outcomes = s.outcomes := rfl
@[simp] theorem State.onEncl_kept (w k : Nat) (f : Encl → Encl) : (s.onEncl w k f).kept = s.kept := rfl
@[simp] theorem State.onEncl_fresh (w k : Nat) (f : Encl → Encl) : (s.onEncl w k f).fresh = s.fresh := rfl
@[simp] theorem State.onEncl_console (w k : Nat) (f : Encl → Encl) : (s.onEncl w k f).console = s.console := rfl
@[simp] theorem State.onEncl_recSp (w k : Nat) (f : Encl → Encl) : (s.onEncl w k f).recSp = s.recSp := rfl
@[simp] theorem State.onEncl_freeCtr (w k : Nat) (f : Encl → Encl) : (s.onEncl w k f).freeCtr = s.freeCtr := rfl
@[simp] theorem State.onEncl_pending (w k : Nat) (f : Encl → Encl) : (s.onEncl w k f).pending = s.pending := rfl

/-! ### onIoport -/

@[simp] theorem State.onIoport_phase (w : Nat) (f : IoPort → IoPort) : (s.onIoport w f).phase = s.phase := rfl
@[simp] theorem State.onIoport_clock (w : Nat) (f : IoPort → IoPort) : (s.onIoport w f).clock = s.clock := rfl
@[simp] theorem State.onIoport_pins (w : Nat) (f : IoPort → IoPort) : (s.onIoport w f).pins = s.pins := rfl
@[simp] theorem State.onIoport_svc (w : Nat) (f : IoPort → IoPort) : (s.onIoport w f).svc = s.svc := rfl
@[simp] theorem State.onIoport_windows (w : Nat) (f : IoPort → IoPort) : (s.onIoport w f).windows = s.windows := rfl
@[simp] theorem State.onIoport_mgr (w : Nat) (f : IoPort → IoPort) : (s.onIoport w f).mgr = s.mgr := rfl
@[simp] theorem State.onIoport_insts (w : Nat) (f : IoPort → IoPort) : (s.onIoport w f).insts = s.insts := rfl
@[simp] theorem State.onIoport_log (w : Nat) (f : IoPort → IoPort) : (s.onIoport w f).log = s.log := rfl
@[simp] theorem State.onIoport_fw (w : Nat) (f : IoPort → IoPort) : (s.onIoport w f).fw = s.fw := rfl
@[simp] theorem State.onIoport_fuses (w : Nat) (f : IoPort → IoPort) : (s.onIoport w f).fuses = s.fuses := rfl
@[simp] theorem State.onIoport_cores (w : Nat) (f : IoPort → IoPort) : (s.onIoport w f).cores = s.cores := rfl
@[simp] theorem State.onIoport_pcores (w : Nat) (f : IoPort → IoPort) : (s.onIoport w f).pcores = s.pcores := rfl
@[simp] theorem State.onIoport_ctxs (w : Nat) (f : IoPort → IoPort) : (s.onIoport w f).ctxs = s.ctxs := rfl
@[simp] theorem State.onIoport_ms (w : Nat) (f : IoPort → IoPort) : (s.onIoport w f).ms = s.ms := rfl
@[simp] theorem State.onIoport_linkLost (w : Nat) (f : IoPort → IoPort) : (s.onIoport w f).linkLost = s.linkLost := rfl
@[simp] theorem State.onIoport_devStores (w : Nat) (f : IoPort → IoPort) : (s.onIoport w f).devStores = s.devStores := rfl
@[simp] theorem State.onIoport_subchs (w : Nat) (f : IoPort → IoPort) : (s.onIoport w f).subchs = s.subchs := rfl
@[simp] theorem State.onIoport_incarns (w : Nat) (f : IoPort → IoPort) : (s.onIoport w f).incarns = s.incarns := rfl
@[simp] theorem State.onIoport_incarnBase (w : Nat) (f : IoPort → IoPort) : (s.onIoport w f).incarnBase = s.incarnBase := rfl
@[simp] theorem State.onIoport_indoubt (w : Nat) (f : IoPort → IoPort) : (s.onIoport w f).indoubt = s.indoubt := rfl
@[simp] theorem State.onIoport_doubts (w : Nat) (f : IoPort → IoPort) : (s.onIoport w f).doubts = s.doubts := rfl
@[simp] theorem State.onIoport_routes (w : Nat) (f : IoPort → IoPort) : (s.onIoport w f).routes = s.routes := rfl
@[simp] theorem State.onIoport_engines (w : Nat) (f : IoPort → IoPort) : (s.onIoport w f).engines = s.engines := rfl
@[simp] theorem State.onIoport_claims (w : Nat) (f : IoPort → IoPort) : (s.onIoport w f).claims = s.claims := rfl
@[simp] theorem State.onIoport_wire (w : Nat) (f : IoPort → IoPort) : (s.onIoport w f).wire = s.wire := rfl
@[simp] theorem State.onIoport_rings (w : Nat) (f : IoPort → IoPort) : (s.onIoport w f).rings = s.rings := rfl
@[simp] theorem State.onIoport_bcus (w : Nat) (f : IoPort → IoPort) : (s.onIoport w f).bcus = s.bcus := rfl
@[simp] theorem State.onIoport_dfus (w : Nat) (f : IoPort → IoPort) : (s.onIoport w f).dfus = s.dfus := rfl
@[simp] theorem State.onIoport_bcuArb (w : Nat) (f : IoPort → IoPort) : (s.onIoport w f).bcuArb = s.bcuArb := rfl
@[simp] theorem State.onIoport_dfuArb (w : Nat) (f : IoPort → IoPort) : (s.onIoport w f).dfuArb = s.dfuArb := rfl
@[simp] theorem State.onIoport_bcuPool (w : Nat) (f : IoPort → IoPort) : (s.onIoport w f).bcuPool = s.bcuPool := rfl
@[simp] theorem State.onIoport_dfuPool (w : Nat) (f : IoPort → IoPort) : (s.onIoport w f).dfuPool = s.dfuPool := rfl
@[simp] theorem State.onIoport_pages (w : Nat) (f : IoPort → IoPort) : (s.onIoport w f).pages = s.pages := rfl
@[simp] theorem State.onIoport_dicts (w : Nat) (f : IoPort → IoPort) : (s.onIoport w f).dicts = s.dicts := rfl
@[simp] theorem State.onIoport_encls (w : Nat) (f : IoPort → IoPort) : (s.onIoport w f).encls = s.encls := rfl
@[simp] theorem State.onIoport_emap (w : Nat) (f : IoPort → IoPort) : (s.onIoport w f).emap = s.emap := rfl
@[simp] theorem State.onIoport_relay (w : Nat) (f : IoPort → IoPort) : (s.onIoport w f).relay = s.relay := rfl
@[simp] theorem State.onIoport_decode (w : Nat) (f : IoPort → IoPort) : (s.onIoport w f).decode = s.decode := rfl
@[simp] theorem State.onIoport_dbgNi (w : Nat) (f : IoPort → IoPort) : (s.onIoport w f).dbgNi = s.dbgNi := rfl
@[simp] theorem State.onIoport_dbgInv (w : Nat) (f : IoPort → IoPort) : (s.onIoport w f).dbgInv = s.dbgInv := rfl
@[simp] theorem State.onIoport_dbgEni (w : Nat) (f : IoPort → IoPort) : (s.onIoport w f).dbgEni = s.dbgEni := rfl
@[simp] theorem State.onIoport_dbgEinv (w : Nat) (f : IoPort → IoPort) : (s.onIoport w f).dbgEinv = s.dbgEinv := rfl
@[simp] theorem State.onIoport_deferred (w : Nat) (f : IoPort → IoPort) : (s.onIoport w f).deferred = s.deferred := rfl
@[simp] theorem State.onIoport_posts (w : Nat) (f : IoPort → IoPort) : (s.onIoport w f).posts = s.posts := rfl
@[simp] theorem State.onIoport_creations (w : Nat) (f : IoPort → IoPort) : (s.onIoport w f).creations = s.creations := rfl
@[simp] theorem State.onIoport_outcomes (w : Nat) (f : IoPort → IoPort) : (s.onIoport w f).outcomes = s.outcomes := rfl
@[simp] theorem State.onIoport_kept (w : Nat) (f : IoPort → IoPort) : (s.onIoport w f).kept = s.kept := rfl
@[simp] theorem State.onIoport_fresh (w : Nat) (f : IoPort → IoPort) : (s.onIoport w f).fresh = s.fresh := rfl
@[simp] theorem State.onIoport_console (w : Nat) (f : IoPort → IoPort) : (s.onIoport w f).console = s.console := rfl
@[simp] theorem State.onIoport_recSp (w : Nat) (f : IoPort → IoPort) : (s.onIoport w f).recSp = s.recSp := rfl
@[simp] theorem State.onIoport_freeCtr (w : Nat) (f : IoPort → IoPort) : (s.onIoport w f).freeCtr = s.freeCtr := rfl
@[simp] theorem State.onIoport_pending (w : Nat) (f : IoPort → IoPort) : (s.onIoport w f).pending = s.pending := rfl

/-! ### onSp -/

@[simp] theorem State.onSp_phase (w : Nat) (f : Sp → Sp) : (s.onSp w f).phase = s.phase := by unfold State.onSp; split <;> rfl
@[simp] theorem State.onSp_clock (w : Nat) (f : Sp → Sp) : (s.onSp w f).clock = s.clock := by unfold State.onSp; split <;> rfl
@[simp] theorem State.onSp_pins (w : Nat) (f : Sp → Sp) : (s.onSp w f).pins = s.pins := by unfold State.onSp; split <;> rfl
@[simp] theorem State.onSp_windows (w : Nat) (f : Sp → Sp) : (s.onSp w f).windows = s.windows := by unfold State.onSp; split <;> rfl
@[simp] theorem State.onSp_mgr (w : Nat) (f : Sp → Sp) : (s.onSp w f).mgr = s.mgr := by unfold State.onSp; split <;> rfl
@[simp] theorem State.onSp_insts (w : Nat) (f : Sp → Sp) : (s.onSp w f).insts = s.insts := by unfold State.onSp; split <;> rfl
@[simp] theorem State.onSp_log (w : Nat) (f : Sp → Sp) : (s.onSp w f).log = s.log := by unfold State.onSp; split <;> rfl
@[simp] theorem State.onSp_fw (w : Nat) (f : Sp → Sp) : (s.onSp w f).fw = s.fw := by unfold State.onSp; split <;> rfl
@[simp] theorem State.onSp_fuses (w : Nat) (f : Sp → Sp) : (s.onSp w f).fuses = s.fuses := by unfold State.onSp; split <;> rfl
@[simp] theorem State.onSp_cores (w : Nat) (f : Sp → Sp) : (s.onSp w f).cores = s.cores := by unfold State.onSp; split <;> rfl
@[simp] theorem State.onSp_pcores (w : Nat) (f : Sp → Sp) : (s.onSp w f).pcores = s.pcores := by unfold State.onSp; split <;> rfl
@[simp] theorem State.onSp_ctxs (w : Nat) (f : Sp → Sp) : (s.onSp w f).ctxs = s.ctxs := by unfold State.onSp; split <;> rfl
@[simp] theorem State.onSp_ms (w : Nat) (f : Sp → Sp) : (s.onSp w f).ms = s.ms := by unfold State.onSp; split <;> rfl
@[simp] theorem State.onSp_linkLost (w : Nat) (f : Sp → Sp) : (s.onSp w f).linkLost = s.linkLost := by unfold State.onSp; split <;> rfl
@[simp] theorem State.onSp_devStores (w : Nat) (f : Sp → Sp) : (s.onSp w f).devStores = s.devStores := by unfold State.onSp; split <;> rfl
@[simp] theorem State.onSp_subchs (w : Nat) (f : Sp → Sp) : (s.onSp w f).subchs = s.subchs := by unfold State.onSp; split <;> rfl
@[simp] theorem State.onSp_incarns (w : Nat) (f : Sp → Sp) : (s.onSp w f).incarns = s.incarns := by unfold State.onSp; split <;> rfl
@[simp] theorem State.onSp_incarnBase (w : Nat) (f : Sp → Sp) : (s.onSp w f).incarnBase = s.incarnBase := by unfold State.onSp; split <;> rfl
@[simp] theorem State.onSp_indoubt (w : Nat) (f : Sp → Sp) : (s.onSp w f).indoubt = s.indoubt := by unfold State.onSp; split <;> rfl
@[simp] theorem State.onSp_doubts (w : Nat) (f : Sp → Sp) : (s.onSp w f).doubts = s.doubts := by unfold State.onSp; split <;> rfl
@[simp] theorem State.onSp_ioports (w : Nat) (f : Sp → Sp) : (s.onSp w f).ioports = s.ioports := by unfold State.onSp; split <;> rfl
@[simp] theorem State.onSp_routes (w : Nat) (f : Sp → Sp) : (s.onSp w f).routes = s.routes := by unfold State.onSp; split <;> rfl
@[simp] theorem State.onSp_engines (w : Nat) (f : Sp → Sp) : (s.onSp w f).engines = s.engines := by unfold State.onSp; split <;> rfl
@[simp] theorem State.onSp_claims (w : Nat) (f : Sp → Sp) : (s.onSp w f).claims = s.claims := by unfold State.onSp; split <;> rfl
@[simp] theorem State.onSp_wire (w : Nat) (f : Sp → Sp) : (s.onSp w f).wire = s.wire := by unfold State.onSp; split <;> rfl
@[simp] theorem State.onSp_rings (w : Nat) (f : Sp → Sp) : (s.onSp w f).rings = s.rings := by unfold State.onSp; split <;> rfl
@[simp] theorem State.onSp_bcus (w : Nat) (f : Sp → Sp) : (s.onSp w f).bcus = s.bcus := by unfold State.onSp; split <;> rfl
@[simp] theorem State.onSp_dfus (w : Nat) (f : Sp → Sp) : (s.onSp w f).dfus = s.dfus := by unfold State.onSp; split <;> rfl
@[simp] theorem State.onSp_bcuArb (w : Nat) (f : Sp → Sp) : (s.onSp w f).bcuArb = s.bcuArb := by unfold State.onSp; split <;> rfl
@[simp] theorem State.onSp_dfuArb (w : Nat) (f : Sp → Sp) : (s.onSp w f).dfuArb = s.dfuArb := by unfold State.onSp; split <;> rfl
@[simp] theorem State.onSp_bcuPool (w : Nat) (f : Sp → Sp) : (s.onSp w f).bcuPool = s.bcuPool := by unfold State.onSp; split <;> rfl
@[simp] theorem State.onSp_dfuPool (w : Nat) (f : Sp → Sp) : (s.onSp w f).dfuPool = s.dfuPool := by unfold State.onSp; split <;> rfl
@[simp] theorem State.onSp_pages (w : Nat) (f : Sp → Sp) : (s.onSp w f).pages = s.pages := by unfold State.onSp; split <;> rfl
@[simp] theorem State.onSp_dicts (w : Nat) (f : Sp → Sp) : (s.onSp w f).dicts = s.dicts := by unfold State.onSp; split <;> rfl
@[simp] theorem State.onSp_encls (w : Nat) (f : Sp → Sp) : (s.onSp w f).encls = s.encls := by unfold State.onSp; split <;> rfl
@[simp] theorem State.onSp_emap (w : Nat) (f : Sp → Sp) : (s.onSp w f).emap = s.emap := by unfold State.onSp; split <;> rfl
@[simp] theorem State.onSp_relay (w : Nat) (f : Sp → Sp) : (s.onSp w f).relay = s.relay := by unfold State.onSp; split <;> rfl
@[simp] theorem State.onSp_decode (w : Nat) (f : Sp → Sp) : (s.onSp w f).decode = s.decode := by unfold State.onSp; split <;> rfl
@[simp] theorem State.onSp_dbgNi (w : Nat) (f : Sp → Sp) : (s.onSp w f).dbgNi = s.dbgNi := by unfold State.onSp; split <;> rfl
@[simp] theorem State.onSp_dbgInv (w : Nat) (f : Sp → Sp) : (s.onSp w f).dbgInv = s.dbgInv := by unfold State.onSp; split <;> rfl
@[simp] theorem State.onSp_dbgEni (w : Nat) (f : Sp → Sp) : (s.onSp w f).dbgEni = s.dbgEni := by unfold State.onSp; split <;> rfl
@[simp] theorem State.onSp_dbgEinv (w : Nat) (f : Sp → Sp) : (s.onSp w f).dbgEinv = s.dbgEinv := by unfold State.onSp; split <;> rfl
@[simp] theorem State.onSp_deferred (w : Nat) (f : Sp → Sp) : (s.onSp w f).deferred = s.deferred := by unfold State.onSp; split <;> rfl
@[simp] theorem State.onSp_posts (w : Nat) (f : Sp → Sp) : (s.onSp w f).posts = s.posts := by unfold State.onSp; split <;> rfl
@[simp] theorem State.onSp_creations (w : Nat) (f : Sp → Sp) : (s.onSp w f).creations = s.creations := by unfold State.onSp; split <;> rfl
@[simp] theorem State.onSp_outcomes (w : Nat) (f : Sp → Sp) : (s.onSp w f).outcomes = s.outcomes := by unfold State.onSp; split <;> rfl
@[simp] theorem State.onSp_kept (w : Nat) (f : Sp → Sp) : (s.onSp w f).kept = s.kept := by unfold State.onSp; split <;> rfl
@[simp] theorem State.onSp_fresh (w : Nat) (f : Sp → Sp) : (s.onSp w f).fresh = s.fresh := by unfold State.onSp; split <;> rfl
@[simp] theorem State.onSp_console (w : Nat) (f : Sp → Sp) : (s.onSp w f).console = s.console := by unfold State.onSp; split <;> rfl
@[simp] theorem State.onSp_recSp (w : Nat) (f : Sp → Sp) : (s.onSp w f).recSp = s.recSp := by unfold State.onSp; split <;> rfl
@[simp] theorem State.onSp_freeCtr (w : Nat) (f : Sp → Sp) : (s.onSp w f).freeCtr = s.freeCtr := by unfold State.onSp; split <;> rfl
@[simp] theorem State.onSp_pending (w : Nat) (f : Sp → Sp) : (s.onSp w f).pending = s.pending := by unfold State.onSp; split <;> rfl

/-! ### onRail -/

@[simp] theorem State.onRail_phase (w : Nat) (f : Rail → Rail) : (s.onRail w f).phase = s.phase := rfl
@[simp] theorem State.onRail_clock (w : Nat) (f : Rail → Rail) : (s.onRail w f).clock = s.clock := rfl
@[simp] theorem State.onRail_svc (w : Nat) (f : Rail → Rail) : (s.onRail w f).svc = s.svc := rfl
@[simp] theorem State.onRail_windows (w : Nat) (f : Rail → Rail) : (s.onRail w f).windows = s.windows := rfl
@[simp] theorem State.onRail_mgr (w : Nat) (f : Rail → Rail) : (s.onRail w f).mgr = s.mgr := rfl
@[simp] theorem State.onRail_insts (w : Nat) (f : Rail → Rail) : (s.onRail w f).insts = s.insts := rfl
@[simp] theorem State.onRail_log (w : Nat) (f : Rail → Rail) : (s.onRail w f).log = s.log := rfl
@[simp] theorem State.onRail_fw (w : Nat) (f : Rail → Rail) : (s.onRail w f).fw = s.fw := rfl
@[simp] theorem State.onRail_fuses (w : Nat) (f : Rail → Rail) : (s.onRail w f).fuses = s.fuses := rfl
@[simp] theorem State.onRail_cores (w : Nat) (f : Rail → Rail) : (s.onRail w f).cores = s.cores := rfl
@[simp] theorem State.onRail_pcores (w : Nat) (f : Rail → Rail) : (s.onRail w f).pcores = s.pcores := rfl
@[simp] theorem State.onRail_ctxs (w : Nat) (f : Rail → Rail) : (s.onRail w f).ctxs = s.ctxs := rfl
@[simp] theorem State.onRail_ms (w : Nat) (f : Rail → Rail) : (s.onRail w f).ms = s.ms := rfl
@[simp] theorem State.onRail_linkLost (w : Nat) (f : Rail → Rail) : (s.onRail w f).linkLost = s.linkLost := rfl
@[simp] theorem State.onRail_devStores (w : Nat) (f : Rail → Rail) : (s.onRail w f).devStores = s.devStores := rfl
@[simp] theorem State.onRail_subchs (w : Nat) (f : Rail → Rail) : (s.onRail w f).subchs = s.subchs := rfl
@[simp] theorem State.onRail_incarns (w : Nat) (f : Rail → Rail) : (s.onRail w f).incarns = s.incarns := rfl
@[simp] theorem State.onRail_incarnBase (w : Nat) (f : Rail → Rail) : (s.onRail w f).incarnBase = s.incarnBase := rfl
@[simp] theorem State.onRail_indoubt (w : Nat) (f : Rail → Rail) : (s.onRail w f).indoubt = s.indoubt := rfl
@[simp] theorem State.onRail_doubts (w : Nat) (f : Rail → Rail) : (s.onRail w f).doubts = s.doubts := rfl
@[simp] theorem State.onRail_ioports (w : Nat) (f : Rail → Rail) : (s.onRail w f).ioports = s.ioports := rfl
@[simp] theorem State.onRail_routes (w : Nat) (f : Rail → Rail) : (s.onRail w f).routes = s.routes := rfl
@[simp] theorem State.onRail_engines (w : Nat) (f : Rail → Rail) : (s.onRail w f).engines = s.engines := rfl
@[simp] theorem State.onRail_claims (w : Nat) (f : Rail → Rail) : (s.onRail w f).claims = s.claims := rfl
@[simp] theorem State.onRail_wire (w : Nat) (f : Rail → Rail) : (s.onRail w f).wire = s.wire := rfl
@[simp] theorem State.onRail_rings (w : Nat) (f : Rail → Rail) : (s.onRail w f).rings = s.rings := rfl
@[simp] theorem State.onRail_bcus (w : Nat) (f : Rail → Rail) : (s.onRail w f).bcus = s.bcus := rfl
@[simp] theorem State.onRail_dfus (w : Nat) (f : Rail → Rail) : (s.onRail w f).dfus = s.dfus := rfl
@[simp] theorem State.onRail_bcuArb (w : Nat) (f : Rail → Rail) : (s.onRail w f).bcuArb = s.bcuArb := rfl
@[simp] theorem State.onRail_dfuArb (w : Nat) (f : Rail → Rail) : (s.onRail w f).dfuArb = s.dfuArb := rfl
@[simp] theorem State.onRail_bcuPool (w : Nat) (f : Rail → Rail) : (s.onRail w f).bcuPool = s.bcuPool := rfl
@[simp] theorem State.onRail_dfuPool (w : Nat) (f : Rail → Rail) : (s.onRail w f).dfuPool = s.dfuPool := rfl
@[simp] theorem State.onRail_pages (w : Nat) (f : Rail → Rail) : (s.onRail w f).pages = s.pages := rfl
@[simp] theorem State.onRail_dicts (w : Nat) (f : Rail → Rail) : (s.onRail w f).dicts = s.dicts := rfl
@[simp] theorem State.onRail_encls (w : Nat) (f : Rail → Rail) : (s.onRail w f).encls = s.encls := rfl
@[simp] theorem State.onRail_emap (w : Nat) (f : Rail → Rail) : (s.onRail w f).emap = s.emap := rfl
@[simp] theorem State.onRail_relay (w : Nat) (f : Rail → Rail) : (s.onRail w f).relay = s.relay := rfl
@[simp] theorem State.onRail_decode (w : Nat) (f : Rail → Rail) : (s.onRail w f).decode = s.decode := rfl
@[simp] theorem State.onRail_dbgNi (w : Nat) (f : Rail → Rail) : (s.onRail w f).dbgNi = s.dbgNi := rfl
@[simp] theorem State.onRail_dbgInv (w : Nat) (f : Rail → Rail) : (s.onRail w f).dbgInv = s.dbgInv := rfl
@[simp] theorem State.onRail_dbgEni (w : Nat) (f : Rail → Rail) : (s.onRail w f).dbgEni = s.dbgEni := rfl
@[simp] theorem State.onRail_dbgEinv (w : Nat) (f : Rail → Rail) : (s.onRail w f).dbgEinv = s.dbgEinv := rfl
@[simp] theorem State.onRail_deferred (w : Nat) (f : Rail → Rail) : (s.onRail w f).deferred = s.deferred := rfl
@[simp] theorem State.onRail_posts (w : Nat) (f : Rail → Rail) : (s.onRail w f).posts = s.posts := rfl
@[simp] theorem State.onRail_creations (w : Nat) (f : Rail → Rail) : (s.onRail w f).creations = s.creations := rfl
@[simp] theorem State.onRail_outcomes (w : Nat) (f : Rail → Rail) : (s.onRail w f).outcomes = s.outcomes := rfl
@[simp] theorem State.onRail_kept (w : Nat) (f : Rail → Rail) : (s.onRail w f).kept = s.kept := rfl
@[simp] theorem State.onRail_fresh (w : Nat) (f : Rail → Rail) : (s.onRail w f).fresh = s.fresh := rfl
@[simp] theorem State.onRail_console (w : Nat) (f : Rail → Rail) : (s.onRail w f).console = s.console := rfl
@[simp] theorem State.onRail_recSp (w : Nat) (f : Rail → Rail) : (s.onRail w f).recSp = s.recSp := rfl
@[simp] theorem State.onRail_freeCtr (w : Nat) (f : Rail → Rail) : (s.onRail w f).freeCtr = s.freeCtr := rfl
@[simp] theorem State.onRail_pending (w : Nat) (f : Rail → Rail) : (s.onRail w f).pending = s.pending := rfl

/-! ### onGpio -/

@[simp] theorem State.onGpio_phase (w : Nat) (f : Gpio → Gpio) : (s.onGpio w f).phase = s.phase := rfl
@[simp] theorem State.onGpio_clock (w : Nat) (f : Gpio → Gpio) : (s.onGpio w f).clock = s.clock := rfl
@[simp] theorem State.onGpio_svc (w : Nat) (f : Gpio → Gpio) : (s.onGpio w f).svc = s.svc := rfl
@[simp] theorem State.onGpio_windows (w : Nat) (f : Gpio → Gpio) : (s.onGpio w f).windows = s.windows := rfl
@[simp] theorem State.onGpio_mgr (w : Nat) (f : Gpio → Gpio) : (s.onGpio w f).mgr = s.mgr := rfl
@[simp] theorem State.onGpio_insts (w : Nat) (f : Gpio → Gpio) : (s.onGpio w f).insts = s.insts := rfl
@[simp] theorem State.onGpio_log (w : Nat) (f : Gpio → Gpio) : (s.onGpio w f).log = s.log := rfl
@[simp] theorem State.onGpio_fw (w : Nat) (f : Gpio → Gpio) : (s.onGpio w f).fw = s.fw := rfl
@[simp] theorem State.onGpio_fuses (w : Nat) (f : Gpio → Gpio) : (s.onGpio w f).fuses = s.fuses := rfl
@[simp] theorem State.onGpio_cores (w : Nat) (f : Gpio → Gpio) : (s.onGpio w f).cores = s.cores := rfl
@[simp] theorem State.onGpio_pcores (w : Nat) (f : Gpio → Gpio) : (s.onGpio w f).pcores = s.pcores := rfl
@[simp] theorem State.onGpio_ctxs (w : Nat) (f : Gpio → Gpio) : (s.onGpio w f).ctxs = s.ctxs := rfl
@[simp] theorem State.onGpio_ms (w : Nat) (f : Gpio → Gpio) : (s.onGpio w f).ms = s.ms := rfl
@[simp] theorem State.onGpio_linkLost (w : Nat) (f : Gpio → Gpio) : (s.onGpio w f).linkLost = s.linkLost := rfl
@[simp] theorem State.onGpio_devStores (w : Nat) (f : Gpio → Gpio) : (s.onGpio w f).devStores = s.devStores := rfl
@[simp] theorem State.onGpio_subchs (w : Nat) (f : Gpio → Gpio) : (s.onGpio w f).subchs = s.subchs := rfl
@[simp] theorem State.onGpio_incarns (w : Nat) (f : Gpio → Gpio) : (s.onGpio w f).incarns = s.incarns := rfl
@[simp] theorem State.onGpio_incarnBase (w : Nat) (f : Gpio → Gpio) : (s.onGpio w f).incarnBase = s.incarnBase := rfl
@[simp] theorem State.onGpio_indoubt (w : Nat) (f : Gpio → Gpio) : (s.onGpio w f).indoubt = s.indoubt := rfl
@[simp] theorem State.onGpio_doubts (w : Nat) (f : Gpio → Gpio) : (s.onGpio w f).doubts = s.doubts := rfl
@[simp] theorem State.onGpio_ioports (w : Nat) (f : Gpio → Gpio) : (s.onGpio w f).ioports = s.ioports := rfl
@[simp] theorem State.onGpio_routes (w : Nat) (f : Gpio → Gpio) : (s.onGpio w f).routes = s.routes := rfl
@[simp] theorem State.onGpio_engines (w : Nat) (f : Gpio → Gpio) : (s.onGpio w f).engines = s.engines := rfl
@[simp] theorem State.onGpio_claims (w : Nat) (f : Gpio → Gpio) : (s.onGpio w f).claims = s.claims := rfl
@[simp] theorem State.onGpio_wire (w : Nat) (f : Gpio → Gpio) : (s.onGpio w f).wire = s.wire := rfl
@[simp] theorem State.onGpio_rings (w : Nat) (f : Gpio → Gpio) : (s.onGpio w f).rings = s.rings := rfl
@[simp] theorem State.onGpio_bcus (w : Nat) (f : Gpio → Gpio) : (s.onGpio w f).bcus = s.bcus := rfl
@[simp] theorem State.onGpio_dfus (w : Nat) (f : Gpio → Gpio) : (s.onGpio w f).dfus = s.dfus := rfl
@[simp] theorem State.onGpio_bcuArb (w : Nat) (f : Gpio → Gpio) : (s.onGpio w f).bcuArb = s.bcuArb := rfl
@[simp] theorem State.onGpio_dfuArb (w : Nat) (f : Gpio → Gpio) : (s.onGpio w f).dfuArb = s.dfuArb := rfl
@[simp] theorem State.onGpio_bcuPool (w : Nat) (f : Gpio → Gpio) : (s.onGpio w f).bcuPool = s.bcuPool := rfl
@[simp] theorem State.onGpio_dfuPool (w : Nat) (f : Gpio → Gpio) : (s.onGpio w f).dfuPool = s.dfuPool := rfl
@[simp] theorem State.onGpio_pages (w : Nat) (f : Gpio → Gpio) : (s.onGpio w f).pages = s.pages := rfl
@[simp] theorem State.onGpio_dicts (w : Nat) (f : Gpio → Gpio) : (s.onGpio w f).dicts = s.dicts := rfl
@[simp] theorem State.onGpio_encls (w : Nat) (f : Gpio → Gpio) : (s.onGpio w f).encls = s.encls := rfl
@[simp] theorem State.onGpio_emap (w : Nat) (f : Gpio → Gpio) : (s.onGpio w f).emap = s.emap := rfl
@[simp] theorem State.onGpio_relay (w : Nat) (f : Gpio → Gpio) : (s.onGpio w f).relay = s.relay := rfl
@[simp] theorem State.onGpio_decode (w : Nat) (f : Gpio → Gpio) : (s.onGpio w f).decode = s.decode := rfl
@[simp] theorem State.onGpio_dbgNi (w : Nat) (f : Gpio → Gpio) : (s.onGpio w f).dbgNi = s.dbgNi := rfl
@[simp] theorem State.onGpio_dbgInv (w : Nat) (f : Gpio → Gpio) : (s.onGpio w f).dbgInv = s.dbgInv := rfl
@[simp] theorem State.onGpio_dbgEni (w : Nat) (f : Gpio → Gpio) : (s.onGpio w f).dbgEni = s.dbgEni := rfl
@[simp] theorem State.onGpio_dbgEinv (w : Nat) (f : Gpio → Gpio) : (s.onGpio w f).dbgEinv = s.dbgEinv := rfl
@[simp] theorem State.onGpio_deferred (w : Nat) (f : Gpio → Gpio) : (s.onGpio w f).deferred = s.deferred := rfl
@[simp] theorem State.onGpio_posts (w : Nat) (f : Gpio → Gpio) : (s.onGpio w f).posts = s.posts := rfl
@[simp] theorem State.onGpio_creations (w : Nat) (f : Gpio → Gpio) : (s.onGpio w f).creations = s.creations := rfl
@[simp] theorem State.onGpio_outcomes (w : Nat) (f : Gpio → Gpio) : (s.onGpio w f).outcomes = s.outcomes := rfl
@[simp] theorem State.onGpio_kept (w : Nat) (f : Gpio → Gpio) : (s.onGpio w f).kept = s.kept := rfl
@[simp] theorem State.onGpio_fresh (w : Nat) (f : Gpio → Gpio) : (s.onGpio w f).fresh = s.fresh := rfl
@[simp] theorem State.onGpio_console (w : Nat) (f : Gpio → Gpio) : (s.onGpio w f).console = s.console := rfl
@[simp] theorem State.onGpio_recSp (w : Nat) (f : Gpio → Gpio) : (s.onGpio w f).recSp = s.recSp := rfl
@[simp] theorem State.onGpio_freeCtr (w : Nat) (f : Gpio → Gpio) : (s.onGpio w f).freeCtr = s.freeCtr := rfl
@[simp] theorem State.onGpio_pending (w : Nat) (f : Gpio → Gpio) : (s.onGpio w f).pending = s.pending := rfl

/-! ### onLog -/

@[simp] theorem State.onLog_phase (f : Log → Log) : (s.onLog f).phase = s.phase := rfl
@[simp] theorem State.onLog_clock (f : Log → Log) : (s.onLog f).clock = s.clock := rfl
@[simp] theorem State.onLog_pins (f : Log → Log) : (s.onLog f).pins = s.pins := rfl
@[simp] theorem State.onLog_svc (f : Log → Log) : (s.onLog f).svc = s.svc := rfl
@[simp] theorem State.onLog_windows (f : Log → Log) : (s.onLog f).windows = s.windows := rfl
@[simp] theorem State.onLog_mgr (f : Log → Log) : (s.onLog f).mgr = s.mgr := rfl
@[simp] theorem State.onLog_insts (f : Log → Log) : (s.onLog f).insts = s.insts := rfl
@[simp] theorem State.onLog_fw (f : Log → Log) : (s.onLog f).fw = s.fw := rfl
@[simp] theorem State.onLog_fuses (f : Log → Log) : (s.onLog f).fuses = s.fuses := rfl
@[simp] theorem State.onLog_cores (f : Log → Log) : (s.onLog f).cores = s.cores := rfl
@[simp] theorem State.onLog_pcores (f : Log → Log) : (s.onLog f).pcores = s.pcores := rfl
@[simp] theorem State.onLog_ctxs (f : Log → Log) : (s.onLog f).ctxs = s.ctxs := rfl
@[simp] theorem State.onLog_ms (f : Log → Log) : (s.onLog f).ms = s.ms := rfl
@[simp] theorem State.onLog_linkLost (f : Log → Log) : (s.onLog f).linkLost = s.linkLost := rfl
@[simp] theorem State.onLog_devStores (f : Log → Log) : (s.onLog f).devStores = s.devStores := rfl
@[simp] theorem State.onLog_subchs (f : Log → Log) : (s.onLog f).subchs = s.subchs := rfl
@[simp] theorem State.onLog_incarns (f : Log → Log) : (s.onLog f).incarns = s.incarns := rfl
@[simp] theorem State.onLog_incarnBase (f : Log → Log) : (s.onLog f).incarnBase = s.incarnBase := rfl
@[simp] theorem State.onLog_indoubt (f : Log → Log) : (s.onLog f).indoubt = s.indoubt := rfl
@[simp] theorem State.onLog_doubts (f : Log → Log) : (s.onLog f).doubts = s.doubts := rfl
@[simp] theorem State.onLog_ioports (f : Log → Log) : (s.onLog f).ioports = s.ioports := rfl
@[simp] theorem State.onLog_routes (f : Log → Log) : (s.onLog f).routes = s.routes := rfl
@[simp] theorem State.onLog_engines (f : Log → Log) : (s.onLog f).engines = s.engines := rfl
@[simp] theorem State.onLog_claims (f : Log → Log) : (s.onLog f).claims = s.claims := rfl
@[simp] theorem State.onLog_wire (f : Log → Log) : (s.onLog f).wire = s.wire := rfl
@[simp] theorem State.onLog_rings (f : Log → Log) : (s.onLog f).rings = s.rings := rfl
@[simp] theorem State.onLog_bcus (f : Log → Log) : (s.onLog f).bcus = s.bcus := rfl
@[simp] theorem State.onLog_dfus (f : Log → Log) : (s.onLog f).dfus = s.dfus := rfl
@[simp] theorem State.onLog_bcuArb (f : Log → Log) : (s.onLog f).bcuArb = s.bcuArb := rfl
@[simp] theorem State.onLog_dfuArb (f : Log → Log) : (s.onLog f).dfuArb = s.dfuArb := rfl
@[simp] theorem State.onLog_bcuPool (f : Log → Log) : (s.onLog f).bcuPool = s.bcuPool := rfl
@[simp] theorem State.onLog_dfuPool (f : Log → Log) : (s.onLog f).dfuPool = s.dfuPool := rfl
@[simp] theorem State.onLog_pages (f : Log → Log) : (s.onLog f).pages = s.pages := rfl
@[simp] theorem State.onLog_dicts (f : Log → Log) : (s.onLog f).dicts = s.dicts := rfl
@[simp] theorem State.onLog_encls (f : Log → Log) : (s.onLog f).encls = s.encls := rfl
@[simp] theorem State.onLog_emap (f : Log → Log) : (s.onLog f).emap = s.emap := rfl
@[simp] theorem State.onLog_relay (f : Log → Log) : (s.onLog f).relay = s.relay := rfl
@[simp] theorem State.onLog_decode (f : Log → Log) : (s.onLog f).decode = s.decode := rfl
@[simp] theorem State.onLog_dbgNi (f : Log → Log) : (s.onLog f).dbgNi = s.dbgNi := rfl
@[simp] theorem State.onLog_dbgInv (f : Log → Log) : (s.onLog f).dbgInv = s.dbgInv := rfl
@[simp] theorem State.onLog_dbgEni (f : Log → Log) : (s.onLog f).dbgEni = s.dbgEni := rfl
@[simp] theorem State.onLog_dbgEinv (f : Log → Log) : (s.onLog f).dbgEinv = s.dbgEinv := rfl
@[simp] theorem State.onLog_deferred (f : Log → Log) : (s.onLog f).deferred = s.deferred := rfl
@[simp] theorem State.onLog_posts (f : Log → Log) : (s.onLog f).posts = s.posts := rfl
@[simp] theorem State.onLog_creations (f : Log → Log) : (s.onLog f).creations = s.creations := rfl
@[simp] theorem State.onLog_outcomes (f : Log → Log) : (s.onLog f).outcomes = s.outcomes := rfl
@[simp] theorem State.onLog_kept (f : Log → Log) : (s.onLog f).kept = s.kept := rfl
@[simp] theorem State.onLog_fresh (f : Log → Log) : (s.onLog f).fresh = s.fresh := rfl
@[simp] theorem State.onLog_console (f : Log → Log) : (s.onLog f).console = s.console := rfl
@[simp] theorem State.onLog_recSp (f : Log → Log) : (s.onLog f).recSp = s.recSp := rfl
@[simp] theorem State.onLog_freeCtr (f : Log → Log) : (s.onLog f).freeCtr = s.freeCtr := rfl
@[simp] theorem State.onLog_pending (f : Log → Log) : (s.onLog f).pending = s.pending := rfl

/-! ### onMs -/

@[simp] theorem State.onMs_phase (f : MemSys → MemSys) : (s.onMs f).phase = s.phase := rfl
@[simp] theorem State.onMs_clock (f : MemSys → MemSys) : (s.onMs f).clock = s.clock := rfl
@[simp] theorem State.onMs_pins (f : MemSys → MemSys) : (s.onMs f).pins = s.pins := rfl
@[simp] theorem State.onMs_svc (f : MemSys → MemSys) : (s.onMs f).svc = s.svc := rfl
@[simp] theorem State.onMs_windows (f : MemSys → MemSys) : (s.onMs f).windows = s.windows := rfl
@[simp] theorem State.onMs_mgr (f : MemSys → MemSys) : (s.onMs f).mgr = s.mgr := rfl
@[simp] theorem State.onMs_insts (f : MemSys → MemSys) : (s.onMs f).insts = s.insts := rfl
@[simp] theorem State.onMs_log (f : MemSys → MemSys) : (s.onMs f).log = s.log := rfl
@[simp] theorem State.onMs_fw (f : MemSys → MemSys) : (s.onMs f).fw = s.fw := rfl
@[simp] theorem State.onMs_fuses (f : MemSys → MemSys) : (s.onMs f).fuses = s.fuses := rfl
@[simp] theorem State.onMs_cores (f : MemSys → MemSys) : (s.onMs f).cores = s.cores := rfl
@[simp] theorem State.onMs_pcores (f : MemSys → MemSys) : (s.onMs f).pcores = s.pcores := rfl
@[simp] theorem State.onMs_ctxs (f : MemSys → MemSys) : (s.onMs f).ctxs = s.ctxs := rfl
@[simp] theorem State.onMs_linkLost (f : MemSys → MemSys) : (s.onMs f).linkLost = s.linkLost := rfl
@[simp] theorem State.onMs_devStores (f : MemSys → MemSys) : (s.onMs f).devStores = s.devStores := rfl
@[simp] theorem State.onMs_subchs (f : MemSys → MemSys) : (s.onMs f).subchs = s.subchs := rfl
@[simp] theorem State.onMs_incarns (f : MemSys → MemSys) : (s.onMs f).incarns = s.incarns := rfl
@[simp] theorem State.onMs_incarnBase (f : MemSys → MemSys) : (s.onMs f).incarnBase = s.incarnBase := rfl
@[simp] theorem State.onMs_indoubt (f : MemSys → MemSys) : (s.onMs f).indoubt = s.indoubt := rfl
@[simp] theorem State.onMs_doubts (f : MemSys → MemSys) : (s.onMs f).doubts = s.doubts := rfl
@[simp] theorem State.onMs_ioports (f : MemSys → MemSys) : (s.onMs f).ioports = s.ioports := rfl
@[simp] theorem State.onMs_routes (f : MemSys → MemSys) : (s.onMs f).routes = s.routes := rfl
@[simp] theorem State.onMs_engines (f : MemSys → MemSys) : (s.onMs f).engines = s.engines := rfl
@[simp] theorem State.onMs_claims (f : MemSys → MemSys) : (s.onMs f).claims = s.claims := rfl
@[simp] theorem State.onMs_wire (f : MemSys → MemSys) : (s.onMs f).wire = s.wire := rfl
@[simp] theorem State.onMs_rings (f : MemSys → MemSys) : (s.onMs f).rings = s.rings := rfl
@[simp] theorem State.onMs_bcus (f : MemSys → MemSys) : (s.onMs f).bcus = s.bcus := rfl
@[simp] theorem State.onMs_dfus (f : MemSys → MemSys) : (s.onMs f).dfus = s.dfus := rfl
@[simp] theorem State.onMs_bcuArb (f : MemSys → MemSys) : (s.onMs f).bcuArb = s.bcuArb := rfl
@[simp] theorem State.onMs_dfuArb (f : MemSys → MemSys) : (s.onMs f).dfuArb = s.dfuArb := rfl
@[simp] theorem State.onMs_bcuPool (f : MemSys → MemSys) : (s.onMs f).bcuPool = s.bcuPool := rfl
@[simp] theorem State.onMs_dfuPool (f : MemSys → MemSys) : (s.onMs f).dfuPool = s.dfuPool := rfl
@[simp] theorem State.onMs_pages (f : MemSys → MemSys) : (s.onMs f).pages = s.pages := rfl
@[simp] theorem State.onMs_dicts (f : MemSys → MemSys) : (s.onMs f).dicts = s.dicts := rfl
@[simp] theorem State.onMs_encls (f : MemSys → MemSys) : (s.onMs f).encls = s.encls := rfl
@[simp] theorem State.onMs_emap (f : MemSys → MemSys) : (s.onMs f).emap = s.emap := rfl
@[simp] theorem State.onMs_relay (f : MemSys → MemSys) : (s.onMs f).relay = s.relay := rfl
@[simp] theorem State.onMs_decode (f : MemSys → MemSys) : (s.onMs f).decode = s.decode := rfl
@[simp] theorem State.onMs_dbgNi (f : MemSys → MemSys) : (s.onMs f).dbgNi = s.dbgNi := rfl
@[simp] theorem State.onMs_dbgInv (f : MemSys → MemSys) : (s.onMs f).dbgInv = s.dbgInv := rfl
@[simp] theorem State.onMs_dbgEni (f : MemSys → MemSys) : (s.onMs f).dbgEni = s.dbgEni := rfl
@[simp] theorem State.onMs_dbgEinv (f : MemSys → MemSys) : (s.onMs f).dbgEinv = s.dbgEinv := rfl
@[simp] theorem State.onMs_deferred (f : MemSys → MemSys) : (s.onMs f).deferred = s.deferred := rfl
@[simp] theorem State.onMs_posts (f : MemSys → MemSys) : (s.onMs f).posts = s.posts := rfl
@[simp] theorem State.onMs_creations (f : MemSys → MemSys) : (s.onMs f).creations = s.creations := rfl
@[simp] theorem State.onMs_outcomes (f : MemSys → MemSys) : (s.onMs f).outcomes = s.outcomes := rfl
@[simp] theorem State.onMs_kept (f : MemSys → MemSys) : (s.onMs f).kept = s.kept := rfl
@[simp] theorem State.onMs_fresh (f : MemSys → MemSys) : (s.onMs f).fresh = s.fresh := rfl
@[simp] theorem State.onMs_console (f : MemSys → MemSys) : (s.onMs f).console = s.console := rfl
@[simp] theorem State.onMs_recSp (f : MemSys → MemSys) : (s.onMs f).recSp = s.recSp := rfl
@[simp] theorem State.onMs_freeCtr (f : MemSys → MemSys) : (s.onMs f).freeCtr = s.freeCtr := rfl
@[simp] theorem State.onMs_pending (f : MemSys → MemSys) : (s.onMs f).pending = s.pending := rfl

/-! ### onClock -/

@[simp] theorem State.onClock_phase (f : Clock → Clock) : (s.onClock f).phase = s.phase := rfl
@[simp] theorem State.onClock_pins (f : Clock → Clock) : (s.onClock f).pins = s.pins := rfl
@[simp] theorem State.onClock_svc (f : Clock → Clock) : (s.onClock f).svc = s.svc := rfl
@[simp] theorem State.onClock_windows (f : Clock → Clock) : (s.onClock f).windows = s.windows := rfl
@[simp] theorem State.onClock_mgr (f : Clock → Clock) : (s.onClock f).mgr = s.mgr := rfl
@[simp] theorem State.onClock_insts (f : Clock → Clock) : (s.onClock f).insts = s.insts := rfl
@[simp] theorem State.onClock_log (f : Clock → Clock) : (s.onClock f).log = s.log := rfl
@[simp] theorem State.onClock_fw (f : Clock → Clock) : (s.onClock f).fw = s.fw := rfl
@[simp] theorem State.onClock_fuses (f : Clock → Clock) : (s.onClock f).fuses = s.fuses := rfl
@[simp] theorem State.onClock_cores (f : Clock → Clock) : (s.onClock f).cores = s.cores := rfl
@[simp] theorem State.onClock_pcores (f : Clock → Clock) : (s.onClock f).pcores = s.pcores := rfl
@[simp] theorem State.onClock_ctxs (f : Clock → Clock) : (s.onClock f).ctxs = s.ctxs := rfl
@[simp] theorem State.onClock_ms (f : Clock → Clock) : (s.onClock f).ms = s.ms := rfl
@[simp] theorem State.onClock_linkLost (f : Clock → Clock) : (s.onClock f).linkLost = s.linkLost := rfl
@[simp] theorem State.onClock_devStores (f : Clock → Clock) : (s.onClock f).devStores = s.devStores := rfl
@[simp] theorem State.onClock_subchs (f : Clock → Clock) : (s.onClock f).subchs = s.subchs := rfl
@[simp] theorem State.onClock_incarns (f : Clock → Clock) : (s.onClock f).incarns = s.incarns := rfl
@[simp] theorem State.onClock_incarnBase (f : Clock → Clock) : (s.onClock f).incarnBase = s.incarnBase := rfl
@[simp] theorem State.onClock_indoubt (f : Clock → Clock) : (s.onClock f).indoubt = s.indoubt := rfl
@[simp] theorem State.onClock_doubts (f : Clock → Clock) : (s.onClock f).doubts = s.doubts := rfl
@[simp] theorem State.onClock_ioports (f : Clock → Clock) : (s.onClock f).ioports = s.ioports := rfl
@[simp] theorem State.onClock_routes (f : Clock → Clock) : (s.onClock f).routes = s.routes := rfl
@[simp] theorem State.onClock_engines (f : Clock → Clock) : (s.onClock f).engines = s.engines := rfl
@[simp] theorem State.onClock_claims (f : Clock → Clock) : (s.onClock f).claims = s.claims := rfl
@[simp] theorem State.onClock_wire (f : Clock → Clock) : (s.onClock f).wire = s.wire := rfl
@[simp] theorem State.onClock_rings (f : Clock → Clock) : (s.onClock f).rings = s.rings := rfl
@[simp] theorem State.onClock_bcus (f : Clock → Clock) : (s.onClock f).bcus = s.bcus := rfl
@[simp] theorem State.onClock_dfus (f : Clock → Clock) : (s.onClock f).dfus = s.dfus := rfl
@[simp] theorem State.onClock_bcuArb (f : Clock → Clock) : (s.onClock f).bcuArb = s.bcuArb := rfl
@[simp] theorem State.onClock_dfuArb (f : Clock → Clock) : (s.onClock f).dfuArb = s.dfuArb := rfl
@[simp] theorem State.onClock_bcuPool (f : Clock → Clock) : (s.onClock f).bcuPool = s.bcuPool := rfl
@[simp] theorem State.onClock_dfuPool (f : Clock → Clock) : (s.onClock f).dfuPool = s.dfuPool := rfl
@[simp] theorem State.onClock_pages (f : Clock → Clock) : (s.onClock f).pages = s.pages := rfl
@[simp] theorem State.onClock_dicts (f : Clock → Clock) : (s.onClock f).dicts = s.dicts := rfl
@[simp] theorem State.onClock_encls (f : Clock → Clock) : (s.onClock f).encls = s.encls := rfl
@[simp] theorem State.onClock_emap (f : Clock → Clock) : (s.onClock f).emap = s.emap := rfl
@[simp] theorem State.onClock_relay (f : Clock → Clock) : (s.onClock f).relay = s.relay := rfl
@[simp] theorem State.onClock_decode (f : Clock → Clock) : (s.onClock f).decode = s.decode := rfl
@[simp] theorem State.onClock_dbgNi (f : Clock → Clock) : (s.onClock f).dbgNi = s.dbgNi := rfl
@[simp] theorem State.onClock_dbgInv (f : Clock → Clock) : (s.onClock f).dbgInv = s.dbgInv := rfl
@[simp] theorem State.onClock_dbgEni (f : Clock → Clock) : (s.onClock f).dbgEni = s.dbgEni := rfl
@[simp] theorem State.onClock_dbgEinv (f : Clock → Clock) : (s.onClock f).dbgEinv = s.dbgEinv := rfl
@[simp] theorem State.onClock_deferred (f : Clock → Clock) : (s.onClock f).deferred = s.deferred := rfl
@[simp] theorem State.onClock_posts (f : Clock → Clock) : (s.onClock f).posts = s.posts := rfl
@[simp] theorem State.onClock_creations (f : Clock → Clock) : (s.onClock f).creations = s.creations := rfl
@[simp] theorem State.onClock_outcomes (f : Clock → Clock) : (s.onClock f).outcomes = s.outcomes := rfl
@[simp] theorem State.onClock_kept (f : Clock → Clock) : (s.onClock f).kept = s.kept := rfl
@[simp] theorem State.onClock_fresh (f : Clock → Clock) : (s.onClock f).fresh = s.fresh := rfl
@[simp] theorem State.onClock_console (f : Clock → Clock) : (s.onClock f).console = s.console := rfl
@[simp] theorem State.onClock_recSp (f : Clock → Clock) : (s.onClock f).recSp = s.recSp := rfl
@[simp] theorem State.onClock_freeCtr (f : Clock → Clock) : (s.onClock f).freeCtr = s.freeCtr := rfl
@[simp] theorem State.onClock_pending (f : Clock → Clock) : (s.onClock f).pending = s.pending := rfl

/-! ### onSvc -/

@[simp] theorem State.onSvc_phase (f : Svc → Svc) : (s.onSvc f).phase = s.phase := rfl
@[simp] theorem State.onSvc_clock (f : Svc → Svc) : (s.onSvc f).clock = s.clock := rfl
@[simp] theorem State.onSvc_pins (f : Svc → Svc) : (s.onSvc f).pins = s.pins := rfl
@[simp] theorem State.onSvc_windows (f : Svc → Svc) : (s.onSvc f).windows = s.windows := rfl
@[simp] theorem State.onSvc_mgr (f : Svc → Svc) : (s.onSvc f).mgr = s.mgr := rfl
@[simp] theorem State.onSvc_insts (f : Svc → Svc) : (s.onSvc f).insts = s.insts := rfl
@[simp] theorem State.onSvc_log (f : Svc → Svc) : (s.onSvc f).log = s.log := rfl
@[simp] theorem State.onSvc_fw (f : Svc → Svc) : (s.onSvc f).fw = s.fw := rfl
@[simp] theorem State.onSvc_fuses (f : Svc → Svc) : (s.onSvc f).fuses = s.fuses := rfl
@[simp] theorem State.onSvc_cores (f : Svc → Svc) : (s.onSvc f).cores = s.cores := rfl
@[simp] theorem State.onSvc_pcores (f : Svc → Svc) : (s.onSvc f).pcores = s.pcores := rfl
@[simp] theorem State.onSvc_ctxs (f : Svc → Svc) : (s.onSvc f).ctxs = s.ctxs := rfl
@[simp] theorem State.onSvc_ms (f : Svc → Svc) : (s.onSvc f).ms = s.ms := rfl
@[simp] theorem State.onSvc_linkLost (f : Svc → Svc) : (s.onSvc f).linkLost = s.linkLost := rfl
@[simp] theorem State.onSvc_devStores (f : Svc → Svc) : (s.onSvc f).devStores = s.devStores := rfl
@[simp] theorem State.onSvc_subchs (f : Svc → Svc) : (s.onSvc f).subchs = s.subchs := rfl
@[simp] theorem State.onSvc_incarns (f : Svc → Svc) : (s.onSvc f).incarns = s.incarns := rfl
@[simp] theorem State.onSvc_incarnBase (f : Svc → Svc) : (s.onSvc f).incarnBase = s.incarnBase := rfl
@[simp] theorem State.onSvc_indoubt (f : Svc → Svc) : (s.onSvc f).indoubt = s.indoubt := rfl
@[simp] theorem State.onSvc_doubts (f : Svc → Svc) : (s.onSvc f).doubts = s.doubts := rfl
@[simp] theorem State.onSvc_ioports (f : Svc → Svc) : (s.onSvc f).ioports = s.ioports := rfl
@[simp] theorem State.onSvc_routes (f : Svc → Svc) : (s.onSvc f).routes = s.routes := rfl
@[simp] theorem State.onSvc_engines (f : Svc → Svc) : (s.onSvc f).engines = s.engines := rfl
@[simp] theorem State.onSvc_claims (f : Svc → Svc) : (s.onSvc f).claims = s.claims := rfl
@[simp] theorem State.onSvc_wire (f : Svc → Svc) : (s.onSvc f).wire = s.wire := rfl
@[simp] theorem State.onSvc_rings (f : Svc → Svc) : (s.onSvc f).rings = s.rings := rfl
@[simp] theorem State.onSvc_bcus (f : Svc → Svc) : (s.onSvc f).bcus = s.bcus := rfl
@[simp] theorem State.onSvc_dfus (f : Svc → Svc) : (s.onSvc f).dfus = s.dfus := rfl
@[simp] theorem State.onSvc_bcuArb (f : Svc → Svc) : (s.onSvc f).bcuArb = s.bcuArb := rfl
@[simp] theorem State.onSvc_dfuArb (f : Svc → Svc) : (s.onSvc f).dfuArb = s.dfuArb := rfl
@[simp] theorem State.onSvc_bcuPool (f : Svc → Svc) : (s.onSvc f).bcuPool = s.bcuPool := rfl
@[simp] theorem State.onSvc_dfuPool (f : Svc → Svc) : (s.onSvc f).dfuPool = s.dfuPool := rfl
@[simp] theorem State.onSvc_pages (f : Svc → Svc) : (s.onSvc f).pages = s.pages := rfl
@[simp] theorem State.onSvc_dicts (f : Svc → Svc) : (s.onSvc f).dicts = s.dicts := rfl
@[simp] theorem State.onSvc_encls (f : Svc → Svc) : (s.onSvc f).encls = s.encls := rfl
@[simp] theorem State.onSvc_emap (f : Svc → Svc) : (s.onSvc f).emap = s.emap := rfl
@[simp] theorem State.onSvc_relay (f : Svc → Svc) : (s.onSvc f).relay = s.relay := rfl
@[simp] theorem State.onSvc_decode (f : Svc → Svc) : (s.onSvc f).decode = s.decode := rfl
@[simp] theorem State.onSvc_dbgNi (f : Svc → Svc) : (s.onSvc f).dbgNi = s.dbgNi := rfl
@[simp] theorem State.onSvc_dbgInv (f : Svc → Svc) : (s.onSvc f).dbgInv = s.dbgInv := rfl
@[simp] theorem State.onSvc_dbgEni (f : Svc → Svc) : (s.onSvc f).dbgEni = s.dbgEni := rfl
@[simp] theorem State.onSvc_dbgEinv (f : Svc → Svc) : (s.onSvc f).dbgEinv = s.dbgEinv := rfl
@[simp] theorem State.onSvc_deferred (f : Svc → Svc) : (s.onSvc f).deferred = s.deferred := rfl
@[simp] theorem State.onSvc_posts (f : Svc → Svc) : (s.onSvc f).posts = s.posts := rfl
@[simp] theorem State.onSvc_creations (f : Svc → Svc) : (s.onSvc f).creations = s.creations := rfl
@[simp] theorem State.onSvc_outcomes (f : Svc → Svc) : (s.onSvc f).outcomes = s.outcomes := rfl
@[simp] theorem State.onSvc_kept (f : Svc → Svc) : (s.onSvc f).kept = s.kept := rfl
@[simp] theorem State.onSvc_fresh (f : Svc → Svc) : (s.onSvc f).fresh = s.fresh := rfl
@[simp] theorem State.onSvc_console (f : Svc → Svc) : (s.onSvc f).console = s.console := rfl
@[simp] theorem State.onSvc_recSp (f : Svc → Svc) : (s.onSvc f).recSp = s.recSp := rfl
@[simp] theorem State.onSvc_freeCtr (f : Svc → Svc) : (s.onSvc f).freeCtr = s.freeCtr := rfl
@[simp] theorem State.onSvc_pending (f : Svc → Svc) : (s.onSvc f).pending = s.pending := rfl

/-! ### drawn -/

@[simp] theorem State.drawn_phase : (s.drawn).phase = s.phase := rfl
@[simp] theorem State.drawn_clock : (s.drawn).clock = s.clock := rfl
@[simp] theorem State.drawn_pins : (s.drawn).pins = s.pins := rfl
@[simp] theorem State.drawn_svc : (s.drawn).svc = s.svc := rfl
@[simp] theorem State.drawn_windows : (s.drawn).windows = s.windows := rfl
@[simp] theorem State.drawn_mgr : (s.drawn).mgr = s.mgr := rfl
@[simp] theorem State.drawn_insts : (s.drawn).insts = s.insts := rfl
@[simp] theorem State.drawn_log : (s.drawn).log = s.log := rfl
@[simp] theorem State.drawn_fw : (s.drawn).fw = s.fw := rfl
@[simp] theorem State.drawn_fuses : (s.drawn).fuses = s.fuses := rfl
@[simp] theorem State.drawn_cores : (s.drawn).cores = s.cores := rfl
@[simp] theorem State.drawn_pcores : (s.drawn).pcores = s.pcores := rfl
@[simp] theorem State.drawn_ctxs : (s.drawn).ctxs = s.ctxs := rfl
@[simp] theorem State.drawn_ms : (s.drawn).ms = s.ms := rfl
@[simp] theorem State.drawn_linkLost : (s.drawn).linkLost = s.linkLost := rfl
@[simp] theorem State.drawn_devStores : (s.drawn).devStores = s.devStores := rfl
@[simp] theorem State.drawn_subchs : (s.drawn).subchs = s.subchs := rfl
@[simp] theorem State.drawn_incarns : (s.drawn).incarns = s.incarns := rfl
@[simp] theorem State.drawn_incarnBase : (s.drawn).incarnBase = s.incarnBase := rfl
@[simp] theorem State.drawn_indoubt : (s.drawn).indoubt = s.indoubt := rfl
@[simp] theorem State.drawn_doubts : (s.drawn).doubts = s.doubts := rfl
@[simp] theorem State.drawn_ioports : (s.drawn).ioports = s.ioports := rfl
@[simp] theorem State.drawn_routes : (s.drawn).routes = s.routes := rfl
@[simp] theorem State.drawn_engines : (s.drawn).engines = s.engines := rfl
@[simp] theorem State.drawn_claims : (s.drawn).claims = s.claims := rfl
@[simp] theorem State.drawn_wire : (s.drawn).wire = s.wire := rfl
@[simp] theorem State.drawn_rings : (s.drawn).rings = s.rings := rfl
@[simp] theorem State.drawn_bcus : (s.drawn).bcus = s.bcus := rfl
@[simp] theorem State.drawn_dfus : (s.drawn).dfus = s.dfus := rfl
@[simp] theorem State.drawn_bcuArb : (s.drawn).bcuArb = s.bcuArb := rfl
@[simp] theorem State.drawn_dfuArb : (s.drawn).dfuArb = s.dfuArb := rfl
@[simp] theorem State.drawn_bcuPool : (s.drawn).bcuPool = s.bcuPool := rfl
@[simp] theorem State.drawn_dfuPool : (s.drawn).dfuPool = s.dfuPool := rfl
@[simp] theorem State.drawn_pages : (s.drawn).pages = s.pages := rfl
@[simp] theorem State.drawn_dicts : (s.drawn).dicts = s.dicts := rfl
@[simp] theorem State.drawn_encls : (s.drawn).encls = s.encls := rfl
@[simp] theorem State.drawn_emap : (s.drawn).emap = s.emap := rfl
@[simp] theorem State.drawn_relay : (s.drawn).relay = s.relay := rfl
@[simp] theorem State.drawn_decode : (s.drawn).decode = s.decode := rfl
@[simp] theorem State.drawn_dbgNi : (s.drawn).dbgNi = s.dbgNi := rfl
@[simp] theorem State.drawn_dbgInv : (s.drawn).dbgInv = s.dbgInv := rfl
@[simp] theorem State.drawn_dbgEni : (s.drawn).dbgEni = s.dbgEni := rfl
@[simp] theorem State.drawn_dbgEinv : (s.drawn).dbgEinv = s.dbgEinv := rfl
@[simp] theorem State.drawn_deferred : (s.drawn).deferred = s.deferred := rfl
@[simp] theorem State.drawn_posts : (s.drawn).posts = s.posts := rfl
@[simp] theorem State.drawn_creations : (s.drawn).creations = s.creations := rfl
@[simp] theorem State.drawn_outcomes : (s.drawn).outcomes = s.outcomes := rfl
@[simp] theorem State.drawn_kept : (s.drawn).kept = s.kept := rfl
@[simp] theorem State.drawn_fresh : (s.drawn).fresh = s.fresh := rfl
@[simp] theorem State.drawn_console : (s.drawn).console = s.console := rfl
@[simp] theorem State.drawn_recSp : (s.drawn).recSp = s.recSp := rfl
@[simp] theorem State.drawn_pending : (s.drawn).pending = s.pending := rfl

/-! ### logRec -/

@[simp] theorem State.logRec_phase (a b : Nat) (l : List Nat) : (s.logRec a b l).phase = s.phase := rfl
@[simp] theorem State.logRec_clock (a b : Nat) (l : List Nat) : (s.logRec a b l).clock = s.clock := rfl
@[simp] theorem State.logRec_pins (a b : Nat) (l : List Nat) : (s.logRec a b l).pins = s.pins := rfl
@[simp] theorem State.logRec_svc (a b : Nat) (l : List Nat) : (s.logRec a b l).svc = s.svc := rfl
@[simp] theorem State.logRec_windows (a b : Nat) (l : List Nat) : (s.logRec a b l).windows = s.windows := rfl
@[simp] theorem State.logRec_mgr (a b : Nat) (l : List Nat) : (s.logRec a b l).mgr = s.mgr := rfl
@[simp] theorem State.logRec_insts (a b : Nat) (l : List Nat) : (s.logRec a b l).insts = s.insts := rfl
@[simp] theorem State.logRec_fw (a b : Nat) (l : List Nat) : (s.logRec a b l).fw = s.fw := rfl
@[simp] theorem State.logRec_fuses (a b : Nat) (l : List Nat) : (s.logRec a b l).fuses = s.fuses := rfl
@[simp] theorem State.logRec_cores (a b : Nat) (l : List Nat) : (s.logRec a b l).cores = s.cores := rfl
@[simp] theorem State.logRec_pcores (a b : Nat) (l : List Nat) : (s.logRec a b l).pcores = s.pcores := rfl
@[simp] theorem State.logRec_ctxs (a b : Nat) (l : List Nat) : (s.logRec a b l).ctxs = s.ctxs := rfl
@[simp] theorem State.logRec_ms (a b : Nat) (l : List Nat) : (s.logRec a b l).ms = s.ms := rfl
@[simp] theorem State.logRec_linkLost (a b : Nat) (l : List Nat) : (s.logRec a b l).linkLost = s.linkLost := rfl
@[simp] theorem State.logRec_devStores (a b : Nat) (l : List Nat) : (s.logRec a b l).devStores = s.devStores := rfl
@[simp] theorem State.logRec_subchs (a b : Nat) (l : List Nat) : (s.logRec a b l).subchs = s.subchs := rfl
@[simp] theorem State.logRec_incarns (a b : Nat) (l : List Nat) : (s.logRec a b l).incarns = s.incarns := rfl
@[simp] theorem State.logRec_incarnBase (a b : Nat) (l : List Nat) : (s.logRec a b l).incarnBase = s.incarnBase := rfl
@[simp] theorem State.logRec_indoubt (a b : Nat) (l : List Nat) : (s.logRec a b l).indoubt = s.indoubt := rfl
@[simp] theorem State.logRec_doubts (a b : Nat) (l : List Nat) : (s.logRec a b l).doubts = s.doubts := rfl
@[simp] theorem State.logRec_ioports (a b : Nat) (l : List Nat) : (s.logRec a b l).ioports = s.ioports := rfl
@[simp] theorem State.logRec_routes (a b : Nat) (l : List Nat) : (s.logRec a b l).routes = s.routes := rfl
@[simp] theorem State.logRec_engines (a b : Nat) (l : List Nat) : (s.logRec a b l).engines = s.engines := rfl
@[simp] theorem State.logRec_claims (a b : Nat) (l : List Nat) : (s.logRec a b l).claims = s.claims := rfl
@[simp] theorem State.logRec_wire (a b : Nat) (l : List Nat) : (s.logRec a b l).wire = s.wire := rfl
@[simp] theorem State.logRec_rings (a b : Nat) (l : List Nat) : (s.logRec a b l).rings = s.rings := rfl
@[simp] theorem State.logRec_bcus (a b : Nat) (l : List Nat) : (s.logRec a b l).bcus = s.bcus := rfl
@[simp] theorem State.logRec_dfus (a b : Nat) (l : List Nat) : (s.logRec a b l).dfus = s.dfus := rfl
@[simp] theorem State.logRec_bcuArb (a b : Nat) (l : List Nat) : (s.logRec a b l).bcuArb = s.bcuArb := rfl
@[simp] theorem State.logRec_dfuArb (a b : Nat) (l : List Nat) : (s.logRec a b l).dfuArb = s.dfuArb := rfl
@[simp] theorem State.logRec_bcuPool (a b : Nat) (l : List Nat) : (s.logRec a b l).bcuPool = s.bcuPool := rfl
@[simp] theorem State.logRec_dfuPool (a b : Nat) (l : List Nat) : (s.logRec a b l).dfuPool = s.dfuPool := rfl
@[simp] theorem State.logRec_pages (a b : Nat) (l : List Nat) : (s.logRec a b l).pages = s.pages := rfl
@[simp] theorem State.logRec_dicts (a b : Nat) (l : List Nat) : (s.logRec a b l).dicts = s.dicts := rfl
@[simp] theorem State.logRec_encls (a b : Nat) (l : List Nat) : (s.logRec a b l).encls = s.encls := rfl
@[simp] theorem State.logRec_emap (a b : Nat) (l : List Nat) : (s.logRec a b l).emap = s.emap := rfl
@[simp] theorem State.logRec_relay (a b : Nat) (l : List Nat) : (s.logRec a b l).relay = s.relay := rfl
@[simp] theorem State.logRec_decode (a b : Nat) (l : List Nat) : (s.logRec a b l).decode = s.decode := rfl
@[simp] theorem State.logRec_dbgNi (a b : Nat) (l : List Nat) : (s.logRec a b l).dbgNi = s.dbgNi := rfl
@[simp] theorem State.logRec_dbgInv (a b : Nat) (l : List Nat) : (s.logRec a b l).dbgInv = s.dbgInv := rfl
@[simp] theorem State.logRec_dbgEni (a b : Nat) (l : List Nat) : (s.logRec a b l).dbgEni = s.dbgEni := rfl
@[simp] theorem State.logRec_dbgEinv (a b : Nat) (l : List Nat) : (s.logRec a b l).dbgEinv = s.dbgEinv := rfl
@[simp] theorem State.logRec_deferred (a b : Nat) (l : List Nat) : (s.logRec a b l).deferred = s.deferred := rfl
@[simp] theorem State.logRec_posts (a b : Nat) (l : List Nat) : (s.logRec a b l).posts = s.posts := rfl
@[simp] theorem State.logRec_creations (a b : Nat) (l : List Nat) : (s.logRec a b l).creations = s.creations := rfl
@[simp] theorem State.logRec_outcomes (a b : Nat) (l : List Nat) : (s.logRec a b l).outcomes = s.outcomes := rfl
@[simp] theorem State.logRec_kept (a b : Nat) (l : List Nat) : (s.logRec a b l).kept = s.kept := rfl
@[simp] theorem State.logRec_fresh (a b : Nat) (l : List Nat) : (s.logRec a b l).fresh = s.fresh := rfl
@[simp] theorem State.logRec_console (a b : Nat) (l : List Nat) : (s.logRec a b l).console = s.console := rfl
@[simp] theorem State.logRec_recSp (a b : Nat) (l : List Nat) : (s.logRec a b l).recSp = s.recSp := rfl
@[simp] theorem State.logRec_freeCtr (a b : Nat) (l : List Nat) : (s.logRec a b l).freeCtr = s.freeCtr := rfl
@[simp] theorem State.logRec_pending (a b : Nat) (l : List Nat) : (s.logRec a b l).pending = s.pending := rfl

/-! ### logSealed -/

@[simp] theorem State.logSealed_phase (a b : Nat) (l : List Nat) : (s.logSealed a b l).phase = s.phase := rfl
@[simp] theorem State.logSealed_clock (a b : Nat) (l : List Nat) : (s.logSealed a b l).clock = s.clock := rfl
@[simp] theorem State.logSealed_pins (a b : Nat) (l : List Nat) : (s.logSealed a b l).pins = s.pins := rfl
@[simp] theorem State.logSealed_svc (a b : Nat) (l : List Nat) : (s.logSealed a b l).svc = s.svc := rfl
@[simp] theorem State.logSealed_windows (a b : Nat) (l : List Nat) : (s.logSealed a b l).windows = s.windows := rfl
@[simp] theorem State.logSealed_mgr (a b : Nat) (l : List Nat) : (s.logSealed a b l).mgr = s.mgr := rfl
@[simp] theorem State.logSealed_insts (a b : Nat) (l : List Nat) : (s.logSealed a b l).insts = s.insts := rfl
@[simp] theorem State.logSealed_fw (a b : Nat) (l : List Nat) : (s.logSealed a b l).fw = s.fw := rfl
@[simp] theorem State.logSealed_fuses (a b : Nat) (l : List Nat) : (s.logSealed a b l).fuses = s.fuses := rfl
@[simp] theorem State.logSealed_cores (a b : Nat) (l : List Nat) : (s.logSealed a b l).cores = s.cores := rfl
@[simp] theorem State.logSealed_pcores (a b : Nat) (l : List Nat) : (s.logSealed a b l).pcores = s.pcores := rfl
@[simp] theorem State.logSealed_ctxs (a b : Nat) (l : List Nat) : (s.logSealed a b l).ctxs = s.ctxs := rfl
@[simp] theorem State.logSealed_ms (a b : Nat) (l : List Nat) : (s.logSealed a b l).ms = s.ms := rfl
@[simp] theorem State.logSealed_linkLost (a b : Nat) (l : List Nat) : (s.logSealed a b l).linkLost = s.linkLost := rfl
@[simp] theorem State.logSealed_devStores (a b : Nat) (l : List Nat) : (s.logSealed a b l).devStores = s.devStores := rfl
@[simp] theorem State.logSealed_subchs (a b : Nat) (l : List Nat) : (s.logSealed a b l).subchs = s.subchs := rfl
@[simp] theorem State.logSealed_incarns (a b : Nat) (l : List Nat) : (s.logSealed a b l).incarns = s.incarns := rfl
@[simp] theorem State.logSealed_incarnBase (a b : Nat) (l : List Nat) : (s.logSealed a b l).incarnBase = s.incarnBase := rfl
@[simp] theorem State.logSealed_indoubt (a b : Nat) (l : List Nat) : (s.logSealed a b l).indoubt = s.indoubt := rfl
@[simp] theorem State.logSealed_doubts (a b : Nat) (l : List Nat) : (s.logSealed a b l).doubts = s.doubts := rfl
@[simp] theorem State.logSealed_ioports (a b : Nat) (l : List Nat) : (s.logSealed a b l).ioports = s.ioports := rfl
@[simp] theorem State.logSealed_routes (a b : Nat) (l : List Nat) : (s.logSealed a b l).routes = s.routes := rfl
@[simp] theorem State.logSealed_engines (a b : Nat) (l : List Nat) : (s.logSealed a b l).engines = s.engines := rfl
@[simp] theorem State.logSealed_claims (a b : Nat) (l : List Nat) : (s.logSealed a b l).claims = s.claims := rfl
@[simp] theorem State.logSealed_wire (a b : Nat) (l : List Nat) : (s.logSealed a b l).wire = s.wire := rfl
@[simp] theorem State.logSealed_rings (a b : Nat) (l : List Nat) : (s.logSealed a b l).rings = s.rings := rfl
@[simp] theorem State.logSealed_bcus (a b : Nat) (l : List Nat) : (s.logSealed a b l).bcus = s.bcus := rfl
@[simp] theorem State.logSealed_dfus (a b : Nat) (l : List Nat) : (s.logSealed a b l).dfus = s.dfus := rfl
@[simp] theorem State.logSealed_bcuArb (a b : Nat) (l : List Nat) : (s.logSealed a b l).bcuArb = s.bcuArb := rfl
@[simp] theorem State.logSealed_dfuArb (a b : Nat) (l : List Nat) : (s.logSealed a b l).dfuArb = s.dfuArb := rfl
@[simp] theorem State.logSealed_bcuPool (a b : Nat) (l : List Nat) : (s.logSealed a b l).bcuPool = s.bcuPool := rfl
@[simp] theorem State.logSealed_dfuPool (a b : Nat) (l : List Nat) : (s.logSealed a b l).dfuPool = s.dfuPool := rfl
@[simp] theorem State.logSealed_pages (a b : Nat) (l : List Nat) : (s.logSealed a b l).pages = s.pages := rfl
@[simp] theorem State.logSealed_dicts (a b : Nat) (l : List Nat) : (s.logSealed a b l).dicts = s.dicts := rfl
@[simp] theorem State.logSealed_encls (a b : Nat) (l : List Nat) : (s.logSealed a b l).encls = s.encls := rfl
@[simp] theorem State.logSealed_emap (a b : Nat) (l : List Nat) : (s.logSealed a b l).emap = s.emap := rfl
@[simp] theorem State.logSealed_relay (a b : Nat) (l : List Nat) : (s.logSealed a b l).relay = s.relay := rfl
@[simp] theorem State.logSealed_decode (a b : Nat) (l : List Nat) : (s.logSealed a b l).decode = s.decode := rfl
@[simp] theorem State.logSealed_dbgNi (a b : Nat) (l : List Nat) : (s.logSealed a b l).dbgNi = s.dbgNi := rfl
@[simp] theorem State.logSealed_dbgInv (a b : Nat) (l : List Nat) : (s.logSealed a b l).dbgInv = s.dbgInv := rfl
@[simp] theorem State.logSealed_dbgEni (a b : Nat) (l : List Nat) : (s.logSealed a b l).dbgEni = s.dbgEni := rfl
@[simp] theorem State.logSealed_dbgEinv (a b : Nat) (l : List Nat) : (s.logSealed a b l).dbgEinv = s.dbgEinv := rfl
@[simp] theorem State.logSealed_deferred (a b : Nat) (l : List Nat) : (s.logSealed a b l).deferred = s.deferred := rfl
@[simp] theorem State.logSealed_posts (a b : Nat) (l : List Nat) : (s.logSealed a b l).posts = s.posts := rfl
@[simp] theorem State.logSealed_creations (a b : Nat) (l : List Nat) : (s.logSealed a b l).creations = s.creations := rfl
@[simp] theorem State.logSealed_outcomes (a b : Nat) (l : List Nat) : (s.logSealed a b l).outcomes = s.outcomes := rfl
@[simp] theorem State.logSealed_kept (a b : Nat) (l : List Nat) : (s.logSealed a b l).kept = s.kept := rfl
@[simp] theorem State.logSealed_fresh (a b : Nat) (l : List Nat) : (s.logSealed a b l).fresh = s.fresh := rfl
@[simp] theorem State.logSealed_console (a b : Nat) (l : List Nat) : (s.logSealed a b l).console = s.console := rfl
@[simp] theorem State.logSealed_recSp (a b : Nat) (l : List Nat) : (s.logSealed a b l).recSp = s.recSp := rfl
@[simp] theorem State.logSealed_freeCtr (a b : Nat) (l : List Nat) : (s.logSealed a b l).freeCtr = s.freeCtr := rfl
@[simp] theorem State.logSealed_pending (a b : Nat) (l : List Nat) : (s.logSealed a b l).pending = s.pending := rfl

/-! ### count -/

@[simp] theorem State.count_phase (a : Nat) (f : UnitCtr → UnitCtr) : (s.count a f).phase = s.phase := rfl
@[simp] theorem State.count_clock (a : Nat) (f : UnitCtr → UnitCtr) : (s.count a f).clock = s.clock := rfl
@[simp] theorem State.count_pins (a : Nat) (f : UnitCtr → UnitCtr) : (s.count a f).pins = s.pins := rfl
@[simp] theorem State.count_svc (a : Nat) (f : UnitCtr → UnitCtr) : (s.count a f).svc = s.svc := rfl
@[simp] theorem State.count_windows (a : Nat) (f : UnitCtr → UnitCtr) : (s.count a f).windows = s.windows := rfl
@[simp] theorem State.count_mgr (a : Nat) (f : UnitCtr → UnitCtr) : (s.count a f).mgr = s.mgr := rfl
@[simp] theorem State.count_insts (a : Nat) (f : UnitCtr → UnitCtr) : (s.count a f).insts = s.insts := rfl
@[simp] theorem State.count_fw (a : Nat) (f : UnitCtr → UnitCtr) : (s.count a f).fw = s.fw := rfl
@[simp] theorem State.count_fuses (a : Nat) (f : UnitCtr → UnitCtr) : (s.count a f).fuses = s.fuses := rfl
@[simp] theorem State.count_cores (a : Nat) (f : UnitCtr → UnitCtr) : (s.count a f).cores = s.cores := rfl
@[simp] theorem State.count_pcores (a : Nat) (f : UnitCtr → UnitCtr) : (s.count a f).pcores = s.pcores := rfl
@[simp] theorem State.count_ctxs (a : Nat) (f : UnitCtr → UnitCtr) : (s.count a f).ctxs = s.ctxs := rfl
@[simp] theorem State.count_ms (a : Nat) (f : UnitCtr → UnitCtr) : (s.count a f).ms = s.ms := rfl
@[simp] theorem State.count_linkLost (a : Nat) (f : UnitCtr → UnitCtr) : (s.count a f).linkLost = s.linkLost := rfl
@[simp] theorem State.count_devStores (a : Nat) (f : UnitCtr → UnitCtr) : (s.count a f).devStores = s.devStores := rfl
@[simp] theorem State.count_subchs (a : Nat) (f : UnitCtr → UnitCtr) : (s.count a f).subchs = s.subchs := rfl
@[simp] theorem State.count_incarns (a : Nat) (f : UnitCtr → UnitCtr) : (s.count a f).incarns = s.incarns := rfl
@[simp] theorem State.count_incarnBase (a : Nat) (f : UnitCtr → UnitCtr) : (s.count a f).incarnBase = s.incarnBase := rfl
@[simp] theorem State.count_indoubt (a : Nat) (f : UnitCtr → UnitCtr) : (s.count a f).indoubt = s.indoubt := rfl
@[simp] theorem State.count_doubts (a : Nat) (f : UnitCtr → UnitCtr) : (s.count a f).doubts = s.doubts := rfl
@[simp] theorem State.count_ioports (a : Nat) (f : UnitCtr → UnitCtr) : (s.count a f).ioports = s.ioports := rfl
@[simp] theorem State.count_routes (a : Nat) (f : UnitCtr → UnitCtr) : (s.count a f).routes = s.routes := rfl
@[simp] theorem State.count_engines (a : Nat) (f : UnitCtr → UnitCtr) : (s.count a f).engines = s.engines := rfl
@[simp] theorem State.count_claims (a : Nat) (f : UnitCtr → UnitCtr) : (s.count a f).claims = s.claims := rfl
@[simp] theorem State.count_wire (a : Nat) (f : UnitCtr → UnitCtr) : (s.count a f).wire = s.wire := rfl
@[simp] theorem State.count_rings (a : Nat) (f : UnitCtr → UnitCtr) : (s.count a f).rings = s.rings := rfl
@[simp] theorem State.count_bcus (a : Nat) (f : UnitCtr → UnitCtr) : (s.count a f).bcus = s.bcus := rfl
@[simp] theorem State.count_dfus (a : Nat) (f : UnitCtr → UnitCtr) : (s.count a f).dfus = s.dfus := rfl
@[simp] theorem State.count_bcuArb (a : Nat) (f : UnitCtr → UnitCtr) : (s.count a f).bcuArb = s.bcuArb := rfl
@[simp] theorem State.count_dfuArb (a : Nat) (f : UnitCtr → UnitCtr) : (s.count a f).dfuArb = s.dfuArb := rfl
@[simp] theorem State.count_bcuPool (a : Nat) (f : UnitCtr → UnitCtr) : (s.count a f).bcuPool = s.bcuPool := rfl
@[simp] theorem State.count_dfuPool (a : Nat) (f : UnitCtr → UnitCtr) : (s.count a f).dfuPool = s.dfuPool := rfl
@[simp] theorem State.count_pages (a : Nat) (f : UnitCtr → UnitCtr) : (s.count a f).pages = s.pages := rfl
@[simp] theorem State.count_dicts (a : Nat) (f : UnitCtr → UnitCtr) : (s.count a f).dicts = s.dicts := rfl
@[simp] theorem State.count_encls (a : Nat) (f : UnitCtr → UnitCtr) : (s.count a f).encls = s.encls := rfl
@[simp] theorem State.count_emap (a : Nat) (f : UnitCtr → UnitCtr) : (s.count a f).emap = s.emap := rfl
@[simp] theorem State.count_relay (a : Nat) (f : UnitCtr → UnitCtr) : (s.count a f).relay = s.relay := rfl
@[simp] theorem State.count_decode (a : Nat) (f : UnitCtr → UnitCtr) : (s.count a f).decode = s.decode := rfl
@[simp] theorem State.count_dbgNi (a : Nat) (f : UnitCtr → UnitCtr) : (s.count a f).dbgNi = s.dbgNi := rfl
@[simp] theorem State.count_dbgInv (a : Nat) (f : UnitCtr → UnitCtr) : (s.count a f).dbgInv = s.dbgInv := rfl
@[simp] theorem State.count_dbgEni (a : Nat) (f : UnitCtr → UnitCtr) : (s.count a f).dbgEni = s.dbgEni := rfl
@[simp] theorem State.count_dbgEinv (a : Nat) (f : UnitCtr → UnitCtr) : (s.count a f).dbgEinv = s.dbgEinv := rfl
@[simp] theorem State.count_deferred (a : Nat) (f : UnitCtr → UnitCtr) : (s.count a f).deferred = s.deferred := rfl
@[simp] theorem State.count_posts (a : Nat) (f : UnitCtr → UnitCtr) : (s.count a f).posts = s.posts := rfl
@[simp] theorem State.count_creations (a : Nat) (f : UnitCtr → UnitCtr) : (s.count a f).creations = s.creations := rfl
@[simp] theorem State.count_outcomes (a : Nat) (f : UnitCtr → UnitCtr) : (s.count a f).outcomes = s.outcomes := rfl
@[simp] theorem State.count_kept (a : Nat) (f : UnitCtr → UnitCtr) : (s.count a f).kept = s.kept := rfl
@[simp] theorem State.count_fresh (a : Nat) (f : UnitCtr → UnitCtr) : (s.count a f).fresh = s.fresh := rfl
@[simp] theorem State.count_console (a : Nat) (f : UnitCtr → UnitCtr) : (s.count a f).console = s.console := rfl
@[simp] theorem State.count_recSp (a : Nat) (f : UnitCtr → UnitCtr) : (s.count a f).recSp = s.recSp := rfl
@[simp] theorem State.count_freeCtr (a : Nat) (f : UnitCtr → UnitCtr) : (s.count a f).freeCtr = s.freeCtr := rfl
@[simp] theorem State.count_pending (a : Nat) (f : UnitCtr → UnitCtr) : (s.count a f).pending = s.pending := rfl

/-! ### countA -/

@[simp] theorem State.countA_phase (a : Nat) : (s.countA a).phase = s.phase := rfl
@[simp] theorem State.countA_clock (a : Nat) : (s.countA a).clock = s.clock := rfl
@[simp] theorem State.countA_pins (a : Nat) : (s.countA a).pins = s.pins := rfl
@[simp] theorem State.countA_svc (a : Nat) : (s.countA a).svc = s.svc := rfl
@[simp] theorem State.countA_windows (a : Nat) : (s.countA a).windows = s.windows := rfl
@[simp] theorem State.countA_mgr (a : Nat) : (s.countA a).mgr = s.mgr := rfl
@[simp] theorem State.countA_insts (a : Nat) : (s.countA a).insts = s.insts := rfl
@[simp] theorem State.countA_fw (a : Nat) : (s.countA a).fw = s.fw := rfl
@[simp] theorem State.countA_fuses (a : Nat) : (s.countA a).fuses = s.fuses := rfl
@[simp] theorem State.countA_cores (a : Nat) : (s.countA a).cores = s.cores := rfl
@[simp] theorem State.countA_pcores (a : Nat) : (s.countA a).pcores = s.pcores := rfl
@[simp] theorem State.countA_ctxs (a : Nat) : (s.countA a).ctxs = s.ctxs := rfl
@[simp] theorem State.countA_ms (a : Nat) : (s.countA a).ms = s.ms := rfl
@[simp] theorem State.countA_linkLost (a : Nat) : (s.countA a).linkLost = s.linkLost := rfl
@[simp] theorem State.countA_devStores (a : Nat) : (s.countA a).devStores = s.devStores := rfl
@[simp] theorem State.countA_subchs (a : Nat) : (s.countA a).subchs = s.subchs := rfl
@[simp] theorem State.countA_incarns (a : Nat) : (s.countA a).incarns = s.incarns := rfl
@[simp] theorem State.countA_incarnBase (a : Nat) : (s.countA a).incarnBase = s.incarnBase := rfl
@[simp] theorem State.countA_indoubt (a : Nat) : (s.countA a).indoubt = s.indoubt := rfl
@[simp] theorem State.countA_doubts (a : Nat) : (s.countA a).doubts = s.doubts := rfl
@[simp] theorem State.countA_ioports (a : Nat) : (s.countA a).ioports = s.ioports := rfl
@[simp] theorem State.countA_routes (a : Nat) : (s.countA a).routes = s.routes := rfl
@[simp] theorem State.countA_engines (a : Nat) : (s.countA a).engines = s.engines := rfl
@[simp] theorem State.countA_claims (a : Nat) : (s.countA a).claims = s.claims := rfl
@[simp] theorem State.countA_wire (a : Nat) : (s.countA a).wire = s.wire := rfl
@[simp] theorem State.countA_rings (a : Nat) : (s.countA a).rings = s.rings := rfl
@[simp] theorem State.countA_bcus (a : Nat) : (s.countA a).bcus = s.bcus := rfl
@[simp] theorem State.countA_dfus (a : Nat) : (s.countA a).dfus = s.dfus := rfl
@[simp] theorem State.countA_bcuArb (a : Nat) : (s.countA a).bcuArb = s.bcuArb := rfl
@[simp] theorem State.countA_dfuArb (a : Nat) : (s.countA a).dfuArb = s.dfuArb := rfl
@[simp] theorem State.countA_bcuPool (a : Nat) : (s.countA a).bcuPool = s.bcuPool := rfl
@[simp] theorem State.countA_dfuPool (a : Nat) : (s.countA a).dfuPool = s.dfuPool := rfl
@[simp] theorem State.countA_pages (a : Nat) : (s.countA a).pages = s.pages := rfl
@[simp] theorem State.countA_dicts (a : Nat) : (s.countA a).dicts = s.dicts := rfl
@[simp] theorem State.countA_encls (a : Nat) : (s.countA a).encls = s.encls := rfl
@[simp] theorem State.countA_emap (a : Nat) : (s.countA a).emap = s.emap := rfl
@[simp] theorem State.countA_relay (a : Nat) : (s.countA a).relay = s.relay := rfl
@[simp] theorem State.countA_decode (a : Nat) : (s.countA a).decode = s.decode := rfl
@[simp] theorem State.countA_dbgNi (a : Nat) : (s.countA a).dbgNi = s.dbgNi := rfl
@[simp] theorem State.countA_dbgInv (a : Nat) : (s.countA a).dbgInv = s.dbgInv := rfl
@[simp] theorem State.countA_dbgEni (a : Nat) : (s.countA a).dbgEni = s.dbgEni := rfl
@[simp] theorem State.countA_dbgEinv (a : Nat) : (s.countA a).dbgEinv = s.dbgEinv := rfl
@[simp] theorem State.countA_deferred (a : Nat) : (s.countA a).deferred = s.deferred := rfl
@[simp] theorem State.countA_posts (a : Nat) : (s.countA a).posts = s.posts := rfl
@[simp] theorem State.countA_creations (a : Nat) : (s.countA a).creations = s.creations := rfl
@[simp] theorem State.countA_outcomes (a : Nat) : (s.countA a).outcomes = s.outcomes := rfl
@[simp] theorem State.countA_kept (a : Nat) : (s.countA a).kept = s.kept := rfl
@[simp] theorem State.countA_fresh (a : Nat) : (s.countA a).fresh = s.fresh := rfl
@[simp] theorem State.countA_console (a : Nat) : (s.countA a).console = s.console := rfl
@[simp] theorem State.countA_recSp (a : Nat) : (s.countA a).recSp = s.recSp := rfl
@[simp] theorem State.countA_freeCtr (a : Nat) : (s.countA a).freeCtr = s.freeCtr := rfl
@[simp] theorem State.countA_pending (a : Nat) : (s.countA a).pending = s.pending := rfl

/-! ### countB -/

@[simp] theorem State.countB_phase (a : Nat) : (s.countB a).phase = s.phase := rfl
@[simp] theorem State.countB_clock (a : Nat) : (s.countB a).clock = s.clock := rfl
@[simp] theorem State.countB_pins (a : Nat) : (s.countB a).pins = s.pins := rfl
@[simp] theorem State.countB_svc (a : Nat) : (s.countB a).svc = s.svc := rfl
@[simp] theorem State.countB_windows (a : Nat) : (s.countB a).windows = s.windows := rfl
@[simp] theorem State.countB_mgr (a : Nat) : (s.countB a).mgr = s.mgr := rfl
@[simp] theorem State.countB_insts (a : Nat) : (s.countB a).insts = s.insts := rfl
@[simp] theorem State.countB_fw (a : Nat) : (s.countB a).fw = s.fw := rfl
@[simp] theorem State.countB_fuses (a : Nat) : (s.countB a).fuses = s.fuses := rfl
@[simp] theorem State.countB_cores (a : Nat) : (s.countB a).cores = s.cores := rfl
@[simp] theorem State.countB_pcores (a : Nat) : (s.countB a).pcores = s.pcores := rfl
@[simp] theorem State.countB_ctxs (a : Nat) : (s.countB a).ctxs = s.ctxs := rfl
@[simp] theorem State.countB_ms (a : Nat) : (s.countB a).ms = s.ms := rfl
@[simp] theorem State.countB_linkLost (a : Nat) : (s.countB a).linkLost = s.linkLost := rfl
@[simp] theorem State.countB_devStores (a : Nat) : (s.countB a).devStores = s.devStores := rfl
@[simp] theorem State.countB_subchs (a : Nat) : (s.countB a).subchs = s.subchs := rfl
@[simp] theorem State.countB_incarns (a : Nat) : (s.countB a).incarns = s.incarns := rfl
@[simp] theorem State.countB_incarnBase (a : Nat) : (s.countB a).incarnBase = s.incarnBase := rfl
@[simp] theorem State.countB_indoubt (a : Nat) : (s.countB a).indoubt = s.indoubt := rfl
@[simp] theorem State.countB_doubts (a : Nat) : (s.countB a).doubts = s.doubts := rfl
@[simp] theorem State.countB_ioports (a : Nat) : (s.countB a).ioports = s.ioports := rfl
@[simp] theorem State.countB_routes (a : Nat) : (s.countB a).routes = s.routes := rfl
@[simp] theorem State.countB_engines (a : Nat) : (s.countB a).engines = s.engines := rfl
@[simp] theorem State.countB_claims (a : Nat) : (s.countB a).claims = s.claims := rfl
@[simp] theorem State.countB_wire (a : Nat) : (s.countB a).wire = s.wire := rfl
@[simp] theorem State.countB_rings (a : Nat) : (s.countB a).rings = s.rings := rfl
@[simp] theorem State.countB_bcus (a : Nat) : (s.countB a).bcus = s.bcus := rfl
@[simp] theorem State.countB_dfus (a : Nat) : (s.countB a).dfus = s.dfus := rfl
@[simp] theorem State.countB_bcuArb (a : Nat) : (s.countB a).bcuArb = s.bcuArb := rfl
@[simp] theorem State.countB_dfuArb (a : Nat) : (s.countB a).dfuArb = s.dfuArb := rfl
@[simp] theorem State.countB_bcuPool (a : Nat) : (s.countB a).bcuPool = s.bcuPool := rfl
@[simp] theorem State.countB_dfuPool (a : Nat) : (s.countB a).dfuPool = s.dfuPool := rfl
@[simp] theorem State.countB_pages (a : Nat) : (s.countB a).pages = s.pages := rfl
@[simp] theorem State.countB_dicts (a : Nat) : (s.countB a).dicts = s.dicts := rfl
@[simp] theorem State.countB_encls (a : Nat) : (s.countB a).encls = s.encls := rfl
@[simp] theorem State.countB_emap (a : Nat) : (s.countB a).emap = s.emap := rfl
@[simp] theorem State.countB_relay (a : Nat) : (s.countB a).relay = s.relay := rfl
@[simp] theorem State.countB_decode (a : Nat) : (s.countB a).decode = s.decode := rfl
@[simp] theorem State.countB_dbgNi (a : Nat) : (s.countB a).dbgNi = s.dbgNi := rfl
@[simp] theorem State.countB_dbgInv (a : Nat) : (s.countB a).dbgInv = s.dbgInv := rfl
@[simp] theorem State.countB_dbgEni (a : Nat) : (s.countB a).dbgEni = s.dbgEni := rfl
@[simp] theorem State.countB_dbgEinv (a : Nat) : (s.countB a).dbgEinv = s.dbgEinv := rfl
@[simp] theorem State.countB_deferred (a : Nat) : (s.countB a).deferred = s.deferred := rfl
@[simp] theorem State.countB_posts (a : Nat) : (s.countB a).posts = s.posts := rfl
@[simp] theorem State.countB_creations (a : Nat) : (s.countB a).creations = s.creations := rfl
@[simp] theorem State.countB_outcomes (a : Nat) : (s.countB a).outcomes = s.outcomes := rfl
@[simp] theorem State.countB_kept (a : Nat) : (s.countB a).kept = s.kept := rfl
@[simp] theorem State.countB_fresh (a : Nat) : (s.countB a).fresh = s.fresh := rfl
@[simp] theorem State.countB_console (a : Nat) : (s.countB a).console = s.console := rfl
@[simp] theorem State.countB_recSp (a : Nat) : (s.countB a).recSp = s.recSp := rfl
@[simp] theorem State.countB_freeCtr (a : Nat) : (s.countB a).freeCtr = s.freeCtr := rfl
@[simp] theorem State.countB_pending (a : Nat) : (s.countB a).pending = s.pending := rfl

/-! ### countLat -/

@[simp] theorem State.countLat_phase (a b : Nat) : (s.countLat a b).phase = s.phase := rfl
@[simp] theorem State.countLat_clock (a b : Nat) : (s.countLat a b).clock = s.clock := rfl
@[simp] theorem State.countLat_pins (a b : Nat) : (s.countLat a b).pins = s.pins := rfl
@[simp] theorem State.countLat_svc (a b : Nat) : (s.countLat a b).svc = s.svc := rfl
@[simp] theorem State.countLat_windows (a b : Nat) : (s.countLat a b).windows = s.windows := rfl
@[simp] theorem State.countLat_mgr (a b : Nat) : (s.countLat a b).mgr = s.mgr := rfl
@[simp] theorem State.countLat_insts (a b : Nat) : (s.countLat a b).insts = s.insts := rfl
@[simp] theorem State.countLat_fw (a b : Nat) : (s.countLat a b).fw = s.fw := rfl
@[simp] theorem State.countLat_fuses (a b : Nat) : (s.countLat a b).fuses = s.fuses := rfl
@[simp] theorem State.countLat_cores (a b : Nat) : (s.countLat a b).cores = s.cores := rfl
@[simp] theorem State.countLat_pcores (a b : Nat) : (s.countLat a b).pcores = s.pcores := rfl
@[simp] theorem State.countLat_ctxs (a b : Nat) : (s.countLat a b).ctxs = s.ctxs := rfl
@[simp] theorem State.countLat_ms (a b : Nat) : (s.countLat a b).ms = s.ms := rfl
@[simp] theorem State.countLat_linkLost (a b : Nat) : (s.countLat a b).linkLost = s.linkLost := rfl
@[simp] theorem State.countLat_devStores (a b : Nat) : (s.countLat a b).devStores = s.devStores := rfl
@[simp] theorem State.countLat_subchs (a b : Nat) : (s.countLat a b).subchs = s.subchs := rfl
@[simp] theorem State.countLat_incarns (a b : Nat) : (s.countLat a b).incarns = s.incarns := rfl
@[simp] theorem State.countLat_incarnBase (a b : Nat) : (s.countLat a b).incarnBase = s.incarnBase := rfl
@[simp] theorem State.countLat_indoubt (a b : Nat) : (s.countLat a b).indoubt = s.indoubt := rfl
@[simp] theorem State.countLat_doubts (a b : Nat) : (s.countLat a b).doubts = s.doubts := rfl
@[simp] theorem State.countLat_ioports (a b : Nat) : (s.countLat a b).ioports = s.ioports := rfl
@[simp] theorem State.countLat_routes (a b : Nat) : (s.countLat a b).routes = s.routes := rfl
@[simp] theorem State.countLat_engines (a b : Nat) : (s.countLat a b).engines = s.engines := rfl
@[simp] theorem State.countLat_claims (a b : Nat) : (s.countLat a b).claims = s.claims := rfl
@[simp] theorem State.countLat_wire (a b : Nat) : (s.countLat a b).wire = s.wire := rfl
@[simp] theorem State.countLat_rings (a b : Nat) : (s.countLat a b).rings = s.rings := rfl
@[simp] theorem State.countLat_bcus (a b : Nat) : (s.countLat a b).bcus = s.bcus := rfl
@[simp] theorem State.countLat_dfus (a b : Nat) : (s.countLat a b).dfus = s.dfus := rfl
@[simp] theorem State.countLat_bcuArb (a b : Nat) : (s.countLat a b).bcuArb = s.bcuArb := rfl
@[simp] theorem State.countLat_dfuArb (a b : Nat) : (s.countLat a b).dfuArb = s.dfuArb := rfl
@[simp] theorem State.countLat_bcuPool (a b : Nat) : (s.countLat a b).bcuPool = s.bcuPool := rfl
@[simp] theorem State.countLat_dfuPool (a b : Nat) : (s.countLat a b).dfuPool = s.dfuPool := rfl
@[simp] theorem State.countLat_pages (a b : Nat) : (s.countLat a b).pages = s.pages := rfl
@[simp] theorem State.countLat_dicts (a b : Nat) : (s.countLat a b).dicts = s.dicts := rfl
@[simp] theorem State.countLat_encls (a b : Nat) : (s.countLat a b).encls = s.encls := rfl
@[simp] theorem State.countLat_emap (a b : Nat) : (s.countLat a b).emap = s.emap := rfl
@[simp] theorem State.countLat_relay (a b : Nat) : (s.countLat a b).relay = s.relay := rfl
@[simp] theorem State.countLat_decode (a b : Nat) : (s.countLat a b).decode = s.decode := rfl
@[simp] theorem State.countLat_dbgNi (a b : Nat) : (s.countLat a b).dbgNi = s.dbgNi := rfl
@[simp] theorem State.countLat_dbgInv (a b : Nat) : (s.countLat a b).dbgInv = s.dbgInv := rfl
@[simp] theorem State.countLat_dbgEni (a b : Nat) : (s.countLat a b).dbgEni = s.dbgEni := rfl
@[simp] theorem State.countLat_dbgEinv (a b : Nat) : (s.countLat a b).dbgEinv = s.dbgEinv := rfl
@[simp] theorem State.countLat_deferred (a b : Nat) : (s.countLat a b).deferred = s.deferred := rfl
@[simp] theorem State.countLat_posts (a b : Nat) : (s.countLat a b).posts = s.posts := rfl
@[simp] theorem State.countLat_creations (a b : Nat) : (s.countLat a b).creations = s.creations := rfl
@[simp] theorem State.countLat_outcomes (a b : Nat) : (s.countLat a b).outcomes = s.outcomes := rfl
@[simp] theorem State.countLat_kept (a b : Nat) : (s.countLat a b).kept = s.kept := rfl
@[simp] theorem State.countLat_fresh (a b : Nat) : (s.countLat a b).fresh = s.fresh := rfl
@[simp] theorem State.countLat_console (a b : Nat) : (s.countLat a b).console = s.console := rfl
@[simp] theorem State.countLat_recSp (a b : Nat) : (s.countLat a b).recSp = s.recSp := rfl
@[simp] theorem State.countLat_freeCtr (a b : Nat) : (s.countLat a b).freeCtr = s.freeCtr := rfl
@[simp] theorem State.countLat_pending (a b : Nat) : (s.countLat a b).pending = s.pending := rfl

/-! ### countCe -/

@[simp] theorem State.countCe_phase (a : Nat) : (s.countCe a).phase = s.phase := rfl
@[simp] theorem State.countCe_clock (a : Nat) : (s.countCe a).clock = s.clock := rfl
@[simp] theorem State.countCe_pins (a : Nat) : (s.countCe a).pins = s.pins := rfl
@[simp] theorem State.countCe_svc (a : Nat) : (s.countCe a).svc = s.svc := rfl
@[simp] theorem State.countCe_windows (a : Nat) : (s.countCe a).windows = s.windows := rfl
@[simp] theorem State.countCe_mgr (a : Nat) : (s.countCe a).mgr = s.mgr := rfl
@[simp] theorem State.countCe_insts (a : Nat) : (s.countCe a).insts = s.insts := rfl
@[simp] theorem State.countCe_fw (a : Nat) : (s.countCe a).fw = s.fw := rfl
@[simp] theorem State.countCe_fuses (a : Nat) : (s.countCe a).fuses = s.fuses := rfl
@[simp] theorem State.countCe_cores (a : Nat) : (s.countCe a).cores = s.cores := rfl
@[simp] theorem State.countCe_pcores (a : Nat) : (s.countCe a).pcores = s.pcores := rfl
@[simp] theorem State.countCe_ctxs (a : Nat) : (s.countCe a).ctxs = s.ctxs := rfl
@[simp] theorem State.countCe_ms (a : Nat) : (s.countCe a).ms = s.ms := rfl
@[simp] theorem State.countCe_linkLost (a : Nat) : (s.countCe a).linkLost = s.linkLost := rfl
@[simp] theorem State.countCe_devStores (a : Nat) : (s.countCe a).devStores = s.devStores := rfl
@[simp] theorem State.countCe_subchs (a : Nat) : (s.countCe a).subchs = s.subchs := rfl
@[simp] theorem State.countCe_incarns (a : Nat) : (s.countCe a).incarns = s.incarns := rfl
@[simp] theorem State.countCe_incarnBase (a : Nat) : (s.countCe a).incarnBase = s.incarnBase := rfl
@[simp] theorem State.countCe_indoubt (a : Nat) : (s.countCe a).indoubt = s.indoubt := rfl
@[simp] theorem State.countCe_doubts (a : Nat) : (s.countCe a).doubts = s.doubts := rfl
@[simp] theorem State.countCe_ioports (a : Nat) : (s.countCe a).ioports = s.ioports := rfl
@[simp] theorem State.countCe_routes (a : Nat) : (s.countCe a).routes = s.routes := rfl
@[simp] theorem State.countCe_engines (a : Nat) : (s.countCe a).engines = s.engines := rfl
@[simp] theorem State.countCe_claims (a : Nat) : (s.countCe a).claims = s.claims := rfl
@[simp] theorem State.countCe_wire (a : Nat) : (s.countCe a).wire = s.wire := rfl
@[simp] theorem State.countCe_rings (a : Nat) : (s.countCe a).rings = s.rings := rfl
@[simp] theorem State.countCe_bcus (a : Nat) : (s.countCe a).bcus = s.bcus := rfl
@[simp] theorem State.countCe_dfus (a : Nat) : (s.countCe a).dfus = s.dfus := rfl
@[simp] theorem State.countCe_bcuArb (a : Nat) : (s.countCe a).bcuArb = s.bcuArb := rfl
@[simp] theorem State.countCe_dfuArb (a : Nat) : (s.countCe a).dfuArb = s.dfuArb := rfl
@[simp] theorem State.countCe_bcuPool (a : Nat) : (s.countCe a).bcuPool = s.bcuPool := rfl
@[simp] theorem State.countCe_dfuPool (a : Nat) : (s.countCe a).dfuPool = s.dfuPool := rfl
@[simp] theorem State.countCe_pages (a : Nat) : (s.countCe a).pages = s.pages := rfl
@[simp] theorem State.countCe_dicts (a : Nat) : (s.countCe a).dicts = s.dicts := rfl
@[simp] theorem State.countCe_encls (a : Nat) : (s.countCe a).encls = s.encls := rfl
@[simp] theorem State.countCe_emap (a : Nat) : (s.countCe a).emap = s.emap := rfl
@[simp] theorem State.countCe_relay (a : Nat) : (s.countCe a).relay = s.relay := rfl
@[simp] theorem State.countCe_decode (a : Nat) : (s.countCe a).decode = s.decode := rfl
@[simp] theorem State.countCe_dbgNi (a : Nat) : (s.countCe a).dbgNi = s.dbgNi := rfl
@[simp] theorem State.countCe_dbgInv (a : Nat) : (s.countCe a).dbgInv = s.dbgInv := rfl
@[simp] theorem State.countCe_dbgEni (a : Nat) : (s.countCe a).dbgEni = s.dbgEni := rfl
@[simp] theorem State.countCe_dbgEinv (a : Nat) : (s.countCe a).dbgEinv = s.dbgEinv := rfl
@[simp] theorem State.countCe_deferred (a : Nat) : (s.countCe a).deferred = s.deferred := rfl
@[simp] theorem State.countCe_posts (a : Nat) : (s.countCe a).posts = s.posts := rfl
@[simp] theorem State.countCe_creations (a : Nat) : (s.countCe a).creations = s.creations := rfl
@[simp] theorem State.countCe_outcomes (a : Nat) : (s.countCe a).outcomes = s.outcomes := rfl
@[simp] theorem State.countCe_kept (a : Nat) : (s.countCe a).kept = s.kept := rfl
@[simp] theorem State.countCe_fresh (a : Nat) : (s.countCe a).fresh = s.fresh := rfl
@[simp] theorem State.countCe_console (a : Nat) : (s.countCe a).console = s.console := rfl
@[simp] theorem State.countCe_recSp (a : Nat) : (s.countCe a).recSp = s.recSp := rfl
@[simp] theorem State.countCe_freeCtr (a : Nat) : (s.countCe a).freeCtr = s.freeCtr := rfl
@[simp] theorem State.countCe_pending (a : Nat) : (s.countCe a).pending = s.pending := rfl

/-! ### countUe -/

@[simp] theorem State.countUe_phase (a : Nat) : (s.countUe a).phase = s.phase := rfl
@[simp] theorem State.countUe_clock (a : Nat) : (s.countUe a).clock = s.clock := rfl
@[simp] theorem State.countUe_pins (a : Nat) : (s.countUe a).pins = s.pins := rfl
@[simp] theorem State.countUe_svc (a : Nat) : (s.countUe a).svc = s.svc := rfl
@[simp] theorem State.countUe_windows (a : Nat) : (s.countUe a).windows = s.windows := rfl
@[simp] theorem State.countUe_mgr (a : Nat) : (s.countUe a).mgr = s.mgr := rfl
@[simp] theorem State.countUe_insts (a : Nat) : (s.countUe a).insts = s.insts := rfl
@[simp] theorem State.countUe_fw (a : Nat) : (s.countUe a).fw = s.fw := rfl
@[simp] theorem State.countUe_fuses (a : Nat) : (s.countUe a).fuses = s.fuses := rfl
@[simp] theorem State.countUe_cores (a : Nat) : (s.countUe a).cores = s.cores := rfl
@[simp] theorem State.countUe_pcores (a : Nat) : (s.countUe a).pcores = s.pcores := rfl
@[simp] theorem State.countUe_ctxs (a : Nat) : (s.countUe a).ctxs = s.ctxs := rfl
@[simp] theorem State.countUe_ms (a : Nat) : (s.countUe a).ms = s.ms := rfl
@[simp] theorem State.countUe_linkLost (a : Nat) : (s.countUe a).linkLost = s.linkLost := rfl
@[simp] theorem State.countUe_devStores (a : Nat) : (s.countUe a).devStores = s.devStores := rfl
@[simp] theorem State.countUe_subchs (a : Nat) : (s.countUe a).subchs = s.subchs := rfl
@[simp] theorem State.countUe_incarns (a : Nat) : (s.countUe a).incarns = s.incarns := rfl
@[simp] theorem State.countUe_incarnBase (a : Nat) : (s.countUe a).incarnBase = s.incarnBase := rfl
@[simp] theorem State.countUe_indoubt (a : Nat) : (s.countUe a).indoubt = s.indoubt := rfl
@[simp] theorem State.countUe_doubts (a : Nat) : (s.countUe a).doubts = s.doubts := rfl
@[simp] theorem State.countUe_ioports (a : Nat) : (s.countUe a).ioports = s.ioports := rfl
@[simp] theorem State.countUe_routes (a : Nat) : (s.countUe a).routes = s.routes := rfl
@[simp] theorem State.countUe_engines (a : Nat) : (s.countUe a).engines = s.engines := rfl
@[simp] theorem State.countUe_claims (a : Nat) : (s.countUe a).claims = s.claims := rfl
@[simp] theorem State.countUe_wire (a : Nat) : (s.countUe a).wire = s.wire := rfl
@[simp] theorem State.countUe_rings (a : Nat) : (s.countUe a).rings = s.rings := rfl
@[simp] theorem State.countUe_bcus (a : Nat) : (s.countUe a).bcus = s.bcus := rfl
@[simp] theorem State.countUe_dfus (a : Nat) : (s.countUe a).dfus = s.dfus := rfl
@[simp] theorem State.countUe_bcuArb (a : Nat) : (s.countUe a).bcuArb = s.bcuArb := rfl
@[simp] theorem State.countUe_dfuArb (a : Nat) : (s.countUe a).dfuArb = s.dfuArb := rfl
@[simp] theorem State.countUe_bcuPool (a : Nat) : (s.countUe a).bcuPool = s.bcuPool := rfl
@[simp] theorem State.countUe_dfuPool (a : Nat) : (s.countUe a).dfuPool = s.dfuPool := rfl
@[simp] theorem State.countUe_pages (a : Nat) : (s.countUe a).pages = s.pages := rfl
@[simp] theorem State.countUe_dicts (a : Nat) : (s.countUe a).dicts = s.dicts := rfl
@[simp] theorem State.countUe_encls (a : Nat) : (s.countUe a).encls = s.encls := rfl
@[simp] theorem State.countUe_emap (a : Nat) : (s.countUe a).emap = s.emap := rfl
@[simp] theorem State.countUe_relay (a : Nat) : (s.countUe a).relay = s.relay := rfl
@[simp] theorem State.countUe_decode (a : Nat) : (s.countUe a).decode = s.decode := rfl
@[simp] theorem State.countUe_dbgNi (a : Nat) : (s.countUe a).dbgNi = s.dbgNi := rfl
@[simp] theorem State.countUe_dbgInv (a : Nat) : (s.countUe a).dbgInv = s.dbgInv := rfl
@[simp] theorem State.countUe_dbgEni (a : Nat) : (s.countUe a).dbgEni = s.dbgEni := rfl
@[simp] theorem State.countUe_dbgEinv (a : Nat) : (s.countUe a).dbgEinv = s.dbgEinv := rfl
@[simp] theorem State.countUe_deferred (a : Nat) : (s.countUe a).deferred = s.deferred := rfl
@[simp] theorem State.countUe_posts (a : Nat) : (s.countUe a).posts = s.posts := rfl
@[simp] theorem State.countUe_creations (a : Nat) : (s.countUe a).creations = s.creations := rfl
@[simp] theorem State.countUe_outcomes (a : Nat) : (s.countUe a).outcomes = s.outcomes := rfl
@[simp] theorem State.countUe_kept (a : Nat) : (s.countUe a).kept = s.kept := rfl
@[simp] theorem State.countUe_fresh (a : Nat) : (s.countUe a).fresh = s.fresh := rfl
@[simp] theorem State.countUe_console (a : Nat) : (s.countUe a).console = s.console := rfl
@[simp] theorem State.countUe_recSp (a : Nat) : (s.countUe a).recSp = s.recSp := rfl
@[simp] theorem State.countUe_freeCtr (a : Nat) : (s.countUe a).freeCtr = s.freeCtr := rfl
@[simp] theorem State.countUe_pending (a : Nat) : (s.countUe a).pending = s.pending := rfl

/-! ### notify -/

@[simp] theorem State.notify_phase (a b c d e : Nat) : (s.notify a b c d e).phase = s.phase := rfl
@[simp] theorem State.notify_clock (a b c d e : Nat) : (s.notify a b c d e).clock = s.clock := rfl
@[simp] theorem State.notify_pins (a b c d e : Nat) : (s.notify a b c d e).pins = s.pins := rfl
@[simp] theorem State.notify_windows (a b c d e : Nat) : (s.notify a b c d e).windows = s.windows := rfl
@[simp] theorem State.notify_mgr (a b c d e : Nat) : (s.notify a b c d e).mgr = s.mgr := rfl
@[simp] theorem State.notify_insts (a b c d e : Nat) : (s.notify a b c d e).insts = s.insts := rfl
@[simp] theorem State.notify_log (a b c d e : Nat) : (s.notify a b c d e).log = s.log := rfl
@[simp] theorem State.notify_fw (a b c d e : Nat) : (s.notify a b c d e).fw = s.fw := rfl
@[simp] theorem State.notify_fuses (a b c d e : Nat) : (s.notify a b c d e).fuses = s.fuses := rfl
@[simp] theorem State.notify_cores (a b c d e : Nat) : (s.notify a b c d e).cores = s.cores := rfl
@[simp] theorem State.notify_pcores (a b c d e : Nat) : (s.notify a b c d e).pcores = s.pcores := rfl
@[simp] theorem State.notify_ctxs (a b c d e : Nat) : (s.notify a b c d e).ctxs = s.ctxs := rfl
@[simp] theorem State.notify_ms (a b c d e : Nat) : (s.notify a b c d e).ms = s.ms := rfl
@[simp] theorem State.notify_linkLost (a b c d e : Nat) : (s.notify a b c d e).linkLost = s.linkLost := rfl
@[simp] theorem State.notify_devStores (a b c d e : Nat) : (s.notify a b c d e).devStores = s.devStores := rfl
@[simp] theorem State.notify_subchs (a b c d e : Nat) : (s.notify a b c d e).subchs = s.subchs := rfl
@[simp] theorem State.notify_incarns (a b c d e : Nat) : (s.notify a b c d e).incarns = s.incarns := rfl
@[simp] theorem State.notify_incarnBase (a b c d e : Nat) : (s.notify a b c d e).incarnBase = s.incarnBase := rfl
@[simp] theorem State.notify_indoubt (a b c d e : Nat) : (s.notify a b c d e).indoubt = s.indoubt := rfl
@[simp] theorem State.notify_doubts (a b c d e : Nat) : (s.notify a b c d e).doubts = s.doubts := rfl
@[simp] theorem State.notify_ioports (a b c d e : Nat) : (s.notify a b c d e).ioports = s.ioports := rfl
@[simp] theorem State.notify_routes (a b c d e : Nat) : (s.notify a b c d e).routes = s.routes := rfl
@[simp] theorem State.notify_engines (a b c d e : Nat) : (s.notify a b c d e).engines = s.engines := rfl
@[simp] theorem State.notify_claims (a b c d e : Nat) : (s.notify a b c d e).claims = s.claims := rfl
@[simp] theorem State.notify_wire (a b c d e : Nat) : (s.notify a b c d e).wire = s.wire := rfl
@[simp] theorem State.notify_rings (a b c d e : Nat) : (s.notify a b c d e).rings = s.rings := rfl
@[simp] theorem State.notify_bcus (a b c d e : Nat) : (s.notify a b c d e).bcus = s.bcus := rfl
@[simp] theorem State.notify_dfus (a b c d e : Nat) : (s.notify a b c d e).dfus = s.dfus := rfl
@[simp] theorem State.notify_bcuArb (a b c d e : Nat) : (s.notify a b c d e).bcuArb = s.bcuArb := rfl
@[simp] theorem State.notify_dfuArb (a b c d e : Nat) : (s.notify a b c d e).dfuArb = s.dfuArb := rfl
@[simp] theorem State.notify_bcuPool (a b c d e : Nat) : (s.notify a b c d e).bcuPool = s.bcuPool := rfl
@[simp] theorem State.notify_dfuPool (a b c d e : Nat) : (s.notify a b c d e).dfuPool = s.dfuPool := rfl
@[simp] theorem State.notify_pages (a b c d e : Nat) : (s.notify a b c d e).pages = s.pages := rfl
@[simp] theorem State.notify_dicts (a b c d e : Nat) : (s.notify a b c d e).dicts = s.dicts := rfl
@[simp] theorem State.notify_encls (a b c d e : Nat) : (s.notify a b c d e).encls = s.encls := rfl
@[simp] theorem State.notify_emap (a b c d e : Nat) : (s.notify a b c d e).emap = s.emap := rfl
@[simp] theorem State.notify_relay (a b c d e : Nat) : (s.notify a b c d e).relay = s.relay := rfl
@[simp] theorem State.notify_decode (a b c d e : Nat) : (s.notify a b c d e).decode = s.decode := rfl
@[simp] theorem State.notify_dbgNi (a b c d e : Nat) : (s.notify a b c d e).dbgNi = s.dbgNi := rfl
@[simp] theorem State.notify_dbgInv (a b c d e : Nat) : (s.notify a b c d e).dbgInv = s.dbgInv := rfl
@[simp] theorem State.notify_dbgEni (a b c d e : Nat) : (s.notify a b c d e).dbgEni = s.dbgEni := rfl
@[simp] theorem State.notify_dbgEinv (a b c d e : Nat) : (s.notify a b c d e).dbgEinv = s.dbgEinv := rfl
@[simp] theorem State.notify_deferred (a b c d e : Nat) : (s.notify a b c d e).deferred = s.deferred := rfl
@[simp] theorem State.notify_posts (a b c d e : Nat) : (s.notify a b c d e).posts = s.posts := rfl
@[simp] theorem State.notify_creations (a b c d e : Nat) : (s.notify a b c d e).creations = s.creations := rfl
@[simp] theorem State.notify_outcomes (a b c d e : Nat) : (s.notify a b c d e).outcomes = s.outcomes := rfl
@[simp] theorem State.notify_kept (a b c d e : Nat) : (s.notify a b c d e).kept = s.kept := rfl
@[simp] theorem State.notify_fresh (a b c d e : Nat) : (s.notify a b c d e).fresh = s.fresh := rfl
@[simp] theorem State.notify_console (a b c d e : Nat) : (s.notify a b c d e).console = s.console := rfl
@[simp] theorem State.notify_recSp (a b c d e : Nat) : (s.notify a b c d e).recSp = s.recSp := rfl
@[simp] theorem State.notify_freeCtr (a b c d e : Nat) : (s.notify a b c d e).freeCtr = s.freeCtr := rfl
@[simp] theorem State.notify_pending (a b c d e : Nat) : (s.notify a b c d e).pending = s.pending := rfl

/-! ### post -/

@[simp] theorem State.post_phase (a b c d : Nat) : (s.post a b c d).phase = s.phase := rfl
@[simp] theorem State.post_clock (a b c d : Nat) : (s.post a b c d).clock = s.clock := rfl
@[simp] theorem State.post_pins (a b c d : Nat) : (s.post a b c d).pins = s.pins := rfl
@[simp] theorem State.post_svc (a b c d : Nat) : (s.post a b c d).svc = s.svc := rfl
@[simp] theorem State.post_windows (a b c d : Nat) : (s.post a b c d).windows = s.windows := rfl
@[simp] theorem State.post_mgr (a b c d : Nat) : (s.post a b c d).mgr = s.mgr := rfl
@[simp] theorem State.post_insts (a b c d : Nat) : (s.post a b c d).insts = s.insts := rfl
@[simp] theorem State.post_log (a b c d : Nat) : (s.post a b c d).log = s.log := rfl
@[simp] theorem State.post_fw (a b c d : Nat) : (s.post a b c d).fw = s.fw := rfl
@[simp] theorem State.post_fuses (a b c d : Nat) : (s.post a b c d).fuses = s.fuses := rfl
@[simp] theorem State.post_cores (a b c d : Nat) : (s.post a b c d).cores = s.cores := rfl
@[simp] theorem State.post_pcores (a b c d : Nat) : (s.post a b c d).pcores = s.pcores := rfl
@[simp] theorem State.post_ctxs (a b c d : Nat) : (s.post a b c d).ctxs = s.ctxs := rfl
@[simp] theorem State.post_ms (a b c d : Nat) : (s.post a b c d).ms = s.ms := rfl
@[simp] theorem State.post_linkLost (a b c d : Nat) : (s.post a b c d).linkLost = s.linkLost := rfl
@[simp] theorem State.post_devStores (a b c d : Nat) : (s.post a b c d).devStores = s.devStores := rfl
@[simp] theorem State.post_subchs (a b c d : Nat) : (s.post a b c d).subchs = s.subchs := rfl
@[simp] theorem State.post_incarns (a b c d : Nat) : (s.post a b c d).incarns = s.incarns := rfl
@[simp] theorem State.post_incarnBase (a b c d : Nat) : (s.post a b c d).incarnBase = s.incarnBase := rfl
@[simp] theorem State.post_indoubt (a b c d : Nat) : (s.post a b c d).indoubt = s.indoubt := rfl
@[simp] theorem State.post_doubts (a b c d : Nat) : (s.post a b c d).doubts = s.doubts := rfl
@[simp] theorem State.post_ioports (a b c d : Nat) : (s.post a b c d).ioports = s.ioports := rfl
@[simp] theorem State.post_routes (a b c d : Nat) : (s.post a b c d).routes = s.routes := rfl
@[simp] theorem State.post_engines (a b c d : Nat) : (s.post a b c d).engines = s.engines := rfl
@[simp] theorem State.post_claims (a b c d : Nat) : (s.post a b c d).claims = s.claims := rfl
@[simp] theorem State.post_wire (a b c d : Nat) : (s.post a b c d).wire = s.wire := rfl
@[simp] theorem State.post_rings (a b c d : Nat) : (s.post a b c d).rings = s.rings := rfl
@[simp] theorem State.post_bcus (a b c d : Nat) : (s.post a b c d).bcus = s.bcus := rfl
@[simp] theorem State.post_dfus (a b c d : Nat) : (s.post a b c d).dfus = s.dfus := rfl
@[simp] theorem State.post_bcuArb (a b c d : Nat) : (s.post a b c d).bcuArb = s.bcuArb := rfl
@[simp] theorem State.post_dfuArb (a b c d : Nat) : (s.post a b c d).dfuArb = s.dfuArb := rfl
@[simp] theorem State.post_bcuPool (a b c d : Nat) : (s.post a b c d).bcuPool = s.bcuPool := rfl
@[simp] theorem State.post_dfuPool (a b c d : Nat) : (s.post a b c d).dfuPool = s.dfuPool := rfl
@[simp] theorem State.post_pages (a b c d : Nat) : (s.post a b c d).pages = s.pages := rfl
@[simp] theorem State.post_dicts (a b c d : Nat) : (s.post a b c d).dicts = s.dicts := rfl
@[simp] theorem State.post_encls (a b c d : Nat) : (s.post a b c d).encls = s.encls := rfl
@[simp] theorem State.post_emap (a b c d : Nat) : (s.post a b c d).emap = s.emap := rfl
@[simp] theorem State.post_relay (a b c d : Nat) : (s.post a b c d).relay = s.relay := rfl
@[simp] theorem State.post_decode (a b c d : Nat) : (s.post a b c d).decode = s.decode := rfl
@[simp] theorem State.post_dbgNi (a b c d : Nat) : (s.post a b c d).dbgNi = s.dbgNi := rfl
@[simp] theorem State.post_dbgInv (a b c d : Nat) : (s.post a b c d).dbgInv = s.dbgInv := rfl
@[simp] theorem State.post_dbgEni (a b c d : Nat) : (s.post a b c d).dbgEni = s.dbgEni := rfl
@[simp] theorem State.post_dbgEinv (a b c d : Nat) : (s.post a b c d).dbgEinv = s.dbgEinv := rfl
@[simp] theorem State.post_deferred (a b c d : Nat) : (s.post a b c d).deferred = s.deferred := rfl
@[simp] theorem State.post_creations (a b c d : Nat) : (s.post a b c d).creations = s.creations := rfl
@[simp] theorem State.post_outcomes (a b c d : Nat) : (s.post a b c d).outcomes = s.outcomes := rfl
@[simp] theorem State.post_kept (a b c d : Nat) : (s.post a b c d).kept = s.kept := rfl
@[simp] theorem State.post_fresh (a b c d : Nat) : (s.post a b c d).fresh = s.fresh := rfl
@[simp] theorem State.post_console (a b c d : Nat) : (s.post a b c d).console = s.console := rfl
@[simp] theorem State.post_recSp (a b c d : Nat) : (s.post a b c d).recSp = s.recSp := rfl
@[simp] theorem State.post_freeCtr (a b c d : Nat) : (s.post a b c d).freeCtr = s.freeCtr := rfl
@[simp] theorem State.post_pending (a b c d : Nat) : (s.post a b c d).pending = s.pending := rfl

/-! ### advanceTo -/

@[simp] theorem State.advanceTo_phase (t : Nat) : (s.advanceTo t).phase = s.phase := by unfold State.advanceTo; split <;> rfl
@[simp] theorem State.advanceTo_pins (t : Nat) : (s.advanceTo t).pins = s.pins := by unfold State.advanceTo; split <;> rfl
@[simp] theorem State.advanceTo_svc (t : Nat) : (s.advanceTo t).svc = s.svc := by unfold State.advanceTo; split <;> rfl
@[simp] theorem State.advanceTo_windows (t : Nat) : (s.advanceTo t).windows = s.windows := by unfold State.advanceTo; split <;> rfl
@[simp] theorem State.advanceTo_mgr (t : Nat) : (s.advanceTo t).mgr = s.mgr := by unfold State.advanceTo; split <;> rfl
@[simp] theorem State.advanceTo_insts (t : Nat) : (s.advanceTo t).insts = s.insts := by unfold State.advanceTo; split <;> rfl
@[simp] theorem State.advanceTo_log (t : Nat) : (s.advanceTo t).log = s.log := by unfold State.advanceTo; split <;> rfl
@[simp] theorem State.advanceTo_fw (t : Nat) : (s.advanceTo t).fw = s.fw := by unfold State.advanceTo; split <;> rfl
@[simp] theorem State.advanceTo_fuses (t : Nat) : (s.advanceTo t).fuses = s.fuses := by unfold State.advanceTo; split <;> rfl
@[simp] theorem State.advanceTo_cores (t : Nat) : (s.advanceTo t).cores = s.cores := by unfold State.advanceTo; split <;> rfl
@[simp] theorem State.advanceTo_pcores (t : Nat) : (s.advanceTo t).pcores = s.pcores := by unfold State.advanceTo; split <;> rfl
@[simp] theorem State.advanceTo_ctxs (t : Nat) : (s.advanceTo t).ctxs = s.ctxs := by unfold State.advanceTo; split <;> rfl
@[simp] theorem State.advanceTo_ms (t : Nat) : (s.advanceTo t).ms = s.ms := by unfold State.advanceTo; split <;> rfl
@[simp] theorem State.advanceTo_linkLost (t : Nat) : (s.advanceTo t).linkLost = s.linkLost := by unfold State.advanceTo; split <;> rfl
@[simp] theorem State.advanceTo_devStores (t : Nat) : (s.advanceTo t).devStores = s.devStores := by unfold State.advanceTo; split <;> rfl
@[simp] theorem State.advanceTo_subchs (t : Nat) : (s.advanceTo t).subchs = s.subchs := by unfold State.advanceTo; split <;> rfl
@[simp] theorem State.advanceTo_incarns (t : Nat) : (s.advanceTo t).incarns = s.incarns := by unfold State.advanceTo; split <;> rfl
@[simp] theorem State.advanceTo_incarnBase (t : Nat) : (s.advanceTo t).incarnBase = s.incarnBase := by unfold State.advanceTo; split <;> rfl
@[simp] theorem State.advanceTo_indoubt (t : Nat) : (s.advanceTo t).indoubt = s.indoubt := by unfold State.advanceTo; split <;> rfl
@[simp] theorem State.advanceTo_doubts (t : Nat) : (s.advanceTo t).doubts = s.doubts := by unfold State.advanceTo; split <;> rfl
@[simp] theorem State.advanceTo_ioports (t : Nat) : (s.advanceTo t).ioports = s.ioports := by unfold State.advanceTo; split <;> rfl
@[simp] theorem State.advanceTo_routes (t : Nat) : (s.advanceTo t).routes = s.routes := by unfold State.advanceTo; split <;> rfl
@[simp] theorem State.advanceTo_engines (t : Nat) : (s.advanceTo t).engines = s.engines := by unfold State.advanceTo; split <;> rfl
@[simp] theorem State.advanceTo_claims (t : Nat) : (s.advanceTo t).claims = s.claims := by unfold State.advanceTo; split <;> rfl
@[simp] theorem State.advanceTo_wire (t : Nat) : (s.advanceTo t).wire = s.wire := by unfold State.advanceTo; split <;> rfl
@[simp] theorem State.advanceTo_rings (t : Nat) : (s.advanceTo t).rings = s.rings := by unfold State.advanceTo; split <;> rfl
@[simp] theorem State.advanceTo_bcus (t : Nat) : (s.advanceTo t).bcus = s.bcus := by unfold State.advanceTo; split <;> rfl
@[simp] theorem State.advanceTo_dfus (t : Nat) : (s.advanceTo t).dfus = s.dfus := by unfold State.advanceTo; split <;> rfl
@[simp] theorem State.advanceTo_bcuArb (t : Nat) : (s.advanceTo t).bcuArb = s.bcuArb := by unfold State.advanceTo; split <;> rfl
@[simp] theorem State.advanceTo_dfuArb (t : Nat) : (s.advanceTo t).dfuArb = s.dfuArb := by unfold State.advanceTo; split <;> rfl
@[simp] theorem State.advanceTo_bcuPool (t : Nat) : (s.advanceTo t).bcuPool = s.bcuPool := by unfold State.advanceTo; split <;> rfl
@[simp] theorem State.advanceTo_dfuPool (t : Nat) : (s.advanceTo t).dfuPool = s.dfuPool := by unfold State.advanceTo; split <;> rfl
@[simp] theorem State.advanceTo_pages (t : Nat) : (s.advanceTo t).pages = s.pages := by unfold State.advanceTo; split <;> rfl
@[simp] theorem State.advanceTo_dicts (t : Nat) : (s.advanceTo t).dicts = s.dicts := by unfold State.advanceTo; split <;> rfl
@[simp] theorem State.advanceTo_encls (t : Nat) : (s.advanceTo t).encls = s.encls := by unfold State.advanceTo; split <;> rfl
@[simp] theorem State.advanceTo_emap (t : Nat) : (s.advanceTo t).emap = s.emap := by unfold State.advanceTo; split <;> rfl
@[simp] theorem State.advanceTo_relay (t : Nat) : (s.advanceTo t).relay = s.relay := by unfold State.advanceTo; split <;> rfl
@[simp] theorem State.advanceTo_decode (t : Nat) : (s.advanceTo t).decode = s.decode := by unfold State.advanceTo; split <;> rfl
@[simp] theorem State.advanceTo_dbgNi (t : Nat) : (s.advanceTo t).dbgNi = s.dbgNi := by unfold State.advanceTo; split <;> rfl
@[simp] theorem State.advanceTo_dbgInv (t : Nat) : (s.advanceTo t).dbgInv = s.dbgInv := by unfold State.advanceTo; split <;> rfl
@[simp] theorem State.advanceTo_dbgEni (t : Nat) : (s.advanceTo t).dbgEni = s.dbgEni := by unfold State.advanceTo; split <;> rfl
@[simp] theorem State.advanceTo_dbgEinv (t : Nat) : (s.advanceTo t).dbgEinv = s.dbgEinv := by unfold State.advanceTo; split <;> rfl
@[simp] theorem State.advanceTo_deferred (t : Nat) : (s.advanceTo t).deferred = s.deferred := by unfold State.advanceTo; split <;> rfl
@[simp] theorem State.advanceTo_posts (t : Nat) : (s.advanceTo t).posts = s.posts := by unfold State.advanceTo; split <;> rfl
@[simp] theorem State.advanceTo_creations (t : Nat) : (s.advanceTo t).creations = s.creations := by unfold State.advanceTo; split <;> rfl
@[simp] theorem State.advanceTo_outcomes (t : Nat) : (s.advanceTo t).outcomes = s.outcomes := by unfold State.advanceTo; split <;> rfl
@[simp] theorem State.advanceTo_kept (t : Nat) : (s.advanceTo t).kept = s.kept := by unfold State.advanceTo; split <;> rfl
@[simp] theorem State.advanceTo_fresh (t : Nat) : (s.advanceTo t).fresh = s.fresh := by unfold State.advanceTo; split <;> rfl
@[simp] theorem State.advanceTo_console (t : Nat) : (s.advanceTo t).console = s.console := by unfold State.advanceTo; split <;> rfl
@[simp] theorem State.advanceTo_recSp (t : Nat) : (s.advanceTo t).recSp = s.recSp := by unfold State.advanceTo; split <;> rfl
@[simp] theorem State.advanceTo_freeCtr (t : Nat) : (s.advanceTo t).freeCtr = s.freeCtr := by unfold State.advanceTo; split <;> rfl
@[simp] theorem State.advanceTo_pending (t : Nat) : (s.advanceTo t).pending = s.pending := by unfold State.advanceTo; split <;> rfl

/-! ### inClass -/

@[simp] theorem State.inClass_phase (c : Nat) : (s.inClass c).phase = s.phase := by unfold State.inClass; split <;> rfl
@[simp] theorem State.inClass_clock (c : Nat) : (s.inClass c).clock = s.clock := by unfold State.inClass; split <;> rfl
@[simp] theorem State.inClass_pins (c : Nat) : (s.inClass c).pins = s.pins := by unfold State.inClass; split <;> rfl
@[simp] theorem State.inClass_svc (c : Nat) : (s.inClass c).svc = s.svc := by unfold State.inClass; split <;> rfl
@[simp] theorem State.inClass_windows (c : Nat) : (s.inClass c).windows = s.windows := by unfold State.inClass; split <;> rfl
@[simp] theorem State.inClass_mgr (c : Nat) : (s.inClass c).mgr = s.mgr := by unfold State.inClass; split <;> rfl
@[simp] theorem State.inClass_insts (c : Nat) : (s.inClass c).insts = s.insts := by unfold State.inClass; split <;> rfl
@[simp] theorem State.inClass_log (c : Nat) : (s.inClass c).log = s.log := by unfold State.inClass; split <;> rfl
@[simp] theorem State.inClass_fw (c : Nat) : (s.inClass c).fw = s.fw := by unfold State.inClass; split <;> rfl
@[simp] theorem State.inClass_fuses (c : Nat) : (s.inClass c).fuses = s.fuses := by unfold State.inClass; split <;> rfl
@[simp] theorem State.inClass_cores (c : Nat) : (s.inClass c).cores = s.cores := by unfold State.inClass; split <;> rfl
@[simp] theorem State.inClass_pcores (c : Nat) : (s.inClass c).pcores = s.pcores := by unfold State.inClass; split <;> rfl
@[simp] theorem State.inClass_ctxs (c : Nat) : (s.inClass c).ctxs = s.ctxs := by unfold State.inClass; split <;> rfl
@[simp] theorem State.inClass_linkLost (c : Nat) : (s.inClass c).linkLost = s.linkLost := by unfold State.inClass; split <;> rfl
@[simp] theorem State.inClass_devStores (c : Nat) : (s.inClass c).devStores = s.devStores := by unfold State.inClass; split <;> rfl
@[simp] theorem State.inClass_subchs (c : Nat) : (s.inClass c).subchs = s.subchs := by unfold State.inClass; split <;> rfl
@[simp] theorem State.inClass_incarns (c : Nat) : (s.inClass c).incarns = s.incarns := by unfold State.inClass; split <;> rfl
@[simp] theorem State.inClass_incarnBase (c : Nat) : (s.inClass c).incarnBase = s.incarnBase := by unfold State.inClass; split <;> rfl
@[simp] theorem State.inClass_indoubt (c : Nat) : (s.inClass c).indoubt = s.indoubt := by unfold State.inClass; split <;> rfl
@[simp] theorem State.inClass_doubts (c : Nat) : (s.inClass c).doubts = s.doubts := by unfold State.inClass; split <;> rfl
@[simp] theorem State.inClass_ioports (c : Nat) : (s.inClass c).ioports = s.ioports := by unfold State.inClass; split <;> rfl
@[simp] theorem State.inClass_routes (c : Nat) : (s.inClass c).routes = s.routes := by unfold State.inClass; split <;> rfl
@[simp] theorem State.inClass_engines (c : Nat) : (s.inClass c).engines = s.engines := by unfold State.inClass; split <;> rfl
@[simp] theorem State.inClass_claims (c : Nat) : (s.inClass c).claims = s.claims := by unfold State.inClass; split <;> rfl
@[simp] theorem State.inClass_wire (c : Nat) : (s.inClass c).wire = s.wire := by unfold State.inClass; split <;> rfl
@[simp] theorem State.inClass_rings (c : Nat) : (s.inClass c).rings = s.rings := by unfold State.inClass; split <;> rfl
@[simp] theorem State.inClass_bcus (c : Nat) : (s.inClass c).bcus = s.bcus := by unfold State.inClass; split <;> rfl
@[simp] theorem State.inClass_dfus (c : Nat) : (s.inClass c).dfus = s.dfus := by unfold State.inClass; split <;> rfl
@[simp] theorem State.inClass_bcuArb (c : Nat) : (s.inClass c).bcuArb = s.bcuArb := by unfold State.inClass; split <;> rfl
@[simp] theorem State.inClass_dfuArb (c : Nat) : (s.inClass c).dfuArb = s.dfuArb := by unfold State.inClass; split <;> rfl
@[simp] theorem State.inClass_bcuPool (c : Nat) : (s.inClass c).bcuPool = s.bcuPool := by unfold State.inClass; split <;> rfl
@[simp] theorem State.inClass_dfuPool (c : Nat) : (s.inClass c).dfuPool = s.dfuPool := by unfold State.inClass; split <;> rfl
@[simp] theorem State.inClass_pages (c : Nat) : (s.inClass c).pages = s.pages := by unfold State.inClass; split <;> rfl
@[simp] theorem State.inClass_dicts (c : Nat) : (s.inClass c).dicts = s.dicts := by unfold State.inClass; split <;> rfl
@[simp] theorem State.inClass_encls (c : Nat) : (s.inClass c).encls = s.encls := by unfold State.inClass; split <;> rfl
@[simp] theorem State.inClass_emap (c : Nat) : (s.inClass c).emap = s.emap := by unfold State.inClass; split <;> rfl
@[simp] theorem State.inClass_relay (c : Nat) : (s.inClass c).relay = s.relay := by unfold State.inClass; split <;> rfl
@[simp] theorem State.inClass_decode (c : Nat) : (s.inClass c).decode = s.decode := by unfold State.inClass; split <;> rfl
@[simp] theorem State.inClass_dbgNi (c : Nat) : (s.inClass c).dbgNi = s.dbgNi := by unfold State.inClass; split <;> rfl
@[simp] theorem State.inClass_dbgInv (c : Nat) : (s.inClass c).dbgInv = s.dbgInv := by unfold State.inClass; split <;> rfl
@[simp] theorem State.inClass_dbgEni (c : Nat) : (s.inClass c).dbgEni = s.dbgEni := by unfold State.inClass; split <;> rfl
@[simp] theorem State.inClass_dbgEinv (c : Nat) : (s.inClass c).dbgEinv = s.dbgEinv := by unfold State.inClass; split <;> rfl
@[simp] theorem State.inClass_deferred (c : Nat) : (s.inClass c).deferred = s.deferred := by unfold State.inClass; split <;> rfl
@[simp] theorem State.inClass_posts (c : Nat) : (s.inClass c).posts = s.posts := by unfold State.inClass; split <;> rfl
@[simp] theorem State.inClass_creations (c : Nat) : (s.inClass c).creations = s.creations := by unfold State.inClass; split <;> rfl
@[simp] theorem State.inClass_outcomes (c : Nat) : (s.inClass c).outcomes = s.outcomes := by unfold State.inClass; split <;> rfl
@[simp] theorem State.inClass_kept (c : Nat) : (s.inClass c).kept = s.kept := by unfold State.inClass; split <;> rfl
@[simp] theorem State.inClass_fresh (c : Nat) : (s.inClass c).fresh = s.fresh := by unfold State.inClass; split <;> rfl
@[simp] theorem State.inClass_console (c : Nat) : (s.inClass c).console = s.console := by unfold State.inClass; split <;> rfl
@[simp] theorem State.inClass_recSp (c : Nat) : (s.inClass c).recSp = s.recSp := by unfold State.inClass; split <;> rfl
@[simp] theorem State.inClass_freeCtr (c : Nat) : (s.inClass c).freeCtr = s.freeCtr := by unfold State.inClass; split <;> rfl
@[simp] theorem State.inClass_pending (c : Nat) : (s.inClass c).pending = s.pending := by unfold State.inClass; split <;> rfl

/-! ### setHealth -/

@[simp] theorem State.setHealth_phase (a b c : Nat) : (s.setHealth a b c).phase = s.phase := by unfold State.setHealth; dsimp only; split <;> rfl
@[simp] theorem State.setHealth_clock (a b c : Nat) : (s.setHealth a b c).clock = s.clock := by unfold State.setHealth; dsimp only; split <;> rfl
@[simp] theorem State.setHealth_pins (a b c : Nat) : (s.setHealth a b c).pins = s.pins := by unfold State.setHealth; dsimp only; split <;> rfl
@[simp] theorem State.setHealth_windows (a b c : Nat) : (s.setHealth a b c).windows = s.windows := by unfold State.setHealth; dsimp only; split <;> rfl
@[simp] theorem State.setHealth_mgr (a b c : Nat) : (s.setHealth a b c).mgr = s.mgr := by unfold State.setHealth; dsimp only; split <;> rfl
@[simp] theorem State.setHealth_insts (a b c : Nat) : (s.setHealth a b c).insts = s.insts := by unfold State.setHealth; dsimp only; split <;> rfl
@[simp] theorem State.setHealth_fw (a b c : Nat) : (s.setHealth a b c).fw = s.fw := by unfold State.setHealth; dsimp only; split <;> rfl
@[simp] theorem State.setHealth_fuses (a b c : Nat) : (s.setHealth a b c).fuses = s.fuses := by unfold State.setHealth; dsimp only; split <;> rfl
@[simp] theorem State.setHealth_cores (a b c : Nat) : (s.setHealth a b c).cores = s.cores := by unfold State.setHealth; dsimp only; split <;> rfl
@[simp] theorem State.setHealth_pcores (a b c : Nat) : (s.setHealth a b c).pcores = s.pcores := by unfold State.setHealth; dsimp only; split <;> rfl
@[simp] theorem State.setHealth_ctxs (a b c : Nat) : (s.setHealth a b c).ctxs = s.ctxs := by unfold State.setHealth; dsimp only; split <;> rfl
@[simp] theorem State.setHealth_ms (a b c : Nat) : (s.setHealth a b c).ms = s.ms := by unfold State.setHealth; dsimp only; split <;> rfl
@[simp] theorem State.setHealth_linkLost (a b c : Nat) : (s.setHealth a b c).linkLost = s.linkLost := by unfold State.setHealth; dsimp only; split <;> rfl
@[simp] theorem State.setHealth_devStores (a b c : Nat) : (s.setHealth a b c).devStores = s.devStores := by unfold State.setHealth; dsimp only; split <;> rfl
@[simp] theorem State.setHealth_subchs (a b c : Nat) : (s.setHealth a b c).subchs = s.subchs := by unfold State.setHealth; dsimp only; split <;> rfl
@[simp] theorem State.setHealth_incarns (a b c : Nat) : (s.setHealth a b c).incarns = s.incarns := by unfold State.setHealth; dsimp only; split <;> rfl
@[simp] theorem State.setHealth_incarnBase (a b c : Nat) : (s.setHealth a b c).incarnBase = s.incarnBase := by unfold State.setHealth; dsimp only; split <;> rfl
@[simp] theorem State.setHealth_indoubt (a b c : Nat) : (s.setHealth a b c).indoubt = s.indoubt := by unfold State.setHealth; dsimp only; split <;> rfl
@[simp] theorem State.setHealth_doubts (a b c : Nat) : (s.setHealth a b c).doubts = s.doubts := by unfold State.setHealth; dsimp only; split <;> rfl
@[simp] theorem State.setHealth_ioports (a b c : Nat) : (s.setHealth a b c).ioports = s.ioports := by unfold State.setHealth; dsimp only; split <;> rfl
@[simp] theorem State.setHealth_routes (a b c : Nat) : (s.setHealth a b c).routes = s.routes := by unfold State.setHealth; dsimp only; split <;> rfl
@[simp] theorem State.setHealth_engines (a b c : Nat) : (s.setHealth a b c).engines = s.engines := by unfold State.setHealth; dsimp only; split <;> rfl
@[simp] theorem State.setHealth_claims (a b c : Nat) : (s.setHealth a b c).claims = s.claims := by unfold State.setHealth; dsimp only; split <;> rfl
@[simp] theorem State.setHealth_wire (a b c : Nat) : (s.setHealth a b c).wire = s.wire := by unfold State.setHealth; dsimp only; split <;> rfl
@[simp] theorem State.setHealth_rings (a b c : Nat) : (s.setHealth a b c).rings = s.rings := by unfold State.setHealth; dsimp only; split <;> rfl
@[simp] theorem State.setHealth_bcus (a b c : Nat) : (s.setHealth a b c).bcus = s.bcus := by unfold State.setHealth; dsimp only; split <;> rfl
@[simp] theorem State.setHealth_dfus (a b c : Nat) : (s.setHealth a b c).dfus = s.dfus := by unfold State.setHealth; dsimp only; split <;> rfl
@[simp] theorem State.setHealth_bcuArb (a b c : Nat) : (s.setHealth a b c).bcuArb = s.bcuArb := by unfold State.setHealth; dsimp only; split <;> rfl
@[simp] theorem State.setHealth_dfuArb (a b c : Nat) : (s.setHealth a b c).dfuArb = s.dfuArb := by unfold State.setHealth; dsimp only; split <;> rfl
@[simp] theorem State.setHealth_bcuPool (a b c : Nat) : (s.setHealth a b c).bcuPool = s.bcuPool := by unfold State.setHealth; dsimp only; split <;> rfl
@[simp] theorem State.setHealth_dfuPool (a b c : Nat) : (s.setHealth a b c).dfuPool = s.dfuPool := by unfold State.setHealth; dsimp only; split <;> rfl
@[simp] theorem State.setHealth_pages (a b c : Nat) : (s.setHealth a b c).pages = s.pages := by unfold State.setHealth; dsimp only; split <;> rfl
@[simp] theorem State.setHealth_dicts (a b c : Nat) : (s.setHealth a b c).dicts = s.dicts := by unfold State.setHealth; dsimp only; split <;> rfl
@[simp] theorem State.setHealth_encls (a b c : Nat) : (s.setHealth a b c).encls = s.encls := by unfold State.setHealth; dsimp only; split <;> rfl
@[simp] theorem State.setHealth_emap (a b c : Nat) : (s.setHealth a b c).emap = s.emap := by unfold State.setHealth; dsimp only; split <;> rfl
@[simp] theorem State.setHealth_relay (a b c : Nat) : (s.setHealth a b c).relay = s.relay := by unfold State.setHealth; dsimp only; split <;> rfl
@[simp] theorem State.setHealth_decode (a b c : Nat) : (s.setHealth a b c).decode = s.decode := by unfold State.setHealth; dsimp only; split <;> rfl
@[simp] theorem State.setHealth_dbgNi (a b c : Nat) : (s.setHealth a b c).dbgNi = s.dbgNi := by unfold State.setHealth; dsimp only; split <;> rfl
@[simp] theorem State.setHealth_dbgInv (a b c : Nat) : (s.setHealth a b c).dbgInv = s.dbgInv := by unfold State.setHealth; dsimp only; split <;> rfl
@[simp] theorem State.setHealth_dbgEni (a b c : Nat) : (s.setHealth a b c).dbgEni = s.dbgEni := by unfold State.setHealth; dsimp only; split <;> rfl
@[simp] theorem State.setHealth_dbgEinv (a b c : Nat) : (s.setHealth a b c).dbgEinv = s.dbgEinv := by unfold State.setHealth; dsimp only; split <;> rfl
@[simp] theorem State.setHealth_deferred (a b c : Nat) : (s.setHealth a b c).deferred = s.deferred := by unfold State.setHealth; dsimp only; split <;> rfl
@[simp] theorem State.setHealth_posts (a b c : Nat) : (s.setHealth a b c).posts = s.posts := by unfold State.setHealth; dsimp only; split <;> rfl
@[simp] theorem State.setHealth_creations (a b c : Nat) : (s.setHealth a b c).creations = s.creations := by unfold State.setHealth; dsimp only; split <;> rfl
@[simp] theorem State.setHealth_outcomes (a b c : Nat) : (s.setHealth a b c).outcomes = s.outcomes := by unfold State.setHealth; dsimp only; split <;> rfl
@[simp] theorem State.setHealth_kept (a b c : Nat) : (s.setHealth a b c).kept = s.kept := by unfold State.setHealth; dsimp only; split <;> rfl
@[simp] theorem State.setHealth_fresh (a b c : Nat) : (s.setHealth a b c).fresh = s.fresh := by unfold State.setHealth; dsimp only; split <;> rfl
@[simp] theorem State.setHealth_console (a b c : Nat) : (s.setHealth a b c).console = s.console := by unfold State.setHealth; dsimp only; split <;> rfl
@[simp] theorem State.setHealth_recSp (a b c : Nat) : (s.setHealth a b c).recSp = s.recSp := by unfold State.setHealth; dsimp only; split <;> rfl
@[simp] theorem State.setHealth_freeCtr (a b c : Nat) : (s.setHealth a b c).freeCtr = s.freeCtr := by unfold State.setHealth; dsimp only; split <;> rfl
@[simp] theorem State.setHealth_pending (a b c : Nat) : (s.setHealth a b c).pending = s.pending := by unfold State.setHealth; dsimp only; split <;> rfl

/-! ### clockEvent -/

@[simp] theorem State.clockEvent_phase (a b c : Nat) : (s.clockEvent a b c).phase = s.phase := rfl
@[simp] theorem State.clockEvent_clock (a b c : Nat) : (s.clockEvent a b c).clock = s.clock := rfl
@[simp] theorem State.clockEvent_pins (a b c : Nat) : (s.clockEvent a b c).pins = s.pins := rfl
@[simp] theorem State.clockEvent_windows (a b c : Nat) : (s.clockEvent a b c).windows = s.windows := rfl
@[simp] theorem State.clockEvent_mgr (a b c : Nat) : (s.clockEvent a b c).mgr = s.mgr := rfl
@[simp] theorem State.clockEvent_insts (a b c : Nat) : (s.clockEvent a b c).insts = s.insts := rfl
@[simp] theorem State.clockEvent_fw (a b c : Nat) : (s.clockEvent a b c).fw = s.fw := rfl
@[simp] theorem State.clockEvent_fuses (a b c : Nat) : (s.clockEvent a b c).fuses = s.fuses := rfl
@[simp] theorem State.clockEvent_cores (a b c : Nat) : (s.clockEvent a b c).cores = s.cores := rfl
@[simp] theorem State.clockEvent_pcores (a b c : Nat) : (s.clockEvent a b c).pcores = s.pcores := rfl
@[simp] theorem State.clockEvent_ctxs (a b c : Nat) : (s.clockEvent a b c).ctxs = s.ctxs := rfl
@[simp] theorem State.clockEvent_ms (a b c : Nat) : (s.clockEvent a b c).ms = s.ms := rfl
@[simp] theorem State.clockEvent_linkLost (a b c : Nat) : (s.clockEvent a b c).linkLost = s.linkLost := rfl
@[simp] theorem State.clockEvent_devStores (a b c : Nat) : (s.clockEvent a b c).devStores = s.devStores := rfl
@[simp] theorem State.clockEvent_subchs (a b c : Nat) : (s.clockEvent a b c).subchs = s.subchs := rfl
@[simp] theorem State.clockEvent_incarns (a b c : Nat) : (s.clockEvent a b c).incarns = s.incarns := rfl
@[simp] theorem State.clockEvent_incarnBase (a b c : Nat) : (s.clockEvent a b c).incarnBase = s.incarnBase := rfl
@[simp] theorem State.clockEvent_indoubt (a b c : Nat) : (s.clockEvent a b c).indoubt = s.indoubt := rfl
@[simp] theorem State.clockEvent_doubts (a b c : Nat) : (s.clockEvent a b c).doubts = s.doubts := rfl
@[simp] theorem State.clockEvent_ioports (a b c : Nat) : (s.clockEvent a b c).ioports = s.ioports := rfl
@[simp] theorem State.clockEvent_routes (a b c : Nat) : (s.clockEvent a b c).routes = s.routes := rfl
@[simp] theorem State.clockEvent_engines (a b c : Nat) : (s.clockEvent a b c).engines = s.engines := rfl
@[simp] theorem State.clockEvent_claims (a b c : Nat) : (s.clockEvent a b c).claims = s.claims := rfl
@[simp] theorem State.clockEvent_wire (a b c : Nat) : (s.clockEvent a b c).wire = s.wire := rfl
@[simp] theorem State.clockEvent_rings (a b c : Nat) : (s.clockEvent a b c).rings = s.rings := rfl
@[simp] theorem State.clockEvent_bcus (a b c : Nat) : (s.clockEvent a b c).bcus = s.bcus := rfl
@[simp] theorem State.clockEvent_dfus (a b c : Nat) : (s.clockEvent a b c).dfus = s.dfus := rfl
@[simp] theorem State.clockEvent_bcuArb (a b c : Nat) : (s.clockEvent a b c).bcuArb = s.bcuArb := rfl
@[simp] theorem State.clockEvent_dfuArb (a b c : Nat) : (s.clockEvent a b c).dfuArb = s.dfuArb := rfl
@[simp] theorem State.clockEvent_bcuPool (a b c : Nat) : (s.clockEvent a b c).bcuPool = s.bcuPool := rfl
@[simp] theorem State.clockEvent_dfuPool (a b c : Nat) : (s.clockEvent a b c).dfuPool = s.dfuPool := rfl
@[simp] theorem State.clockEvent_pages (a b c : Nat) : (s.clockEvent a b c).pages = s.pages := rfl
@[simp] theorem State.clockEvent_dicts (a b c : Nat) : (s.clockEvent a b c).dicts = s.dicts := rfl
@[simp] theorem State.clockEvent_encls (a b c : Nat) : (s.clockEvent a b c).encls = s.encls := rfl
@[simp] theorem State.clockEvent_emap (a b c : Nat) : (s.clockEvent a b c).emap = s.emap := rfl
@[simp] theorem State.clockEvent_relay (a b c : Nat) : (s.clockEvent a b c).relay = s.relay := rfl
@[simp] theorem State.clockEvent_decode (a b c : Nat) : (s.clockEvent a b c).decode = s.decode := rfl
@[simp] theorem State.clockEvent_dbgNi (a b c : Nat) : (s.clockEvent a b c).dbgNi = s.dbgNi := rfl
@[simp] theorem State.clockEvent_dbgInv (a b c : Nat) : (s.clockEvent a b c).dbgInv = s.dbgInv := rfl
@[simp] theorem State.clockEvent_dbgEni (a b c : Nat) : (s.clockEvent a b c).dbgEni = s.dbgEni := rfl
@[simp] theorem State.clockEvent_dbgEinv (a b c : Nat) : (s.clockEvent a b c).dbgEinv = s.dbgEinv := rfl
@[simp] theorem State.clockEvent_deferred (a b c : Nat) : (s.clockEvent a b c).deferred = s.deferred := rfl
@[simp] theorem State.clockEvent_posts (a b c : Nat) : (s.clockEvent a b c).posts = s.posts := rfl
@[simp] theorem State.clockEvent_creations (a b c : Nat) : (s.clockEvent a b c).creations = s.creations := rfl
@[simp] theorem State.clockEvent_outcomes (a b c : Nat) : (s.clockEvent a b c).outcomes = s.outcomes := rfl
@[simp] theorem State.clockEvent_kept (a b c : Nat) : (s.clockEvent a b c).kept = s.kept := rfl
@[simp] theorem State.clockEvent_fresh (a b c : Nat) : (s.clockEvent a b c).fresh = s.fresh := rfl
@[simp] theorem State.clockEvent_console (a b c : Nat) : (s.clockEvent a b c).console = s.console := rfl
@[simp] theorem State.clockEvent_recSp (a b c : Nat) : (s.clockEvent a b c).recSp = s.recSp := rfl
@[simp] theorem State.clockEvent_freeCtr (a b c : Nat) : (s.clockEvent a b c).freeCtr = s.freeCtr := rfl
@[simp] theorem State.clockEvent_pending (a b c : Nat) : (s.clockEvent a b c).pending = s.pending := rfl

/-! ### What an update writes -/

theorem State.onWin_win (w v : Nat) (f : Window → Window) : (s.onWin w f).win v = if v = w then f (s.win w) else s.win v := Tab.getD_upd _ w v _ f
@[simp] theorem State.onWin_win_self (w : Nat) (f : Window → Window) : (s.onWin w f).win w = f (s.win w) := by rw [State.onWin_win, if_pos rfl]
theorem State.onWin_win_ne (w v : Nat) (f : Window → Window) (h : v ≠ w) : (s.onWin w f).win v = s.win v := by rw [State.onWin_win, if_neg h]
theorem State.onInst_inst (w v : Nat) (f : Inst → Inst) : (s.onInst w f).inst v = if v = w then f (s.inst w) else s.inst v := Tab.getD_upd _ w v _ f
@[simp] theorem State.onInst_inst_self (w : Nat) (f : Inst → Inst) : (s.onInst w f).inst w = f (s.inst w) := by rw [State.onInst_inst, if_pos rfl]
theorem State.onInst_inst_ne (w v : Nat) (f : Inst → Inst) (h : v ≠ w) : (s.onInst w f).inst v = s.inst v := by rw [State.onInst_inst, if_neg h]
theorem State.onCore_core (w v : Nat) (f : LCore → LCore) : (s.onCore w f).core v = if v = w then f (s.core w) else s.core v := Tab.getD_upd _ w v _ f
@[simp] theorem State.onCore_core_self (w : Nat) (f : LCore → LCore) : (s.onCore w f).core w = f (s.core w) := by rw [State.onCore_core, if_pos rfl]
theorem State.onCore_core_ne (w v : Nat) (f : LCore → LCore) (h : v ≠ w) : (s.onCore w f).core v = s.core v := by rw [State.onCore_core, if_neg h]
theorem State.onPCore_pcore (w v : Nat) (f : PCore → PCore) : (s.onPCore w f).pcore v = if v = w then f (s.pcore w) else s.pcore v := Tab.getD_upd _ w v _ f
@[simp] theorem State.onPCore_pcore_self (w : Nat) (f : PCore → PCore) : (s.onPCore w f).pcore w = f (s.pcore w) := by rw [State.onPCore_pcore, if_pos rfl]
theorem State.onPCore_pcore_ne (w v : Nat) (f : PCore → PCore) (h : v ≠ w) : (s.onPCore w f).pcore v = s.pcore v := by rw [State.onPCore_pcore, if_neg h]
theorem State.onSub_sub (w v : Nat) (f : Subch → Subch) : (s.onSub w f).sub v = if v = w then f (s.sub w) else s.sub v := Tab.getD_upd _ w v _ f
@[simp] theorem State.onSub_sub_self (w : Nat) (f : Subch → Subch) : (s.onSub w f).sub w = f (s.sub w) := by rw [State.onSub_sub, if_pos rfl]
theorem State.onSub_sub_ne (w v : Nat) (f : Subch → Subch) (h : v ≠ w) : (s.onSub w f).sub v = s.sub v := by rw [State.onSub_sub, if_neg h]
theorem State.onRing_ring (w v : Nat) (f : Ring → Ring) : (s.onRing w f).ring v = if v = w then f (s.ring w) else s.ring v := Tab.getD_upd _ w v _ f
@[simp] theorem State.onRing_ring_self (w : Nat) (f : Ring → Ring) : (s.onRing w f).ring w = f (s.ring w) := by rw [State.onRing_ring, if_pos rfl]
theorem State.onRing_ring_ne (w v : Nat) (f : Ring → Ring) (h : v ≠ w) : (s.onRing w f).ring v = s.ring v := by rw [State.onRing_ring, if_neg h]
theorem State.onRoute_route (w v : Nat) (f : Route → Route) : (s.onRoute w f).route v = if v = w then f (s.route w) else s.route v := Tab.getD_upd _ w v _ f
@[simp] theorem State.onRoute_route_self (w : Nat) (f : Route → Route) : (s.onRoute w f).route w = f (s.route w) := by rw [State.onRoute_route, if_pos rfl]
theorem State.onRoute_route_ne (w v : Nat) (f : Route → Route) (h : v ≠ w) : (s.onRoute w f).route v = s.route v := by rw [State.onRoute_route, if_neg h]
theorem State.onEngine_engine (w v : Nat) (f : Engine → Engine) : (s.onEngine w f).engine v = if v = w then f (s.engine w) else s.engine v := Tab.getD_upd _ w v _ f
@[simp] theorem State.onEngine_engine_self (w : Nat) (f : Engine → Engine) : (s.onEngine w f).engine w = f (s.engine w) := by rw [State.onEngine_engine, if_pos rfl]
theorem State.onEngine_engine_ne (w v : Nat) (f : Engine → Engine) (h : v ≠ w) : (s.onEngine w f).engine v = s.engine v := by rw [State.onEngine_engine, if_neg h]
theorem State.onPage_page (w v : Nat) (f : CPage → CPage) : (s.onPage w f).page v = if v = w then f (s.page w) else s.page v := Tab.getD_upd _ w v _ f
@[simp] theorem State.onPage_page_self (w : Nat) (f : CPage → CPage) : (s.onPage w f).page w = f (s.page w) := by rw [State.onPage_page, if_pos rfl]
theorem State.onPage_page_ne (w v : Nat) (f : CPage → CPage) (h : v ≠ w) : (s.onPage w f).page v = s.page v := by rw [State.onPage_page, if_neg h]
theorem State.onBcu_bcu (w v : Nat) (f : Unit → Unit) : (s.onBcu w f).bcu v = if v = w then f (s.bcu w) else s.bcu v := Tab.getD_upd _ w v _ f
@[simp] theorem State.onBcu_bcu_self (w : Nat) (f : Unit → Unit) : (s.onBcu w f).bcu w = f (s.bcu w) := by rw [State.onBcu_bcu, if_pos rfl]
theorem State.onBcu_bcu_ne (w v : Nat) (f : Unit → Unit) (h : v ≠ w) : (s.onBcu w f).bcu v = s.bcu v := by rw [State.onBcu_bcu, if_neg h]
theorem State.onDfu_dfu (w v : Nat) (f : Unit → Unit) : (s.onDfu w f).dfu v = if v = w then f (s.dfu w) else s.dfu v := Tab.getD_upd _ w v _ f
@[simp] theorem State.onDfu_dfu_self (w : Nat) (f : Unit → Unit) : (s.onDfu w f).dfu w = f (s.dfu w) := by rw [State.onDfu_dfu, if_pos rfl]
theorem State.onDfu_dfu_ne (w v : Nat) (f : Unit → Unit) (h : v ≠ w) : (s.onDfu w f).dfu v = s.dfu v := by rw [State.onDfu_dfu, if_neg h]
theorem State.onPort_port (w v : Nat) (f : CxlPort → CxlPort) : (s.onPort w f).port v = if v = w then f (s.port w) else s.port v := Tab.getD_upd _ w v _ f
@[simp] theorem State.onPort_port_self (w : Nat) (f : CxlPort → CxlPort) : (s.onPort w f).port w = f (s.port w) := by rw [State.onPort_port, if_pos rfl]
theorem State.onPort_port_ne (w v : Nat) (f : CxlPort → CxlPort) (h : v ≠ w) : (s.onPort w f).port v = s.port v := by rw [State.onPort_port, if_neg h]
theorem State.onRport_rport (w v : Nat) (f : RPort → RPort) : (s.onRport w f).rport v = if v = w then f (s.rport w) else s.rport v := Tab.getD_upd _ w v _ f
@[simp] theorem State.onRport_rport_self (w : Nat) (f : RPort → RPort) : (s.onRport w f).rport w = f (s.rport w) := by rw [State.onRport_rport, if_pos rfl]
theorem State.onRport_rport_ne (w v : Nat) (f : RPort → RPort) (h : v ≠ w) : (s.onRport w f).rport v = s.rport v := by rw [State.onRport_rport, if_neg h]
theorem State.onLlt_llt (w v : Nat) (f : Llt → Llt) : (s.onLlt w f).llt v = if v = w then f (s.llt w) else s.llt v := Tab.getD_upd _ w v _ f
@[simp] theorem State.onLlt_llt_self (w : Nat) (f : Llt → Llt) : (s.onLlt w f).llt w = f (s.llt w) := by rw [State.onLlt_llt, if_pos rfl]
theorem State.onLlt_llt_ne (w v : Nat) (f : Llt → Llt) (h : v ≠ w) : (s.onLlt w f).llt v = s.llt v := by rw [State.onLlt_llt, if_neg h]
theorem State.onIoport_ioport (w v : Nat) (f : IoPort → IoPort) : (s.onIoport w f).ioport v = if v = w then f (s.ioport w) else s.ioport v := Tab.getD_upd _ w v _ f
@[simp] theorem State.onIoport_ioport_self (w : Nat) (f : IoPort → IoPort) : (s.onIoport w f).ioport w = f (s.ioport w) := by rw [State.onIoport_ioport, if_pos rfl]
theorem State.onIoport_ioport_ne (w v : Nat) (f : IoPort → IoPort) (h : v ≠ w) : (s.onIoport w f).ioport v = s.ioport v := by rw [State.onIoport_ioport, if_neg h]
theorem State.onRail_rail (w v : Nat) (f : Rail → Rail) : (s.onRail w f).rail v = if v = w then f (s.rail w) else s.rail v := Tab.getD_upd _ w v _ f
@[simp] theorem State.onRail_rail_self (w : Nat) (f : Rail → Rail) : (s.onRail w f).rail w = f (s.rail w) := by rw [State.onRail_rail, if_pos rfl]
theorem State.onRail_rail_ne (w v : Nat) (f : Rail → Rail) (h : v ≠ w) : (s.onRail w f).rail v = s.rail v := by rw [State.onRail_rail, if_neg h]
theorem State.onGpio_gpio (w v : Nat) (f : Gpio → Gpio) : (s.onGpio w f).gpio v = if v = w then f (s.gpio w) else s.gpio v := Tab.getD_upd _ w v _ f
@[simp] theorem State.onGpio_gpio_self (w : Nat) (f : Gpio → Gpio) : (s.onGpio w f).gpio w = f (s.gpio w) := by rw [State.onGpio_gpio, if_pos rfl]
theorem State.onGpio_gpio_ne (w v : Nat) (f : Gpio → Gpio) (h : v ≠ w) : (s.onGpio w f).gpio v = s.gpio v := by rw [State.onGpio_gpio, if_neg h]
theorem State.onCtx_ctx (c k d j : Nat) (f : Ctx → Ctx) : (s.onCtx c k f).ctx d j = if d * 128 + j = c * 128 + k then f (s.ctx c k) else s.ctx d j := Tab.getD_upd _ _ _ _ f
@[simp] theorem State.onCtx_ctx_self (c k : Nat) (f : Ctx → Ctx) : (s.onCtx c k f).ctx c k = f (s.ctx c k) := by rw [State.onCtx_ctx, if_pos rfl]
theorem State.onEncl_encl (c k d j : Nat) (f : Encl → Encl) : (s.onEncl c k f).encl d j = if d * 4096 + j = c * 4096 + k then f (s.encl c k) else s.encl d j := Tab.getD_upd _ _ _ _ f
@[simp] theorem State.onEncl_encl_self (c k : Nat) (f : Encl → Encl) : (s.onEncl c k f).encl c k = f (s.encl c k) := by rw [State.onEncl_encl, if_pos rfl]

/-! ### Units that an update leaves unchanged -/

@[simp] theorem State.onWin_inst' (w : Nat) (f : Window → Window) (v : Nat) : (s.onWin w f).inst v = s.inst v := rfl
@[simp] theorem State.onWin_core' (w : Nat) (f : Window → Window) (v : Nat) : (s.onWin w f).core v = s.core v := rfl
@[simp] theorem State.onWin_pcore' (w : Nat) (f : Window → Window) (v : Nat) : (s.onWin w f).pcore v = s.pcore v := rfl
@[simp] theorem State.onWin_ctx' (w : Nat) (f : Window → Window) (v j : Nat) : (s.onWin w f).ctx v j = s.ctx v j := rfl
@[simp] theorem State.onWin_sub' (w : Nat) (f : Window → Window) (v : Nat) : (s.onWin w f).sub v = s.sub v := rfl
@[simp] theorem State.onWin_ring' (w : Nat) (f : Window → Window) (v : Nat) : (s.onWin w f).ring v = s.ring v := rfl
@[simp] theorem State.onWin_route' (w : Nat) (f : Window → Window) (v : Nat) : (s.onWin w f).route v = s.route v := rfl
@[simp] theorem State.onWin_engine' (w : Nat) (f : Window → Window) (v : Nat) : (s.onWin w f).engine v = s.engine v := rfl
@[simp] theorem State.onWin_page' (w : Nat) (f : Window → Window) (v : Nat) : (s.onWin w f).page v = s.page v := rfl
@[simp] theorem State.onWin_bcu' (w : Nat) (f : Window → Window) (v : Nat) : (s.onWin w f).bcu v = s.bcu v := rfl
@[simp] theorem State.onWin_dfu' (w : Nat) (f : Window → Window) (v : Nat) : (s.onWin w f).dfu v = s.dfu v := rfl
@[simp] theorem State.onWin_port' (w : Nat) (f : Window → Window) (v : Nat) : (s.onWin w f).port v = s.port v := rfl
@[simp] theorem State.onWin_rport' (w : Nat) (f : Window → Window) (v : Nat) : (s.onWin w f).rport v = s.rport v := rfl
@[simp] theorem State.onWin_llt' (w : Nat) (f : Window → Window) (v : Nat) : (s.onWin w f).llt v = s.llt v := rfl
@[simp] theorem State.onWin_encl' (w : Nat) (f : Window → Window) (v j : Nat) : (s.onWin w f).encl v j = s.encl v j := rfl
@[simp] theorem State.onWin_ioport' (w : Nat) (f : Window → Window) (v : Nat) : (s.onWin w f).ioport v = s.ioport v := rfl
@[simp] theorem State.onWin_sp' (w : Nat) (f : Window → Window) (v : Nat) : (s.onWin w f).sp v = s.sp v := rfl
@[simp] theorem State.onWin_rail' (w : Nat) (f : Window → Window) (v : Nat) : (s.onWin w f).rail v = s.rail v := rfl
@[simp] theorem State.onWin_gpio' (w : Nat) (f : Window → Window) (v : Nat) : (s.onWin w f).gpio v = s.gpio v := rfl
@[simp] theorem State.onWin_health' (w : Nat) (f : Window → Window) (v : Nat) : (s.onWin w f).health v = s.health v := rfl
@[simp] theorem State.onInst_win' (w : Nat) (f : Inst → Inst) (v : Nat) : (s.onInst w f).win v = s.win v := rfl
@[simp] theorem State.onInst_core' (w : Nat) (f : Inst → Inst) (v : Nat) : (s.onInst w f).core v = s.core v := rfl
@[simp] theorem State.onInst_pcore' (w : Nat) (f : Inst → Inst) (v : Nat) : (s.onInst w f).pcore v = s.pcore v := rfl
@[simp] theorem State.onInst_ctx' (w : Nat) (f : Inst → Inst) (v j : Nat) : (s.onInst w f).ctx v j = s.ctx v j := rfl
@[simp] theorem State.onInst_sub' (w : Nat) (f : Inst → Inst) (v : Nat) : (s.onInst w f).sub v = s.sub v := rfl
@[simp] theorem State.onInst_ring' (w : Nat) (f : Inst → Inst) (v : Nat) : (s.onInst w f).ring v = s.ring v := rfl
@[simp] theorem State.onInst_route' (w : Nat) (f : Inst → Inst) (v : Nat) : (s.onInst w f).route v = s.route v := rfl
@[simp] theorem State.onInst_engine' (w : Nat) (f : Inst → Inst) (v : Nat) : (s.onInst w f).engine v = s.engine v := rfl
@[simp] theorem State.onInst_page' (w : Nat) (f : Inst → Inst) (v : Nat) : (s.onInst w f).page v = s.page v := rfl
@[simp] theorem State.onInst_bcu' (w : Nat) (f : Inst → Inst) (v : Nat) : (s.onInst w f).bcu v = s.bcu v := rfl
@[simp] theorem State.onInst_dfu' (w : Nat) (f : Inst → Inst) (v : Nat) : (s.onInst w f).dfu v = s.dfu v := rfl
@[simp] theorem State.onInst_port' (w : Nat) (f : Inst → Inst) (v : Nat) : (s.onInst w f).port v = s.port v := rfl
@[simp] theorem State.onInst_rport' (w : Nat) (f : Inst → Inst) (v : Nat) : (s.onInst w f).rport v = s.rport v := rfl
@[simp] theorem State.onInst_llt' (w : Nat) (f : Inst → Inst) (v : Nat) : (s.onInst w f).llt v = s.llt v := rfl
@[simp] theorem State.onInst_encl' (w : Nat) (f : Inst → Inst) (v j : Nat) : (s.onInst w f).encl v j = s.encl v j := rfl
@[simp] theorem State.onInst_ioport' (w : Nat) (f : Inst → Inst) (v : Nat) : (s.onInst w f).ioport v = s.ioport v := rfl
@[simp] theorem State.onInst_sp' (w : Nat) (f : Inst → Inst) (v : Nat) : (s.onInst w f).sp v = s.sp v := rfl
@[simp] theorem State.onInst_rail' (w : Nat) (f : Inst → Inst) (v : Nat) : (s.onInst w f).rail v = s.rail v := rfl
@[simp] theorem State.onInst_gpio' (w : Nat) (f : Inst → Inst) (v : Nat) : (s.onInst w f).gpio v = s.gpio v := rfl
@[simp] theorem State.onInst_health' (w : Nat) (f : Inst → Inst) (v : Nat) : (s.onInst w f).health v = s.health v := rfl
@[simp] theorem State.onCore_win' (w : Nat) (f : LCore → LCore) (v : Nat) : (s.onCore w f).win v = s.win v := rfl
@[simp] theorem State.onCore_inst' (w : Nat) (f : LCore → LCore) (v : Nat) : (s.onCore w f).inst v = s.inst v := rfl
@[simp] theorem State.onCore_pcore' (w : Nat) (f : LCore → LCore) (v : Nat) : (s.onCore w f).pcore v = s.pcore v := rfl
@[simp] theorem State.onCore_ctx' (w : Nat) (f : LCore → LCore) (v j : Nat) : (s.onCore w f).ctx v j = s.ctx v j := rfl
@[simp] theorem State.onCore_sub' (w : Nat) (f : LCore → LCore) (v : Nat) : (s.onCore w f).sub v = s.sub v := rfl
@[simp] theorem State.onCore_ring' (w : Nat) (f : LCore → LCore) (v : Nat) : (s.onCore w f).ring v = s.ring v := rfl
@[simp] theorem State.onCore_route' (w : Nat) (f : LCore → LCore) (v : Nat) : (s.onCore w f).route v = s.route v := rfl
@[simp] theorem State.onCore_engine' (w : Nat) (f : LCore → LCore) (v : Nat) : (s.onCore w f).engine v = s.engine v := rfl
@[simp] theorem State.onCore_page' (w : Nat) (f : LCore → LCore) (v : Nat) : (s.onCore w f).page v = s.page v := rfl
@[simp] theorem State.onCore_bcu' (w : Nat) (f : LCore → LCore) (v : Nat) : (s.onCore w f).bcu v = s.bcu v := rfl
@[simp] theorem State.onCore_dfu' (w : Nat) (f : LCore → LCore) (v : Nat) : (s.onCore w f).dfu v = s.dfu v := rfl
@[simp] theorem State.onCore_port' (w : Nat) (f : LCore → LCore) (v : Nat) : (s.onCore w f).port v = s.port v := rfl
@[simp] theorem State.onCore_rport' (w : Nat) (f : LCore → LCore) (v : Nat) : (s.onCore w f).rport v = s.rport v := rfl
@[simp] theorem State.onCore_llt' (w : Nat) (f : LCore → LCore) (v : Nat) : (s.onCore w f).llt v = s.llt v := rfl
@[simp] theorem State.onCore_encl' (w : Nat) (f : LCore → LCore) (v j : Nat) : (s.onCore w f).encl v j = s.encl v j := rfl
@[simp] theorem State.onCore_ioport' (w : Nat) (f : LCore → LCore) (v : Nat) : (s.onCore w f).ioport v = s.ioport v := rfl
@[simp] theorem State.onCore_sp' (w : Nat) (f : LCore → LCore) (v : Nat) : (s.onCore w f).sp v = s.sp v := rfl
@[simp] theorem State.onCore_rail' (w : Nat) (f : LCore → LCore) (v : Nat) : (s.onCore w f).rail v = s.rail v := rfl
@[simp] theorem State.onCore_gpio' (w : Nat) (f : LCore → LCore) (v : Nat) : (s.onCore w f).gpio v = s.gpio v := rfl
@[simp] theorem State.onCore_health' (w : Nat) (f : LCore → LCore) (v : Nat) : (s.onCore w f).health v = s.health v := rfl
@[simp] theorem State.onPCore_win' (w : Nat) (f : PCore → PCore) (v : Nat) : (s.onPCore w f).win v = s.win v := rfl
@[simp] theorem State.onPCore_inst' (w : Nat) (f : PCore → PCore) (v : Nat) : (s.onPCore w f).inst v = s.inst v := rfl
@[simp] theorem State.onPCore_core' (w : Nat) (f : PCore → PCore) (v : Nat) : (s.onPCore w f).core v = s.core v := rfl
@[simp] theorem State.onPCore_ctx' (w : Nat) (f : PCore → PCore) (v j : Nat) : (s.onPCore w f).ctx v j = s.ctx v j := rfl
@[simp] theorem State.onPCore_sub' (w : Nat) (f : PCore → PCore) (v : Nat) : (s.onPCore w f).sub v = s.sub v := rfl
@[simp] theorem State.onPCore_ring' (w : Nat) (f : PCore → PCore) (v : Nat) : (s.onPCore w f).ring v = s.ring v := rfl
@[simp] theorem State.onPCore_route' (w : Nat) (f : PCore → PCore) (v : Nat) : (s.onPCore w f).route v = s.route v := rfl
@[simp] theorem State.onPCore_engine' (w : Nat) (f : PCore → PCore) (v : Nat) : (s.onPCore w f).engine v = s.engine v := rfl
@[simp] theorem State.onPCore_page' (w : Nat) (f : PCore → PCore) (v : Nat) : (s.onPCore w f).page v = s.page v := rfl
@[simp] theorem State.onPCore_bcu' (w : Nat) (f : PCore → PCore) (v : Nat) : (s.onPCore w f).bcu v = s.bcu v := rfl
@[simp] theorem State.onPCore_dfu' (w : Nat) (f : PCore → PCore) (v : Nat) : (s.onPCore w f).dfu v = s.dfu v := rfl
@[simp] theorem State.onPCore_port' (w : Nat) (f : PCore → PCore) (v : Nat) : (s.onPCore w f).port v = s.port v := rfl
@[simp] theorem State.onPCore_rport' (w : Nat) (f : PCore → PCore) (v : Nat) : (s.onPCore w f).rport v = s.rport v := rfl
@[simp] theorem State.onPCore_llt' (w : Nat) (f : PCore → PCore) (v : Nat) : (s.onPCore w f).llt v = s.llt v := rfl
@[simp] theorem State.onPCore_encl' (w : Nat) (f : PCore → PCore) (v j : Nat) : (s.onPCore w f).encl v j = s.encl v j := rfl
@[simp] theorem State.onPCore_ioport' (w : Nat) (f : PCore → PCore) (v : Nat) : (s.onPCore w f).ioport v = s.ioport v := rfl
@[simp] theorem State.onPCore_sp' (w : Nat) (f : PCore → PCore) (v : Nat) : (s.onPCore w f).sp v = s.sp v := rfl
@[simp] theorem State.onPCore_rail' (w : Nat) (f : PCore → PCore) (v : Nat) : (s.onPCore w f).rail v = s.rail v := rfl
@[simp] theorem State.onPCore_gpio' (w : Nat) (f : PCore → PCore) (v : Nat) : (s.onPCore w f).gpio v = s.gpio v := rfl
@[simp] theorem State.onPCore_health' (w : Nat) (f : PCore → PCore) (v : Nat) : (s.onPCore w f).health v = s.health v := rfl
@[simp] theorem State.onCtx_win' (w k : Nat) (f : Ctx → Ctx) (v : Nat) : (s.onCtx w k f).win v = s.win v := rfl
@[simp] theorem State.onCtx_inst' (w k : Nat) (f : Ctx → Ctx) (v : Nat) : (s.onCtx w k f).inst v = s.inst v := rfl
@[simp] theorem State.onCtx_core' (w k : Nat) (f : Ctx → Ctx) (v : Nat) : (s.onCtx w k f).core v = s.core v := rfl
@[simp] theorem State.onCtx_pcore' (w k : Nat) (f : Ctx → Ctx) (v : Nat) : (s.onCtx w k f).pcore v = s.pcore v := rfl
@[simp] theorem State.onCtx_sub' (w k : Nat) (f : Ctx → Ctx) (v : Nat) : (s.onCtx w k f).sub v = s.sub v := rfl
@[simp] theorem State.onCtx_ring' (w k : Nat) (f : Ctx → Ctx) (v : Nat) : (s.onCtx w k f).ring v = s.ring v := rfl
@[simp] theorem State.onCtx_route' (w k : Nat) (f : Ctx → Ctx) (v : Nat) : (s.onCtx w k f).route v = s.route v := rfl
@[simp] theorem State.onCtx_engine' (w k : Nat) (f : Ctx → Ctx) (v : Nat) : (s.onCtx w k f).engine v = s.engine v := rfl
@[simp] theorem State.onCtx_page' (w k : Nat) (f : Ctx → Ctx) (v : Nat) : (s.onCtx w k f).page v = s.page v := rfl
@[simp] theorem State.onCtx_bcu' (w k : Nat) (f : Ctx → Ctx) (v : Nat) : (s.onCtx w k f).bcu v = s.bcu v := rfl
@[simp] theorem State.onCtx_dfu' (w k : Nat) (f : Ctx → Ctx) (v : Nat) : (s.onCtx w k f).dfu v = s.dfu v := rfl
@[simp] theorem State.onCtx_port' (w k : Nat) (f : Ctx → Ctx) (v : Nat) : (s.onCtx w k f).port v = s.port v := rfl
@[simp] theorem State.onCtx_rport' (w k : Nat) (f : Ctx → Ctx) (v : Nat) : (s.onCtx w k f).rport v = s.rport v := rfl
@[simp] theorem State.onCtx_llt' (w k : Nat) (f : Ctx → Ctx) (v : Nat) : (s.onCtx w k f).llt v = s.llt v := rfl
@[simp] theorem State.onCtx_encl' (w k : Nat) (f : Ctx → Ctx) (v j : Nat) : (s.onCtx w k f).encl v j = s.encl v j := rfl
@[simp] theorem State.onCtx_ioport' (w k : Nat) (f : Ctx → Ctx) (v : Nat) : (s.onCtx w k f).ioport v = s.ioport v := rfl
@[simp] theorem State.onCtx_sp' (w k : Nat) (f : Ctx → Ctx) (v : Nat) : (s.onCtx w k f).sp v = s.sp v := rfl
@[simp] theorem State.onCtx_rail' (w k : Nat) (f : Ctx → Ctx) (v : Nat) : (s.onCtx w k f).rail v = s.rail v := rfl
@[simp] theorem State.onCtx_gpio' (w k : Nat) (f : Ctx → Ctx) (v : Nat) : (s.onCtx w k f).gpio v = s.gpio v := rfl
@[simp] theorem State.onCtx_health' (w k : Nat) (f : Ctx → Ctx) (v : Nat) : (s.onCtx w k f).health v = s.health v := rfl
@[simp] theorem State.onSub_win' (w : Nat) (f : Subch → Subch) (v : Nat) : (s.onSub w f).win v = s.win v := rfl
@[simp] theorem State.onSub_inst' (w : Nat) (f : Subch → Subch) (v : Nat) : (s.onSub w f).inst v = s.inst v := rfl
@[simp] theorem State.onSub_core' (w : Nat) (f : Subch → Subch) (v : Nat) : (s.onSub w f).core v = s.core v := rfl
@[simp] theorem State.onSub_pcore' (w : Nat) (f : Subch → Subch) (v : Nat) : (s.onSub w f).pcore v = s.pcore v := rfl
@[simp] theorem State.onSub_ctx' (w : Nat) (f : Subch → Subch) (v j : Nat) : (s.onSub w f).ctx v j = s.ctx v j := rfl
@[simp] theorem State.onSub_ring' (w : Nat) (f : Subch → Subch) (v : Nat) : (s.onSub w f).ring v = s.ring v := rfl
@[simp] theorem State.onSub_route' (w : Nat) (f : Subch → Subch) (v : Nat) : (s.onSub w f).route v = s.route v := rfl
@[simp] theorem State.onSub_engine' (w : Nat) (f : Subch → Subch) (v : Nat) : (s.onSub w f).engine v = s.engine v := rfl
@[simp] theorem State.onSub_page' (w : Nat) (f : Subch → Subch) (v : Nat) : (s.onSub w f).page v = s.page v := rfl
@[simp] theorem State.onSub_bcu' (w : Nat) (f : Subch → Subch) (v : Nat) : (s.onSub w f).bcu v = s.bcu v := rfl
@[simp] theorem State.onSub_dfu' (w : Nat) (f : Subch → Subch) (v : Nat) : (s.onSub w f).dfu v = s.dfu v := rfl
@[simp] theorem State.onSub_port' (w : Nat) (f : Subch → Subch) (v : Nat) : (s.onSub w f).port v = s.port v := rfl
@[simp] theorem State.onSub_rport' (w : Nat) (f : Subch → Subch) (v : Nat) : (s.onSub w f).rport v = s.rport v := rfl
@[simp] theorem State.onSub_llt' (w : Nat) (f : Subch → Subch) (v : Nat) : (s.onSub w f).llt v = s.llt v := rfl
@[simp] theorem State.onSub_encl' (w : Nat) (f : Subch → Subch) (v j : Nat) : (s.onSub w f).encl v j = s.encl v j := rfl
@[simp] theorem State.onSub_ioport' (w : Nat) (f : Subch → Subch) (v : Nat) : (s.onSub w f).ioport v = s.ioport v := rfl
@[simp] theorem State.onSub_sp' (w : Nat) (f : Subch → Subch) (v : Nat) : (s.onSub w f).sp v = s.sp v := rfl
@[simp] theorem State.onSub_rail' (w : Nat) (f : Subch → Subch) (v : Nat) : (s.onSub w f).rail v = s.rail v := rfl
@[simp] theorem State.onSub_gpio' (w : Nat) (f : Subch → Subch) (v : Nat) : (s.onSub w f).gpio v = s.gpio v := rfl
@[simp] theorem State.onSub_health' (w : Nat) (f : Subch → Subch) (v : Nat) : (s.onSub w f).health v = s.health v := rfl
@[simp] theorem State.onRing_win' (w : Nat) (f : Ring → Ring) (v : Nat) : (s.onRing w f).win v = s.win v := rfl
@[simp] theorem State.onRing_inst' (w : Nat) (f : Ring → Ring) (v : Nat) : (s.onRing w f).inst v = s.inst v := rfl
@[simp] theorem State.onRing_core' (w : Nat) (f : Ring → Ring) (v : Nat) : (s.onRing w f).core v = s.core v := rfl
@[simp] theorem State.onRing_pcore' (w : Nat) (f : Ring → Ring) (v : Nat) : (s.onRing w f).pcore v = s.pcore v := rfl
@[simp] theorem State.onRing_ctx' (w : Nat) (f : Ring → Ring) (v j : Nat) : (s.onRing w f).ctx v j = s.ctx v j := rfl
@[simp] theorem State.onRing_sub' (w : Nat) (f : Ring → Ring) (v : Nat) : (s.onRing w f).sub v = s.sub v := rfl
@[simp] theorem State.onRing_route' (w : Nat) (f : Ring → Ring) (v : Nat) : (s.onRing w f).route v = s.route v := rfl
@[simp] theorem State.onRing_engine' (w : Nat) (f : Ring → Ring) (v : Nat) : (s.onRing w f).engine v = s.engine v := rfl
@[simp] theorem State.onRing_page' (w : Nat) (f : Ring → Ring) (v : Nat) : (s.onRing w f).page v = s.page v := rfl
@[simp] theorem State.onRing_bcu' (w : Nat) (f : Ring → Ring) (v : Nat) : (s.onRing w f).bcu v = s.bcu v := rfl
@[simp] theorem State.onRing_dfu' (w : Nat) (f : Ring → Ring) (v : Nat) : (s.onRing w f).dfu v = s.dfu v := rfl
@[simp] theorem State.onRing_port' (w : Nat) (f : Ring → Ring) (v : Nat) : (s.onRing w f).port v = s.port v := rfl
@[simp] theorem State.onRing_rport' (w : Nat) (f : Ring → Ring) (v : Nat) : (s.onRing w f).rport v = s.rport v := rfl
@[simp] theorem State.onRing_llt' (w : Nat) (f : Ring → Ring) (v : Nat) : (s.onRing w f).llt v = s.llt v := rfl
@[simp] theorem State.onRing_encl' (w : Nat) (f : Ring → Ring) (v j : Nat) : (s.onRing w f).encl v j = s.encl v j := rfl
@[simp] theorem State.onRing_ioport' (w : Nat) (f : Ring → Ring) (v : Nat) : (s.onRing w f).ioport v = s.ioport v := rfl
@[simp] theorem State.onRing_sp' (w : Nat) (f : Ring → Ring) (v : Nat) : (s.onRing w f).sp v = s.sp v := rfl
@[simp] theorem State.onRing_rail' (w : Nat) (f : Ring → Ring) (v : Nat) : (s.onRing w f).rail v = s.rail v := rfl
@[simp] theorem State.onRing_gpio' (w : Nat) (f : Ring → Ring) (v : Nat) : (s.onRing w f).gpio v = s.gpio v := rfl
@[simp] theorem State.onRing_health' (w : Nat) (f : Ring → Ring) (v : Nat) : (s.onRing w f).health v = s.health v := rfl
@[simp] theorem State.onRoute_win' (w : Nat) (f : Route → Route) (v : Nat) : (s.onRoute w f).win v = s.win v := rfl
@[simp] theorem State.onRoute_inst' (w : Nat) (f : Route → Route) (v : Nat) : (s.onRoute w f).inst v = s.inst v := rfl
@[simp] theorem State.onRoute_core' (w : Nat) (f : Route → Route) (v : Nat) : (s.onRoute w f).core v = s.core v := rfl
@[simp] theorem State.onRoute_pcore' (w : Nat) (f : Route → Route) (v : Nat) : (s.onRoute w f).pcore v = s.pcore v := rfl
@[simp] theorem State.onRoute_ctx' (w : Nat) (f : Route → Route) (v j : Nat) : (s.onRoute w f).ctx v j = s.ctx v j := rfl
@[simp] theorem State.onRoute_sub' (w : Nat) (f : Route → Route) (v : Nat) : (s.onRoute w f).sub v = s.sub v := rfl
@[simp] theorem State.onRoute_ring' (w : Nat) (f : Route → Route) (v : Nat) : (s.onRoute w f).ring v = s.ring v := rfl
@[simp] theorem State.onRoute_engine' (w : Nat) (f : Route → Route) (v : Nat) : (s.onRoute w f).engine v = s.engine v := rfl
@[simp] theorem State.onRoute_page' (w : Nat) (f : Route → Route) (v : Nat) : (s.onRoute w f).page v = s.page v := rfl
@[simp] theorem State.onRoute_bcu' (w : Nat) (f : Route → Route) (v : Nat) : (s.onRoute w f).bcu v = s.bcu v := rfl
@[simp] theorem State.onRoute_dfu' (w : Nat) (f : Route → Route) (v : Nat) : (s.onRoute w f).dfu v = s.dfu v := rfl
@[simp] theorem State.onRoute_port' (w : Nat) (f : Route → Route) (v : Nat) : (s.onRoute w f).port v = s.port v := rfl
@[simp] theorem State.onRoute_rport' (w : Nat) (f : Route → Route) (v : Nat) : (s.onRoute w f).rport v = s.rport v := rfl
@[simp] theorem State.onRoute_llt' (w : Nat) (f : Route → Route) (v : Nat) : (s.onRoute w f).llt v = s.llt v := rfl
@[simp] theorem State.onRoute_encl' (w : Nat) (f : Route → Route) (v j : Nat) : (s.onRoute w f).encl v j = s.encl v j := rfl
@[simp] theorem State.onRoute_ioport' (w : Nat) (f : Route → Route) (v : Nat) : (s.onRoute w f).ioport v = s.ioport v := rfl
@[simp] theorem State.onRoute_sp' (w : Nat) (f : Route → Route) (v : Nat) : (s.onRoute w f).sp v = s.sp v := rfl
@[simp] theorem State.onRoute_rail' (w : Nat) (f : Route → Route) (v : Nat) : (s.onRoute w f).rail v = s.rail v := rfl
@[simp] theorem State.onRoute_gpio' (w : Nat) (f : Route → Route) (v : Nat) : (s.onRoute w f).gpio v = s.gpio v := rfl
@[simp] theorem State.onRoute_health' (w : Nat) (f : Route → Route) (v : Nat) : (s.onRoute w f).health v = s.health v := rfl
@[simp] theorem State.onEngine_win' (w : Nat) (f : Engine → Engine) (v : Nat) : (s.onEngine w f).win v = s.win v := rfl
@[simp] theorem State.onEngine_inst' (w : Nat) (f : Engine → Engine) (v : Nat) : (s.onEngine w f).inst v = s.inst v := rfl
@[simp] theorem State.onEngine_core' (w : Nat) (f : Engine → Engine) (v : Nat) : (s.onEngine w f).core v = s.core v := rfl
@[simp] theorem State.onEngine_pcore' (w : Nat) (f : Engine → Engine) (v : Nat) : (s.onEngine w f).pcore v = s.pcore v := rfl
@[simp] theorem State.onEngine_ctx' (w : Nat) (f : Engine → Engine) (v j : Nat) : (s.onEngine w f).ctx v j = s.ctx v j := rfl
@[simp] theorem State.onEngine_sub' (w : Nat) (f : Engine → Engine) (v : Nat) : (s.onEngine w f).sub v = s.sub v := rfl
@[simp] theorem State.onEngine_ring' (w : Nat) (f : Engine → Engine) (v : Nat) : (s.onEngine w f).ring v = s.ring v := rfl
@[simp] theorem State.onEngine_route' (w : Nat) (f : Engine → Engine) (v : Nat) : (s.onEngine w f).route v = s.route v := rfl
@[simp] theorem State.onEngine_page' (w : Nat) (f : Engine → Engine) (v : Nat) : (s.onEngine w f).page v = s.page v := rfl
@[simp] theorem State.onEngine_bcu' (w : Nat) (f : Engine → Engine) (v : Nat) : (s.onEngine w f).bcu v = s.bcu v := rfl
@[simp] theorem State.onEngine_dfu' (w : Nat) (f : Engine → Engine) (v : Nat) : (s.onEngine w f).dfu v = s.dfu v := rfl
@[simp] theorem State.onEngine_port' (w : Nat) (f : Engine → Engine) (v : Nat) : (s.onEngine w f).port v = s.port v := rfl
@[simp] theorem State.onEngine_rport' (w : Nat) (f : Engine → Engine) (v : Nat) : (s.onEngine w f).rport v = s.rport v := rfl
@[simp] theorem State.onEngine_llt' (w : Nat) (f : Engine → Engine) (v : Nat) : (s.onEngine w f).llt v = s.llt v := rfl
@[simp] theorem State.onEngine_encl' (w : Nat) (f : Engine → Engine) (v j : Nat) : (s.onEngine w f).encl v j = s.encl v j := rfl
@[simp] theorem State.onEngine_ioport' (w : Nat) (f : Engine → Engine) (v : Nat) : (s.onEngine w f).ioport v = s.ioport v := rfl
@[simp] theorem State.onEngine_sp' (w : Nat) (f : Engine → Engine) (v : Nat) : (s.onEngine w f).sp v = s.sp v := rfl
@[simp] theorem State.onEngine_rail' (w : Nat) (f : Engine → Engine) (v : Nat) : (s.onEngine w f).rail v = s.rail v := rfl
@[simp] theorem State.onEngine_gpio' (w : Nat) (f : Engine → Engine) (v : Nat) : (s.onEngine w f).gpio v = s.gpio v := rfl
@[simp] theorem State.onEngine_health' (w : Nat) (f : Engine → Engine) (v : Nat) : (s.onEngine w f).health v = s.health v := rfl
@[simp] theorem State.onPage_win' (w : Nat) (f : CPage → CPage) (v : Nat) : (s.onPage w f).win v = s.win v := rfl
@[simp] theorem State.onPage_inst' (w : Nat) (f : CPage → CPage) (v : Nat) : (s.onPage w f).inst v = s.inst v := rfl
@[simp] theorem State.onPage_core' (w : Nat) (f : CPage → CPage) (v : Nat) : (s.onPage w f).core v = s.core v := rfl
@[simp] theorem State.onPage_pcore' (w : Nat) (f : CPage → CPage) (v : Nat) : (s.onPage w f).pcore v = s.pcore v := rfl
@[simp] theorem State.onPage_ctx' (w : Nat) (f : CPage → CPage) (v j : Nat) : (s.onPage w f).ctx v j = s.ctx v j := rfl
@[simp] theorem State.onPage_sub' (w : Nat) (f : CPage → CPage) (v : Nat) : (s.onPage w f).sub v = s.sub v := rfl
@[simp] theorem State.onPage_ring' (w : Nat) (f : CPage → CPage) (v : Nat) : (s.onPage w f).ring v = s.ring v := rfl
@[simp] theorem State.onPage_route' (w : Nat) (f : CPage → CPage) (v : Nat) : (s.onPage w f).route v = s.route v := rfl
@[simp] theorem State.onPage_engine' (w : Nat) (f : CPage → CPage) (v : Nat) : (s.onPage w f).engine v = s.engine v := rfl
@[simp] theorem State.onPage_bcu' (w : Nat) (f : CPage → CPage) (v : Nat) : (s.onPage w f).bcu v = s.bcu v := rfl
@[simp] theorem State.onPage_dfu' (w : Nat) (f : CPage → CPage) (v : Nat) : (s.onPage w f).dfu v = s.dfu v := rfl
@[simp] theorem State.onPage_port' (w : Nat) (f : CPage → CPage) (v : Nat) : (s.onPage w f).port v = s.port v := rfl
@[simp] theorem State.onPage_rport' (w : Nat) (f : CPage → CPage) (v : Nat) : (s.onPage w f).rport v = s.rport v := rfl
@[simp] theorem State.onPage_llt' (w : Nat) (f : CPage → CPage) (v : Nat) : (s.onPage w f).llt v = s.llt v := rfl
@[simp] theorem State.onPage_encl' (w : Nat) (f : CPage → CPage) (v j : Nat) : (s.onPage w f).encl v j = s.encl v j := rfl
@[simp] theorem State.onPage_ioport' (w : Nat) (f : CPage → CPage) (v : Nat) : (s.onPage w f).ioport v = s.ioport v := rfl
@[simp] theorem State.onPage_sp' (w : Nat) (f : CPage → CPage) (v : Nat) : (s.onPage w f).sp v = s.sp v := rfl
@[simp] theorem State.onPage_rail' (w : Nat) (f : CPage → CPage) (v : Nat) : (s.onPage w f).rail v = s.rail v := rfl
@[simp] theorem State.onPage_gpio' (w : Nat) (f : CPage → CPage) (v : Nat) : (s.onPage w f).gpio v = s.gpio v := rfl
@[simp] theorem State.onPage_health' (w : Nat) (f : CPage → CPage) (v : Nat) : (s.onPage w f).health v = s.health v := rfl
@[simp] theorem State.onBcu_win' (w : Nat) (f : Unit → Unit) (v : Nat) : (s.onBcu w f).win v = s.win v := rfl
@[simp] theorem State.onBcu_inst' (w : Nat) (f : Unit → Unit) (v : Nat) : (s.onBcu w f).inst v = s.inst v := rfl
@[simp] theorem State.onBcu_core' (w : Nat) (f : Unit → Unit) (v : Nat) : (s.onBcu w f).core v = s.core v := rfl
@[simp] theorem State.onBcu_pcore' (w : Nat) (f : Unit → Unit) (v : Nat) : (s.onBcu w f).pcore v = s.pcore v := rfl
@[simp] theorem State.onBcu_ctx' (w : Nat) (f : Unit → Unit) (v j : Nat) : (s.onBcu w f).ctx v j = s.ctx v j := rfl
@[simp] theorem State.onBcu_sub' (w : Nat) (f : Unit → Unit) (v : Nat) : (s.onBcu w f).sub v = s.sub v := rfl
@[simp] theorem State.onBcu_ring' (w : Nat) (f : Unit → Unit) (v : Nat) : (s.onBcu w f).ring v = s.ring v := rfl
@[simp] theorem State.onBcu_route' (w : Nat) (f : Unit → Unit) (v : Nat) : (s.onBcu w f).route v = s.route v := rfl
@[simp] theorem State.onBcu_engine' (w : Nat) (f : Unit → Unit) (v : Nat) : (s.onBcu w f).engine v = s.engine v := rfl
@[simp] theorem State.onBcu_page' (w : Nat) (f : Unit → Unit) (v : Nat) : (s.onBcu w f).page v = s.page v := rfl
@[simp] theorem State.onBcu_dfu' (w : Nat) (f : Unit → Unit) (v : Nat) : (s.onBcu w f).dfu v = s.dfu v := rfl
@[simp] theorem State.onBcu_port' (w : Nat) (f : Unit → Unit) (v : Nat) : (s.onBcu w f).port v = s.port v := rfl
@[simp] theorem State.onBcu_rport' (w : Nat) (f : Unit → Unit) (v : Nat) : (s.onBcu w f).rport v = s.rport v := rfl
@[simp] theorem State.onBcu_llt' (w : Nat) (f : Unit → Unit) (v : Nat) : (s.onBcu w f).llt v = s.llt v := rfl
@[simp] theorem State.onBcu_encl' (w : Nat) (f : Unit → Unit) (v j : Nat) : (s.onBcu w f).encl v j = s.encl v j := rfl
@[simp] theorem State.onBcu_ioport' (w : Nat) (f : Unit → Unit) (v : Nat) : (s.onBcu w f).ioport v = s.ioport v := rfl
@[simp] theorem State.onBcu_sp' (w : Nat) (f : Unit → Unit) (v : Nat) : (s.onBcu w f).sp v = s.sp v := rfl
@[simp] theorem State.onBcu_rail' (w : Nat) (f : Unit → Unit) (v : Nat) : (s.onBcu w f).rail v = s.rail v := rfl
@[simp] theorem State.onBcu_gpio' (w : Nat) (f : Unit → Unit) (v : Nat) : (s.onBcu w f).gpio v = s.gpio v := rfl
@[simp] theorem State.onBcu_health' (w : Nat) (f : Unit → Unit) (v : Nat) : (s.onBcu w f).health v = s.health v := rfl
@[simp] theorem State.onDfu_win' (w : Nat) (f : Unit → Unit) (v : Nat) : (s.onDfu w f).win v = s.win v := rfl
@[simp] theorem State.onDfu_inst' (w : Nat) (f : Unit → Unit) (v : Nat) : (s.onDfu w f).inst v = s.inst v := rfl
@[simp] theorem State.onDfu_core' (w : Nat) (f : Unit → Unit) (v : Nat) : (s.onDfu w f).core v = s.core v := rfl
@[simp] theorem State.onDfu_pcore' (w : Nat) (f : Unit → Unit) (v : Nat) : (s.onDfu w f).pcore v = s.pcore v := rfl
@[simp] theorem State.onDfu_ctx' (w : Nat) (f : Unit → Unit) (v j : Nat) : (s.onDfu w f).ctx v j = s.ctx v j := rfl
@[simp] theorem State.onDfu_sub' (w : Nat) (f : Unit → Unit) (v : Nat) : (s.onDfu w f).sub v = s.sub v := rfl
@[simp] theorem State.onDfu_ring' (w : Nat) (f : Unit → Unit) (v : Nat) : (s.onDfu w f).ring v = s.ring v := rfl
@[simp] theorem State.onDfu_route' (w : Nat) (f : Unit → Unit) (v : Nat) : (s.onDfu w f).route v = s.route v := rfl
@[simp] theorem State.onDfu_engine' (w : Nat) (f : Unit → Unit) (v : Nat) : (s.onDfu w f).engine v = s.engine v := rfl
@[simp] theorem State.onDfu_page' (w : Nat) (f : Unit → Unit) (v : Nat) : (s.onDfu w f).page v = s.page v := rfl
@[simp] theorem State.onDfu_bcu' (w : Nat) (f : Unit → Unit) (v : Nat) : (s.onDfu w f).bcu v = s.bcu v := rfl
@[simp] theorem State.onDfu_port' (w : Nat) (f : Unit → Unit) (v : Nat) : (s.onDfu w f).port v = s.port v := rfl
@[simp] theorem State.onDfu_rport' (w : Nat) (f : Unit → Unit) (v : Nat) : (s.onDfu w f).rport v = s.rport v := rfl
@[simp] theorem State.onDfu_llt' (w : Nat) (f : Unit → Unit) (v : Nat) : (s.onDfu w f).llt v = s.llt v := rfl
@[simp] theorem State.onDfu_encl' (w : Nat) (f : Unit → Unit) (v j : Nat) : (s.onDfu w f).encl v j = s.encl v j := rfl
@[simp] theorem State.onDfu_ioport' (w : Nat) (f : Unit → Unit) (v : Nat) : (s.onDfu w f).ioport v = s.ioport v := rfl
@[simp] theorem State.onDfu_sp' (w : Nat) (f : Unit → Unit) (v : Nat) : (s.onDfu w f).sp v = s.sp v := rfl
@[simp] theorem State.onDfu_rail' (w : Nat) (f : Unit → Unit) (v : Nat) : (s.onDfu w f).rail v = s.rail v := rfl
@[simp] theorem State.onDfu_gpio' (w : Nat) (f : Unit → Unit) (v : Nat) : (s.onDfu w f).gpio v = s.gpio v := rfl
@[simp] theorem State.onDfu_health' (w : Nat) (f : Unit → Unit) (v : Nat) : (s.onDfu w f).health v = s.health v := rfl
@[simp] theorem State.onPort_win' (w : Nat) (f : CxlPort → CxlPort) (v : Nat) : (s.onPort w f).win v = s.win v := rfl
@[simp] theorem State.onPort_inst' (w : Nat) (f : CxlPort → CxlPort) (v : Nat) : (s.onPort w f).inst v = s.inst v := rfl
@[simp] theorem State.onPort_core' (w : Nat) (f : CxlPort → CxlPort) (v : Nat) : (s.onPort w f).core v = s.core v := rfl
@[simp] theorem State.onPort_pcore' (w : Nat) (f : CxlPort → CxlPort) (v : Nat) : (s.onPort w f).pcore v = s.pcore v := rfl
@[simp] theorem State.onPort_ctx' (w : Nat) (f : CxlPort → CxlPort) (v j : Nat) : (s.onPort w f).ctx v j = s.ctx v j := rfl
@[simp] theorem State.onPort_sub' (w : Nat) (f : CxlPort → CxlPort) (v : Nat) : (s.onPort w f).sub v = s.sub v := rfl
@[simp] theorem State.onPort_ring' (w : Nat) (f : CxlPort → CxlPort) (v : Nat) : (s.onPort w f).ring v = s.ring v := rfl
@[simp] theorem State.onPort_route' (w : Nat) (f : CxlPort → CxlPort) (v : Nat) : (s.onPort w f).route v = s.route v := rfl
@[simp] theorem State.onPort_engine' (w : Nat) (f : CxlPort → CxlPort) (v : Nat) : (s.onPort w f).engine v = s.engine v := rfl
@[simp] theorem State.onPort_page' (w : Nat) (f : CxlPort → CxlPort) (v : Nat) : (s.onPort w f).page v = s.page v := rfl
@[simp] theorem State.onPort_bcu' (w : Nat) (f : CxlPort → CxlPort) (v : Nat) : (s.onPort w f).bcu v = s.bcu v := rfl
@[simp] theorem State.onPort_dfu' (w : Nat) (f : CxlPort → CxlPort) (v : Nat) : (s.onPort w f).dfu v = s.dfu v := rfl
@[simp] theorem State.onPort_rport' (w : Nat) (f : CxlPort → CxlPort) (v : Nat) : (s.onPort w f).rport v = s.rport v := rfl
@[simp] theorem State.onPort_llt' (w : Nat) (f : CxlPort → CxlPort) (v : Nat) : (s.onPort w f).llt v = s.llt v := rfl
@[simp] theorem State.onPort_encl' (w : Nat) (f : CxlPort → CxlPort) (v j : Nat) : (s.onPort w f).encl v j = s.encl v j := rfl
@[simp] theorem State.onPort_ioport' (w : Nat) (f : CxlPort → CxlPort) (v : Nat) : (s.onPort w f).ioport v = s.ioport v := rfl
@[simp] theorem State.onPort_sp' (w : Nat) (f : CxlPort → CxlPort) (v : Nat) : (s.onPort w f).sp v = s.sp v := rfl
@[simp] theorem State.onPort_rail' (w : Nat) (f : CxlPort → CxlPort) (v : Nat) : (s.onPort w f).rail v = s.rail v := rfl
@[simp] theorem State.onPort_gpio' (w : Nat) (f : CxlPort → CxlPort) (v : Nat) : (s.onPort w f).gpio v = s.gpio v := rfl
@[simp] theorem State.onPort_health' (w : Nat) (f : CxlPort → CxlPort) (v : Nat) : (s.onPort w f).health v = s.health v := rfl
@[simp] theorem State.onRport_win' (w : Nat) (f : RPort → RPort) (v : Nat) : (s.onRport w f).win v = s.win v := rfl
@[simp] theorem State.onRport_inst' (w : Nat) (f : RPort → RPort) (v : Nat) : (s.onRport w f).inst v = s.inst v := rfl
@[simp] theorem State.onRport_core' (w : Nat) (f : RPort → RPort) (v : Nat) : (s.onRport w f).core v = s.core v := rfl
@[simp] theorem State.onRport_pcore' (w : Nat) (f : RPort → RPort) (v : Nat) : (s.onRport w f).pcore v = s.pcore v := rfl
@[simp] theorem State.onRport_ctx' (w : Nat) (f : RPort → RPort) (v j : Nat) : (s.onRport w f).ctx v j = s.ctx v j := rfl
@[simp] theorem State.onRport_sub' (w : Nat) (f : RPort → RPort) (v : Nat) : (s.onRport w f).sub v = s.sub v := rfl
@[simp] theorem State.onRport_ring' (w : Nat) (f : RPort → RPort) (v : Nat) : (s.onRport w f).ring v = s.ring v := rfl
@[simp] theorem State.onRport_route' (w : Nat) (f : RPort → RPort) (v : Nat) : (s.onRport w f).route v = s.route v := rfl
@[simp] theorem State.onRport_engine' (w : Nat) (f : RPort → RPort) (v : Nat) : (s.onRport w f).engine v = s.engine v := rfl
@[simp] theorem State.onRport_page' (w : Nat) (f : RPort → RPort) (v : Nat) : (s.onRport w f).page v = s.page v := rfl
@[simp] theorem State.onRport_bcu' (w : Nat) (f : RPort → RPort) (v : Nat) : (s.onRport w f).bcu v = s.bcu v := rfl
@[simp] theorem State.onRport_dfu' (w : Nat) (f : RPort → RPort) (v : Nat) : (s.onRport w f).dfu v = s.dfu v := rfl
@[simp] theorem State.onRport_port' (w : Nat) (f : RPort → RPort) (v : Nat) : (s.onRport w f).port v = s.port v := rfl
@[simp] theorem State.onRport_encl' (w : Nat) (f : RPort → RPort) (v j : Nat) : (s.onRport w f).encl v j = s.encl v j := rfl
@[simp] theorem State.onRport_ioport' (w : Nat) (f : RPort → RPort) (v : Nat) : (s.onRport w f).ioport v = s.ioport v := rfl
@[simp] theorem State.onRport_sp' (w : Nat) (f : RPort → RPort) (v : Nat) : (s.onRport w f).sp v = s.sp v := rfl
@[simp] theorem State.onRport_rail' (w : Nat) (f : RPort → RPort) (v : Nat) : (s.onRport w f).rail v = s.rail v := rfl
@[simp] theorem State.onRport_gpio' (w : Nat) (f : RPort → RPort) (v : Nat) : (s.onRport w f).gpio v = s.gpio v := rfl
@[simp] theorem State.onRport_health' (w : Nat) (f : RPort → RPort) (v : Nat) : (s.onRport w f).health v = s.health v := rfl
@[simp] theorem State.onLlt_win' (w : Nat) (f : Llt → Llt) (v : Nat) : (s.onLlt w f).win v = s.win v := rfl
@[simp] theorem State.onLlt_inst' (w : Nat) (f : Llt → Llt) (v : Nat) : (s.onLlt w f).inst v = s.inst v := rfl
@[simp] theorem State.onLlt_core' (w : Nat) (f : Llt → Llt) (v : Nat) : (s.onLlt w f).core v = s.core v := rfl
@[simp] theorem State.onLlt_pcore' (w : Nat) (f : Llt → Llt) (v : Nat) : (s.onLlt w f).pcore v = s.pcore v := rfl
@[simp] theorem State.onLlt_ctx' (w : Nat) (f : Llt → Llt) (v j : Nat) : (s.onLlt w f).ctx v j = s.ctx v j := rfl
@[simp] theorem State.onLlt_sub' (w : Nat) (f : Llt → Llt) (v : Nat) : (s.onLlt w f).sub v = s.sub v := rfl
@[simp] theorem State.onLlt_ring' (w : Nat) (f : Llt → Llt) (v : Nat) : (s.onLlt w f).ring v = s.ring v := rfl
@[simp] theorem State.onLlt_route' (w : Nat) (f : Llt → Llt) (v : Nat) : (s.onLlt w f).route v = s.route v := rfl
@[simp] theorem State.onLlt_engine' (w : Nat) (f : Llt → Llt) (v : Nat) : (s.onLlt w f).engine v = s.engine v := rfl
@[simp] theorem State.onLlt_page' (w : Nat) (f : Llt → Llt) (v : Nat) : (s.onLlt w f).page v = s.page v := rfl
@[simp] theorem State.onLlt_bcu' (w : Nat) (f : Llt → Llt) (v : Nat) : (s.onLlt w f).bcu v = s.bcu v := rfl
@[simp] theorem State.onLlt_dfu' (w : Nat) (f : Llt → Llt) (v : Nat) : (s.onLlt w f).dfu v = s.dfu v := rfl
@[simp] theorem State.onLlt_port' (w : Nat) (f : Llt → Llt) (v : Nat) : (s.onLlt w f).port v = s.port v := rfl
@[simp] theorem State.onLlt_encl' (w : Nat) (f : Llt → Llt) (v j : Nat) : (s.onLlt w f).encl v j = s.encl v j := rfl
@[simp] theorem State.onLlt_ioport' (w : Nat) (f : Llt → Llt) (v : Nat) : (s.onLlt w f).ioport v = s.ioport v := rfl
@[simp] theorem State.onLlt_sp' (w : Nat) (f : Llt → Llt) (v : Nat) : (s.onLlt w f).sp v = s.sp v := rfl
@[simp] theorem State.onLlt_rail' (w : Nat) (f : Llt → Llt) (v : Nat) : (s.onLlt w f).rail v = s.rail v := rfl
@[simp] theorem State.onLlt_gpio' (w : Nat) (f : Llt → Llt) (v : Nat) : (s.onLlt w f).gpio v = s.gpio v := rfl
@[simp] theorem State.onLlt_health' (w : Nat) (f : Llt → Llt) (v : Nat) : (s.onLlt w f).health v = s.health v := rfl
@[simp] theorem State.onEncl_win' (w k : Nat) (f : Encl → Encl) (v : Nat) : (s.onEncl w k f).win v = s.win v := rfl
@[simp] theorem State.onEncl_inst' (w k : Nat) (f : Encl → Encl) (v : Nat) : (s.onEncl w k f).inst v = s.inst v := rfl
@[simp] theorem State.onEncl_core' (w k : Nat) (f : Encl → Encl) (v : Nat) : (s.onEncl w k f).core v = s.core v := rfl
@[simp] theorem State.onEncl_pcore' (w k : Nat) (f : Encl → Encl) (v : Nat) : (s.onEncl w k f).pcore v = s.pcore v := rfl
@[simp] theorem State.onEncl_ctx' (w k : Nat) (f : Encl → Encl) (v j : Nat) : (s.onEncl w k f).ctx v j = s.ctx v j := rfl
@[simp] theorem State.onEncl_sub' (w k : Nat) (f : Encl → Encl) (v : Nat) : (s.onEncl w k f).sub v = s.sub v := rfl
@[simp] theorem State.onEncl_ring' (w k : Nat) (f : Encl → Encl) (v : Nat) : (s.onEncl w k f).ring v = s.ring v := rfl
@[simp] theorem State.onEncl_route' (w k : Nat) (f : Encl → Encl) (v : Nat) : (s.onEncl w k f).route v = s.route v := rfl
@[simp] theorem State.onEncl_engine' (w k : Nat) (f : Encl → Encl) (v : Nat) : (s.onEncl w k f).engine v = s.engine v := rfl
@[simp] theorem State.onEncl_page' (w k : Nat) (f : Encl → Encl) (v : Nat) : (s.onEncl w k f).page v = s.page v := rfl
@[simp] theorem State.onEncl_bcu' (w k : Nat) (f : Encl → Encl) (v : Nat) : (s.onEncl w k f).bcu v = s.bcu v := rfl
@[simp] theorem State.onEncl_dfu' (w k : Nat) (f : Encl → Encl) (v : Nat) : (s.onEncl w k f).dfu v = s.dfu v := rfl
@[simp] theorem State.onEncl_port' (w k : Nat) (f : Encl → Encl) (v : Nat) : (s.onEncl w k f).port v = s.port v := rfl
@[simp] theorem State.onEncl_rport' (w k : Nat) (f : Encl → Encl) (v : Nat) : (s.onEncl w k f).rport v = s.rport v := rfl
@[simp] theorem State.onEncl_llt' (w k : Nat) (f : Encl → Encl) (v : Nat) : (s.onEncl w k f).llt v = s.llt v := rfl
@[simp] theorem State.onEncl_ioport' (w k : Nat) (f : Encl → Encl) (v : Nat) : (s.onEncl w k f).ioport v = s.ioport v := rfl
@[simp] theorem State.onEncl_sp' (w k : Nat) (f : Encl → Encl) (v : Nat) : (s.onEncl w k f).sp v = s.sp v := rfl
@[simp] theorem State.onEncl_rail' (w k : Nat) (f : Encl → Encl) (v : Nat) : (s.onEncl w k f).rail v = s.rail v := rfl
@[simp] theorem State.onEncl_gpio' (w k : Nat) (f : Encl → Encl) (v : Nat) : (s.onEncl w k f).gpio v = s.gpio v := rfl
@[simp] theorem State.onEncl_health' (w k : Nat) (f : Encl → Encl) (v : Nat) : (s.onEncl w k f).health v = s.health v := rfl
@[simp] theorem State.onIoport_win' (w : Nat) (f : IoPort → IoPort) (v : Nat) : (s.onIoport w f).win v = s.win v := rfl
@[simp] theorem State.onIoport_inst' (w : Nat) (f : IoPort → IoPort) (v : Nat) : (s.onIoport w f).inst v = s.inst v := rfl
@[simp] theorem State.onIoport_core' (w : Nat) (f : IoPort → IoPort) (v : Nat) : (s.onIoport w f).core v = s.core v := rfl
@[simp] theorem State.onIoport_pcore' (w : Nat) (f : IoPort → IoPort) (v : Nat) : (s.onIoport w f).pcore v = s.pcore v := rfl
@[simp] theorem State.onIoport_ctx' (w : Nat) (f : IoPort → IoPort) (v j : Nat) : (s.onIoport w f).ctx v j = s.ctx v j := rfl
@[simp] theorem State.onIoport_sub' (w : Nat) (f : IoPort → IoPort) (v : Nat) : (s.onIoport w f).sub v = s.sub v := rfl
@[simp] theorem State.onIoport_ring' (w : Nat) (f : IoPort → IoPort) (v : Nat) : (s.onIoport w f).ring v = s.ring v := rfl
@[simp] theorem State.onIoport_route' (w : Nat) (f : IoPort → IoPort) (v : Nat) : (s.onIoport w f).route v = s.route v := rfl
@[simp] theorem State.onIoport_engine' (w : Nat) (f : IoPort → IoPort) (v : Nat) : (s.onIoport w f).engine v = s.engine v := rfl
@[simp] theorem State.onIoport_page' (w : Nat) (f : IoPort → IoPort) (v : Nat) : (s.onIoport w f).page v = s.page v := rfl
@[simp] theorem State.onIoport_bcu' (w : Nat) (f : IoPort → IoPort) (v : Nat) : (s.onIoport w f).bcu v = s.bcu v := rfl
@[simp] theorem State.onIoport_dfu' (w : Nat) (f : IoPort → IoPort) (v : Nat) : (s.onIoport w f).dfu v = s.dfu v := rfl
@[simp] theorem State.onIoport_port' (w : Nat) (f : IoPort → IoPort) (v : Nat) : (s.onIoport w f).port v = s.port v := rfl
@[simp] theorem State.onIoport_rport' (w : Nat) (f : IoPort → IoPort) (v : Nat) : (s.onIoport w f).rport v = s.rport v := rfl
@[simp] theorem State.onIoport_llt' (w : Nat) (f : IoPort → IoPort) (v : Nat) : (s.onIoport w f).llt v = s.llt v := rfl
@[simp] theorem State.onIoport_encl' (w : Nat) (f : IoPort → IoPort) (v j : Nat) : (s.onIoport w f).encl v j = s.encl v j := rfl
@[simp] theorem State.onIoport_sp' (w : Nat) (f : IoPort → IoPort) (v : Nat) : (s.onIoport w f).sp v = s.sp v := rfl
@[simp] theorem State.onIoport_rail' (w : Nat) (f : IoPort → IoPort) (v : Nat) : (s.onIoport w f).rail v = s.rail v := rfl
@[simp] theorem State.onIoport_gpio' (w : Nat) (f : IoPort → IoPort) (v : Nat) : (s.onIoport w f).gpio v = s.gpio v := rfl
@[simp] theorem State.onIoport_health' (w : Nat) (f : IoPort → IoPort) (v : Nat) : (s.onIoport w f).health v = s.health v := rfl
@[simp] theorem State.onSp_win' (w : Nat) (f : Sp → Sp) (v : Nat) : (s.onSp w f).win v = s.win v := by unfold State.onSp; split <;> rfl
@[simp] theorem State.onSp_inst' (w : Nat) (f : Sp → Sp) (v : Nat) : (s.onSp w f).inst v = s.inst v := by unfold State.onSp; split <;> rfl
@[simp] theorem State.onSp_core' (w : Nat) (f : Sp → Sp) (v : Nat) : (s.onSp w f).core v = s.core v := by unfold State.onSp; split <;> rfl
@[simp] theorem State.onSp_pcore' (w : Nat) (f : Sp → Sp) (v : Nat) : (s.onSp w f).pcore v = s.pcore v := by unfold State.onSp; split <;> rfl
@[simp] theorem State.onSp_ctx' (w : Nat) (f : Sp → Sp) (v j : Nat) : (s.onSp w f).ctx v j = s.ctx v j := by unfold State.onSp; split <;> rfl
@[simp] theorem State.onSp_sub' (w : Nat) (f : Sp → Sp) (v : Nat) : (s.onSp w f).sub v = s.sub v := by unfold State.onSp; split <;> rfl
@[simp] theorem State.onSp_ring' (w : Nat) (f : Sp → Sp) (v : Nat) : (s.onSp w f).ring v = s.ring v := by unfold State.onSp; split <;> rfl
@[simp] theorem State.onSp_route' (w : Nat) (f : Sp → Sp) (v : Nat) : (s.onSp w f).route v = s.route v := by unfold State.onSp; split <;> rfl
@[simp] theorem State.onSp_engine' (w : Nat) (f : Sp → Sp) (v : Nat) : (s.onSp w f).engine v = s.engine v := by unfold State.onSp; split <;> rfl
@[simp] theorem State.onSp_page' (w : Nat) (f : Sp → Sp) (v : Nat) : (s.onSp w f).page v = s.page v := by unfold State.onSp; split <;> rfl
@[simp] theorem State.onSp_bcu' (w : Nat) (f : Sp → Sp) (v : Nat) : (s.onSp w f).bcu v = s.bcu v := by unfold State.onSp; split <;> rfl
@[simp] theorem State.onSp_dfu' (w : Nat) (f : Sp → Sp) (v : Nat) : (s.onSp w f).dfu v = s.dfu v := by unfold State.onSp; split <;> rfl
@[simp] theorem State.onSp_port' (w : Nat) (f : Sp → Sp) (v : Nat) : (s.onSp w f).port v = s.port v := by unfold State.onSp; split <;> rfl
@[simp] theorem State.onSp_rport' (w : Nat) (f : Sp → Sp) (v : Nat) : (s.onSp w f).rport v = s.rport v := by unfold State.onSp; split <;> rfl
@[simp] theorem State.onSp_llt' (w : Nat) (f : Sp → Sp) (v : Nat) : (s.onSp w f).llt v = s.llt v := by unfold State.onSp; split <;> rfl
@[simp] theorem State.onSp_encl' (w : Nat) (f : Sp → Sp) (v j : Nat) : (s.onSp w f).encl v j = s.encl v j := by unfold State.onSp; split <;> rfl
@[simp] theorem State.onSp_ioport' (w : Nat) (f : Sp → Sp) (v : Nat) : (s.onSp w f).ioport v = s.ioport v := by unfold State.onSp; split <;> rfl
@[simp] theorem State.onSp_rail' (w : Nat) (f : Sp → Sp) (v : Nat) : (s.onSp w f).rail v = s.rail v := by unfold State.onSp; split <;> rfl
@[simp] theorem State.onSp_gpio' (w : Nat) (f : Sp → Sp) (v : Nat) : (s.onSp w f).gpio v = s.gpio v := by unfold State.onSp; split <;> rfl
@[simp] theorem State.onSp_health' (w : Nat) (f : Sp → Sp) (v : Nat) : (s.onSp w f).health v = s.health v := by unfold State.onSp; split <;> rfl
@[simp] theorem State.onRail_win' (w : Nat) (f : Rail → Rail) (v : Nat) : (s.onRail w f).win v = s.win v := rfl
@[simp] theorem State.onRail_inst' (w : Nat) (f : Rail → Rail) (v : Nat) : (s.onRail w f).inst v = s.inst v := rfl
@[simp] theorem State.onRail_core' (w : Nat) (f : Rail → Rail) (v : Nat) : (s.onRail w f).core v = s.core v := rfl
@[simp] theorem State.onRail_pcore' (w : Nat) (f : Rail → Rail) (v : Nat) : (s.onRail w f).pcore v = s.pcore v := rfl
@[simp] theorem State.onRail_ctx' (w : Nat) (f : Rail → Rail) (v j : Nat) : (s.onRail w f).ctx v j = s.ctx v j := rfl
@[simp] theorem State.onRail_sub' (w : Nat) (f : Rail → Rail) (v : Nat) : (s.onRail w f).sub v = s.sub v := rfl
@[simp] theorem State.onRail_ring' (w : Nat) (f : Rail → Rail) (v : Nat) : (s.onRail w f).ring v = s.ring v := rfl
@[simp] theorem State.onRail_route' (w : Nat) (f : Rail → Rail) (v : Nat) : (s.onRail w f).route v = s.route v := rfl
@[simp] theorem State.onRail_engine' (w : Nat) (f : Rail → Rail) (v : Nat) : (s.onRail w f).engine v = s.engine v := rfl
@[simp] theorem State.onRail_page' (w : Nat) (f : Rail → Rail) (v : Nat) : (s.onRail w f).page v = s.page v := rfl
@[simp] theorem State.onRail_bcu' (w : Nat) (f : Rail → Rail) (v : Nat) : (s.onRail w f).bcu v = s.bcu v := rfl
@[simp] theorem State.onRail_dfu' (w : Nat) (f : Rail → Rail) (v : Nat) : (s.onRail w f).dfu v = s.dfu v := rfl
@[simp] theorem State.onRail_port' (w : Nat) (f : Rail → Rail) (v : Nat) : (s.onRail w f).port v = s.port v := rfl
@[simp] theorem State.onRail_rport' (w : Nat) (f : Rail → Rail) (v : Nat) : (s.onRail w f).rport v = s.rport v := rfl
@[simp] theorem State.onRail_llt' (w : Nat) (f : Rail → Rail) (v : Nat) : (s.onRail w f).llt v = s.llt v := rfl
@[simp] theorem State.onRail_encl' (w : Nat) (f : Rail → Rail) (v j : Nat) : (s.onRail w f).encl v j = s.encl v j := rfl
@[simp] theorem State.onRail_ioport' (w : Nat) (f : Rail → Rail) (v : Nat) : (s.onRail w f).ioport v = s.ioport v := rfl
@[simp] theorem State.onRail_sp' (w : Nat) (f : Rail → Rail) (v : Nat) : (s.onRail w f).sp v = s.sp v := rfl
@[simp] theorem State.onRail_health' (w : Nat) (f : Rail → Rail) (v : Nat) : (s.onRail w f).health v = s.health v := rfl
@[simp] theorem State.onGpio_win' (w : Nat) (f : Gpio → Gpio) (v : Nat) : (s.onGpio w f).win v = s.win v := rfl
@[simp] theorem State.onGpio_inst' (w : Nat) (f : Gpio → Gpio) (v : Nat) : (s.onGpio w f).inst v = s.inst v := rfl
@[simp] theorem State.onGpio_core' (w : Nat) (f : Gpio → Gpio) (v : Nat) : (s.onGpio w f).core v = s.core v := rfl
@[simp] theorem State.onGpio_pcore' (w : Nat) (f : Gpio → Gpio) (v : Nat) : (s.onGpio w f).pcore v = s.pcore v := rfl
@[simp] theorem State.onGpio_ctx' (w : Nat) (f : Gpio → Gpio) (v j : Nat) : (s.onGpio w f).ctx v j = s.ctx v j := rfl
@[simp] theorem State.onGpio_sub' (w : Nat) (f : Gpio → Gpio) (v : Nat) : (s.onGpio w f).sub v = s.sub v := rfl
@[simp] theorem State.onGpio_ring' (w : Nat) (f : Gpio → Gpio) (v : Nat) : (s.onGpio w f).ring v = s.ring v := rfl
@[simp] theorem State.onGpio_route' (w : Nat) (f : Gpio → Gpio) (v : Nat) : (s.onGpio w f).route v = s.route v := rfl
@[simp] theorem State.onGpio_engine' (w : Nat) (f : Gpio → Gpio) (v : Nat) : (s.onGpio w f).engine v = s.engine v := rfl
@[simp] theorem State.onGpio_page' (w : Nat) (f : Gpio → Gpio) (v : Nat) : (s.onGpio w f).page v = s.page v := rfl
@[simp] theorem State.onGpio_bcu' (w : Nat) (f : Gpio → Gpio) (v : Nat) : (s.onGpio w f).bcu v = s.bcu v := rfl
@[simp] theorem State.onGpio_dfu' (w : Nat) (f : Gpio → Gpio) (v : Nat) : (s.onGpio w f).dfu v = s.dfu v := rfl
@[simp] theorem State.onGpio_port' (w : Nat) (f : Gpio → Gpio) (v : Nat) : (s.onGpio w f).port v = s.port v := rfl
@[simp] theorem State.onGpio_rport' (w : Nat) (f : Gpio → Gpio) (v : Nat) : (s.onGpio w f).rport v = s.rport v := rfl
@[simp] theorem State.onGpio_llt' (w : Nat) (f : Gpio → Gpio) (v : Nat) : (s.onGpio w f).llt v = s.llt v := rfl
@[simp] theorem State.onGpio_encl' (w : Nat) (f : Gpio → Gpio) (v j : Nat) : (s.onGpio w f).encl v j = s.encl v j := rfl
@[simp] theorem State.onGpio_ioport' (w : Nat) (f : Gpio → Gpio) (v : Nat) : (s.onGpio w f).ioport v = s.ioport v := rfl
@[simp] theorem State.onGpio_sp' (w : Nat) (f : Gpio → Gpio) (v : Nat) : (s.onGpio w f).sp v = s.sp v := rfl
@[simp] theorem State.onGpio_health' (w : Nat) (f : Gpio → Gpio) (v : Nat) : (s.onGpio w f).health v = s.health v := rfl
@[simp] theorem State.onLog_win' (f : Log → Log) (v : Nat) : (s.onLog f).win v = s.win v := rfl
@[simp] theorem State.onLog_inst' (f : Log → Log) (v : Nat) : (s.onLog f).inst v = s.inst v := rfl
@[simp] theorem State.onLog_core' (f : Log → Log) (v : Nat) : (s.onLog f).core v = s.core v := rfl
@[simp] theorem State.onLog_pcore' (f : Log → Log) (v : Nat) : (s.onLog f).pcore v = s.pcore v := rfl
@[simp] theorem State.onLog_ctx' (f : Log → Log) (v j : Nat) : (s.onLog f).ctx v j = s.ctx v j := rfl
@[simp] theorem State.onLog_sub' (f : Log → Log) (v : Nat) : (s.onLog f).sub v = s.sub v := rfl
@[simp] theorem State.onLog_ring' (f : Log → Log) (v : Nat) : (s.onLog f).ring v = s.ring v := rfl
@[simp] theorem State.onLog_route' (f : Log → Log) (v : Nat) : (s.onLog f).route v = s.route v := rfl
@[simp] theorem State.onLog_engine' (f : Log → Log) (v : Nat) : (s.onLog f).engine v = s.engine v := rfl
@[simp] theorem State.onLog_page' (f : Log → Log) (v : Nat) : (s.onLog f).page v = s.page v := rfl
@[simp] theorem State.onLog_bcu' (f : Log → Log) (v : Nat) : (s.onLog f).bcu v = s.bcu v := rfl
@[simp] theorem State.onLog_dfu' (f : Log → Log) (v : Nat) : (s.onLog f).dfu v = s.dfu v := rfl
@[simp] theorem State.onLog_port' (f : Log → Log) (v : Nat) : (s.onLog f).port v = s.port v := rfl
@[simp] theorem State.onLog_rport' (f : Log → Log) (v : Nat) : (s.onLog f).rport v = s.rport v := rfl
@[simp] theorem State.onLog_llt' (f : Log → Log) (v : Nat) : (s.onLog f).llt v = s.llt v := rfl
@[simp] theorem State.onLog_encl' (f : Log → Log) (v j : Nat) : (s.onLog f).encl v j = s.encl v j := rfl
@[simp] theorem State.onLog_ioport' (f : Log → Log) (v : Nat) : (s.onLog f).ioport v = s.ioport v := rfl
@[simp] theorem State.onLog_sp' (f : Log → Log) (v : Nat) : (s.onLog f).sp v = s.sp v := rfl
@[simp] theorem State.onLog_rail' (f : Log → Log) (v : Nat) : (s.onLog f).rail v = s.rail v := rfl
@[simp] theorem State.onLog_gpio' (f : Log → Log) (v : Nat) : (s.onLog f).gpio v = s.gpio v := rfl
@[simp] theorem State.onMs_win' (f : MemSys → MemSys) (v : Nat) : (s.onMs f).win v = s.win v := rfl
@[simp] theorem State.onMs_inst' (f : MemSys → MemSys) (v : Nat) : (s.onMs f).inst v = s.inst v := rfl
@[simp] theorem State.onMs_core' (f : MemSys → MemSys) (v : Nat) : (s.onMs f).core v = s.core v := rfl
@[simp] theorem State.onMs_pcore' (f : MemSys → MemSys) (v : Nat) : (s.onMs f).pcore v = s.pcore v := rfl
@[simp] theorem State.onMs_ctx' (f : MemSys → MemSys) (v j : Nat) : (s.onMs f).ctx v j = s.ctx v j := rfl
@[simp] theorem State.onMs_sub' (f : MemSys → MemSys) (v : Nat) : (s.onMs f).sub v = s.sub v := rfl
@[simp] theorem State.onMs_ring' (f : MemSys → MemSys) (v : Nat) : (s.onMs f).ring v = s.ring v := rfl
@[simp] theorem State.onMs_route' (f : MemSys → MemSys) (v : Nat) : (s.onMs f).route v = s.route v := rfl
@[simp] theorem State.onMs_engine' (f : MemSys → MemSys) (v : Nat) : (s.onMs f).engine v = s.engine v := rfl
@[simp] theorem State.onMs_page' (f : MemSys → MemSys) (v : Nat) : (s.onMs f).page v = s.page v := rfl
@[simp] theorem State.onMs_bcu' (f : MemSys → MemSys) (v : Nat) : (s.onMs f).bcu v = s.bcu v := rfl
@[simp] theorem State.onMs_dfu' (f : MemSys → MemSys) (v : Nat) : (s.onMs f).dfu v = s.dfu v := rfl
@[simp] theorem State.onMs_rport' (f : MemSys → MemSys) (v : Nat) : (s.onMs f).rport v = s.rport v := rfl
@[simp] theorem State.onMs_llt' (f : MemSys → MemSys) (v : Nat) : (s.onMs f).llt v = s.llt v := rfl
@[simp] theorem State.onMs_encl' (f : MemSys → MemSys) (v j : Nat) : (s.onMs f).encl v j = s.encl v j := rfl
@[simp] theorem State.onMs_ioport' (f : MemSys → MemSys) (v : Nat) : (s.onMs f).ioport v = s.ioport v := rfl
@[simp] theorem State.onMs_sp' (f : MemSys → MemSys) (v : Nat) : (s.onMs f).sp v = s.sp v := rfl
@[simp] theorem State.onMs_rail' (f : MemSys → MemSys) (v : Nat) : (s.onMs f).rail v = s.rail v := rfl
@[simp] theorem State.onMs_gpio' (f : MemSys → MemSys) (v : Nat) : (s.onMs f).gpio v = s.gpio v := rfl
@[simp] theorem State.onMs_health' (f : MemSys → MemSys) (v : Nat) : (s.onMs f).health v = s.health v := rfl
@[simp] theorem State.onClock_win' (f : Clock → Clock) (v : Nat) : (s.onClock f).win v = s.win v := rfl
@[simp] theorem State.onClock_inst' (f : Clock → Clock) (v : Nat) : (s.onClock f).inst v = s.inst v := rfl
@[simp] theorem State.onClock_core' (f : Clock → Clock) (v : Nat) : (s.onClock f).core v = s.core v := rfl
@[simp] theorem State.onClock_pcore' (f : Clock → Clock) (v : Nat) : (s.onClock f).pcore v = s.pcore v := rfl
@[simp] theorem State.onClock_ctx' (f : Clock → Clock) (v j : Nat) : (s.onClock f).ctx v j = s.ctx v j := rfl
@[simp] theorem State.onClock_sub' (f : Clock → Clock) (v : Nat) : (s.onClock f).sub v = s.sub v := rfl
@[simp] theorem State.onClock_ring' (f : Clock → Clock) (v : Nat) : (s.onClock f).ring v = s.ring v := rfl
@[simp] theorem State.onClock_route' (f : Clock → Clock) (v : Nat) : (s.onClock f).route v = s.route v := rfl
@[simp] theorem State.onClock_engine' (f : Clock → Clock) (v : Nat) : (s.onClock f).engine v = s.engine v := rfl
@[simp] theorem State.onClock_page' (f : Clock → Clock) (v : Nat) : (s.onClock f).page v = s.page v := rfl
@[simp] theorem State.onClock_bcu' (f : Clock → Clock) (v : Nat) : (s.onClock f).bcu v = s.bcu v := rfl
@[simp] theorem State.onClock_dfu' (f : Clock → Clock) (v : Nat) : (s.onClock f).dfu v = s.dfu v := rfl
@[simp] theorem State.onClock_port' (f : Clock → Clock) (v : Nat) : (s.onClock f).port v = s.port v := rfl
@[simp] theorem State.onClock_rport' (f : Clock → Clock) (v : Nat) : (s.onClock f).rport v = s.rport v := rfl
@[simp] theorem State.onClock_llt' (f : Clock → Clock) (v : Nat) : (s.onClock f).llt v = s.llt v := rfl
@[simp] theorem State.onClock_encl' (f : Clock → Clock) (v j : Nat) : (s.onClock f).encl v j = s.encl v j := rfl
@[simp] theorem State.onClock_ioport' (f : Clock → Clock) (v : Nat) : (s.onClock f).ioport v = s.ioport v := rfl
@[simp] theorem State.onClock_sp' (f : Clock → Clock) (v : Nat) : (s.onClock f).sp v = s.sp v := rfl
@[simp] theorem State.onClock_rail' (f : Clock → Clock) (v : Nat) : (s.onClock f).rail v = s.rail v := rfl
@[simp] theorem State.onClock_gpio' (f : Clock → Clock) (v : Nat) : (s.onClock f).gpio v = s.gpio v := rfl
@[simp] theorem State.onClock_health' (f : Clock → Clock) (v : Nat) : (s.onClock f).health v = s.health v := rfl
@[simp] theorem State.onSvc_win' (f : Svc → Svc) (v : Nat) : (s.onSvc f).win v = s.win v := rfl
@[simp] theorem State.onSvc_inst' (f : Svc → Svc) (v : Nat) : (s.onSvc f).inst v = s.inst v := rfl
@[simp] theorem State.onSvc_core' (f : Svc → Svc) (v : Nat) : (s.onSvc f).core v = s.core v := rfl
@[simp] theorem State.onSvc_pcore' (f : Svc → Svc) (v : Nat) : (s.onSvc f).pcore v = s.pcore v := rfl
@[simp] theorem State.onSvc_ctx' (f : Svc → Svc) (v j : Nat) : (s.onSvc f).ctx v j = s.ctx v j := rfl
@[simp] theorem State.onSvc_sub' (f : Svc → Svc) (v : Nat) : (s.onSvc f).sub v = s.sub v := rfl
@[simp] theorem State.onSvc_ring' (f : Svc → Svc) (v : Nat) : (s.onSvc f).ring v = s.ring v := rfl
@[simp] theorem State.onSvc_route' (f : Svc → Svc) (v : Nat) : (s.onSvc f).route v = s.route v := rfl
@[simp] theorem State.onSvc_engine' (f : Svc → Svc) (v : Nat) : (s.onSvc f).engine v = s.engine v := rfl
@[simp] theorem State.onSvc_page' (f : Svc → Svc) (v : Nat) : (s.onSvc f).page v = s.page v := rfl
@[simp] theorem State.onSvc_bcu' (f : Svc → Svc) (v : Nat) : (s.onSvc f).bcu v = s.bcu v := rfl
@[simp] theorem State.onSvc_dfu' (f : Svc → Svc) (v : Nat) : (s.onSvc f).dfu v = s.dfu v := rfl
@[simp] theorem State.onSvc_port' (f : Svc → Svc) (v : Nat) : (s.onSvc f).port v = s.port v := rfl
@[simp] theorem State.onSvc_rport' (f : Svc → Svc) (v : Nat) : (s.onSvc f).rport v = s.rport v := rfl
@[simp] theorem State.onSvc_llt' (f : Svc → Svc) (v : Nat) : (s.onSvc f).llt v = s.llt v := rfl
@[simp] theorem State.onSvc_encl' (f : Svc → Svc) (v j : Nat) : (s.onSvc f).encl v j = s.encl v j := rfl
@[simp] theorem State.onSvc_ioport' (f : Svc → Svc) (v : Nat) : (s.onSvc f).ioport v = s.ioport v := rfl
@[simp] theorem State.onSvc_rail' (f : Svc → Svc) (v : Nat) : (s.onSvc f).rail v = s.rail v := rfl
@[simp] theorem State.onSvc_gpio' (f : Svc → Svc) (v : Nat) : (s.onSvc f).gpio v = s.gpio v := rfl
@[simp] theorem State.onSvc_health' (f : Svc → Svc) (v : Nat) : (s.onSvc f).health v = s.health v := rfl
@[simp] theorem State.drawn_win'  (v : Nat) : (s.drawn).win v = s.win v := rfl
@[simp] theorem State.drawn_inst'  (v : Nat) : (s.drawn).inst v = s.inst v := rfl
@[simp] theorem State.drawn_core'  (v : Nat) : (s.drawn).core v = s.core v := rfl
@[simp] theorem State.drawn_pcore'  (v : Nat) : (s.drawn).pcore v = s.pcore v := rfl
@[simp] theorem State.drawn_ctx'  (v j : Nat) : (s.drawn).ctx v j = s.ctx v j := rfl
@[simp] theorem State.drawn_sub'  (v : Nat) : (s.drawn).sub v = s.sub v := rfl
@[simp] theorem State.drawn_ring'  (v : Nat) : (s.drawn).ring v = s.ring v := rfl
@[simp] theorem State.drawn_route'  (v : Nat) : (s.drawn).route v = s.route v := rfl
@[simp] theorem State.drawn_engine'  (v : Nat) : (s.drawn).engine v = s.engine v := rfl
@[simp] theorem State.drawn_page'  (v : Nat) : (s.drawn).page v = s.page v := rfl
@[simp] theorem State.drawn_bcu'  (v : Nat) : (s.drawn).bcu v = s.bcu v := rfl
@[simp] theorem State.drawn_dfu'  (v : Nat) : (s.drawn).dfu v = s.dfu v := rfl
@[simp] theorem State.drawn_port'  (v : Nat) : (s.drawn).port v = s.port v := rfl
@[simp] theorem State.drawn_rport'  (v : Nat) : (s.drawn).rport v = s.rport v := rfl
@[simp] theorem State.drawn_llt'  (v : Nat) : (s.drawn).llt v = s.llt v := rfl
@[simp] theorem State.drawn_encl'  (v j : Nat) : (s.drawn).encl v j = s.encl v j := rfl
@[simp] theorem State.drawn_ioport'  (v : Nat) : (s.drawn).ioport v = s.ioport v := rfl
@[simp] theorem State.drawn_sp'  (v : Nat) : (s.drawn).sp v = s.sp v := rfl
@[simp] theorem State.drawn_rail'  (v : Nat) : (s.drawn).rail v = s.rail v := rfl
@[simp] theorem State.drawn_gpio'  (v : Nat) : (s.drawn).gpio v = s.gpio v := rfl
@[simp] theorem State.drawn_health'  (v : Nat) : (s.drawn).health v = s.health v := rfl
@[simp] theorem State.logRec_win' (a b : Nat) (l : List Nat) (v : Nat) : (s.logRec a b l).win v = s.win v := rfl
@[simp] theorem State.logRec_inst' (a b : Nat) (l : List Nat) (v : Nat) : (s.logRec a b l).inst v = s.inst v := rfl
@[simp] theorem State.logRec_core' (a b : Nat) (l : List Nat) (v : Nat) : (s.logRec a b l).core v = s.core v := rfl
@[simp] theorem State.logRec_pcore' (a b : Nat) (l : List Nat) (v : Nat) : (s.logRec a b l).pcore v = s.pcore v := rfl
@[simp] theorem State.logRec_ctx' (a b : Nat) (l : List Nat) (v j : Nat) : (s.logRec a b l).ctx v j = s.ctx v j := rfl
@[simp] theorem State.logRec_sub' (a b : Nat) (l : List Nat) (v : Nat) : (s.logRec a b l).sub v = s.sub v := rfl
@[simp] theorem State.logRec_ring' (a b : Nat) (l : List Nat) (v : Nat) : (s.logRec a b l).ring v = s.ring v := rfl
@[simp] theorem State.logRec_route' (a b : Nat) (l : List Nat) (v : Nat) : (s.logRec a b l).route v = s.route v := rfl
@[simp] theorem State.logRec_engine' (a b : Nat) (l : List Nat) (v : Nat) : (s.logRec a b l).engine v = s.engine v := rfl
@[simp] theorem State.logRec_page' (a b : Nat) (l : List Nat) (v : Nat) : (s.logRec a b l).page v = s.page v := rfl
@[simp] theorem State.logRec_bcu' (a b : Nat) (l : List Nat) (v : Nat) : (s.logRec a b l).bcu v = s.bcu v := rfl
@[simp] theorem State.logRec_dfu' (a b : Nat) (l : List Nat) (v : Nat) : (s.logRec a b l).dfu v = s.dfu v := rfl
@[simp] theorem State.logRec_port' (a b : Nat) (l : List Nat) (v : Nat) : (s.logRec a b l).port v = s.port v := rfl
@[simp] theorem State.logRec_rport' (a b : Nat) (l : List Nat) (v : Nat) : (s.logRec a b l).rport v = s.rport v := rfl
@[simp] theorem State.logRec_llt' (a b : Nat) (l : List Nat) (v : Nat) : (s.logRec a b l).llt v = s.llt v := rfl
@[simp] theorem State.logRec_encl' (a b : Nat) (l : List Nat) (v j : Nat) : (s.logRec a b l).encl v j = s.encl v j := rfl
@[simp] theorem State.logRec_ioport' (a b : Nat) (l : List Nat) (v : Nat) : (s.logRec a b l).ioport v = s.ioport v := rfl
@[simp] theorem State.logRec_sp' (a b : Nat) (l : List Nat) (v : Nat) : (s.logRec a b l).sp v = s.sp v := rfl
@[simp] theorem State.logRec_rail' (a b : Nat) (l : List Nat) (v : Nat) : (s.logRec a b l).rail v = s.rail v := rfl
@[simp] theorem State.logRec_gpio' (a b : Nat) (l : List Nat) (v : Nat) : (s.logRec a b l).gpio v = s.gpio v := rfl
@[simp] theorem State.logSealed_win' (a b : Nat) (l : List Nat) (v : Nat) : (s.logSealed a b l).win v = s.win v := rfl
@[simp] theorem State.logSealed_inst' (a b : Nat) (l : List Nat) (v : Nat) : (s.logSealed a b l).inst v = s.inst v := rfl
@[simp] theorem State.logSealed_core' (a b : Nat) (l : List Nat) (v : Nat) : (s.logSealed a b l).core v = s.core v := rfl
@[simp] theorem State.logSealed_pcore' (a b : Nat) (l : List Nat) (v : Nat) : (s.logSealed a b l).pcore v = s.pcore v := rfl
@[simp] theorem State.logSealed_ctx' (a b : Nat) (l : List Nat) (v j : Nat) : (s.logSealed a b l).ctx v j = s.ctx v j := rfl
@[simp] theorem State.logSealed_sub' (a b : Nat) (l : List Nat) (v : Nat) : (s.logSealed a b l).sub v = s.sub v := rfl
@[simp] theorem State.logSealed_ring' (a b : Nat) (l : List Nat) (v : Nat) : (s.logSealed a b l).ring v = s.ring v := rfl
@[simp] theorem State.logSealed_route' (a b : Nat) (l : List Nat) (v : Nat) : (s.logSealed a b l).route v = s.route v := rfl
@[simp] theorem State.logSealed_engine' (a b : Nat) (l : List Nat) (v : Nat) : (s.logSealed a b l).engine v = s.engine v := rfl
@[simp] theorem State.logSealed_page' (a b : Nat) (l : List Nat) (v : Nat) : (s.logSealed a b l).page v = s.page v := rfl
@[simp] theorem State.logSealed_bcu' (a b : Nat) (l : List Nat) (v : Nat) : (s.logSealed a b l).bcu v = s.bcu v := rfl
@[simp] theorem State.logSealed_dfu' (a b : Nat) (l : List Nat) (v : Nat) : (s.logSealed a b l).dfu v = s.dfu v := rfl
@[simp] theorem State.logSealed_port' (a b : Nat) (l : List Nat) (v : Nat) : (s.logSealed a b l).port v = s.port v := rfl
@[simp] theorem State.logSealed_rport' (a b : Nat) (l : List Nat) (v : Nat) : (s.logSealed a b l).rport v = s.rport v := rfl
@[simp] theorem State.logSealed_llt' (a b : Nat) (l : List Nat) (v : Nat) : (s.logSealed a b l).llt v = s.llt v := rfl
@[simp] theorem State.logSealed_encl' (a b : Nat) (l : List Nat) (v j : Nat) : (s.logSealed a b l).encl v j = s.encl v j := rfl
@[simp] theorem State.logSealed_ioport' (a b : Nat) (l : List Nat) (v : Nat) : (s.logSealed a b l).ioport v = s.ioport v := rfl
@[simp] theorem State.logSealed_sp' (a b : Nat) (l : List Nat) (v : Nat) : (s.logSealed a b l).sp v = s.sp v := rfl
@[simp] theorem State.logSealed_rail' (a b : Nat) (l : List Nat) (v : Nat) : (s.logSealed a b l).rail v = s.rail v := rfl
@[simp] theorem State.logSealed_gpio' (a b : Nat) (l : List Nat) (v : Nat) : (s.logSealed a b l).gpio v = s.gpio v := rfl
@[simp] theorem State.count_win' (a : Nat) (f : UnitCtr → UnitCtr) (v : Nat) : (s.count a f).win v = s.win v := rfl
@[simp] theorem State.count_inst' (a : Nat) (f : UnitCtr → UnitCtr) (v : Nat) : (s.count a f).inst v = s.inst v := rfl
@[simp] theorem State.count_core' (a : Nat) (f : UnitCtr → UnitCtr) (v : Nat) : (s.count a f).core v = s.core v := rfl
@[simp] theorem State.count_pcore' (a : Nat) (f : UnitCtr → UnitCtr) (v : Nat) : (s.count a f).pcore v = s.pcore v := rfl
@[simp] theorem State.count_ctx' (a : Nat) (f : UnitCtr → UnitCtr) (v j : Nat) : (s.count a f).ctx v j = s.ctx v j := rfl
@[simp] theorem State.count_sub' (a : Nat) (f : UnitCtr → UnitCtr) (v : Nat) : (s.count a f).sub v = s.sub v := rfl
@[simp] theorem State.count_ring' (a : Nat) (f : UnitCtr → UnitCtr) (v : Nat) : (s.count a f).ring v = s.ring v := rfl
@[simp] theorem State.count_route' (a : Nat) (f : UnitCtr → UnitCtr) (v : Nat) : (s.count a f).route v = s.route v := rfl
@[simp] theorem State.count_engine' (a : Nat) (f : UnitCtr → UnitCtr) (v : Nat) : (s.count a f).engine v = s.engine v := rfl
@[simp] theorem State.count_page' (a : Nat) (f : UnitCtr → UnitCtr) (v : Nat) : (s.count a f).page v = s.page v := rfl
@[simp] theorem State.count_bcu' (a : Nat) (f : UnitCtr → UnitCtr) (v : Nat) : (s.count a f).bcu v = s.bcu v := rfl
@[simp] theorem State.count_dfu' (a : Nat) (f : UnitCtr → UnitCtr) (v : Nat) : (s.count a f).dfu v = s.dfu v := rfl
@[simp] theorem State.count_port' (a : Nat) (f : UnitCtr → UnitCtr) (v : Nat) : (s.count a f).port v = s.port v := rfl
@[simp] theorem State.count_rport' (a : Nat) (f : UnitCtr → UnitCtr) (v : Nat) : (s.count a f).rport v = s.rport v := rfl
@[simp] theorem State.count_llt' (a : Nat) (f : UnitCtr → UnitCtr) (v : Nat) : (s.count a f).llt v = s.llt v := rfl
@[simp] theorem State.count_encl' (a : Nat) (f : UnitCtr → UnitCtr) (v j : Nat) : (s.count a f).encl v j = s.encl v j := rfl
@[simp] theorem State.count_ioport' (a : Nat) (f : UnitCtr → UnitCtr) (v : Nat) : (s.count a f).ioport v = s.ioport v := rfl
@[simp] theorem State.count_sp' (a : Nat) (f : UnitCtr → UnitCtr) (v : Nat) : (s.count a f).sp v = s.sp v := rfl
@[simp] theorem State.count_rail' (a : Nat) (f : UnitCtr → UnitCtr) (v : Nat) : (s.count a f).rail v = s.rail v := rfl
@[simp] theorem State.count_gpio' (a : Nat) (f : UnitCtr → UnitCtr) (v : Nat) : (s.count a f).gpio v = s.gpio v := rfl
@[simp] theorem State.countA_win' (a : Nat) (v : Nat) : (s.countA a).win v = s.win v := rfl
@[simp] theorem State.countA_inst' (a : Nat) (v : Nat) : (s.countA a).inst v = s.inst v := rfl
@[simp] theorem State.countA_core' (a : Nat) (v : Nat) : (s.countA a).core v = s.core v := rfl
@[simp] theorem State.countA_pcore' (a : Nat) (v : Nat) : (s.countA a).pcore v = s.pcore v := rfl
@[simp] theorem State.countA_ctx' (a : Nat) (v j : Nat) : (s.countA a).ctx v j = s.ctx v j := rfl
@[simp] theorem State.countA_sub' (a : Nat) (v : Nat) : (s.countA a).sub v = s.sub v := rfl
@[simp] theorem State.countA_ring' (a : Nat) (v : Nat) : (s.countA a).ring v = s.ring v := rfl
@[simp] theorem State.countA_route' (a : Nat) (v : Nat) : (s.countA a).route v = s.route v := rfl
@[simp] theorem State.countA_engine' (a : Nat) (v : Nat) : (s.countA a).engine v = s.engine v := rfl
@[simp] theorem State.countA_page' (a : Nat) (v : Nat) : (s.countA a).page v = s.page v := rfl
@[simp] theorem State.countA_bcu' (a : Nat) (v : Nat) : (s.countA a).bcu v = s.bcu v := rfl
@[simp] theorem State.countA_dfu' (a : Nat) (v : Nat) : (s.countA a).dfu v = s.dfu v := rfl
@[simp] theorem State.countA_port' (a : Nat) (v : Nat) : (s.countA a).port v = s.port v := rfl
@[simp] theorem State.countA_rport' (a : Nat) (v : Nat) : (s.countA a).rport v = s.rport v := rfl
@[simp] theorem State.countA_llt' (a : Nat) (v : Nat) : (s.countA a).llt v = s.llt v := rfl
@[simp] theorem State.countA_encl' (a : Nat) (v j : Nat) : (s.countA a).encl v j = s.encl v j := rfl
@[simp] theorem State.countA_ioport' (a : Nat) (v : Nat) : (s.countA a).ioport v = s.ioport v := rfl
@[simp] theorem State.countA_sp' (a : Nat) (v : Nat) : (s.countA a).sp v = s.sp v := rfl
@[simp] theorem State.countA_rail' (a : Nat) (v : Nat) : (s.countA a).rail v = s.rail v := rfl
@[simp] theorem State.countA_gpio' (a : Nat) (v : Nat) : (s.countA a).gpio v = s.gpio v := rfl
@[simp] theorem State.countB_win' (a : Nat) (v : Nat) : (s.countB a).win v = s.win v := rfl
@[simp] theorem State.countB_inst' (a : Nat) (v : Nat) : (s.countB a).inst v = s.inst v := rfl
@[simp] theorem State.countB_core' (a : Nat) (v : Nat) : (s.countB a).core v = s.core v := rfl
@[simp] theorem State.countB_pcore' (a : Nat) (v : Nat) : (s.countB a).pcore v = s.pcore v := rfl
@[simp] theorem State.countB_ctx' (a : Nat) (v j : Nat) : (s.countB a).ctx v j = s.ctx v j := rfl
@[simp] theorem State.countB_sub' (a : Nat) (v : Nat) : (s.countB a).sub v = s.sub v := rfl
@[simp] theorem State.countB_ring' (a : Nat) (v : Nat) : (s.countB a).ring v = s.ring v := rfl
@[simp] theorem State.countB_route' (a : Nat) (v : Nat) : (s.countB a).route v = s.route v := rfl
@[simp] theorem State.countB_engine' (a : Nat) (v : Nat) : (s.countB a).engine v = s.engine v := rfl
@[simp] theorem State.countB_page' (a : Nat) (v : Nat) : (s.countB a).page v = s.page v := rfl
@[simp] theorem State.countB_bcu' (a : Nat) (v : Nat) : (s.countB a).bcu v = s.bcu v := rfl
@[simp] theorem State.countB_dfu' (a : Nat) (v : Nat) : (s.countB a).dfu v = s.dfu v := rfl
@[simp] theorem State.countB_port' (a : Nat) (v : Nat) : (s.countB a).port v = s.port v := rfl
@[simp] theorem State.countB_rport' (a : Nat) (v : Nat) : (s.countB a).rport v = s.rport v := rfl
@[simp] theorem State.countB_llt' (a : Nat) (v : Nat) : (s.countB a).llt v = s.llt v := rfl
@[simp] theorem State.countB_encl' (a : Nat) (v j : Nat) : (s.countB a).encl v j = s.encl v j := rfl
@[simp] theorem State.countB_ioport' (a : Nat) (v : Nat) : (s.countB a).ioport v = s.ioport v := rfl
@[simp] theorem State.countB_sp' (a : Nat) (v : Nat) : (s.countB a).sp v = s.sp v := rfl
@[simp] theorem State.countB_rail' (a : Nat) (v : Nat) : (s.countB a).rail v = s.rail v := rfl
@[simp] theorem State.countB_gpio' (a : Nat) (v : Nat) : (s.countB a).gpio v = s.gpio v := rfl
@[simp] theorem State.countLat_win' (a b : Nat) (v : Nat) : (s.countLat a b).win v = s.win v := rfl
@[simp] theorem State.countLat_inst' (a b : Nat) (v : Nat) : (s.countLat a b).inst v = s.inst v := rfl
@[simp] theorem State.countLat_core' (a b : Nat) (v : Nat) : (s.countLat a b).core v = s.core v := rfl
@[simp] theorem State.countLat_pcore' (a b : Nat) (v : Nat) : (s.countLat a b).pcore v = s.pcore v := rfl
@[simp] theorem State.countLat_ctx' (a b : Nat) (v j : Nat) : (s.countLat a b).ctx v j = s.ctx v j := rfl
@[simp] theorem State.countLat_sub' (a b : Nat) (v : Nat) : (s.countLat a b).sub v = s.sub v := rfl
@[simp] theorem State.countLat_ring' (a b : Nat) (v : Nat) : (s.countLat a b).ring v = s.ring v := rfl
@[simp] theorem State.countLat_route' (a b : Nat) (v : Nat) : (s.countLat a b).route v = s.route v := rfl
@[simp] theorem State.countLat_engine' (a b : Nat) (v : Nat) : (s.countLat a b).engine v = s.engine v := rfl
@[simp] theorem State.countLat_page' (a b : Nat) (v : Nat) : (s.countLat a b).page v = s.page v := rfl
@[simp] theorem State.countLat_bcu' (a b : Nat) (v : Nat) : (s.countLat a b).bcu v = s.bcu v := rfl
@[simp] theorem State.countLat_dfu' (a b : Nat) (v : Nat) : (s.countLat a b).dfu v = s.dfu v := rfl
@[simp] theorem State.countLat_port' (a b : Nat) (v : Nat) : (s.countLat a b).port v = s.port v := rfl
@[simp] theorem State.countLat_rport' (a b : Nat) (v : Nat) : (s.countLat a b).rport v = s.rport v := rfl
@[simp] theorem State.countLat_llt' (a b : Nat) (v : Nat) : (s.countLat a b).llt v = s.llt v := rfl
@[simp] theorem State.countLat_encl' (a b : Nat) (v j : Nat) : (s.countLat a b).encl v j = s.encl v j := rfl
@[simp] theorem State.countLat_ioport' (a b : Nat) (v : Nat) : (s.countLat a b).ioport v = s.ioport v := rfl
@[simp] theorem State.countLat_sp' (a b : Nat) (v : Nat) : (s.countLat a b).sp v = s.sp v := rfl
@[simp] theorem State.countLat_rail' (a b : Nat) (v : Nat) : (s.countLat a b).rail v = s.rail v := rfl
@[simp] theorem State.countLat_gpio' (a b : Nat) (v : Nat) : (s.countLat a b).gpio v = s.gpio v := rfl
@[simp] theorem State.countCe_win' (a : Nat) (v : Nat) : (s.countCe a).win v = s.win v := rfl
@[simp] theorem State.countCe_inst' (a : Nat) (v : Nat) : (s.countCe a).inst v = s.inst v := rfl
@[simp] theorem State.countCe_core' (a : Nat) (v : Nat) : (s.countCe a).core v = s.core v := rfl
@[simp] theorem State.countCe_pcore' (a : Nat) (v : Nat) : (s.countCe a).pcore v = s.pcore v := rfl
@[simp] theorem State.countCe_ctx' (a : Nat) (v j : Nat) : (s.countCe a).ctx v j = s.ctx v j := rfl
@[simp] theorem State.countCe_sub' (a : Nat) (v : Nat) : (s.countCe a).sub v = s.sub v := rfl
@[simp] theorem State.countCe_ring' (a : Nat) (v : Nat) : (s.countCe a).ring v = s.ring v := rfl
@[simp] theorem State.countCe_route' (a : Nat) (v : Nat) : (s.countCe a).route v = s.route v := rfl
@[simp] theorem State.countCe_engine' (a : Nat) (v : Nat) : (s.countCe a).engine v = s.engine v := rfl
@[simp] theorem State.countCe_page' (a : Nat) (v : Nat) : (s.countCe a).page v = s.page v := rfl
@[simp] theorem State.countCe_bcu' (a : Nat) (v : Nat) : (s.countCe a).bcu v = s.bcu v := rfl
@[simp] theorem State.countCe_dfu' (a : Nat) (v : Nat) : (s.countCe a).dfu v = s.dfu v := rfl
@[simp] theorem State.countCe_port' (a : Nat) (v : Nat) : (s.countCe a).port v = s.port v := rfl
@[simp] theorem State.countCe_rport' (a : Nat) (v : Nat) : (s.countCe a).rport v = s.rport v := rfl
@[simp] theorem State.countCe_llt' (a : Nat) (v : Nat) : (s.countCe a).llt v = s.llt v := rfl
@[simp] theorem State.countCe_encl' (a : Nat) (v j : Nat) : (s.countCe a).encl v j = s.encl v j := rfl
@[simp] theorem State.countCe_ioport' (a : Nat) (v : Nat) : (s.countCe a).ioport v = s.ioport v := rfl
@[simp] theorem State.countCe_sp' (a : Nat) (v : Nat) : (s.countCe a).sp v = s.sp v := rfl
@[simp] theorem State.countCe_rail' (a : Nat) (v : Nat) : (s.countCe a).rail v = s.rail v := rfl
@[simp] theorem State.countCe_gpio' (a : Nat) (v : Nat) : (s.countCe a).gpio v = s.gpio v := rfl
@[simp] theorem State.countUe_win' (a : Nat) (v : Nat) : (s.countUe a).win v = s.win v := rfl
@[simp] theorem State.countUe_inst' (a : Nat) (v : Nat) : (s.countUe a).inst v = s.inst v := rfl
@[simp] theorem State.countUe_core' (a : Nat) (v : Nat) : (s.countUe a).core v = s.core v := rfl
@[simp] theorem State.countUe_pcore' (a : Nat) (v : Nat) : (s.countUe a).pcore v = s.pcore v := rfl
@[simp] theorem State.countUe_ctx' (a : Nat) (v j : Nat) : (s.countUe a).ctx v j = s.ctx v j := rfl
@[simp] theorem State.countUe_sub' (a : Nat) (v : Nat) : (s.countUe a).sub v = s.sub v := rfl
@[simp] theorem State.countUe_ring' (a : Nat) (v : Nat) : (s.countUe a).ring v = s.ring v := rfl
@[simp] theorem State.countUe_route' (a : Nat) (v : Nat) : (s.countUe a).route v = s.route v := rfl
@[simp] theorem State.countUe_engine' (a : Nat) (v : Nat) : (s.countUe a).engine v = s.engine v := rfl
@[simp] theorem State.countUe_page' (a : Nat) (v : Nat) : (s.countUe a).page v = s.page v := rfl
@[simp] theorem State.countUe_bcu' (a : Nat) (v : Nat) : (s.countUe a).bcu v = s.bcu v := rfl
@[simp] theorem State.countUe_dfu' (a : Nat) (v : Nat) : (s.countUe a).dfu v = s.dfu v := rfl
@[simp] theorem State.countUe_port' (a : Nat) (v : Nat) : (s.countUe a).port v = s.port v := rfl
@[simp] theorem State.countUe_rport' (a : Nat) (v : Nat) : (s.countUe a).rport v = s.rport v := rfl
@[simp] theorem State.countUe_llt' (a : Nat) (v : Nat) : (s.countUe a).llt v = s.llt v := rfl
@[simp] theorem State.countUe_encl' (a : Nat) (v j : Nat) : (s.countUe a).encl v j = s.encl v j := rfl
@[simp] theorem State.countUe_ioport' (a : Nat) (v : Nat) : (s.countUe a).ioport v = s.ioport v := rfl
@[simp] theorem State.countUe_sp' (a : Nat) (v : Nat) : (s.countUe a).sp v = s.sp v := rfl
@[simp] theorem State.countUe_rail' (a : Nat) (v : Nat) : (s.countUe a).rail v = s.rail v := rfl
@[simp] theorem State.countUe_gpio' (a : Nat) (v : Nat) : (s.countUe a).gpio v = s.gpio v := rfl
@[simp] theorem State.notify_win' (a b c d e : Nat) (v : Nat) : (s.notify a b c d e).win v = s.win v := rfl
@[simp] theorem State.notify_inst' (a b c d e : Nat) (v : Nat) : (s.notify a b c d e).inst v = s.inst v := rfl
@[simp] theorem State.notify_core' (a b c d e : Nat) (v : Nat) : (s.notify a b c d e).core v = s.core v := rfl
@[simp] theorem State.notify_pcore' (a b c d e : Nat) (v : Nat) : (s.notify a b c d e).pcore v = s.pcore v := rfl
@[simp] theorem State.notify_ctx' (a b c d e : Nat) (v j : Nat) : (s.notify a b c d e).ctx v j = s.ctx v j := rfl
@[simp] theorem State.notify_sub' (a b c d e : Nat) (v : Nat) : (s.notify a b c d e).sub v = s.sub v := rfl
@[simp] theorem State.notify_ring' (a b c d e : Nat) (v : Nat) : (s.notify a b c d e).ring v = s.ring v := rfl
@[simp] theorem State.notify_route' (a b c d e : Nat) (v : Nat) : (s.notify a b c d e).route v = s.route v := rfl
@[simp] theorem State.notify_engine' (a b c d e : Nat) (v : Nat) : (s.notify a b c d e).engine v = s.engine v := rfl
@[simp] theorem State.notify_page' (a b c d e : Nat) (v : Nat) : (s.notify a b c d e).page v = s.page v := rfl
@[simp] theorem State.notify_bcu' (a b c d e : Nat) (v : Nat) : (s.notify a b c d e).bcu v = s.bcu v := rfl
@[simp] theorem State.notify_dfu' (a b c d e : Nat) (v : Nat) : (s.notify a b c d e).dfu v = s.dfu v := rfl
@[simp] theorem State.notify_port' (a b c d e : Nat) (v : Nat) : (s.notify a b c d e).port v = s.port v := rfl
@[simp] theorem State.notify_rport' (a b c d e : Nat) (v : Nat) : (s.notify a b c d e).rport v = s.rport v := rfl
@[simp] theorem State.notify_llt' (a b c d e : Nat) (v : Nat) : (s.notify a b c d e).llt v = s.llt v := rfl
@[simp] theorem State.notify_encl' (a b c d e : Nat) (v j : Nat) : (s.notify a b c d e).encl v j = s.encl v j := rfl
@[simp] theorem State.notify_ioport' (a b c d e : Nat) (v : Nat) : (s.notify a b c d e).ioport v = s.ioport v := rfl
@[simp] theorem State.notify_rail' (a b c d e : Nat) (v : Nat) : (s.notify a b c d e).rail v = s.rail v := rfl
@[simp] theorem State.notify_gpio' (a b c d e : Nat) (v : Nat) : (s.notify a b c d e).gpio v = s.gpio v := rfl
@[simp] theorem State.notify_health' (a b c d e : Nat) (v : Nat) : (s.notify a b c d e).health v = s.health v := rfl
@[simp] theorem State.post_win' (a b c d : Nat) (v : Nat) : (s.post a b c d).win v = s.win v := rfl
@[simp] theorem State.post_inst' (a b c d : Nat) (v : Nat) : (s.post a b c d).inst v = s.inst v := rfl
@[simp] theorem State.post_core' (a b c d : Nat) (v : Nat) : (s.post a b c d).core v = s.core v := rfl
@[simp] theorem State.post_pcore' (a b c d : Nat) (v : Nat) : (s.post a b c d).pcore v = s.pcore v := rfl
@[simp] theorem State.post_ctx' (a b c d : Nat) (v j : Nat) : (s.post a b c d).ctx v j = s.ctx v j := rfl
@[simp] theorem State.post_sub' (a b c d : Nat) (v : Nat) : (s.post a b c d).sub v = s.sub v := rfl
@[simp] theorem State.post_ring' (a b c d : Nat) (v : Nat) : (s.post a b c d).ring v = s.ring v := rfl
@[simp] theorem State.post_route' (a b c d : Nat) (v : Nat) : (s.post a b c d).route v = s.route v := rfl
@[simp] theorem State.post_engine' (a b c d : Nat) (v : Nat) : (s.post a b c d).engine v = s.engine v := rfl
@[simp] theorem State.post_page' (a b c d : Nat) (v : Nat) : (s.post a b c d).page v = s.page v := rfl
@[simp] theorem State.post_bcu' (a b c d : Nat) (v : Nat) : (s.post a b c d).bcu v = s.bcu v := rfl
@[simp] theorem State.post_dfu' (a b c d : Nat) (v : Nat) : (s.post a b c d).dfu v = s.dfu v := rfl
@[simp] theorem State.post_port' (a b c d : Nat) (v : Nat) : (s.post a b c d).port v = s.port v := rfl
@[simp] theorem State.post_rport' (a b c d : Nat) (v : Nat) : (s.post a b c d).rport v = s.rport v := rfl
@[simp] theorem State.post_llt' (a b c d : Nat) (v : Nat) : (s.post a b c d).llt v = s.llt v := rfl
@[simp] theorem State.post_encl' (a b c d : Nat) (v j : Nat) : (s.post a b c d).encl v j = s.encl v j := rfl
@[simp] theorem State.post_ioport' (a b c d : Nat) (v : Nat) : (s.post a b c d).ioport v = s.ioport v := rfl
@[simp] theorem State.post_sp' (a b c d : Nat) (v : Nat) : (s.post a b c d).sp v = s.sp v := rfl
@[simp] theorem State.post_rail' (a b c d : Nat) (v : Nat) : (s.post a b c d).rail v = s.rail v := rfl
@[simp] theorem State.post_gpio' (a b c d : Nat) (v : Nat) : (s.post a b c d).gpio v = s.gpio v := rfl
@[simp] theorem State.post_health' (a b c d : Nat) (v : Nat) : (s.post a b c d).health v = s.health v := rfl
@[simp] theorem State.advanceTo_win' (t : Nat) (v : Nat) : (s.advanceTo t).win v = s.win v := by unfold State.advanceTo; split <;> rfl
@[simp] theorem State.advanceTo_inst' (t : Nat) (v : Nat) : (s.advanceTo t).inst v = s.inst v := by unfold State.advanceTo; split <;> rfl
@[simp] theorem State.advanceTo_core' (t : Nat) (v : Nat) : (s.advanceTo t).core v = s.core v := by unfold State.advanceTo; split <;> rfl
@[simp] theorem State.advanceTo_pcore' (t : Nat) (v : Nat) : (s.advanceTo t).pcore v = s.pcore v := by unfold State.advanceTo; split <;> rfl
@[simp] theorem State.advanceTo_ctx' (t : Nat) (v j : Nat) : (s.advanceTo t).ctx v j = s.ctx v j := by unfold State.advanceTo; split <;> rfl
@[simp] theorem State.advanceTo_sub' (t : Nat) (v : Nat) : (s.advanceTo t).sub v = s.sub v := by unfold State.advanceTo; split <;> rfl
@[simp] theorem State.advanceTo_ring' (t : Nat) (v : Nat) : (s.advanceTo t).ring v = s.ring v := by unfold State.advanceTo; split <;> rfl
@[simp] theorem State.advanceTo_route' (t : Nat) (v : Nat) : (s.advanceTo t).route v = s.route v := by unfold State.advanceTo; split <;> rfl
@[simp] theorem State.advanceTo_engine' (t : Nat) (v : Nat) : (s.advanceTo t).engine v = s.engine v := by unfold State.advanceTo; split <;> rfl
@[simp] theorem State.advanceTo_page' (t : Nat) (v : Nat) : (s.advanceTo t).page v = s.page v := by unfold State.advanceTo; split <;> rfl
@[simp] theorem State.advanceTo_bcu' (t : Nat) (v : Nat) : (s.advanceTo t).bcu v = s.bcu v := by unfold State.advanceTo; split <;> rfl
@[simp] theorem State.advanceTo_dfu' (t : Nat) (v : Nat) : (s.advanceTo t).dfu v = s.dfu v := by unfold State.advanceTo; split <;> rfl
@[simp] theorem State.advanceTo_port' (t : Nat) (v : Nat) : (s.advanceTo t).port v = s.port v := by unfold State.advanceTo; split <;> rfl
@[simp] theorem State.advanceTo_rport' (t : Nat) (v : Nat) : (s.advanceTo t).rport v = s.rport v := by unfold State.advanceTo; split <;> rfl
@[simp] theorem State.advanceTo_llt' (t : Nat) (v : Nat) : (s.advanceTo t).llt v = s.llt v := by unfold State.advanceTo; split <;> rfl
@[simp] theorem State.advanceTo_encl' (t : Nat) (v j : Nat) : (s.advanceTo t).encl v j = s.encl v j := by unfold State.advanceTo; split <;> rfl
@[simp] theorem State.advanceTo_ioport' (t : Nat) (v : Nat) : (s.advanceTo t).ioport v = s.ioport v := by unfold State.advanceTo; split <;> rfl
@[simp] theorem State.advanceTo_sp' (t : Nat) (v : Nat) : (s.advanceTo t).sp v = s.sp v := by unfold State.advanceTo; split <;> rfl
@[simp] theorem State.advanceTo_rail' (t : Nat) (v : Nat) : (s.advanceTo t).rail v = s.rail v := by unfold State.advanceTo; split <;> rfl
@[simp] theorem State.advanceTo_gpio' (t : Nat) (v : Nat) : (s.advanceTo t).gpio v = s.gpio v := by unfold State.advanceTo; split <;> rfl
@[simp] theorem State.advanceTo_health' (t : Nat) (v : Nat) : (s.advanceTo t).health v = s.health v := by unfold State.advanceTo; split <;> rfl
@[simp] theorem State.inClass_win' (c : Nat) (v : Nat) : (s.inClass c).win v = s.win v := by unfold State.inClass; split <;> rfl
@[simp] theorem State.inClass_inst' (c : Nat) (v : Nat) : (s.inClass c).inst v = s.inst v := by unfold State.inClass; split <;> rfl
@[simp] theorem State.inClass_core' (c : Nat) (v : Nat) : (s.inClass c).core v = s.core v := by unfold State.inClass; split <;> rfl
@[simp] theorem State.inClass_pcore' (c : Nat) (v : Nat) : (s.inClass c).pcore v = s.pcore v := by unfold State.inClass; split <;> rfl
@[simp] theorem State.inClass_ctx' (c : Nat) (v j : Nat) : (s.inClass c).ctx v j = s.ctx v j := by unfold State.inClass; split <;> rfl
@[simp] theorem State.inClass_sub' (c : Nat) (v : Nat) : (s.inClass c).sub v = s.sub v := by unfold State.inClass; split <;> rfl
@[simp] theorem State.inClass_ring' (c : Nat) (v : Nat) : (s.inClass c).ring v = s.ring v := by unfold State.inClass; split <;> rfl
@[simp] theorem State.inClass_route' (c : Nat) (v : Nat) : (s.inClass c).route v = s.route v := by unfold State.inClass; split <;> rfl
@[simp] theorem State.inClass_engine' (c : Nat) (v : Nat) : (s.inClass c).engine v = s.engine v := by unfold State.inClass; split <;> rfl
@[simp] theorem State.inClass_page' (c : Nat) (v : Nat) : (s.inClass c).page v = s.page v := by unfold State.inClass; split <;> rfl
@[simp] theorem State.inClass_bcu' (c : Nat) (v : Nat) : (s.inClass c).bcu v = s.bcu v := by unfold State.inClass; split <;> rfl
@[simp] theorem State.inClass_dfu' (c : Nat) (v : Nat) : (s.inClass c).dfu v = s.dfu v := by unfold State.inClass; split <;> rfl
@[simp] theorem State.inClass_rport' (c : Nat) (v : Nat) : (s.inClass c).rport v = s.rport v := by unfold State.inClass; split <;> rfl
@[simp] theorem State.inClass_llt' (c : Nat) (v : Nat) : (s.inClass c).llt v = s.llt v := by unfold State.inClass; split <;> rfl
@[simp] theorem State.inClass_encl' (c : Nat) (v j : Nat) : (s.inClass c).encl v j = s.encl v j := by unfold State.inClass; split <;> rfl
@[simp] theorem State.inClass_ioport' (c : Nat) (v : Nat) : (s.inClass c).ioport v = s.ioport v := by unfold State.inClass; split <;> rfl
@[simp] theorem State.inClass_sp' (c : Nat) (v : Nat) : (s.inClass c).sp v = s.sp v := by unfold State.inClass; split <;> rfl
@[simp] theorem State.inClass_rail' (c : Nat) (v : Nat) : (s.inClass c).rail v = s.rail v := by unfold State.inClass; split <;> rfl
@[simp] theorem State.inClass_gpio' (c : Nat) (v : Nat) : (s.inClass c).gpio v = s.gpio v := by unfold State.inClass; split <;> rfl
@[simp] theorem State.inClass_health' (c : Nat) (v : Nat) : (s.inClass c).health v = s.health v := by unfold State.inClass; split <;> rfl
@[simp] theorem State.setHealth_win' (a b c : Nat) (v : Nat) : (s.setHealth a b c).win v = s.win v := by unfold State.setHealth; dsimp only; split <;> rfl
@[simp] theorem State.setHealth_inst' (a b c : Nat) (v : Nat) : (s.setHealth a b c).inst v = s.inst v := by unfold State.setHealth; dsimp only; split <;> rfl
@[simp] theorem State.setHealth_core' (a b c : Nat) (v : Nat) : (s.setHealth a b c).core v = s.core v := by unfold State.setHealth; dsimp only; split <;> rfl
@[simp] theorem State.setHealth_pcore' (a b c : Nat) (v : Nat) : (s.setHealth a b c).pcore v = s.pcore v := by unfold State.setHealth; dsimp only; split <;> rfl
@[simp] theorem State.setHealth_ctx' (a b c : Nat) (v j : Nat) : (s.setHealth a b c).ctx v j = s.ctx v j := by unfold State.setHealth; dsimp only; split <;> rfl
@[simp] theorem State.setHealth_sub' (a b c : Nat) (v : Nat) : (s.setHealth a b c).sub v = s.sub v := by unfold State.setHealth; dsimp only; split <;> rfl
@[simp] theorem State.setHealth_ring' (a b c : Nat) (v : Nat) : (s.setHealth a b c).ring v = s.ring v := by unfold State.setHealth; dsimp only; split <;> rfl
@[simp] theorem State.setHealth_route' (a b c : Nat) (v : Nat) : (s.setHealth a b c).route v = s.route v := by unfold State.setHealth; dsimp only; split <;> rfl
@[simp] theorem State.setHealth_engine' (a b c : Nat) (v : Nat) : (s.setHealth a b c).engine v = s.engine v := by unfold State.setHealth; dsimp only; split <;> rfl
@[simp] theorem State.setHealth_page' (a b c : Nat) (v : Nat) : (s.setHealth a b c).page v = s.page v := by unfold State.setHealth; dsimp only; split <;> rfl
@[simp] theorem State.setHealth_bcu' (a b c : Nat) (v : Nat) : (s.setHealth a b c).bcu v = s.bcu v := by unfold State.setHealth; dsimp only; split <;> rfl
@[simp] theorem State.setHealth_dfu' (a b c : Nat) (v : Nat) : (s.setHealth a b c).dfu v = s.dfu v := by unfold State.setHealth; dsimp only; split <;> rfl
@[simp] theorem State.setHealth_port' (a b c : Nat) (v : Nat) : (s.setHealth a b c).port v = s.port v := by unfold State.setHealth; dsimp only; split <;> rfl
@[simp] theorem State.setHealth_rport' (a b c : Nat) (v : Nat) : (s.setHealth a b c).rport v = s.rport v := by unfold State.setHealth; dsimp only; split <;> rfl
@[simp] theorem State.setHealth_llt' (a b c : Nat) (v : Nat) : (s.setHealth a b c).llt v = s.llt v := by unfold State.setHealth; dsimp only; split <;> rfl
@[simp] theorem State.setHealth_encl' (a b c : Nat) (v j : Nat) : (s.setHealth a b c).encl v j = s.encl v j := by unfold State.setHealth; dsimp only; split <;> rfl
@[simp] theorem State.setHealth_ioport' (a b c : Nat) (v : Nat) : (s.setHealth a b c).ioport v = s.ioport v := by unfold State.setHealth; dsimp only; split <;> rfl
@[simp] theorem State.setHealth_rail' (a b c : Nat) (v : Nat) : (s.setHealth a b c).rail v = s.rail v := by unfold State.setHealth; dsimp only; split <;> rfl
@[simp] theorem State.setHealth_gpio' (a b c : Nat) (v : Nat) : (s.setHealth a b c).gpio v = s.gpio v := by unfold State.setHealth; dsimp only; split <;> rfl
@[simp] theorem State.clockEvent_win' (a b c : Nat) (v : Nat) : (s.clockEvent a b c).win v = s.win v := rfl
@[simp] theorem State.clockEvent_inst' (a b c : Nat) (v : Nat) : (s.clockEvent a b c).inst v = s.inst v := rfl
@[simp] theorem State.clockEvent_core' (a b c : Nat) (v : Nat) : (s.clockEvent a b c).core v = s.core v := rfl
@[simp] theorem State.clockEvent_pcore' (a b c : Nat) (v : Nat) : (s.clockEvent a b c).pcore v = s.pcore v := rfl
@[simp] theorem State.clockEvent_ctx' (a b c : Nat) (v j : Nat) : (s.clockEvent a b c).ctx v j = s.ctx v j := rfl
@[simp] theorem State.clockEvent_sub' (a b c : Nat) (v : Nat) : (s.clockEvent a b c).sub v = s.sub v := rfl
@[simp] theorem State.clockEvent_ring' (a b c : Nat) (v : Nat) : (s.clockEvent a b c).ring v = s.ring v := rfl
@[simp] theorem State.clockEvent_route' (a b c : Nat) (v : Nat) : (s.clockEvent a b c).route v = s.route v := rfl
@[simp] theorem State.clockEvent_engine' (a b c : Nat) (v : Nat) : (s.clockEvent a b c).engine v = s.engine v := rfl
@[simp] theorem State.clockEvent_page' (a b c : Nat) (v : Nat) : (s.clockEvent a b c).page v = s.page v := rfl
@[simp] theorem State.clockEvent_bcu' (a b c : Nat) (v : Nat) : (s.clockEvent a b c).bcu v = s.bcu v := rfl
@[simp] theorem State.clockEvent_dfu' (a b c : Nat) (v : Nat) : (s.clockEvent a b c).dfu v = s.dfu v := rfl
@[simp] theorem State.clockEvent_port' (a b c : Nat) (v : Nat) : (s.clockEvent a b c).port v = s.port v := rfl
@[simp] theorem State.clockEvent_rport' (a b c : Nat) (v : Nat) : (s.clockEvent a b c).rport v = s.rport v := rfl
@[simp] theorem State.clockEvent_llt' (a b c : Nat) (v : Nat) : (s.clockEvent a b c).llt v = s.llt v := rfl
@[simp] theorem State.clockEvent_encl' (a b c : Nat) (v j : Nat) : (s.clockEvent a b c).encl v j = s.encl v j := rfl
@[simp] theorem State.clockEvent_ioport' (a b c : Nat) (v : Nat) : (s.clockEvent a b c).ioport v = s.ioport v := rfl
@[simp] theorem State.clockEvent_rail' (a b c : Nat) (v : Nat) : (s.clockEvent a b c).rail v = s.rail v := rfl
@[simp] theorem State.clockEvent_gpio' (a b c : Nat) (v : Nat) : (s.clockEvent a b c).gpio v = s.gpio v := rfl
@[simp] theorem State.onWin_now (w : Nat) (f : Window → Window) : (s.onWin w f).now = s.now := rfl
@[simp] theorem State.onInst_now (w : Nat) (f : Inst → Inst) : (s.onInst w f).now = s.now := rfl
@[simp] theorem State.onCore_now (w : Nat) (f : LCore → LCore) : (s.onCore w f).now = s.now := rfl
@[simp] theorem State.onPCore_now (w : Nat) (f : PCore → PCore) : (s.onPCore w f).now = s.now := rfl
@[simp] theorem State.onCtx_now (w k : Nat) (f : Ctx → Ctx) : (s.onCtx w k f).now = s.now := rfl
@[simp] theorem State.onSub_now (w : Nat) (f : Subch → Subch) : (s.onSub w f).now = s.now := rfl
@[simp] theorem State.onRing_now (w : Nat) (f : Ring → Ring) : (s.onRing w f).now = s.now := rfl
@[simp] theorem State.onRoute_now (w : Nat) (f : Route → Route) : (s.onRoute w f).now = s.now := rfl
@[simp] theorem State.onEngine_now (w : Nat) (f : Engine → Engine) : (s.onEngine w f).now = s.now := rfl
@[simp] theorem State.onPage_now (w : Nat) (f : CPage → CPage) : (s.onPage w f).now = s.now := rfl
@[simp] theorem State.onBcu_now (w : Nat) (f : Unit → Unit) : (s.onBcu w f).now = s.now := rfl
@[simp] theorem State.onDfu_now (w : Nat) (f : Unit → Unit) : (s.onDfu w f).now = s.now := rfl
@[simp] theorem State.onPort_now (w : Nat) (f : CxlPort → CxlPort) : (s.onPort w f).now = s.now := rfl
@[simp] theorem State.onRport_now (w : Nat) (f : RPort → RPort) : (s.onRport w f).now = s.now := rfl
@[simp] theorem State.onLlt_now (w : Nat) (f : Llt → Llt) : (s.onLlt w f).now = s.now := rfl
@[simp] theorem State.onEncl_now (w k : Nat) (f : Encl → Encl) : (s.onEncl w k f).now = s.now := rfl
@[simp] theorem State.onIoport_now (w : Nat) (f : IoPort → IoPort) : (s.onIoport w f).now = s.now := rfl
@[simp] theorem State.onSp_now (w : Nat) (f : Sp → Sp) : (s.onSp w f).now = s.now := by unfold State.onSp; split <;> rfl
@[simp] theorem State.onRail_now (w : Nat) (f : Rail → Rail) : (s.onRail w f).now = s.now := rfl
@[simp] theorem State.onGpio_now (w : Nat) (f : Gpio → Gpio) : (s.onGpio w f).now = s.now := rfl
@[simp] theorem State.onLog_now (f : Log → Log) : (s.onLog f).now = s.now := rfl
@[simp] theorem State.onMs_now (f : MemSys → MemSys) : (s.onMs f).now = s.now := rfl
@[simp] theorem State.onSvc_now (f : Svc → Svc) : (s.onSvc f).now = s.now := rfl
@[simp] theorem State.drawn_now  : (s.drawn).now = s.now := rfl
@[simp] theorem State.logRec_now (a b : Nat) (l : List Nat) : (s.logRec a b l).now = s.now := rfl
@[simp] theorem State.logSealed_now (a b : Nat) (l : List Nat) : (s.logSealed a b l).now = s.now := rfl
@[simp] theorem State.count_now (a : Nat) (f : UnitCtr → UnitCtr) : (s.count a f).now = s.now := rfl
@[simp] theorem State.countA_now (a : Nat) : (s.countA a).now = s.now := rfl
@[simp] theorem State.countB_now (a : Nat) : (s.countB a).now = s.now := rfl
@[simp] theorem State.countLat_now (a b : Nat) : (s.countLat a b).now = s.now := rfl
@[simp] theorem State.countCe_now (a : Nat) : (s.countCe a).now = s.now := rfl
@[simp] theorem State.countUe_now (a : Nat) : (s.countUe a).now = s.now := rfl
@[simp] theorem State.notify_now (a b c d e : Nat) : (s.notify a b c d e).now = s.now := rfl
@[simp] theorem State.post_now (a b c d : Nat) : (s.post a b c d).now = s.now := rfl
@[simp] theorem State.inClass_now (c : Nat) : (s.inClass c).now = s.now := by unfold State.inClass; split <;> rfl
@[simp] theorem State.setHealth_now (a b c : Nat) : (s.setHealth a b c).now = s.now := by unfold State.setHealth; dsimp only; split <;> rfl
@[simp] theorem State.clockEvent_now (a b c : Nat) : (s.clockEvent a b c).now = s.now := rfl

end Sys2Proof.Machine
end

