-- ==== Sys2Proof/Laws/Mailbox.lean ====
section
/-! SUPPORT. What serving a mailbox command does, said once: taking it, running it, answering it (R78 to R82). -/
namespace Sys2Proof.Machine

/-- Taking a command changes the Service Complex alone. -/
theorem State.takeWin_eq (s : State) (w : Nat) (f : Bool) : s.takeWin w f = { s with svc := (s.takeWin w f).svc } := rfl

/-- Taking a command keeps the lease, the holder and the event FIFO. -/
theorem State.takeWin_svc (s : State) (w : Nat) (f : Bool) :
    (s.takeWin w f).svc = { s.svc with lastTenant := (s.takeWin w f).svc.lastTenant, credit := (s.takeWin w f).svc.credit } := rfl

/-- A command that runs has changed the windows and the order of service alone. -/
theorem State.begun_eq (s : State) (w : Nat) (f : Bool) :
    s.begun w f = { s with svc := (s.takeWin w f).svc, windows := (s.begun w f).windows } := rfl

/-- The window of a command that runs: its entry is mirrored. -/
theorem State.begun_win (s : State) (w : Nat) (f : Bool) :
    (s.begun w f).win w = { s.win w with inExec := true, entry := some (s.win w).newEntry } := by
  unfold State.begun
  rw [State.onWin_win_self]
  rfl

/-- The other windows of a command that runs. -/
theorem State.begun_win_ne (s : State) (w v : Nat) (f : Bool) (h : v ≠ w) : (s.begun w f).win v = s.win v := by
  unfold State.begun
  rw [State.onWin_win_ne _ _ _ _ h]
  rfl

/-! ### A command that runs has left the rest of the state as it was -/

@[simp] theorem State.begun_phase (s : State) (w : Nat) (f : Bool) : (s.begun w f).phase = s.phase := rfl
@[simp] theorem State.begun_clock (s : State) (w : Nat) (f : Bool) : (s.begun w f).clock = s.clock := rfl
@[simp] theorem State.begun_pins (s : State) (w : Nat) (f : Bool) : (s.begun w f).pins = s.pins := rfl
@[simp] theorem State.begun_mgr (s : State) (w : Nat) (f : Bool) : (s.begun w f).mgr = s.mgr := rfl
@[simp] theorem State.begun_insts (s : State) (w : Nat) (f : Bool) : (s.begun w f).insts = s.insts := rfl
@[simp] theorem State.begun_log (s : State) (w : Nat) (f : Bool) : (s.begun w f).log = s.log := rfl
@[simp] theorem State.begun_fw (s : State) (w : Nat) (f : Bool) : (s.begun w f).fw = s.fw := rfl
@[simp] theorem State.begun_fuses (s : State) (w : Nat) (f : Bool) : (s.begun w f).fuses = s.fuses := rfl
@[simp] theorem State.begun_cores (s : State) (w : Nat) (f : Bool) : (s.begun w f).cores = s.cores := rfl
@[simp] theorem State.begun_pcores (s : State) (w : Nat) (f : Bool) : (s.begun w f).pcores = s.pcores := rfl
@[simp] theorem State.begun_ctxs (s : State) (w : Nat) (f : Bool) : (s.begun w f).ctxs = s.ctxs := rfl
@[simp] theorem State.begun_ms (s : State) (w : Nat) (f : Bool) : (s.begun w f).ms = s.ms := rfl
@[simp] theorem State.begun_linkLost (s : State) (w : Nat) (f : Bool) : (s.begun w f).linkLost = s.linkLost := rfl
@[simp] theorem State.begun_devStores (s : State) (w : Nat) (f : Bool) : (s.begun w f).devStores = s.devStores := rfl
@[simp] theorem State.begun_subchs (s : State) (w : Nat) (f : Bool) : (s.begun w f).subchs = s.subchs := rfl
@[simp] theorem State.begun_incarns (s : State) (w : Nat) (f : Bool) : (s.begun w f).incarns = s.incarns := rfl
@[simp] theorem State.begun_incarnBase (s : State) (w : Nat) (f : Bool) : (s.begun w f).incarnBase = s.incarnBase := rfl
@[simp] theorem State.begun_indoubt (s : State) (w : Nat) (f : Bool) : (s.begun w f).indoubt = s.indoubt := rfl
@[simp] theorem State.begun_doubts (s : State) (w : Nat) (f : Bool) : (s.begun w f).doubts = s.doubts := rfl
@[simp] theorem State.begun_ioports (s : State) (w : Nat) (f : Bool) : (s.begun w f).ioports = s.ioports := rfl
@[simp] theorem State.begun_routes (s : State) (w : Nat) (f : Bool) : (s.begun w f).routes = s.routes := rfl
@[simp] theorem State.begun_engines (s : State) (w : Nat) (f : Bool) : (s.begun w f).engines = s.engines := rfl
@[simp] theorem State.begun_claims (s : State) (w : Nat) (f : Bool) : (s.begun w f).claims = s.claims := rfl
@[simp] theorem State.begun_wire (s : State) (w : Nat) (f : Bool) : (s.begun w f).wire = s.wire := rfl
@[simp] theorem State.begun_rings (s : State) (w : Nat) (f : Bool) : (s.begun w f).rings = s.rings := rfl
@[simp] theorem State.begun_bcus (s : State) (w : Nat) (f : Bool) : (s.begun w f).bcus = s.bcus := rfl
@[simp] theorem State.begun_dfus (s : State) (w : Nat) (f : Bool) : (s.begun w f).dfus = s.dfus := rfl
@[simp] theorem State.begun_bcuArb (s : State) (w : Nat) (f : Bool) : (s.begun w f).bcuArb = s.bcuArb := rfl
@[simp] theorem State.begun_dfuArb (s : State) (w : Nat) (f : Bool) : (s.begun w f).dfuArb = s.dfuArb := rfl
@[simp] theorem State.begun_bcuPool (s : State) (w : Nat) (f : Bool) : (s.begun w f).bcuPool = s.bcuPool := rfl
@[simp] theorem State.begun_dfuPool (s : State) (w : Nat) (f : Bool) : (s.begun w f).dfuPool = s.dfuPool := rfl
@[simp] theorem State.begun_pages (s : State) (w : Nat) (f : Bool) : (s.begun w f).pages = s.pages := rfl
@[simp] theorem State.begun_dicts (s : State) (w : Nat) (f : Bool) : (s.begun w f).dicts = s.dicts := rfl
@[simp] theorem State.begun_encls (s : State) (w : Nat) (f : Bool) : (s.begun w f).encls = s.encls := rfl
@[simp] theorem State.begun_emap (s : State) (w : Nat) (f : Bool) : (s.begun w f).emap = s.emap := rfl
@[simp] theorem State.begun_relay (s : State) (w : Nat) (f : Bool) : (s.begun w f).relay = s.relay := rfl
@[simp] theorem State.begun_decode (s : State) (w : Nat) (f : Bool) : (s.begun w f).decode = s.decode := rfl
@[simp] theorem State.begun_dbgNi (s : State) (w : Nat) (f : Bool) : (s.begun w f).dbgNi = s.dbgNi := rfl
@[simp] theorem State.begun_dbgInv (s : State) (w : Nat) (f : Bool) : (s.begun w f).dbgInv = s.dbgInv := rfl
@[simp] theorem State.begun_dbgEni (s : State) (w : Nat) (f : Bool) : (s.begun w f).dbgEni = s.dbgEni := rfl
@[simp] theorem State.begun_dbgEinv (s : State) (w : Nat) (f : Bool) : (s.begun w f).dbgEinv = s.dbgEinv := rfl
@[simp] theorem State.begun_deferred (s : State) (w : Nat) (f : Bool) : (s.begun w f).deferred = s.deferred := rfl
@[simp] theorem State.begun_posts (s : State) (w : Nat) (f : Bool) : (s.begun w f).posts = s.posts := rfl
@[simp] theorem State.begun_creations (s : State) (w : Nat) (f : Bool) : (s.begun w f).creations = s.creations := rfl
@[simp] theorem State.begun_outcomes (s : State) (w : Nat) (f : Bool) : (s.begun w f).outcomes = s.outcomes := rfl
@[simp] theorem State.begun_fresh (s : State) (w : Nat) (f : Bool) : (s.begun w f).fresh = s.fresh := rfl
@[simp] theorem State.begun_console (s : State) (w : Nat) (f : Bool) : (s.begun w f).console = s.console := rfl
@[simp] theorem State.begun_recSp (s : State) (w : Nat) (f : Bool) : (s.begun w f).recSp = s.recSp := rfl
@[simp] theorem State.begun_freeCtr (s : State) (w : Nat) (f : Bool) : (s.begun w f).freeCtr = s.freeCtr := rfl
@[simp] theorem State.begun_pending (s : State) (w : Nat) (f : Bool) : (s.begun w f).pending = s.pending := rfl
@[simp] theorem State.begun_inst' (s : State) (w : Nat) (f : Bool) (v : Nat) : (s.begun w f).inst v = s.inst v := rfl
@[simp] theorem State.begun_core' (s : State) (w : Nat) (f : Bool) (v : Nat) : (s.begun w f).core v = s.core v := rfl
@[simp] theorem State.begun_pcore' (s : State) (w : Nat) (f : Bool) (v : Nat) : (s.begun w f).pcore v = s.pcore v := rfl
@[simp] theorem State.begun_ctx' (s : State) (w : Nat) (f : Bool) (v j : Nat) : (s.begun w f).ctx v j = s.ctx v j := rfl
@[simp] theorem State.begun_sub' (s : State) (w : Nat) (f : Bool) (v : Nat) : (s.begun w f).sub v = s.sub v := rfl
@[simp] theorem State.begun_ring' (s : State) (w : Nat) (f : Bool) (v : Nat) : (s.begun w f).ring v = s.ring v := rfl
@[simp] theorem State.begun_route' (s : State) (w : Nat) (f : Bool) (v : Nat) : (s.begun w f).route v = s.route v := rfl
@[simp] theorem State.begun_engine' (s : State) (w : Nat) (f : Bool) (v : Nat) : (s.begun w f).engine v = s.engine v := rfl
@[simp] theorem State.begun_page' (s : State) (w : Nat) (f : Bool) (v : Nat) : (s.begun w f).page v = s.page v := rfl
@[simp] theorem State.begun_bcu' (s : State) (w : Nat) (f : Bool) (v : Nat) : (s.begun w f).bcu v = s.bcu v := rfl
@[simp] theorem State.begun_dfu' (s : State) (w : Nat) (f : Bool) (v : Nat) : (s.begun w f).dfu v = s.dfu v := rfl
@[simp] theorem State.begun_port' (s : State) (w : Nat) (f : Bool) (v : Nat) : (s.begun w f).port v = s.port v := rfl
@[simp] theorem State.begun_rport' (s : State) (w : Nat) (f : Bool) (v : Nat) : (s.begun w f).rport v = s.rport v := rfl
@[simp] theorem State.begun_llt' (s : State) (w : Nat) (f : Bool) (v : Nat) : (s.begun w f).llt v = s.llt v := rfl
@[simp] theorem State.begun_encl' (s : State) (w : Nat) (f : Bool) (v j : Nat) : (s.begun w f).encl v j = s.encl v j := rfl
@[simp] theorem State.begun_ioport' (s : State) (w : Nat) (f : Bool) (v : Nat) : (s.begun w f).ioport v = s.ioport v := rfl
@[simp] theorem State.begun_sp' (s : State) (w : Nat) (f : Bool) (v : Nat) : (s.begun w f).sp v = s.sp v := rfl
@[simp] theorem State.begun_rail' (s : State) (w : Nat) (f : Bool) (v : Nat) : (s.begun w f).rail v = s.rail v := rfl
@[simp] theorem State.begun_gpio' (s : State) (w : Nat) (f : Bool) (v : Nat) : (s.begun w f).gpio v = s.gpio v := rfl
@[simp] theorem State.begun_health' (s : State) (w : Nat) (f : Bool) (v : Nat) : (s.begun w f).health v = s.health v := rfl
@[simp] theorem State.begun_now (s : State) (w : Nat) (f : Bool) : (s.begun w f).now = s.now := rfl
@[simp] theorem State.begun_svc_spA (s : State) (w : Nat) (f : Bool) : (s.begun w f).svc.spA = s.svc.spA := rfl
@[simp] theorem State.begun_svc_spB (s : State) (w : Nat) (f : Bool) : (s.begun w f).svc.spB = s.svc.spB := rfl
@[simp] theorem State.begun_svc_holder (s : State) (w : Nat) (f : Bool) : (s.begun w f).svc.holder = s.svc.holder := rfl
@[simp] theorem State.begun_svc_leaseEnd (s : State) (w : Nat) (f : Bool) : (s.begun w f).svc.leaseEnd = s.svc.leaseEnd := rfl
@[simp] theorem State.begun_svc_guardEnd (s : State) (w : Nat) (f : Bool) : (s.begun w f).svc.guardEnd = s.svc.guardEnd := rfl
@[simp] theorem State.begun_svc_guardDone (s : State) (w : Nat) (f : Bool) : (s.begun w f).svc.guardDone = s.svc.guardDone := rfl
@[simp] theorem State.begun_svc_lastHolder (s : State) (w : Nat) (f : Bool) : (s.begun w f).svc.lastHolder = s.svc.lastHolder := rfl
@[simp] theorem State.begun_svc_firstTaken (s : State) (w : Nat) (f : Bool) : (s.begun w f).svc.firstTaken = s.svc.firstTaken := rfl
@[simp] theorem State.begun_svc_resetStamp (s : State) (w : Nat) (f : Bool) : (s.begun w f).svc.resetStamp = s.svc.resetStamp := rfl
@[simp] theorem State.begun_svc_firstWinDone (s : State) (w : Nat) (f : Bool) : (s.begun w f).svc.firstWinDone = s.svc.firstWinDone := rfl
@[simp] theorem State.begun_svc_failovers (s : State) (w : Nat) (f : Bool) : (s.begun w f).svc.failovers = s.svc.failovers := rfl
@[simp] theorem State.begun_svc_lastChange (s : State) (w : Nat) (f : Bool) : (s.begun w f).svc.lastChange = s.svc.lastChange := rfl
@[simp] theorem State.begun_svc_activeSp (s : State) (w : Nat) (f : Bool) : (s.begun w f).svc.activeSp = s.svc.activeSp := rfl
@[simp] theorem State.begun_svc_draining (s : State) (w : Nat) (f : Bool) : (s.begun w f).svc.draining = s.svc.draining := rfl
@[simp] theorem State.begun_svc_fifo (s : State) (w : Nat) (f : Bool) : (s.begun w f).svc.fifo = s.svc.fifo := rfl
@[simp] theorem State.begun_svc_fwAct (s : State) (w : Nat) (f : Bool) : (s.begun w f).svc.fwAct = s.svc.fwAct := rfl
@[simp] theorem State.begun_svc_fwReload (s : State) (w : Nat) (f : Bool) : (s.begun w f).svc.fwReload = s.svc.fwReload := rfl
@[simp] theorem State.begun_svc_seqRec (s : State) (w : Nat) (f : Bool) : (s.begun w f).svc.seqRec = s.svc.seqRec := rfl
@[simp] theorem State.mreq_w (s : State) (w : Nat) : (s.mreq w).w = w := rfl
@[simp] theorem State.mreq_seq (s : State) (w : Nat) : (s.mreq w).seq = (s.win w).reqSeq := rfl

/-! ### The in-doubt store (R280, R289) -/

/-- Entering the in-doubt store changes the store and the slots alone. -/
theorem State.enterStore_only (s : State) (r : JRec) : ∃ a b, s.enterStore r = { s with indoubt := a, subchs := b } := by
  unfold State.enterStore State.storeDoubt
  split
  · split
    · exact ⟨_, s.subchs, rfl⟩
    · exact ⟨s.indoubt, s.subchs, rfl⟩
  · split
    · split
      · exact ⟨_, _, rfl⟩
      · exact ⟨s.indoubt, s.subchs, rfl⟩
    · exact ⟨s.indoubt, s.subchs, rfl⟩

/-- So does any number of entries. -/
theorem State.enterStores_only (l : List JRec) (s : State) : ∃ a b, l.foldl State.enterStore s = { s with indoubt := a, subchs := b } := by
  induction l generalizing s with
  | nil => exact ⟨s.indoubt, s.subchs, rfl⟩
  | cons r l ih =>
    obtain ⟨a, b, h⟩ := State.enterStore_only s r
    obtain ⟨c, d, k⟩ := ih (s.enterStore r)
    exact ⟨c, d, by rw [List.foldl_cons, k, h]⟩

/-- Settling the in-doubt store changes it and the slots alone. -/
theorem State.purgeDoubt_only (s : State) : ∃ a b, s.purgeDoubt = { s with indoubt := a, subchs := b } := by
  unfold State.purgeDoubt
  obtain ⟨a, b, h⟩ := State.enterStores_only
    (sortBy (·.doubtNo) ((s.indoubt.filter (fun r => !s.settledGone r)).filter (·.kept) ++ s.subchs.flatMap (fun p => (p.2.slots.filter (fun k => k.2.state == 6)).map (fun k => k.2))))
    { s with indoubt := s.indoubt.filter (fun r => !s.settledGone r) }
  exact ⟨a, b, h⟩

/-- What settling the in-doubt store leaves: every field but the store and the subchannels. -/
theorem State.purgeDoubt_eq (s : State) : s.purgeDoubt = { s with indoubt := s.purgeDoubt.indoubt, subchs := s.purgeDoubt.subchs } := by
  obtain ⟨a, b, h⟩ := s.purgeDoubt_only
  rw [h]

@[simp] theorem State.purgeDoubt_windows (s : State) : s.purgeDoubt.windows = s.windows := by rw [State.purgeDoubt_eq]
@[simp] theorem State.purgeDoubt_win (s : State) (w : Nat) : s.purgeDoubt.win w = s.win w := by unfold State.win; rw [State.purgeDoubt_windows]
@[simp] theorem State.purgeDoubt_now (s : State) : s.purgeDoubt.now = s.now := by unfold State.now; rw [State.purgeDoubt_eq]
@[simp] theorem State.purgeDoubt_posts (s : State) : s.purgeDoubt.posts = s.posts := by rw [State.purgeDoubt_eq]
@[simp] theorem State.purgeDoubt_log (s : State) : s.purgeDoubt.log = s.log := by rw [State.purgeDoubt_eq]

/-- A row whose command is taken runs it: the command's answer ends it, and without an answer it stays in execution. -/
theorem serve_takes (c : Command) (w : Nat) (f : Bool) (s : State) (h : s.takes c w f) :
    serve c w s = .next (match c.run (s.begun w f) (s.mreq w) with
      | (t, some (st, body)) => (t.noteChanges (s.begun w f) w).finishCmd w st body
      | (t, none) => t.noteChanges (s.begun w f) w) := by
  obtain ⟨h1, h2, h3, h4, h5, h6, h7, h8⟩ := h
  unfold serve State.serveCmd
  simp only [h1, h2, h3, h4, h5, h6, h8, ← h7, ne_eq, not_true_eq_false, Bool.not_true, Bool.false_eq_true, or_self, if_false, if_true, Option.isSome_none]
  rfl

/-- A command that answers at once. -/
theorem serve_answers (c : Command) (w : Nat) (f : Bool) (s t : State) (st : Nat) (body : List Byte) (h : s.takes c w f)
    (hr : c.run (s.begun w f) (s.mreq w) = (t, some (st, body))) : serve c w s = .next ((t.noteChanges (s.begun w f) w).finishCmd w st body) := by
  rw [serve_takes c w f s h, hr]

/-- A command that stays in execution. -/
theorem serve_waits (c : Command) (w : Nat) (f : Bool) (s t : State) (h : s.takes c w f)
    (hr : c.run (s.begun w f) (s.mreq w) = (t, none)) : serve c w s = .next (t.noteChanges (s.begun w f) w) := by
  rw [serve_takes c w f s h, hr]

/-- Noting what a command changed touches the mirrored entry of its window alone (R71). -/
theorem State.noteChanges_eq (t s : State) (w : Nat) : t.noteChanges s w = { t with windows := (t.noteChanges s w).windows } := by
  unfold State.noteChanges
  split
  · rfl
  · split <;> rfl

/-- The window of a command after its changes are noted, beside the entry. -/
theorem State.noteChanges_win (t s : State) (w : Nat) : ∃ e, (t.noteChanges s w).win w = { t.win w with entry := e } := by
  unfold State.noteChanges
  split
  · exact ⟨_, rfl⟩
  · split
    · exact ⟨_, State.onWin_win_self ..⟩
    · exact ⟨_, rfl⟩

/-- The other windows after a command's changes are noted. -/
theorem State.noteChanges_win_ne (t s : State) (w v : Nat) (h : v ≠ w) : (t.noteChanges s w).win v = t.win v := by
  unfold State.noteChanges
  split
  · rfl
  · split
    · exact State.onWin_win_ne _ _ _ _ h
    · rfl

/-- Ending a command changes its window, the Courier latencies, the posts and what LAST_DONE settles alone. -/
theorem State.finishCmd_eq (s : State) (w st : Nat) (body : List Byte) :
    s.finishCmd w st body = { s with windows := (s.finishCmd w st body).windows, log := (s.finishCmd w st body).log, posts := (s.finishCmd w st body).posts,
                                     indoubt := (s.finishCmd w st body).indoubt, subchs := (s.finishCmd w st body).subchs } := by
  unfold State.finishCmd State.doneWin
  dsimp only
  rw [State.purgeDoubt_eq]
  split <;> split <;> rfl

/-- The window of a command that has ended, beside the mirrored entry. -/
theorem State.finishCmd_win (s : State) (w st : Nat) (body : List Byte) :
    ∃ e, (s.finishCmd w st body).win w = { s.win w with
      state := 2, result := st, inExec := false, lastDone := (s.win w).reqSeq,
      resp := respBytes st (s.win w).reqSeq s.now body, stored := some (respBytes st (s.win w).reqSeq s.now body), entry := e } := by
  refine ⟨some { (s.win w).ownEntry with done := some (st, u64 s.now, body) }, ?_⟩
  unfold State.finishCmd State.doneWin
  dsimp only
  split <;> split <;> simp

/-- The other windows when a command ends. -/
theorem State.finishCmd_win_ne (s : State) (w v st : Nat) (body : List Byte) (h : v ≠ w) : (s.finishCmd w st body).win v = s.win v := by
  unfold State.finishCmd State.doneWin
  dsimp only
  split <;> split <;> simp [State.onWin_win_ne _ _ _ _ h]

section
variable (s : State) (W : Tab Window) (d : List JRec) (x : Tab Subch) (l : Log)
/-! ### What a task finds in memory does not depend on the windows, the journal or the Logbook -/

theorem State.hit_frame (lvl ph la : Nat) :
    ({ s with windows := W, indoubt := d, subchs := x, log := l } : State).hit lvl ph la = s.hit lvl ph la := by
  unfold State.hit; rfl

theorem State.memLine_frame (la : Nat) :
    ({ s with windows := W, indoubt := d, subchs := x, log := l } : State).memLine la = s.memLine la := by
  unfold State.memLine; rfl

theorem State.source_frame (ph la : Nat) :
    ({ s with windows := W, indoubt := d, subchs := x, log := l } : State).source ph la = s.source ph la := by
  unfold State.source; simp only [State.hit_frame, State.memLine_frame]; rfl

theorem State.wordNow_frame (wi : Nat) :
    ({ s with windows := W, indoubt := d, subchs := x, log := l } : State).wordNow wi = s.wordNow wi := by
  unfold State.wordNow State.lineNow; rw [State.source_frame]

theorem State.instStage_frame (i e ia : Nat) (st : Bool) :
    ({ s with windows := W, indoubt := d, subchs := x, log := l } : State).instStage i e ia st = s.instStage i e ia st := by
  unfold State.instStage State.visible; rfl

theorem State.tableWord_frame (i e ea ia : Nat) (acc : Acc) :
    ({ s with windows := W, indoubt := d, subchs := x, log := l } : State).tableWord i e acc ea ia = s.tableWord i e acc ea ia := by
  unfold State.tableWord; simp only [State.instStage_frame, State.wordNow_frame]

theorem State.tsa_frame (tid : Nat) :
    ({ s with windows := W, indoubt := d, subchs := x, log := l } : State).tsa tid = s.tsa tid := by simp only [State.tsa, State.inst]

theorem State.hubWord_frame (i e ia : Nat) :
    ({ s with windows := W, indoubt := d, subchs := x, log := l } : State).hubWord i e ia = s.hubWord i e ia := by
  unfold State.hubWord; rw [State.tableWord_frame]

theorem State.tsaWord_frame (tid off : Nat) :
    ({ s with windows := W, indoubt := d, subchs := x, log := l } : State).tsaWord tid off = s.tsaWord tid off := by
  unfold State.tsaWord; rw [State.hubWord_frame, State.tsa_frame]

/-- The class of a task does not depend on the windows, the journal or the Logbook (R219). -/
theorem State.taskClass_frame (tid : Nat) :
    ({ s with windows := W, indoubt := d, subchs := x, log := l } : State).taskClass tid = s.taskClass tid := by
  unfold State.taskClass; rw [State.tsaWord_frame]
end

/-- EV_MB is posted for the command's window, in its task's class, unless it is the console's (R81, R89, R219). -/
theorem State.finishCmd_posts (s : State) (w st : Nat) (body : List Byte) :
    (s.finishCmd w st body).posts = if w = 513 then s.posts else s.posts ++ [{ tid := (s.win w).tid, ev := 3, cause := 1, source := w, tod := u64 s.now, cls := s.taskClass (s.win w).tid }] := by
  have key : ∀ (t : State) (n : Nat), (∃ W l, t = { s with windows := W, indoubt := t.indoubt, subchs := t.subchs, log := l }) → n = (s.win w).tid →
      (t.post n 3 1 w).posts = s.posts ++ [{ tid := (s.win w).tid, ev := 3, cause := 1, source := w, tod := u64 s.now, cls := s.taskClass (s.win w).tid }] := by
    intro t n h hn
    obtain ⟨W, l, h⟩ := h
    rw [hn, h]
    unfold State.post
    rw [State.taskClass_frame]
    rfl
  by_cases h : w = 513
  · rw [if_pos h]
    unfold State.finishCmd State.doneWin
    dsimp only
    rw [if_pos h]
    split <;> simp
  · rw [if_neg h]
    unfold State.finishCmd State.doneWin
    dsimp only
    rw [if_neg h, State.purgeDoubt_eq]
    split
    · exact key _ _ ⟨_, _, rfl⟩ (by rw [← State.purgeDoubt_eq]; simp)
    · exact key _ _ ⟨_, s.log, rfl⟩ (by rw [← State.purgeDoubt_eq]; simp)

/-- A command that ends in a state whose window still holds the request has answered it. -/
theorem State.finishCmd_shows (t s : State) (w st : Nat) (body : List Byte) (h : (t.win w).reqSeq = (s.win w).reqSeq) :
    (t.finishCmd w st body).shows s w st body := by
  obtain ⟨e, he⟩ := State.finishCmd_win t w st body
  unfold State.shows
  rw [he]
  refine ⟨rfl, rfl, h, rfl, ?_⟩
  have : (t.finishCmd w st body).now = t.now := by unfold State.now; rw [State.finishCmd_eq]
  rw [this, h]

/-- Ending a command touches, of the Logbook, the live counters alone. -/
theorem State.finishCmd_log (s : State) (w st : Nat) (body : List Byte) : (s.finishCmd w st body).log = { s.log with live := (s.finishCmd w st body).log.live } := by
  unfold State.finishCmd State.doneWin
  dsimp only
  rw [State.purgeDoubt_eq]
  split <;> split <;> rfl

/-- An event whose condition holds. -/
@[simp] theorem when_true (s t : State) : when true s t = .next t := rfl

/-- An event whose condition does not hold changes nothing. -/
@[simp] theorem when_false (s t : State) : when false s t = .next s := rfl

end Sys2Proof.Machine
end

