-- ==== Sys2Proof/Laws/Memory.lean ====
section
/-! SUPPORT. Laws of memory: reads after writes, and the canonical form that every memory operation keeps. -/
namespace Sys2Proof.Machine

/-! ### Cells -/

/-- All keys of a cell list are above a bound. -/
def cellsAbove (n : Nat) (l : List Host.Cell) : Prop := ∀ c ∈ l, n < c.1

/-- A list is rising exactly if its tail is and its head is below the tail. -/
theorem rising_cons (c : Host.Cell) (l : List Host.Cell) : rising (c :: l) = true ↔ cellsAbove c.1 l ∧ rising l = true := by
  induction l generalizing c with
  | nil => simp [rising, cellsAbove]
  | cons d t ih =>
    simp only [rising, Bool.and_eq_true, decide_eq_true_eq]
    constructor
    · rintro ⟨h, r⟩
      refine ⟨?_, r⟩
      intro e he
      rcases List.mem_cons.mp he with rfl | he
      · exact h
      · exact Nat.lt_trans h (((ih d).mp r).1 e he)
    · rintro ⟨h, r⟩
      exact ⟨h d (List.mem_cons_self ..), r⟩

/-- A key above every key of a list reads nothing. -/
theorem cellGet_above (n : Nat) (l : List Host.Cell) (h : cellsAbove n l) : cellGet l n = none := by
  induction l with
  | nil => rfl
  | cons c t ih =>
    have hc : n < c.1 := h c (List.mem_cons_self ..)
    simp only [cellGet]
    rw [if_neg (by omega)]
    exact ih (fun e he => h e (List.mem_cons_of_mem _ he))

/-- The keys after a write are old ones or the key written. -/
theorem cellPut_keys (l : List Host.Cell) (n : Nat) (b d : Byte) : ∀ c ∈ cellPut l n b d, c.1 = n ∨ ∃ e ∈ l, e.1 = c.1 := by
  induction l with
  | nil =>
    intro c hc
    simp only [cellPut] at hc
    split at hc
    · simp at hc
    · simp at hc; left; rw [hc]
  | cons e t ih =>
    intro c hc
    simp only [cellPut] at hc
    split at hc
    · split at hc
      · exact .inr ⟨c, hc, rfl⟩
      · rcases List.mem_cons.mp hc with rfl | hc
        · exact .inl rfl
        · exact .inr ⟨c, hc, rfl⟩
    · split at hc
      · split at hc
        · exact .inr ⟨c, List.mem_cons_of_mem _ hc, rfl⟩
        · rcases List.mem_cons.mp hc with rfl | hc
          · exact .inl rfl
          · exact .inr ⟨c, List.mem_cons_of_mem _ hc, rfl⟩
      · rcases List.mem_cons.mp hc with rfl | hc
        · exact .inr ⟨_, List.mem_cons_self .., rfl⟩
        · rcases ih c hc with h | ⟨f, hf, hfc⟩
          · exact .inl h
          · exact .inr ⟨f, List.mem_cons_of_mem _ hf, hfc⟩

/-- A write keeps the keys rising. -/
theorem cellPut_rising (l : List Host.Cell) (n : Nat) (b d : Byte) (h : rising l = true) : rising (cellPut l n b d) = true := by
  induction l with
  | nil => simp only [cellPut]; split <;> rfl
  | cons c t ih =>
    have hc := (rising_cons c t).mp h
    simp only [cellPut]
    split
    · rename_i hn
      split
      · exact h
      · refine (rising_cons _ _).mpr ⟨?_, h⟩
        intro e he
        rcases List.mem_cons.mp he with rfl | he
        · exact hn
        · exact Nat.lt_trans hn (hc.1 e he)
    · split
      · rename_i hn
        split
        · exact hc.2
        · refine (rising_cons _ _).mpr ⟨?_, hc.2⟩
          rw [← hn]; exact hc.1
      · refine (rising_cons _ _).mpr ⟨?_, ih hc.2⟩
        intro e he
        rcases cellPut_keys t n b d e he with h1 | ⟨f, hf, hfe⟩
        · omega
        · rw [← hfe]; exact hc.1 f hf

/-- A write leaves no entry equal to what an unlisted key reads as. -/
theorem cellPut_all (dv : Nat → Byte) (l : List Host.Cell) (n : Nat) (b : Byte) (h : l.all (fun c => c.2 != dv c.1) = true) :
    (cellPut l n b (dv n)).all (fun c => c.2 != dv c.1) = true := by
  induction l with
  | nil =>
    simp only [cellPut]
    split
    · rfl
    · rename_i hb; simp [hb]
  | cons c t ih =>
    simp only [List.all_cons, Bool.and_eq_true] at h
    simp only [cellPut]
    split
    · split
      · simp only [List.all_cons, Bool.and_eq_true]; exact h
      · rename_i hb; simp only [List.all_cons, Bool.and_eq_true]; exact ⟨by simpa using hb, h⟩
    · split
      · split
        · exact h.2
        · rename_i hb; simp only [List.all_cons, Bool.and_eq_true]; exact ⟨by simpa using hb, h.2⟩
      · simp only [List.all_cons, Bool.and_eq_true]; exact ⟨h.1, ih h.2⟩

/-- What a key reads after a write, with the value an unlisted key reads as. -/
theorem cellGet_cellPut (dv : Nat → Byte) (l : List Host.Cell) (n m : Nat) (b : Byte) (h : rising l = true) :
    (cellGet (cellPut l n b (dv n)) m).getD (dv m) = if m = n then b else (cellGet l m).getD (dv m) := by
  induction l with
  | nil =>
    simp only [cellPut]
    by_cases hm : m = n
    · subst hm; split <;> simp_all [cellGet]
    · split <;> simp [cellGet, Ne.symm hm]
  | cons c t ih =>
    have hc := (rising_cons c t).mp h
    simp only [cellPut]
    by_cases hm : m = n
    · subst hm
      rw [if_pos rfl]
      split
      · rename_i hn
        split
        · rename_i hb
          rw [cellGet_above m (c :: t)]
          · simp [hb]
          · intro e he
            rcases List.mem_cons.mp he with rfl | he
            · exact hn
            · exact Nat.lt_trans hn (hc.1 e he)
        · simp [cellGet]
      · split
        · rename_i hn
          split
          · rename_i hb
            rw [cellGet_above m t (by rw [← hn]; exact hc.1)]
            simp [hb]
          · simp [cellGet]
        · rename_i hn
          simp only [cellGet]
          rw [if_neg hn]
          have := ih hc.2
          simpa using this
    · rw [if_neg hm]
      split
      · split
        · rfl
        · simp [cellGet, Ne.symm hm]
      · split
        · rename_i hn
          split
          · simp [cellGet, hn, Ne.symm hm]
          · simp [cellGet, hn, Ne.symm hm]
        · simp only [cellGet]
          split
          · rfl
          · have := ih hc.2
            simpa [hm] using this

/-- Filtering keeps the keys rising. -/
theorem rising_filter (p : Host.Cell → Bool) (l : List Host.Cell) (h : rising l = true) : rising (l.filter p) = true := by
  induction l with
  | nil => rfl
  | cons c t ih =>
    have hc := (rising_cons c t).mp h
    rw [List.filter_cons]
    split
    · refine (rising_cons _ _).mpr ⟨?_, ih hc.2⟩
      intro e he
      exact hc.1 e (List.mem_filter.mp he).1
    · exact ih hc.2

/-! ### Memory -/

/-- The canonical form, part by part. -/
theorem Memory.wf_iff (m : Memory) : m.wf = true ↔ rising m.data = true ∧ m.data.all (fun c => c.2 != defByte c.1) = true ∧ rising m.tags = true ∧ m.tags.all (fun c => c.2 != Tag.poison) = true ∧
    rising m.lines = true ∧ m.lines.all (fun c => c.2 != 1#8) = true := by
  simp only [Memory.wf, Bool.and_eq_true, and_assoc]

/-- A byte read after a byte written. -/
theorem Memory.byte_setByte (m : Memory) (a c : Nat) (b : Byte) (h : m.wf = true) : (m.setByte a b).byte c = if c = a then b else m.byte c :=
  cellGet_cellPut defByte m.data a c b ((Memory.wf_iff m).mp h).1

/-- A byte write keeps the canonical form. -/
theorem Memory.wf_setByte (m : Memory) (a : Nat) (b : Byte) (h : m.wf = true) : (m.setByte a b).wf = true := by
  have k := (Memory.wf_iff m).mp h
  exact (Memory.wf_iff _).mpr ⟨cellPut_rising _ _ _ _ k.1, cellPut_all defByte _ _ _ k.2.1, k.2.2⟩

/-- Byte writes keep the tags. -/
theorem Memory.setBytes_tags (m : Memory) (wi : Nat) (d : Word) (ks : List Nat) : (m.setBytes wi d ks).tags = m.tags := by
  induction ks generalizing m with
  | nil => rfl
  | cons k ks ih => exact ih _

/-- Byte writes keep the lines' metadata. -/
theorem Memory.setBytes_lines (m : Memory) (wi : Nat) (d : Word) (ks : List Nat) : (m.setBytes wi d ks).lines = m.lines := by
  induction ks generalizing m with
  | nil => rfl
  | cons k ks ih => exact ih _

/-- Writing the bytes of a datum keeps the canonical form. -/
theorem Memory.wf_setBytes (m : Memory) (wi : Nat) (d : Word) (ks : List Nat) (h : m.wf = true) : (m.setBytes wi d ks).wf = true := by
  induction ks generalizing m with
  | nil => exact h
  | cons k ks ih => exact ih _ (Memory.wf_setByte m _ _ h)

/-- Writing a tagged word keeps the canonical form. -/
theorem Memory.wf_setWord (m : Memory) (wi : Nat) (w : TWord) (h : m.wf = true) : (m.setWord wi w).wf = true := by
  have k := (Memory.wf_iff _).mp (Memory.wf_setBytes m wi w.datum (List.range 8) h)
  exact (Memory.wf_iff _).mpr ⟨k.1, k.2.1, cellPut_rising _ _ _ _ k.2.2.1, cellPut_all (fun _ => Tag.poison) _ _ _ k.2.2.2.1,
    cellPut_rising _ _ _ _ k.2.2.2.2.1, cellPut_all (fun _ => 1#8) _ _ _ k.2.2.2.2.2⟩

/-- The carve keeps the canonical form. -/
theorem Memory.wf_carve (m : Memory) (lo hi : Nat) (h : m.wf = true) : (m.carve lo hi).wf = true := by
  have k := (Memory.wf_iff m).mp h
  refine (Memory.wf_iff _).mpr ⟨rising_filter _ _ k.1, ?_, rising_filter _ _ k.2.2.1, ?_, rising_filter _ _ k.2.2.2.2.1, ?_⟩
  · exact List.all_eq_true.mpr (fun c hc => List.all_eq_true.mp k.2.1 c (List.mem_filter.mp hc).1)
  · exact List.all_eq_true.mpr (fun c hc => List.all_eq_true.mp k.2.2.2.1 c (List.mem_filter.mp hc).1)
  · exact List.all_eq_true.mpr (fun c hc => List.all_eq_true.mp k.2.2.2.2.2 c (List.mem_filter.mp hc).1)

/-- The tag read after a word written. -/
theorem Memory.tag_setWord (m : Memory) (wi v : Nat) (w : TWord) (h : m.wf = true) : (m.setWord wi w).tag v = if v = wi then w.tag else m.tag v := by
  have k := (Memory.wf_iff _).mp (Memory.wf_setBytes m wi w.datum (List.range 8) h)
  have := cellGet_cellPut (fun _ => Tag.poison) (m.setBytes wi w.datum (List.range 8)).tags wi v w.tag k.2.2.1
  simpa [Memory.tag, Memory.setWord, Memory.setBytes_tags] using this

/-- A byte read after the bytes of a datum were written. -/
theorem Memory.byte_setBytes (m : Memory) (wi : Nat) (d : Word) (ks : List Nat) (c : Nat) (h : m.wf = true) (hk : ∀ k ∈ ks, k < 8) :
    (m.setBytes wi d ks).byte c = if c / 8 = wi ∧ c % 8 ∈ ks then datumByte d (c % 8) else m.byte c := by
  induction ks generalizing m with
  | nil => simp [Memory.setBytes]
  | cons k ks ih =>
    have hk8 : k < 8 := hk k (List.mem_cons_self ..)
    rw [Memory.setBytes, ih _ (Memory.wf_setByte m _ _ h) (fun j hj => hk j (List.mem_cons_of_mem _ hj)), Memory.byte_setByte m _ _ _ h]
    by_cases hc : c / 8 = wi
    · by_cases hm : c % 8 ∈ ks
      · simp [hc, hm]
      · by_cases he : c % 8 = k
        · have hck : c = wi * 8 + k := by omega
          have hk' : k ∉ ks := he ▸ hm
          have e1 : (wi * 8 + k) / 8 = wi := by omega
          have e2 : (wi * 8 + k) % 8 = k := by omega
          simp [hck, e1, e2, hk']
        · have : c ≠ wi * 8 + k := by omega
          simp [hc, hm, he, this]
    · have : c ≠ wi * 8 + k := by omega
      simp [hc, this]

/-- A byte read after a word written: its byte of the datum in that word, the old byte elsewhere. -/
theorem Memory.byte_setWord (m : Memory) (wi : Nat) (w : TWord) (c : Nat) (h : m.wf = true) :
    (m.setWord wi w).byte c = if c / 8 = wi then datumByte w.datum (c % 8) else m.byte c := by
  have := Memory.byte_setBytes m wi w.datum (List.range 8) c h (fun k hk => List.mem_range.mp hk)
  have hlt : c % 8 < 8 := Nat.mod_lt _ (by decide)
  simpa [Memory.byte, Memory.setWord, List.mem_range, hlt] using this

/-- UNWRITTEN of a line after a word written: 0 for the word's line, as before elsewhere (R252, R254). -/
theorem Memory.isUnwritten_setWord (m : Memory) (wi la : Nat) (w : TWord) (h : m.wf = true) :
    (m.setWord wi w).isUnwritten la = if la = wi / 32 then false else m.isUnwritten la := by
  have k := (Memory.wf_iff _).mp (Memory.wf_setBytes m wi w.datum (List.range 8) h)
  have hl : (m.setBytes wi w.datum (List.range 8)).lines = m.lines := Memory.setBytes_lines m wi w.datum (List.range 8)
  have := cellGet_cellPut (fun _ => 1#8) (m.setBytes wi w.datum (List.range 8)).lines (wi / 32) la 0#8 k.2.2.2.2.1
  rw [hl] at this
  simp only [Memory.isUnwritten, Memory.setWord, hl, this]
  split <;> rfl

/-- Memory right after reset has the canonical form. -/
theorem State.reset_mem_wf : State.reset.ms.mem.wf = true := by decide

end Sys2Proof.Machine
end

