-- ==== Sys2Proof/Laws/Units.lean ====
section
/-! SUPPORT. What the shared operations on the Service Complex, the Logbook, the clock and health words do to the parts of these units (Machine/Ops.lean, Machine/Svc.lean). -/
namespace Sys2Proof.Machine

variable (s : State)

/-! ### Notifications and health words leave the Service Complex as it was, beside the FIFO -/

@[simp] theorem State.notify_svc_spA (a b c d e : Nat) : (s.notify a b c d e).svc.spA = s.svc.spA := rfl
@[simp] theorem State.setHealth_svc_spA (a b c : Nat) : (s.setHealth a b c).svc.spA = s.svc.spA := by unfold State.setHealth; dsimp only; split <;> rfl
@[simp] theorem State.clockEvent_svc_spA (a b c : Nat) : (s.clockEvent a b c).svc.spA = s.svc.spA := rfl
@[simp] theorem State.notify_svc_spB (a b c d e : Nat) : (s.notify a b c d e).svc.spB = s.svc.spB := rfl
@[simp] theorem State.setHealth_svc_spB (a b c : Nat) : (s.setHealth a b c).svc.spB = s.svc.spB := by unfold State.setHealth; dsimp only; split <;> rfl
@[simp] theorem State.clockEvent_svc_spB (a b c : Nat) : (s.clockEvent a b c).svc.spB = s.svc.spB := rfl
@[simp] theorem State.notify_svc_holder (a b c d e : Nat) : (s.notify a b c d e).svc.holder = s.svc.holder := rfl
@[simp] theorem State.setHealth_svc_holder (a b c : Nat) : (s.setHealth a b c).svc.holder = s.svc.holder := by unfold State.setHealth; dsimp only; split <;> rfl
@[simp] theorem State.clockEvent_svc_holder (a b c : Nat) : (s.clockEvent a b c).svc.holder = s.svc.holder := rfl
@[simp] theorem State.onSp_svc_holder (p : Nat) (g : Sp → Sp) : (s.onSp p g).svc.holder = s.svc.holder := by unfold State.onSp; split <;> rfl
@[simp] theorem State.sealFailures_svc_holder : s.sealFailures.svc.holder = s.svc.holder := by unfold State.sealFailures; rw [State.onSp_svc_holder, State.onSp_svc_holder]; rfl
@[simp] theorem State.toSp_svc_holder (p st c : Nat) : (s.toSp p st c).svc.holder = s.svc.holder := by unfold State.toSp; dsimp only; split <;> simp
@[simp] theorem State.notify_svc_leaseEnd (a b c d e : Nat) : (s.notify a b c d e).svc.leaseEnd = s.svc.leaseEnd := rfl
@[simp] theorem State.setHealth_svc_leaseEnd (a b c : Nat) : (s.setHealth a b c).svc.leaseEnd = s.svc.leaseEnd := by unfold State.setHealth; dsimp only; split <;> rfl
@[simp] theorem State.clockEvent_svc_leaseEnd (a b c : Nat) : (s.clockEvent a b c).svc.leaseEnd = s.svc.leaseEnd := rfl
@[simp] theorem State.onSp_svc_leaseEnd (p : Nat) (g : Sp → Sp) : (s.onSp p g).svc.leaseEnd = s.svc.leaseEnd := by unfold State.onSp; split <;> rfl
@[simp] theorem State.sealFailures_svc_leaseEnd : s.sealFailures.svc.leaseEnd = s.svc.leaseEnd := by unfold State.sealFailures; rw [State.onSp_svc_leaseEnd, State.onSp_svc_leaseEnd]; rfl
@[simp] theorem State.toSp_svc_leaseEnd (p st c : Nat) : (s.toSp p st c).svc.leaseEnd = s.svc.leaseEnd := by unfold State.toSp; dsimp only; split <;> simp
@[simp] theorem State.notify_svc_guardEnd (a b c d e : Nat) : (s.notify a b c d e).svc.guardEnd = s.svc.guardEnd := rfl
@[simp] theorem State.setHealth_svc_guardEnd (a b c : Nat) : (s.setHealth a b c).svc.guardEnd = s.svc.guardEnd := by unfold State.setHealth; dsimp only; split <;> rfl
@[simp] theorem State.clockEvent_svc_guardEnd (a b c : Nat) : (s.clockEvent a b c).svc.guardEnd = s.svc.guardEnd := rfl
@[simp] theorem State.onSp_svc_guardEnd (p : Nat) (g : Sp → Sp) : (s.onSp p g).svc.guardEnd = s.svc.guardEnd := by unfold State.onSp; split <;> rfl
@[simp] theorem State.sealFailures_svc_guardEnd : s.sealFailures.svc.guardEnd = s.svc.guardEnd := by unfold State.sealFailures; rw [State.onSp_svc_guardEnd, State.onSp_svc_guardEnd]; rfl
@[simp] theorem State.toSp_svc_guardEnd (p st c : Nat) : (s.toSp p st c).svc.guardEnd = s.svc.guardEnd := by unfold State.toSp; dsimp only; split <;> simp
@[simp] theorem State.notify_svc_guardDone (a b c d e : Nat) : (s.notify a b c d e).svc.guardDone = s.svc.guardDone := rfl
@[simp] theorem State.setHealth_svc_guardDone (a b c : Nat) : (s.setHealth a b c).svc.guardDone = s.svc.guardDone := by unfold State.setHealth; dsimp only; split <;> rfl
@[simp] theorem State.clockEvent_svc_guardDone (a b c : Nat) : (s.clockEvent a b c).svc.guardDone = s.svc.guardDone := rfl
@[simp] theorem State.onSp_svc_guardDone (p : Nat) (g : Sp → Sp) : (s.onSp p g).svc.guardDone = s.svc.guardDone := by unfold State.onSp; split <;> rfl
@[simp] theorem State.sealFailures_svc_guardDone : s.sealFailures.svc.guardDone = s.svc.guardDone := by unfold State.sealFailures; rw [State.onSp_svc_guardDone, State.onSp_svc_guardDone]; rfl
@[simp] theorem State.toSp_svc_guardDone (p st c : Nat) : (s.toSp p st c).svc.guardDone = s.svc.guardDone := by unfold State.toSp; dsimp only; split <;> simp
@[simp] theorem State.notify_svc_lastHolder (a b c d e : Nat) : (s.notify a b c d e).svc.lastHolder = s.svc.lastHolder := rfl
@[simp] theorem State.setHealth_svc_lastHolder (a b c : Nat) : (s.setHealth a b c).svc.lastHolder = s.svc.lastHolder := by unfold State.setHealth; dsimp only; split <;> rfl
@[simp] theorem State.clockEvent_svc_lastHolder (a b c : Nat) : (s.clockEvent a b c).svc.lastHolder = s.svc.lastHolder := rfl
@[simp] theorem State.onSp_svc_lastHolder (p : Nat) (g : Sp → Sp) : (s.onSp p g).svc.lastHolder = s.svc.lastHolder := by unfold State.onSp; split <;> rfl
@[simp] theorem State.sealFailures_svc_lastHolder : s.sealFailures.svc.lastHolder = s.svc.lastHolder := by unfold State.sealFailures; rw [State.onSp_svc_lastHolder, State.onSp_svc_lastHolder]; rfl
@[simp] theorem State.toSp_svc_lastHolder (p st c : Nat) : (s.toSp p st c).svc.lastHolder = s.svc.lastHolder := by unfold State.toSp; dsimp only; split <;> simp
@[simp] theorem State.notify_svc_firstTaken (a b c d e : Nat) : (s.notify a b c d e).svc.firstTaken = s.svc.firstTaken := rfl
@[simp] theorem State.setHealth_svc_firstTaken (a b c : Nat) : (s.setHealth a b c).svc.firstTaken = s.svc.firstTaken := by unfold State.setHealth; dsimp only; split <;> rfl
@[simp] theorem State.clockEvent_svc_firstTaken (a b c : Nat) : (s.clockEvent a b c).svc.firstTaken = s.svc.firstTaken := rfl
@[simp] theorem State.onSp_svc_firstTaken (p : Nat) (g : Sp → Sp) : (s.onSp p g).svc.firstTaken = s.svc.firstTaken := by unfold State.onSp; split <;> rfl
@[simp] theorem State.sealFailures_svc_firstTaken : s.sealFailures.svc.firstTaken = s.svc.firstTaken := by unfold State.sealFailures; rw [State.onSp_svc_firstTaken, State.onSp_svc_firstTaken]; rfl
@[simp] theorem State.toSp_svc_firstTaken (p st c : Nat) : (s.toSp p st c).svc.firstTaken = s.svc.firstTaken := by unfold State.toSp; dsimp only; split <;> simp
@[simp] theorem State.notify_svc_resetStamp (a b c d e : Nat) : (s.notify a b c d e).svc.resetStamp = s.svc.resetStamp := rfl
@[simp] theorem State.setHealth_svc_resetStamp (a b c : Nat) : (s.setHealth a b c).svc.resetStamp = s.svc.resetStamp := by unfold State.setHealth; dsimp only; split <;> rfl
@[simp] theorem State.clockEvent_svc_resetStamp (a b c : Nat) : (s.clockEvent a b c).svc.resetStamp = s.svc.resetStamp := rfl
@[simp] theorem State.onSp_svc_resetStamp (p : Nat) (g : Sp → Sp) : (s.onSp p g).svc.resetStamp = s.svc.resetStamp := by unfold State.onSp; split <;> rfl
@[simp] theorem State.sealFailures_svc_resetStamp : s.sealFailures.svc.resetStamp = s.svc.resetStamp := by unfold State.sealFailures; rw [State.onSp_svc_resetStamp, State.onSp_svc_resetStamp]; rfl
@[simp] theorem State.toSp_svc_resetStamp (p st c : Nat) : (s.toSp p st c).svc.resetStamp = s.svc.resetStamp := by unfold State.toSp; dsimp only; split <;> simp
@[simp] theorem State.notify_svc_firstWinDone (a b c d e : Nat) : (s.notify a b c d e).svc.firstWinDone = s.svc.firstWinDone := rfl
@[simp] theorem State.setHealth_svc_firstWinDone (a b c : Nat) : (s.setHealth a b c).svc.firstWinDone = s.svc.firstWinDone := by unfold State.setHealth; dsimp only; split <;> rfl
@[simp] theorem State.clockEvent_svc_firstWinDone (a b c : Nat) : (s.clockEvent a b c).svc.firstWinDone = s.svc.firstWinDone := rfl
@[simp] theorem State.onSp_svc_firstWinDone (p : Nat) (g : Sp → Sp) : (s.onSp p g).svc.firstWinDone = s.svc.firstWinDone := by unfold State.onSp; split <;> rfl
@[simp] theorem State.sealFailures_svc_firstWinDone : s.sealFailures.svc.firstWinDone = s.svc.firstWinDone := by unfold State.sealFailures; rw [State.onSp_svc_firstWinDone, State.onSp_svc_firstWinDone]; rfl
@[simp] theorem State.toSp_svc_firstWinDone (p st c : Nat) : (s.toSp p st c).svc.firstWinDone = s.svc.firstWinDone := by unfold State.toSp; dsimp only; split <;> simp
@[simp] theorem State.notify_svc_failovers (a b c d e : Nat) : (s.notify a b c d e).svc.failovers = s.svc.failovers := rfl
@[simp] theorem State.setHealth_svc_failovers (a b c : Nat) : (s.setHealth a b c).svc.failovers = s.svc.failovers := by unfold State.setHealth; dsimp only; split <;> rfl
@[simp] theorem State.clockEvent_svc_failovers (a b c : Nat) : (s.clockEvent a b c).svc.failovers = s.svc.failovers := rfl
@[simp] theorem State.onSp_svc_failovers (p : Nat) (g : Sp → Sp) : (s.onSp p g).svc.failovers = s.svc.failovers := by unfold State.onSp; split <;> rfl
@[simp] theorem State.sealFailures_svc_failovers : s.sealFailures.svc.failovers = s.svc.failovers := by unfold State.sealFailures; rw [State.onSp_svc_failovers, State.onSp_svc_failovers]; rfl
@[simp] theorem State.toSp_svc_failovers (p st c : Nat) : (s.toSp p st c).svc.failovers = s.svc.failovers := by unfold State.toSp; dsimp only; split <;> simp
@[simp] theorem State.notify_svc_lastChange (a b c d e : Nat) : (s.notify a b c d e).svc.lastChange = s.svc.lastChange := rfl
@[simp] theorem State.setHealth_svc_lastChange (a b c : Nat) : (s.setHealth a b c).svc.lastChange = s.svc.lastChange := by unfold State.setHealth; dsimp only; split <;> rfl
@[simp] theorem State.clockEvent_svc_lastChange (a b c : Nat) : (s.clockEvent a b c).svc.lastChange = s.svc.lastChange := rfl
@[simp] theorem State.onSp_svc_lastChange (p : Nat) (g : Sp → Sp) : (s.onSp p g).svc.lastChange = s.svc.lastChange := by unfold State.onSp; split <;> rfl
@[simp] theorem State.sealFailures_svc_lastChange : s.sealFailures.svc.lastChange = s.svc.lastChange := by unfold State.sealFailures; rw [State.onSp_svc_lastChange, State.onSp_svc_lastChange]; rfl
@[simp] theorem State.toSp_svc_lastChange (p st c : Nat) : (s.toSp p st c).svc.lastChange = s.svc.lastChange := by unfold State.toSp; dsimp only; split <;> simp
@[simp] theorem State.notify_svc_activeSp (a b c d e : Nat) : (s.notify a b c d e).svc.activeSp = s.svc.activeSp := rfl
@[simp] theorem State.setHealth_svc_activeSp (a b c : Nat) : (s.setHealth a b c).svc.activeSp = s.svc.activeSp := by unfold State.setHealth; dsimp only; split <;> rfl
@[simp] theorem State.clockEvent_svc_activeSp (a b c : Nat) : (s.clockEvent a b c).svc.activeSp = s.svc.activeSp := rfl
@[simp] theorem State.onSp_svc_activeSp (p : Nat) (g : Sp → Sp) : (s.onSp p g).svc.activeSp = s.svc.activeSp := by unfold State.onSp; split <;> rfl
@[simp] theorem State.sealFailures_svc_activeSp : s.sealFailures.svc.activeSp = s.svc.activeSp := by unfold State.sealFailures; rw [State.onSp_svc_activeSp, State.onSp_svc_activeSp]; rfl
@[simp] theorem State.toSp_svc_activeSp (p st c : Nat) : (s.toSp p st c).svc.activeSp = s.svc.activeSp := by unfold State.toSp; dsimp only; split <;> simp
@[simp] theorem State.notify_svc_draining (a b c d e : Nat) : (s.notify a b c d e).svc.draining = s.svc.draining := rfl
@[simp] theorem State.setHealth_svc_draining (a b c : Nat) : (s.setHealth a b c).svc.draining = s.svc.draining := by unfold State.setHealth; dsimp only; split <;> rfl
@[simp] theorem State.clockEvent_svc_draining (a b c : Nat) : (s.clockEvent a b c).svc.draining = s.svc.draining := rfl
@[simp] theorem State.onSp_svc_draining (p : Nat) (g : Sp → Sp) : (s.onSp p g).svc.draining = s.svc.draining := by unfold State.onSp; split <;> rfl
@[simp] theorem State.sealFailures_svc_draining : s.sealFailures.svc.draining = s.svc.draining := by unfold State.sealFailures; rw [State.onSp_svc_draining, State.onSp_svc_draining]; rfl
@[simp] theorem State.toSp_svc_draining (p st c : Nat) : (s.toSp p st c).svc.draining = s.svc.draining := by unfold State.toSp; dsimp only; split <;> simp
@[simp] theorem State.onSp_svc_fifo (p : Nat) (g : Sp → Sp) : (s.onSp p g).svc.fifo = s.svc.fifo := by unfold State.onSp; split <;> rfl
@[simp] theorem State.notify_svc_lastTenant (a b c d e : Nat) : (s.notify a b c d e).svc.lastTenant = s.svc.lastTenant := rfl
@[simp] theorem State.setHealth_svc_lastTenant (a b c : Nat) : (s.setHealth a b c).svc.lastTenant = s.svc.lastTenant := by unfold State.setHealth; dsimp only; split <;> rfl
@[simp] theorem State.clockEvent_svc_lastTenant (a b c : Nat) : (s.clockEvent a b c).svc.lastTenant = s.svc.lastTenant := rfl
@[simp] theorem State.onSp_svc_lastTenant (p : Nat) (g : Sp → Sp) : (s.onSp p g).svc.lastTenant = s.svc.lastTenant := by unfold State.onSp; split <;> rfl
@[simp] theorem State.sealFailures_svc_lastTenant : s.sealFailures.svc.lastTenant = s.svc.lastTenant := by unfold State.sealFailures; rw [State.onSp_svc_lastTenant, State.onSp_svc_lastTenant]; rfl
@[simp] theorem State.toSp_svc_lastTenant (p st c : Nat) : (s.toSp p st c).svc.lastTenant = s.svc.lastTenant := by unfold State.toSp; dsimp only; split <;> simp
@[simp] theorem State.notify_svc_credit (a b c d e : Nat) : (s.notify a b c d e).svc.credit = s.svc.credit := rfl
@[simp] theorem State.setHealth_svc_credit (a b c : Nat) : (s.setHealth a b c).svc.credit = s.svc.credit := by unfold State.setHealth; dsimp only; split <;> rfl
@[simp] theorem State.clockEvent_svc_credit (a b c : Nat) : (s.clockEvent a b c).svc.credit = s.svc.credit := rfl
@[simp] theorem State.onSp_svc_credit (p : Nat) (g : Sp → Sp) : (s.onSp p g).svc.credit = s.svc.credit := by unfold State.onSp; split <;> rfl
@[simp] theorem State.sealFailures_svc_credit : s.sealFailures.svc.credit = s.svc.credit := by unfold State.sealFailures; rw [State.onSp_svc_credit, State.onSp_svc_credit]; rfl
@[simp] theorem State.toSp_svc_credit (p st c : Nat) : (s.toSp p st c).svc.credit = s.svc.credit := by unfold State.toSp; dsimp only; split <;> simp
@[simp] theorem State.notify_svc_fwAct (a b c d e : Nat) : (s.notify a b c d e).svc.fwAct = s.svc.fwAct := rfl
@[simp] theorem State.setHealth_svc_fwAct (a b c : Nat) : (s.setHealth a b c).svc.fwAct = s.svc.fwAct := by unfold State.setHealth; dsimp only; split <;> rfl
@[simp] theorem State.clockEvent_svc_fwAct (a b c : Nat) : (s.clockEvent a b c).svc.fwAct = s.svc.fwAct := rfl
@[simp] theorem State.onSp_svc_fwAct (p : Nat) (g : Sp → Sp) : (s.onSp p g).svc.fwAct = s.svc.fwAct := by unfold State.onSp; split <;> rfl
@[simp] theorem State.sealFailures_svc_fwAct : s.sealFailures.svc.fwAct = s.svc.fwAct := by unfold State.sealFailures; rw [State.onSp_svc_fwAct, State.onSp_svc_fwAct]; rfl
@[simp] theorem State.toSp_svc_fwAct (p st c : Nat) : (s.toSp p st c).svc.fwAct = s.svc.fwAct := by unfold State.toSp; dsimp only; split <;> simp
@[simp] theorem State.notify_svc_fwReload (a b c d e : Nat) : (s.notify a b c d e).svc.fwReload = s.svc.fwReload := rfl
@[simp] theorem State.setHealth_svc_fwReload (a b c : Nat) : (s.setHealth a b c).svc.fwReload = s.svc.fwReload := by unfold State.setHealth; dsimp only; split <;> rfl
@[simp] theorem State.clockEvent_svc_fwReload (a b c : Nat) : (s.clockEvent a b c).svc.fwReload = s.svc.fwReload := rfl
@[simp] theorem State.onSp_svc_fwReload (p : Nat) (g : Sp → Sp) : (s.onSp p g).svc.fwReload = s.svc.fwReload := by unfold State.onSp; split <;> rfl
@[simp] theorem State.sealFailures_svc_fwReload : s.sealFailures.svc.fwReload = s.svc.fwReload := by unfold State.sealFailures; rw [State.onSp_svc_fwReload, State.onSp_svc_fwReload]; rfl
@[simp] theorem State.toSp_svc_fwReload (p st c : Nat) : (s.toSp p st c).svc.fwReload = s.svc.fwReload := by unfold State.toSp; dsimp only; split <;> simp
@[simp] theorem State.notify_svc_seqRec (a b c d e : Nat) : (s.notify a b c d e).svc.seqRec = s.svc.seqRec := rfl
@[simp] theorem State.setHealth_svc_seqRec (a b c : Nat) : (s.setHealth a b c).svc.seqRec = s.svc.seqRec := by unfold State.setHealth; dsimp only; split <;> rfl
@[simp] theorem State.clockEvent_svc_seqRec (a b c : Nat) : (s.clockEvent a b c).svc.seqRec = s.svc.seqRec := rfl
@[simp] theorem State.onSp_svc_seqRec (p : Nat) (g : Sp → Sp) : (s.onSp p g).svc.seqRec = s.svc.seqRec := by unfold State.onSp; split <;> rfl
@[simp] theorem State.sealFailures_svc_seqRec : s.sealFailures.svc.seqRec = s.svc.seqRec := by unfold State.sealFailures; rw [State.onSp_svc_seqRec, State.onSp_svc_seqRec]; rfl
@[simp] theorem State.toSp_svc_seqRec (p st c : Nat) : (s.toSp p st c).svc.seqRec = s.svc.seqRec := by unfold State.toSp; dsimp only; split <;> simp
@[simp] theorem State.notify_fifo (a b c d e : Nat) : (s.notify a b c d e).svc.fifo = s.svc.fifo ++ [{ win := a, kind := b, status := c, subject := d, tod := u64 s.now, detail := e }] := rfl
@[simp] theorem State.clockEvent_fifo (a b c : Nat) : (s.clockEvent a b c).svc.fifo = s.svc.fifo ++ [{ win := 512, kind := 0x7, status := 0, subject := 0x20000 + a * 256 + b, tod := u64 s.now, detail := c }] := rfl
@[simp] theorem State.notify_sp (a b c d e p : Nat) : (s.notify a b c d e).sp p = s.sp p := rfl
@[simp] theorem State.setHealth_sp (a b c p : Nat) : (s.setHealth a b c).sp p = s.sp p := by unfold State.sp; simp
@[simp] theorem State.clockEvent_sp (a b c p : Nat) : (s.clockEvent a b c).sp p = s.sp p := rfl

/-! ### Service Processors -/

/-- An SP after a change of an SP; numbers from 1 on name SP-B. -/
theorem State.onSp_sp (p q : Nat) (g : Sp → Sp) : (s.onSp p g).sp q = if (p = 0 ↔ q = 0) then g (s.sp p) else s.sp q := by
  unfold State.onSp State.sp
  by_cases hp : p = 0 <;> by_cases hq : q = 0 <;> simp [hp, hq]

@[simp] theorem State.onSp_sp_self (p : Nat) (g : Sp → Sp) : (s.onSp p g).sp p = g (s.sp p) := by rw [State.onSp_sp, if_pos Iff.rfl]

/-- Sealing the record of a failure marks it in the SPs and changes nothing else of them. -/
theorem State.sealFailures_sp (p : Nat) : s.sealFailures.sp p = { s.sp p with failLogged := true } := by
  unfold State.sealFailures
  rw [State.onSp_sp, State.onSp_sp, State.onSp_sp]
  by_cases hp : p = 0
  · subst hp; simp
  · have h1 : s.sp p = s.sp 1 := by unfold State.sp; simp [hp]
    simp [hp, h1]

/-- A change of state of an SP sets its state; a failure's record waits to be sealed, unless the other SP is ACTIVE and seals it (R57, R74). -/
theorem State.toSp_sp_self (p st c : Nat) : (s.toSp p st c).sp p =
    { s.sp p with state := st, failLogged := (decide (st = 4) && decide ((s.sp (1 - p)).state = 1)) || ((s.sp p).failLogged && st != 4) } := by
  unfold State.toSp
  dsimp only
  by_cases h : st = 4 ∧ (s.sp (1 - p)).state = 1
  · obtain ⟨rfl, h2⟩ := h
    rw [if_pos ⟨rfl, h2⟩]
    simp [State.sealFailures_sp, h2]
  · rw [if_neg h]
    by_cases h1 : st = 4
    · subst h1
      have h2 : ¬(s.sp (1 - p)).state = 1 := fun x => h ⟨rfl, x⟩
      simp [h2]
    · simp [h1]

@[simp] theorem State.toSp_sp_self_state (p st c : Nat) : ((s.toSp p st c).sp p).state = st := by rw [State.toSp_sp_self]

/-- A change of state of an SP leaves the state of the other SP as it was. -/
theorem State.toSp_sp_other (p q st c : Nat) (h : ¬(p = 0 ↔ q = 0)) : ((s.toSp p st c).sp q).state = (s.sp q).state := by
  unfold State.toSp
  dsimp only
  split <;> simp [State.sealFailures_sp, State.onSp_sp, h]

/-! ### The Logbook -/

/-- A record changes no health word. -/
@[simp] theorem Log.append_health (l : Log) (tod kind unit flags : Nat) (body : List Nat) (text : List Byte) : (l.append tod kind unit flags body text).health = l.health := rfl
@[simp] theorem Log.append_live (l : Log) (tod kind unit flags : Nat) (body : List Nat) (text : List Byte) : (l.append tod kind unit flags body text).live = l.live := rfl
@[simp] theorem Log.append_lseq (l : Log) (tod kind unit flags : Nat) (body : List Nat) (text : List Byte) : (l.append tod kind unit flags body text).lseq = l.lseq + 1 := rfl

/-- A seal changes no health word. -/
@[simp] theorem Log.seal_health (l : Log) (tod flags : Nat) : (l.seal tod flags).health = l.health := by unfold Log.seal; split <;> rfl
@[simp] theorem Log.seal_live (l : Log) (tod flags : Nat) : (l.seal tod flags).live = l.live := by unfold Log.seal; split <;> rfl

@[simp] theorem State.logRec_health (a b u : Nat) (l : List Nat) : (s.logRec a b l).health u = s.health u := by
  unfold State.health State.logRec State.onLog; dsimp only; split <;> simp
@[simp] theorem State.logSealed_health (a b u : Nat) (l : List Nat) : (s.logSealed a b l).health u = s.health u := by
  have : ∀ (t : State) (f : Log → Log), (∀ x, (f x).health = x.health) → (t.onLog f).health u = t.health u := by
    intro t f h; unfold State.health State.onLog; simp [h]
  unfold State.logSealed
  rw [this _ _ (fun x => Log.seal_health x _ _), State.logRec_health]
@[simp] theorem State.count_health (a u : Nat) (f : UnitCtr → UnitCtr) : (s.count a f).health u = s.health u := rfl
@[simp] theorem State.countA_health (a u : Nat) : (s.countA a).health u = s.health u := rfl
@[simp] theorem State.countB_health (a u : Nat) : (s.countB a).health u = s.health u := rfl
@[simp] theorem State.notify_health (a b c d e u : Nat) : (s.notify a b c d e).health u = s.health u := rfl
@[simp] theorem State.clockEvent_health (a b c u : Nat) : (s.clockEvent a b c).health u = s.health u := by unfold State.clockEvent; simp

/-- STATE and CAUSE of a unit after they were set. -/
@[simp] theorem State.setHealth_health_self (u st c : Nat) : (s.setHealth u st c).health u = { s.health u with state := st, cause := c } := by
  unfold State.setHealth
  dsimp only
  split
  · rename_i h; obtain ⟨h1, h2⟩ := h; subst h1; subst h2; rfl
  · unfold State.health State.notify State.onSvc State.onLog; dsimp only; rw [Tab.getD_put, if_pos rfl]

/-- Another unit's health word after STATE and CAUSE of a unit were set. -/
theorem State.setHealth_health_ne (u v st c : Nat) (h : v ≠ u) : (s.setHealth u st c).health v = s.health v := by
  unfold State.setHealth
  dsimp only
  split
  · rfl
  · unfold State.health State.notify State.onSvc State.onLog; dsimp only; rw [Tab.getD_put, if_neg h]

/-- CE of a unit after a correctable error. -/
@[simp] theorem State.countCe_health_self (u : Nat) : (s.countCe u).health u = { s.health u with ce := (s.health u).ce + 1 } := by
  unfold State.countCe State.health State.count State.onLog; dsimp only; rw [Tab.getD_put, if_pos rfl]

/-- UE of a unit after an uncorrectable error. -/
@[simp] theorem State.countUe_health_self (u : Nat) : (s.countUe u).health u = { s.health u with ue := (s.health u).ue + 1 } := by
  unfold State.countUe State.health State.count State.onLog; dsimp only; rw [Tab.getD_put, if_pos rfl]

/-! ### The clock -/

@[simp] theorem State.advanceTo_clock_ref0 (t : Nat) : (s.advanceTo t).clock.ref0 = s.clock.ref0 := by unfold State.advanceTo; split <;> rfl
@[simp] theorem State.advanceTo_clock_ref1 (t : Nat) : (s.advanceTo t).clock.ref1 = s.clock.ref1 := by unfold State.advanceTo; split <;> rfl
@[simp] theorem State.advanceTo_clock_sel (t : Nat) : (s.advanceTo t).clock.sel = s.clock.sel := by unfold State.advanceTo; split <;> rfl
@[simp] theorem State.advanceTo_clock_holdover (t : Nat) : (s.advanceTo t).clock.holdover = s.clock.holdover := by unfold State.advanceTo; split <;> rfl
@[simp] theorem State.advanceTo_clock_ppsSource (t : Nat) : (s.advanceTo t).clock.ppsSource = s.clock.ppsSource := by unfold State.advanceTo; split <;> rfl
@[simp] theorem State.advanceTo_clock_lastPps (t : Nat) : (s.advanceTo t).clock.lastPps = s.clock.lastPps := by unfold State.advanceTo; split <;> rfl
@[simp] theorem State.advanceTo_clock_ppsLost (t : Nat) : (s.advanceTo t).clock.ppsLost = s.clock.ppsLost := by unfold State.advanceTo; split <;> rfl
@[simp] theorem State.advanceTo_clock_ppsOutEnd (t : Nat) : (s.advanceTo t).clock.ppsOutEnd = s.clock.ppsOutEnd := by unfold State.advanceTo; split <;> rfl
@[simp] theorem State.advanceTo_clock_ppsOutSec (t : Nat) : (s.advanceTo t).clock.ppsOutSec = s.clock.ppsOutSec := by unfold State.advanceTo; split <;> rfl
@[simp] theorem State.advanceTo_clock_todSet (t : Nat) : (s.advanceTo t).clock.todSet = s.clock.todSet := by unfold State.advanceTo; split <;> rfl
@[simp] theorem State.advanceTo_clock_epoch (t : Nat) : (s.advanceTo t).clock.epoch = s.clock.epoch := by unfold State.advanceTo; split <;> rfl
@[simp] theorem State.advanceTo_clock_rateWindow (t : Nat) : (s.advanceTo t).clock.rateWindow = s.clock.rateWindow := by unfold State.advanceTo; split <;> rfl

/-- Time that has passed already does not advance. -/
@[simp] theorem State.advanceTo_past (t : Nat) (h : t ≤ s.now) : s.advanceTo t = s := by
  unfold State.advanceTo State.now at *
  rw [if_neg (by omega)]

/-- Where the device runs, its phase is running. -/
theorem State.runs_iff : s.runs = true ↔ s.phase = .running := by unfold State.runs; simp

end Sys2Proof.Machine
end

