-- ==== Sys2Proof/WellFormed.lean ====
section
/-! DEFINITION. Which commands name units that exist: numbers within the ranges the manual gives. A command that names none changes nothing (log entry 4). -/
namespace Sys2Proof

/-- A set of a logical core: 72 cores at most, 64 task sets and 4 trap sets (R7, R213). -/
def wfSet (core set : Nat) : Bool := core < 72 && set < 68

/-- A mailbox window: 0 to 513 (R77). -/
def wfWin (w : Nat) : Bool := w < 514

/-- An FC port (kind 0, 0 to 31) or an Ethernet port (kind 1, 0 to 11) (R285). -/
def wfIoPort (kind port : Nat) : Bool := (kind = 0 && port < 32) || (kind = 1 && port < 12)

/-- The command names units that exist. -/
def Instr.wf : Instr → Bool
  | .integerArithmetic core set => wfSet core set
  | .addcSubb core set => wfSet core set
  | .mulw core set => wfSet core set
  | .div core set => wfSet core set
  | .logicalShiftRotate core set => wfSet core set
  | .cmp core set => wfSet core set
  | .lui core set => wfSet core set
  | .pairedShortOperations core set => wfSet core set
  | .b core set => wfSet core set
  | .call core set => wfSet core set
  | .br core set => wfSet core set
  | .callr core set => wfSet core set
  | .ret core set => wfSet core set
  | .tollGateEntry core set => wfSet core set
  | .texit core set => wfSet core set
  | .ld core set => wfSet core set
  | .ldzLds core set => wfSet core set
  | .st core set => wfSet core set
  | .sts core set => wfSet core set
  | .ldres core set => wfSet core set
  | .stcond core set => wfSet core set
  | .stm core set => wfSet core set
  | .ldm core set => wfSet core set
  | .gtag core set => wfSet core set
  | .stag core set => wfSet core set
  | .ldtag core set => wfSet core set
  | .sttx core set => wfSet core set
  | .mfs core set => wfSet core set
  | .mtsTsw core set => wfSet core set
  | .mtsEvq core set => wfSet core set
  | .mtsQtm core set => wfSet core set
  | .mtsWdt core set => wfSet core set
  | .mtsFpsr core set => wfSet core set
  | .mtsAuth core set => wfSet core set
  | .mtsVba core set => wfSet core set
  | .mtsXpcXtsw core set => wfSet core set
  | .mbar core set => wfSet core set
  | .iobar core set => wfSet core set
  | .fsync core set => wfSet core set
  | .isync core set => wfSet core set
  | .yield core set => wfSet core set
  | .signal core set => wfSet core set
  | .binaryFpArithmetic core set => wfSet core set
  | .fcmpDcmp core set => wfSet core set
  | .fminFmax core set => wfSet core set
  | .fcvtiDcvti core set => wfSet core set
  | .fmvgGmvf core set => wfSet core set
  | .fld core set => wfSet core set
  | .fst core set => wfSet core set
  | .decimalFpArithmetic core set => wfSet core set
  | .dquant core set => wfSet core set
  | .packedDecimal core set => wfSet core set
  | .pdivPrem core set => wfSet core set
  | .ptobPtod core set => wfSet core set
  | .btopDtop core set => wfSet core set
  | .vectorCarryless core set => wfSet core set
  | .bencBdec core set => wfSet core set
  | .cacheMaintenanceByAddress core set => wfSet core set
  | .cacheMaintenanceBySetWay core set => wfSet core set
  | .tlbinv core set => wfSet core set
  | .llockLtry core set => wfSet core set
  | .lrel core set => wfSet core set
  | .customInstruction core set => wfSet core set
  | .waitFpRetry core set => wfSet core set
  | .loadDataReturn core set => wfSet core set
  | .storePerformed core => core < 72
  | .evictionWritebackAck _ => true
  | .flushingReadAnswer core set _ _ => wfSet core set
  | .iobarTimeout core set => wfSet core set
  | .deviceSpaceLoadReply core set datum => wfSet core set && datum < 18446744073709551616
  | .eccCorrectableError _ _ _ _ => true
  | .eccUncorrectableError _ _ _ _ _ _ => true
  | .cxlAccessTimeout port _ _ => port < 12
  | .cxlLinkDownTimeout port => port < 12
  | .cxlFatalError port => port < 12
  | .cxlPortRetrain port _ _ => port < 12
  | .mirrorResyncComplete port => port < 12
  | .patrolScrub _ _ _ _ _ _ => true
  | .endpointDma port _ _ _ _ => port < 12
  | .flitCrcFailure link _ => link < 7
  | .refclkEdgeLoss ref => ref < 2
  | .refclkFrequencyFail ref => ref < 2
  | .refclkValid ref => ref < 2
  | .ppsEdge src => (src = 1 || src = 2)
  | .ppsLost src => (src = 1 || src = 2)
  | .ppsOutPulse => true
  | .ppsOutEnd => true
  | .shareEpochStart => true
  | .rateWindowStart => true
  | .leaseRenewal sp _ => sp < 2
  | .leaseExpiry => true
  | .guardEnd => true
  | .leaseRequest sp => sp < 3
  | .firstLeaseWindowEnd => true
  | .sfwHeartbeatLoss sp => sp < 2
  | .sfwFault f => f.sp < 2
  | .tskFault sp => sp < 2
  | .spBistResult sp _ => sp < 2
  | .spReset sp => sp < 2
  | .mirrorCopyAcknowledged sp => sp < 2
  | .mailboxDoorbell w value _ _ => wfWin w && value < 18446744073709551616
  | .nrCtlEnable w value _ => wfWin w && value < 18446744073709551616
  | .nrHeadWrite w value => wfWin w && value < 18446744073709551616
  | .notificationWrite w => wfWin w
  | .consoleFrame _ _ _ _ => true
  | .registerWrite _ _ value => value < 18446744073709551616
  | .instStatus w => wfWin w
  | .instConfigGet w => wfWin w
  | .instConfigSet w => wfWin w
  | .shareGet w => wfWin w
  | .shareSet w => wfWin w
  | .coreAssign w => wfWin w
  | .memregionAdd w => wfWin w
  | .memregionRemove w => wfWin w
  | .subchRangeAssign w => wfWin w
  | .courierGrant w => wfWin w
  | .courierRevoke w => wfWin w
  | .courierCapSet w => wfWin w
  | .ioTimeoutSet w => wfWin w
  | .instReset w => wfWin w
  | .instanceResetComplete i => i < 512
  | .managerTransfer w => wfWin w
  | .endpointAssign w => wfWin w
  | .endpointRelease w => wfWin w
  | .subchannelDoorbell sc value => sc < 1048576 && value < 18446744073709551616
  | .waybillAdmission sc => sc < 1048576
  | .waybillDispatch route exch => route < 16 && exch < 2 ^ 32
  | .targetFirstFrame sc _ => sc < 1048576
  | .finalResponse sc _ _ _ _ => sc < 1048576
  | .completionRingHeadWrite sc value => sc < 1048576 && value < 18446744073709551616
  | .attemptTimeout sc _ => sc < 1048576
  | .transportError sc _ => sc < 1048576
  | .abortConfirmation sc _ => sc < 1048576
  | .abortRejected sc _ => sc < 1048576
  | .abortTimeout sc _ => sc < 1048576
  | .noPathTimeout sc _ => sc < 1048576
  | .lateResponse sc _ _ _ _ port _ => sc < 1048576 && port < 44
  | .pathSignalLoss kind port => wfIoPort kind port
  | .pathLogout sc path => sc < 1048576 && path < 8
  | .loginResult sc path _ => sc < 1048576 && path < 8
  | .loginTimeout sc path => sc < 1048576 && path < 8
  | .loginRetry sc path => sc < 1048576 && path < 8
  | .engineHeartbeat route => route < 16
  | .heartbeatLoss route => route < 16
  | .engineCheckerFault engine => engine < 32
  | .claimWrite route stage _ => route < 16 && stage < 56
  | .claimWriteResend route stage => route < 16 && stage < 56
  | .claimsAcknowledged route => route < 16
  | .outputStageFrame stage route _ => stage < 56 && route < 16
  | .standbyLoopback route _ => route < 16
  | .engineSelfTestResult engine _ => engine < 32
  | .subchCreate w => wfWin w
  | .subchDestroy w => wfWin w
  | .subchQuery w => wfWin w
  | .pathAdd w => wfWin w
  | .pathRemove w => wfWin w
  | .pathQuery w => wfWin w
  | .profileSet w => wfWin w
  | .journalQuery w => wfWin w
  | .indoubtList w => wfWin w
  | .indoubtResolveDone w => wfWin w
  | .indoubtResolveNotDone w => wfWin w
  | .indoubtResolveRedrive w => wfWin w
  | .loginQuery w => wfWin w
  | .routeStatus w => wfWin w
  | .routeSwitch w => wfWin w
  | .requestRingDoorbell ring value => ring < 1048576 && value < 18446744073709551616
  | .requestAdmission ring => ring < 1048576
  | .bcuDispatch unit => unit < 8
  | .bcuRelease unit _ => unit < 8
  | .inlineSegmentEnd unit => unit < 8
  | .drbgReseed unit _ => unit < 8
  | .dfuDispatch unit => unit < 8
  | .dfuCompletion unit _ => unit < 8
  | .dfuParityFailure unit => unit < 8
  | .cpageAlloc w => wfWin w
  | .cpageFree w => wfWin w
  | .cpageKeyWrite w => wfWin w
  | .cpageKeyErase w => wfWin w
  | .cpageQuery w => wfWin w
  | .cpagePermSet w => wfWin w
  | .cringCreate w => wfWin w
  | .cringDestroy w => wfWin w
  | .dictLoad w => wfWin w
  | .dictFree w => wfWin w
  | .dictQuery w => wfWin w
  | .cipherUnitStatus w => wfWin w
  | .enclCreate w => wfWin w
  | .enclAddGranule w => wfWin w
  | .enclRemoveGranule w => wfWin w
  | .enclFinalise w => wfWin w
  | .enclDestroy w => wfWin w
  | .enclQuery w => wfWin w
  | .enclAttest w => wfWin w
  | .enclCoreEnable w => wfWin w
  | .holdQuery w => wfWin w
  | .deferredGatingExpiry _ _ => true
  | .holdRelease _ _ => true
  | .deviceId w => wfWin w
  | .spStatus w => wfWin w
  | .spSwitch w => wfWin w
  | .healthGet w => wfWin w
  | .spareStatus w => wfWin w
  | .coreSpare w => wfWin w
  | .selftestRun w _ _ => wfWin w
  | .wayStatus w => wfWin w
  | .memportStatus w => wfWin w
  | .logInfo w => wfWin w
  | .logRead w => wfWin w
  | .logCountersGet w => wfWin w
  | .logHistogramGet w => wfWin w
  | .logNote w => wfWin w
  | .errorInject w => wfWin w
  | .faultInjection _ => true
  | .systemReset w _ _ => wfWin w
  | .coreReset w => wfWin w
  | .coreResetChainTimeout core => core < 72
  | .coreSelfTestResult core _ => core < 72
  | .engineReset w _ _ => wfWin w
  | .blockGate w => wfWin w
  | .blockUngate w _ _ => wfWin w
  | .todSet w => wfWin w
  | .resetConfigStageHeader w => wfWin w
  | .resetConfigStageDescriptor w => wfWin w
  | .resetConfigCommit w => wfWin w
  | .resetConfigReadHeader w => wfWin w
  | .resetConfigReadDescriptor w => wfWin w
  | .resetConfigDiscard w => wfWin w
  | .fwStage w => wfWin w
  | .fwActivate w => wfWin w
  | .fwActivateTimeout => true
  | .refclkSelect w => wfWin w
  | .gpioClaim w => wfWin w
  | .gpioRelease w => wfWin w
  | .gpioAccess w => wfWin w
  | .ppsSourceSelect w => wfWin w
  | .powerStatus w => wfWin w
  | .relayTopologyGet w => wfWin w
  | .relayPortSet w => wfWin w
  | .relayPortStatus w => wfWin w
  | .lltCreate w => wfWin w
  | .lltDestroy w => wfWin w
  | .relayAccessAllow w => wfWin w
  | .relayAccessRevoke w => wfWin w
  | .relayAccessMap w => wfWin w
  | .relayAccessUnmap w => wfWin w
  | .todSyncStatus w => wfWin w
  | .decodeLoad w => wfWin w
  | .decodeUnload w => wfWin w
  | .decodeQuery w => wfWin w
  | .debugEnableSet w => wfWin w
  | .debugEnableGet w => wfWin w
  | .cacheLevelDisable _ _ _ => true
  | .cacheLevelEnable _ _ _ => true
  | .lltCounterClear llt value => llt < 16 && value < 18446744073709551616
  | .eventPost => true
  | .taskCreation => true
  | .swapIn core => core < 72
  | .swapInComplete core => core < 72
  | .quantumExpiry core slot => core < 72 && slot < 2
  | .watchdogExpiry core set => wfSet core set
  | .migrationMove core set => wfSet core set
  | .migrationArrived core set => wfSet core set
  | .coreCheckFailure core _ => core < 72
  | .sparingComplete core => core < 72
  | .outriderSelfTest phys => phys < 80
  | .selfTestComplete _ _ => true
  | .relayFrame port _ => port < 6
  | .relayTrainingComplete port _ _ _ _ => port < 6
  | .relayLaneFailure port lane => port < 6 && lane < 16
  | .probe port => port < 7
  | .answer port => port < 7
  | .grant port => port < 7
  | .withdraw port => port < 7
  | .gone port => port < 7
  | .cwrite port => port < 7
  | .cread port => port < 7
  | .cdata port => port < 7
  | .flush port => port < 7
  | .flushAck port => port < 7
  | .topo port _ => port < 6
  | .relayLinkLoss port => port < 6
  | .probeTimeout core set => wfSet core set
  | .queuedProbeRouteLoss core set => wfSet core set
  | .waitLimitExpiry llt _ _ => llt < 16
  | .homeDeviceUnreachable device => device < 64
  | .todStampExchange port => port < 6
  | .porstNAssert => true
  | .porstNRelease _ _ _ => true
  | .sysrstNAssert _ => true
  | .sysrstNRelease _ _ _ => true
  | .pwrfailNAssert _ _ => true
  | .railExcursion rail _ _ _ _ => rail < 10
  | .vstbyLow => true
  | .temperatureReading sensor _ _ => sensor < 32
  | .thermtrip _ => true
  | .pmbusPoll rail _ _ _ _ => rail < 10
  | .pmbAlert rail _ => rail < 10
  | .smbusBlockRead _ => true
  | .jtagAccess _ core set _ _ => wfSet core set
  | .logbookTotals => true
  | .logbookHourlySeal => true
  | .unassignedEncoding core set => wfSet core set
  | .depotChannelLoss channel => channel < 64
  | .cipherPageStorageError page => page < 4096
  | .engineMirrorCopyComplete engine => engine < 32
  | .dataFrame sc _ _ => sc < 1048576
  | .portSignalRestored kind port _ => wfIoPort kind port
  | .cxpLinkDown port => port < 12
  | .iobarSlotRelease core set => wfSet core set
  | .vstbyRise => true
  | .railWindowSettled => true

end Sys2Proof
end

