-- ==== Sys2Proof/Tests/Slice0.lean ====
section
/-! SUPPORT. Small tests of the model: terms that well-formedness refuses, words written out from the encodings of the spec, and for every statement with hypotheses a state and operands that meet them. -/
open Sys2Proof Sys2Proof.Machine
namespace Sys2Proof.Tests
set_option Elab.async false

/-! ### States the witnesses start from -/

/-- s with a request of a command rung in window w. -/
def rung (s : State) (w code : Nat) (body : List Byte) : State :=
  let head : Tab Nat := [(0, code * 2 ^ 48 + body.length * 2 ^ 32)]
  let area := ((List.range ((body.length + 7) / 8)).map (fun k => (k + 1, fld body (8 * k) 8))).foldl
    (fun t p => if p.2 = 0 then t else Tab.put t p.1 p.2) head
  s.onWin w (fun _ => { state := 1, cmd := code, cls := 1, reqSeq := 1, req := area })

/-- A running device: SP-A serves and SP-B is ready; instance 1 runs and is the Manager, 5 is stopped, 6 is being reset. -/
def dev : State :=
  { State.reset with
    phase := .running
    clock := { tod := 1000, todSet := true }
    svc := { holder := some 0, leaseEnd := 100000, spA := { state := 1 }, spB := { state := 3 }, firstTaken := true }
    mgr := 1
    insts := [(1, { state := 2, bootAddr := 0x1000, sets := [(0, 8)], regions := [⟨0, 1, 0⟩], scCount := 64, eligible := true }),
      (5, { state := 1 }), (6, { state := 3, fence := 1 })]
    ms := { regions := [{ real := 0, gib := 64, portA := 0, portB := some 1, sys := true, offA := 0, offB := 0 }],
            ports := [(0, { link := 1, width := 8, rate := 32 }), (1, { link := 1, width := 8, rate := 32 }), (2, { pcie := true, link := 1 })] } }

/-- s with words of memory: real word number and word. -/
def holding (s : State) (l : List (Nat × TWord)) : State :=
  s.onMs (fun m => { m with mem := l.foldl (fun m x => m.setWord x.1 x.2) m.mem })

/-- The running device whose Manager holds a command rung in its window. -/
def q (code : Nat) (b : List Byte) : State := rung dev 512 code b

/-- What holds of a value of a table and of its default holds of every value read. -/
theorem tab_all {α : Type} (p : α → Bool) (d : α) (t : Tab α) (n : Nat) (hd : p d = true) (ht : t.all (fun x => p x.2) = true) : p (t.getD n d) = true := by
  induction t with
  | nil => exact hd
  | cons x t ih =>
    simp only [List.all_cons, Bool.and_eq_true] at ht
    simp only [Tab.getD, Tab.find] at ih ⊢
    split
    · exact ht.1
    · exact ih ht.2

/-- What holds of every task set listed and of an empty one holds of every task set. -/
theorem ctx_all (p : Ctx → Bool) (s : State) (n k : Nat) (hd : p {} = true) (h : s.ctxs.all (fun x => p x.2) = true) : p (s.ctx n k) = true :=
  tab_all p {} s.ctxs (n * 128 + k) hd h

/-- No task set has an FP Imprecise pending. -/
theorem no_pend (s : State) (h : s.ctxs.all (fun x => x.2.regs.pend == 0) = true) (n k : Nat) : (s.ctx n k).regs.pend = 0 :=
  eq_of_beq (ctx_all (fun c => c.regs.pend == 0) s n k (by decide +kernel) h)

/-- The value of a computation that succeeded. -/
def okVal {ε α : Type} (e : Except ε α) : Option α := match e with | .ok a => some a | .error _ => none
/-- A computation has the value that okVal shows. -/
theorem ok_of {ε α : Type} {e : Except ε α} {a : α} (h : okVal e = some a) : e = .ok a := by
  cases e with
  | ok b => exact congrArg Except.ok (Option.some.inj h)
  | error _ => cases h

/-- A device whose core 0 issues instruction word i of task 0x10002 in its set 0, at 0x2000 in memory of one copy, with given registers. -/
def cpu (i : Nat) (r : Regs) : State :=
  holding { dev with
    cores := [(0, { slot0 := some 0 })]
    ctxs := [(0, { run := .ready, inst := 1, tid := 0x10002, regs := { r with pc := 0x2000#64, qtm := 30#64 } })]
    ms := { dev.ms with regions := [{ real := 0, gib := 64, portA := 0, portB := none, sys := true, offA := 0, offB := 0 }] } }
    [(0x200, ⟨0, Tag.int⟩), (0x400, ⟨BitVec.ofNat 64 (i * 2 ^ 32), Tag.code⟩), (0x20400, ⟨0x10002#64, Tag.int⟩)]
/-- Registers with some G registers set. -/
def withG (l : List (Nat × TWord)) : Regs := l.foldl (fun r x => r.setG x.1 x.2) {}
/-- A word tagged INT. -/
def int (x : Nat) : TWord := ⟨word x, Tag.int⟩
/-- A word tagged PTR. -/
def ptr (x : Nat) : TWord := ⟨word x, Tag.ptr⟩
/-- The task's set 0 changed. -/
def on (f : Ctx → Ctx) : State := (cpu 0 {}).onCtx 0 0 f
/-- The running task and a second ready one in set 1. -/
def two (q : Nat) : State := (on (fun c => { c with regs := { c.regs with qtm := word q } })).onCtx 0 1 (fun _ => { run := .ready, inst := 1, tid := 0x10003 })

/-- Subchannel 3 of instance 1 on Route 0, engine 0 active, engine 1 standby, and a READ chain at 0x4000. -/
def io : State :=
  { holding (cpu 0 {}) [(0x600, int 0x4000), (0x601, int (2 ^ 56)), (0x602, int 0), (0x603, int 77), (0x800, int (2 ^ 56 + 512)), (0x801, int 0x6000), (0x802, int 0), (0x803, int 0)] with
    subchs := [(3, { live := true, inst := 1, log2 := 2, profile := 1, block := 9, sq := 0x3000, cq := 0x5000, timeoutMs := 30000, maxAtt := 3, evTid := 0x10002, paths := [(0, { state := 2, kind := 1 })] })]
    routes := [(0, { stopped := false })]
    engines := [(0, { state := 1 }), (1, { state := 3 })]
    ioports := [(0, { up := true, signal := true })] }
/-- The READ command of io's chain. -/
def rdCmd : Cmd := { code := 1, flags := 0, xidx := 0, devarg := 0, ext := 0, areas := [(0x6000, 512)], first := 0 }
/-- Journal record 1 of subchannel 3 in a state. -/
def rec1 (n : Nat) (f : JRec → JRec) : JRec := f { wsn := 1, sc := 3, inst := 1, state := n, cls := 1, attempts := 1, cmds := [rdCmd], tEnd := 5000 }
/-- io with that record. -/
def rc (n : Nat) (f : JRec → JRec := id) : State := io.onSub 3 (fun x => { x with nextWsn := 2, slots := [(1, rec1 n f)] })
/-- A command rung by instance 1. -/
def r1 (s : State) (code : Nat) (b : List Byte) : State := rung s 1 code b

/-- A long operation's word: MAJOR, D, A, B and MINOR (Table 04-5). -/
def enc (major d a b m : Nat) : Nat := major * 2 ^ 25 + d * 2 ^ 20 + a * 2 ^ 15 + b * 2 ^ 10 + m
/-- The running core with nothing special to run. -/
def base : State := cpu 0 {}

/-! ### Clock, instances and the Service Complex -/

theorem witness_EmptyQueueLetsOneTickPass : State.reset.pending = [] ∧ State.reset.clock.slew = 0 := by and_intros <;> decide +kernel

theorem witness_ClockAfterIsThatManyTicks :
    let c : Clock := { tod := 256, slew := 5, slewEdge := 255 }
    c.slewEdge < 256 ∧ 256 ≤ c.tod ∧ { dev with clock := c }.clock = c ∧ 256 ≤ State.now { dev with clock := c } := by and_intros <;> decide +kernel

/-- Instance 5 in the first word of a body. -/
def b5 : List Byte := beBytes 2 5 ++ beBytes 6 0
/-- A setting of the configuration of instance 5. -/
def bConf : List Byte := beBytes 2 5 ++ beBytes 1 1 ++ beBytes 1 4 ++ beBytes 4 0 ++ beBytes 8 0x2000 ++ beBytes 8 0
/-- The disabling of instance 5. -/
def bOff : List Byte := beBytes 2 5 ++ beBytes 1 0 ++ beBytes 1 4 ++ beBytes 4 0 ++ beBytes 8 0x2000 ++ beBytes 8 0

theorem witness_InstanceQueriesAnswerAndSettingsTakeTheirValues :
    (q 0x0100 b5).takes cmdInstStatus 512 false ∧ (q 0x0101 b5).takes cmdInstConfigGet 512 false ∧ (q 0x0103 b5).takes cmdShareGet 512 false ∧
    (let s := q 0x0102 bConf; s.takes cmdInstConfigSet 512 false ∧ (s.inst (s.arg 512 0 2)).state = 1) ∧
    (let s := q 0x0102 bOff; s.takes cmdInstConfigSet 512 false ∧ bit (s.arg 512 2 1) 0 = false ∧ s.mgr ≠ 5 ∧ (s.inst 5).state = 1 ∧ s.instEmpty 5 = true) ∧
    (q 0x0104 (beBytes 2 5 ++ beBytes 1 1 ++ beBytes 5 0 ++ beBytes 8 7)).takes cmdShareSet 512 false ∧
    (q 0x0109 (beBytes 4 0x50000 ++ beBytes 4 500)).takes cmdCourierCapSet 512 false ∧
    (q 0x010A (beBytes 2 5 ++ beBytes 2 50 ++ beBytes 2 10 ++ beBytes 2 0)).takes cmdIoTimeoutSet 512 false := by and_intros <;> decide +kernel

/-- A region of instance 5. -/
def r2 : IRegion := { real := gibB, gib := 2, base := 4 * gibB }
/-- The device with that region held. -/
def dev2 : State := dev.onInst 5 (fun n => { n with regions := [r2] })
/-- The body that names it for an operation. -/
def bReg (op : Nat) : List Byte := beBytes 2 5 ++ beBytes 1 op ++ beBytes 1 0 ++ beBytes 4 2 ++ beBytes 8 gibB ++ beBytes 8 (4 * gibB)

theorem witness_ResourcesAreAssignedAndRemoved_core :
    let s := q 0x0105 (beBytes 2 5 ++ beBytes 2 71 ++ beBytes 1 8 ++ beBytes 3 0)
    (s.inst (s.arg 512 0 2)).state ≠ 3 ∧ s.takes cmdCoreAssign 512 false ∧ s.arg 512 2 2 = 71 ∧ s.arg 512 4 1 = 8 ∧
      (s.core 71).assignWin = none ∧ (s.core 71).retired = false ∧ (s.core 71).gated = 0 ∧ s.othersSets 5 71 + 8 ≤ 64 ∧ (s.setsOf 5 71).length ≤ 8 ∧
      ∀ j, (s.ctx 71 j).regs.pend = 0 :=
  ⟨by decide +kernel, by decide +kernel, by decide +kernel, by decide +kernel, by decide +kernel, by decide +kernel, by decide +kernel, by decide +kernel,
    by decide +kernel, no_pend _ (by decide +kernel) 71⟩

theorem witness_ResourcesAreAssignedAndRemoved_regions :
    (let s := (q 0x0106 (bReg 1)).onMs (fun m => { m with regions := [{ real := gibB, gib := 64, portA := 0, portB := some 1, sys := false, offA := 0, offB := 0 }] })
     s.takes cmdMemregionAdd 512 false ∧ ({ real := s.arg 512 8 8, gib := s.arg 512 4 4, base := s.arg 512 0x10 8 } : IRegion) = r2 ∧
      r2 ∉ (s.inst 5).regions ∧ s.inConfigured r2.real r2.gib = true ∧ r2.base + r2.gib * gibB ≤ devBase ∧
      (∀ p ∈ s.insts, ∀ x ∈ p.2.regions, overlaps r2.real (r2.gib * gibB) x.real (x.gib * gibB) = false) ∧
      ∀ x ∈ (s.inst 5).regions, overlaps r2.base (r2.gib * gibB) x.base (x.gib * gibB) = false) ∧
    (let s := rung dev2 512 0x0106 (bReg 2)
     s.takes cmdMemregionRemove 512 false ∧ r2 ∈ (s.inst 5).regions ∧ (s.inst 5).state ≠ 2 ∧ (s.inst 5).eligible = false) ∧
    (let s := q 0x0107 (beBytes 4 0x50000 ++ beBytes 4 64 ++ beBytes 4 128 ++ beBytes 4 0)
     s.takes cmdSubchRangeAssign 512 false ∧ s.arg 512 4 4 = 64 ∧ s.arg 512 8 4 = 128 ∧
      (∀ p ∈ s.insts, p.1 ≠ 5 → overlaps 64 128 p.2.scFirst p.2.scCount = false) ∧ s.subchs = [] ∧ s.rings = [] ∧ (s.inst 5).scCount ≠ 128) := by and_intros <;> decide +kernel

/-- A grant (op 1) or revocation (op 0) for an instance: the whole of it, or a range of subchannels. -/
def bElig (i kind op a c : Nat) : List Byte := beBytes 2 i ++ beBytes 1 kind ++ beBytes 1 op ++ beBytes 4 a ++ beBytes 4 c ++ beBytes 4 0
/-- ENDPOINT_ASSIGN and its release for instance 5 and port 2. -/
def bEnd (op : Nat) : List Byte := beBytes 2 5 ++ beBytes 1 2 ++ beBytes 1 op ++ beBytes 4 0

theorem witness_EligibilityAndRolesMove :
    (let s := rung dev2 512 0x0108 (bElig 5 0 1 0 0)
     s.takes cmdCourierGrant 512 false ∧ (∃ r ∈ (s.inst 5).regions, s.mirrored r.real = true) ∧ s.arg 512 2 1 = 0 ∧ (s.inst 5).eligible = false) ∧
    (let s := q 0x0108 (bElig 1 0 0 0 0); s.takes cmdCourierRevoke 512 false ∧ s.arg 512 2 1 = 0 ∧ (s.inst 1).eligible = true) ∧
    (let s := q 0x0108 (bElig 1 1 1 8 4)
     s.takes cmdCourierGrant 512 false ∧ (∃ r ∈ (s.inst 1).regions, s.mirrored r.real = true) ∧ s.arg 512 2 1 = 1 ∧ runsIn (s.inst 1).scElig 8 4 ≠ 4) ∧
    (let s := rung (dev.onInst 1 (fun n => { n with scElig := [(8, 4)] })) 512 0x0108 (bElig 1 1 0 8 4)
     s.takes cmdCourierRevoke 512 false ∧ s.arg 512 2 1 = 1 ∧ runsIn (s.inst 1).scElig (s.arg 512 4 4) (s.arg 512 8 4) ≠ 0) ∧
    (let s := rung (dev.onInst 5 (fun n => { n with state := 2 })) 512 0x010C b5
     s.takes cmdManagerTransfer 512 false ∧ (s.inst (s.arg 512 0 2)).state = 2 ∧ s.mgr ≠ 5) ∧
    (let s := q 0x010D (bEnd 1); s.takes cmdEndpointAssign 512 false ∧ (s.port (s.arg 512 2 1)).pcie = true ∧ (s.port 2).owner = none) ∧
    (let s := rung (dev.onPort 2 (fun n => { n with owner := some 5 })) 512 0x010D (bEnd 2)
     s.takes cmdEndpointRelease 512 false ∧ (s.port 2).owner = some 5 ∧ s.cxpPathUsed 5 2 = false) := by and_intros <;> decide +kernel

theorem witness_InstanceResetFencesAndCompletes :
    (let s := q 0x010B b5
     s.takes cmdInstReset 512 false ∧ s.arg 512 0 2 = 5 ∧ s.mgr ≠ 5 ∧ (s.inst 5).state ≠ 0 ∧ (s.inst 5).state ≠ 3 ∧ (s.inst 5).fence = 0 ∧ s.arg 512 2 1 = 0) ∧
    (let s := dev; s.runs = true ∧ (s.inst 6).state = 3 ∧ s.openRecs 6 = false ∧ (s.inst 6).resetMode = 0 ∧ s.ctxs = []) := by and_intros <;> decide +kernel

theorem witness_InstanceResetFencesAndCompletes_noTasks : (∀ n, dev.setsOf 6 n = []) ∧ ∀ n k, (dev.ctx n k).regs.pend = 0 :=
  ⟨fun _ => rfl, no_pend _ (by decide +kernel)⟩

/-- SP-B in a state with a number of failed BISTs. -/
def spb (n f : Nat) : State := dev.onSp 1 (fun x => { x with state := n, bistFails := f })

theorem witness_LeaseIsGrantedRenewedAndEnds :
    (dev.runs = true ∧ dev.svc.holder = some 0 ∧ dev.now < dev.svc.leaseEnd ∧ (dev.sp 0).state = 1) ∧
    (let s := dev.onSvc (fun v => { v with holder := none }); s.runs = true ∧ s.svc.holder = none ∧ s.svc.guardEnd = none ∧ (s.sp 1).state = 3) ∧
    (let s := dev.onSvc (fun v => { v with guardEnd := some 2000 }); s.runs = true ∧ s.svc.guardEnd = some 2000) ∧
    (let s := dev.onSvc (fun v => { v with firstTaken := false }); s.runs = true ∧ s.svc.firstTaken = false ∧ s.svc.firstWinDone = false) := by and_intros <;> decide +kernel

theorem witness_ServiceProcessorsFailAndReturn :
    (dev.runs = true ∧ (dev.sp 0).state = 1 ∧ dev.svc.holder = some 0) ∧ ((dev.sp 1).state = 3) ∧
    (sfwMay .tskSram .read = false ∧ sfwMay .windows .write = true) ∧
    (let s := spb 5 2; s.runs = true ∧ (s.sp 1).state = 5 ∧ (s.sp 0).state = 1 ∧ s.spSlot = some 0) ∧
    (let s : State := { spb 5 2 with fw := { shipped0 := false } }; s.runs = true ∧ (s.sp 1).state = 5 ∧ (s.sp 0).state = 1 ∧ s.spSlot = none) ∧
    (let s := (spb 4 2).onSp 1 (fun x => { x with failLogged := true }); (s.sp 1).state = 4 ∧ (s.sp 1).failLogged = true ∧ (s.sp 1).bistFails < 3 ∧ (s.sp 0).state = 1) ∧
    (let s := spb 2 0; (s.sp 1).state = 2 ∧ (s.sp 0).state = 1 ∧ s.fwLate = false) ∧
    (let s := (spb 2 0).onSvc (fun v => { v with fwAct := some (512, 1, 0, 0), fwReload := some 0 })
     s.runs = true ∧ (s.sp 1).state = 2 ∧ (s.sp 0).state = 1 ∧ s.svc.fwAct = some (512, 1, 0, 0) ∧ s.svc.fwReload = some (1 - 1) ∧ 0 ≤ s.now) := by and_intros <;> decide +kernel

theorem witness_ServiceCommandsAnswerAndSwitch :
    (q 0x0500 []).takes cmdDeviceId 512 false ∧ (q 0x0501 []).takes cmdSpStatus 512 false ∧
    (let s := q 0x0502 (beBytes 8 0); s.takes cmdSpSwitch 512 false ∧ s.arg 512 0 1 = 0 ∧ s.svc.holder = some 0 ∧ (s.sp 0).state = 1) ∧
    (let s := q 0x0502 (beBytes 1 1 ++ beBytes 7 0)
     s.takes cmdSpSwitch 512 false ∧ s.arg 512 0 1 = 1 ∧ s.svc.holder = some (1 - 1) ∧ (s.sp 1).state = 3 ∧ s.othersInExec 512 = false) := by and_intros <;> decide +kernel

/-- Window 5 in a state, with the header of a DEVICE_ID request. -/
def bell (st : Nat) : State := dev.onWin 5 (fun n => { n with state := st, req := [(0, 0x0500 * 2 ^ 48)] })

theorem witness_DoorbellsAndNotificationRings :
    ((bell 0).windowUp 5 = true ∧ ((bell 0).win 5).state ≠ 1 ∧ ((bell 0).win 5).nrEnable = false ∧ bit 1 0 = true ∧ bit 2 0 = false) ∧
    ((bell 1).windowUp 5 = true ∧ ((bell 1).win 5).state = 1) ∧
    (let s := (bell 0).notify 5 4 0 5 1
     s.phase = .running ∧ s.serving 5 = true ∧ (s.win 5).held = [] ∧ (s.win 5).ringOpen = false ∧ (s.nextEvent 5).isSome = true) ∧
    (let s := (dev.onWin 1 (fun n => { n with nrEnable := true, nrBase := 0x2000 })).notify 1 4 0 5 1
     s.phase = .running ∧ s.serving 1 = true ∧ (s.win 1).held = [] ∧ (s.win 1).ringOpen = true ∧
      (match s.nextEvent 1 with
       | some e => (okVal (s.hubPuts (s.ringInst 1) 0 ((s.win 1).nrBase + 32 * (s.win 1).nrTail) (bytesWords (notifBytes ((s.win 1).nseq + 1) e.notif)))).isSome
       | none => false) = true) := by and_intros <;> decide +kernel


/-- The device with lock table 3 of this end. -/
def devL : State := { dev with relay := { dev.relay with llts := [(3, { live := true, grants := 7 })] } }
/-- The address of CACHE_CTL of physical core 0. -/
def cacheCtl0 : Nat := devBase + 0x2000000000100

theorem witness_ConsoleFramesAndRegisterWrites :
    dev.windowUp 513 = true ∧ dev.runs = true ∧ dev.visible 1 0 (devBase + 512 * 0x1000) true = true ∧ devRegion (devBase + 512 * 0x1000) = (0, 512, 0) ∧
    dev.gateOpen 0 = true ∧ dev.gateOpen 1 = false ∧ devRegion cacheCtl0 = (5, 0, 0x100) ∧
    bit 1 2 = false ∧ bit 1 0 = true ∧ bit 7 2 = true ∧ bit 7 3 = (dev.pcore 0).enclWays ∧ bit 15 3 ≠ (dev.pcore 0).enclWays ∧ devL.runs = true ∧ (devL.llt 3).live = true := by
  and_intros <;> decide +kernel

theorem witness_CacheLevelsSwitchOffAndOn :
    (dev.runs = true ∧ (dev.pcore 0).l1d = true ∧ dev.gateOpen 0 = true ∧ dev.levelOn 4 0 = true) ∧
    (let s := dev.onPCore 0 (fun c => { c with l1d := false }); s.runs = true ∧ (s.pcore 0).l1d = false ∧ (s.pcore 0).l2 = true) ∧
    (let s := dev.onPCore 0 (fun c => { c with l2 := false }); s.runs = true ∧ (s.pcore 0).l2 = false) ∧
    (let s := dev.onWays 4 0 (fun w => { w with disabled := true }); s.runs = true ∧ s.gateOpen 0 = true ∧ s.levelOn 4 0 = false) := by and_intros <;> decide +kernel

/-- The clock with failed references, in holdover or not, and a selected reference. -/
def refs (a b h : Bool) (sel : Nat) : State :=
  dev.onClock (fun c => { c with ref0 := { failed := a }, ref1 := { failed := b }, holdover := h, sel := sel })

theorem witness_ReferencesFailAndReturn :
    (let s := refs false false false 0; s.clocked = true ∧ (s.clock.ref 0).failed = false ∧ s.clock.sel = 0 ∧ s.clock.holdover = false ∧ (s.clock.ref 1).failed = false) ∧
    (let s := refs false true false 0; (s.clock.ref 0).failed = false ∧ s.clock.sel = 0 ∧ s.clock.holdover = false ∧ (s.clock.ref (1 - 0)).failed = true) ∧
    (let s := refs true false false 1; (s.clock.ref 0).failed = true ∧ s.clock.holdover = false ∧ s.clock.sel ≠ 0) ∧
    (let s := refs true true true 0; s.clocked = true ∧ (s.clock.ref 1).failed = true ∧ s.clock.holdover = true) := by and_intros <;> decide +kernel

theorem witness_PulsesEpochsAndRateWindows :
    (dev.clocked = true ∧ dev.clock.todSet = true ∧ dev.clock.ppsSource = 1 ∧ dev.ownPps = true) ∧
    (let s := dev.onClock (fun c => { c with lastPps := some 500 }); s.clock.lastPps = some 500 ∧ s.clock.ppsSource = 1 ∧ s.clock.ppsLost = false) ∧
    (let s := dev.onClock (fun c => { c with tod := 3 * secT + 5 })
     s.clocked = true ∧ s.clock.todSet = true ∧ s.clock.ppsOutSec < s.now - u64 s.now % secT ∧ s.clock.ppsOutEnd = none) ∧
    (let s := dev.onClock (fun c => { c with ppsOutEnd := some 1000 }); s.clock.ppsOutEnd = some 1000 ∧ 1000 ≤ s.now) ∧
    (let s := dev.onClock (fun c => { c with tod := 400000 })
     s.runs = true ∧ s.clock.epoch < s.now - u64 s.now % 40000 ∧ (∀ p ∈ s.ctxs, (s.inst p.2.inst).reclass = false) ∧ s.clock.rateWindow < s.now - u64 s.now % 400000) := by
  and_intros <;> decide +kernel

theorem witness_LinkRepliesRemapOrStopTheDevice :
    dev.clocked = true ∧ dev.linkLost.getD 5 0 < 4 ∧ 4 ≤ ({ dev with linkLost := [(5, 4)] } : State).linkLost.getD 5 0 ∧ 0 ≤ dev.linkLost.getD 6 0 := by
  and_intros <;> decide +kernel

/-- A frame of the Depot in a state (2 clean, 3 dirty). -/
def fr (st : Nat) : State := dev.onMs (fun m => { m with frames := [(fkey 4 0 0 0, { la := 0, st := st, line := Vector.replicate 32 (int 1) })] })
/-- A unit of L3 with correctable errors of way 5 within the interval. -/
def er (n : Nat) : State := dev.onWays 3 0 (fun y => { y with errs := List.replicate n (5, 900) })
/-- The region of dev's first line. -/
def reg0 : Region := { real := 0, gib := 64, portA := 0, portB := some 1, sys := true, offA := 0, offB := 0 }

theorem witness_MemoryErrorsCountPoisonAndDisable :
    (dev.runs = true ∧ dev.regionOf (16 * 256) = some reg0 ∧ reg0.portA = 0 ∧ reg0.portB = some 1 ∧ (dev.port 1).outOfStep = false) ∧
    ((fr 2).ms.frames.find (fkey 4 0 0 0)).isSome = true ∧ ((fr 3).ms.frames.find (fkey 4 0 0 0)).map (·.st) = some 3 ∧
    (∀ n ∈ [14, 15], (er n).runs = true ∧ 5 < wayCount 3 ∧ bit ((er n).ways 3 0).off 5 = false ∧ ((er n).ways 3 0).removed = false ∧
      n = ((((er n).ways 3 0).errs.filter (fun e => decide ((er n).now < e.2 + wayInterval))).filter (fun e => e.1 == 5)).length) := by
  and_intros <;> decide +kernel

/-- Port 1 with timeouts counted, a link code and a device. -/
def pt (n l : Nat) : State :=
  dev.onPort 1 (fun x => { x with timeouts := n, link := l, dev := some { port := 1, gib := 64, serial := 1, persistent := false, dirtyCount := 0, width := 8, rate := 32, switched := false } })
/-- A line leaving the Depot. -/
def ev : State := dev.onMs (fun m => { m with evict := [{ la := 16, dest := 5, unit := 0, line := Vector.replicate 32 (int 1), cls := 1 }] })
/-- Endpoint 2 of instance 1 over memory. -/
def ep : State := (holding dev [(0x200, int 1)]).onPort 2 (fun x => { x with owner := some 1 })

theorem witness_PortsWritebacksAndEndpointDma :
    ((pt 1 1).runs = true ∧ (pt 1 1).cxlPort 1 = true ∧ ((pt 1 1).port 1).link ≠ 3 ∧ ((pt 1 1).port 1).timeouts < 2) ∧
    ((pt 2 1).cxlPort 1 = true ∧ 2 ≤ ((pt 2 1).port 1).timeouts) ∧ ((pt 0 0).cxlPort 1 = true ∧ ((pt 0 0).port 1).link = 0) ∧
    (((pt 0 3).port 1).link = 3 ∧ ((pt 0 3).port 1).dev.isSome = true) ∧
    (let s := (pt 0 1).onPort 1 (fun x => { x with outOfStep := true, copying := true })
     (s.port 1).copying = true ∧ s.partners 1 = [0] ∧ ∀ b ∈ s.partners 1, (s.port b).outOfStep = false) ∧
    (dev.ways 4 63).removed = false ∧
    (ev.runs = true ∧ (ev.ms.evict.find? (fun e => e.la == 16)).map (·.dest) = some 5 ∧ ev.regionOf (16 * 256) = some reg0 ∧ ev.regionServed reg0 = true) ∧
    (ep.runs = true ∧ (ep.port 2).pcie = true ∧ (ep.port 2).link = 1 ∧ (ep.port 2).owner = some 1 ∧
      (okVal (ep.engRead 1 0 0x1000 8)).map (·.length) = some 8) ∧
    (dev.port 2).pcie = true ∧ (dev.port 2).link = 1 ∧ (dev.port 2).owner = none := by
  and_intros <;> decide +kernel

/-- A committed entry of a write buffer. -/
def we (d : Option (Nat × Nat)) (a : Nat) : WbEnt :=
  { tid := 0x10002, set := 0, dev := d, addr := a, words := [{ idx := 0, datum := 5, tag := some Tag.int, mask := 255, isOpen := false }] }
/-- The write buffer of core 0 with that entry. -/
def wbOf (e : WbEnt) : State := (cpu 0 {}).onCore 0 (fun c => { c with wb := [e] })
/-- A task that moved while its device-space load was on its way. -/
def moved : State := { on (fun c => { c with run := .leaving, sent := true }) with outcomes := [(0x10002, .dev 1 2 5 1)] }
/-- The task waits for word 0 of line 16 as Convoy. -/
def line0 : State := on (fun c => { c with await := .line 16 0 1, run := .waitMem })
/-- A flushing read on CXP port n, to be answered before a stamp. -/
def bar (n limit : Nat) : Bar := { kind := 1, num := n, limit := limit }

theorem witness_WaitingInstructionsGoOn :
    (line0.runs = true ∧ line0.coreLive 0 = true ∧ (line0.ctx 0 0).await = .line 16 0 1 ∧ (line0.ctx 0 0).run = .waitMem ∧ line0.fillOf 0 16 = none ∧
      (line0.memGrant (line0.memPoint (line0.core 0).phys 16) 0).isSome = true) ∧
    (let s := line0.onCore 0 (fun c => { c with fills := [{ la := 16, first := 0, got := 1, set := 0, cls := 1 }] }); (s.fillOf 0 16).isSome = true) ∧
    ((wbOf (we none 32)).runs = true ∧ ((wbOf (we none 32)).core 0).wb = [we none 32] ∧ (we none 32).isOpen = false ∧ (wbOf (we none 32)).fillOf 0 32 = none) ∧
    (((wbOf (we (some (2, 0)) (devBase + 0x1018))).core 0).wb = [we (some (2, 0)) (devBase + 0x1018)] ∧ (we (some (2, 0)) 0).words.length = 1) ∧
    (moved.runs = true ∧ (moved.ctx 0 0).run = .leaving ∧ (moved.ctx 0 0).sent = true ∧ moved.outcomes.getD (moved.ctx 0 0).tid .none = .dev 1 2 5 1) ∧
    (let s := on (fun c => { c with await := .dev 2 0 (devBase + 0x1008) 1 }); (s.ctx 0 0).run = .ready ∧ (s.ctx 0 0).await = .dev 2 0 (devBase + 0x1008) 1) ∧
    (let s := on (fun c => { c with await := .iobar, bars := [bar 2 1001, bar 4 1001] })
     (s.ctx 0 0).bars.find? (fun b => b.isOn (1, 2)) = some (bar 2 1001) ∧ s.now < 1001 ∧ s.pathDown (1, 2) = false ∧ (s.ctx 0 0).bars.filter (fun b => !b.isOn (1, 2)) = [bar 4 1001]) ∧
    (let s := on (fun c => { c with await := .iobar, bars := [bar 2 1000] })
     minBy (·.limit) ((s.ctx 0 0).bars.filter (fun b => b.kind != 2)) = some (bar 2 1000) ∧ (s.ctx 0 0).barOn (1, 2) = true ∧ 1000 ≤ s.now) ∧
    (let s := (two 0x00C8001E).onCtx 0 0 (fun c => { c with await := .iobar, bars := [bar 2 900] })
     s.runs = true ∧ (s.ctx 0 0).await = .iobar ∧ (s.ctx 0 0).bars ≠ [] ∧ (s.ctx 0 0).run = .ready ∧ s.holdsSlot 0 0 = true ∧ (s.ctx 0 0).regs.miss ≠ 0 ∧ s.otherReady 0 0 = true) ∧
    (let s := on (fun c => { c with run := .waitFp }); (s.ctx 0 0).run = .waitFp ∧ (s.core 0).banks.length < 8) ∧
    ((dev.port 2).link = 1) := by
  and_intros <;> decide +kernel

theorem witness_WaitingInstructionsGoOn_pend :
    ∀ s ∈ [line0, wbOf (we none 32), wbOf (we (some (2, 0)) (devBase + 0x1018)), moved, two 0x00C8001E, dev],
      ∀ n k, (s.ctx n k).regs.pend = 0 := by
  have h : ∀ s ∈ [line0, wbOf (we none 32), wbOf (we (some (2, 0)) (devBase + 0x1018)), moved, two 0x00C8001E, dev],
      s.ctxs.all (fun x => x.2.regs.pend == 0) = true := by decide +kernel
  exact fun s hs => no_pend s (h s hs)

/-- The task's event of a completed mailbox command. -/
def pst : Post := { tid := 0x10002, ev := 3, cause := 1, source := 5, tod := 7 }
/-- The number a computation gave, where it succeeded. -/
def numOf (x : Except XFlt TWord) : Option Nat := (okVal x).map (·.datum.toNat)
/-- The task has no event queue, and an event for the task of the given TID is posted; no record of it is left. -/
def posted (tid : Nat) (l : List Post) : State := { holding (cpu 0 {}) [(0x20405, int 0)] with posts := l.map (fun p => { p with tid := tid }) }
/-- A SIGNAL has asked for the creation of task 0x10003. -/
def asked : State := { holding (cpu 0 {}) [(0x20601, int 0)] with creations := [(0x10003, 0x10002, true)] }
/-- Set 0 of core 0 free, with a queued task. -/
def sw : State := ((cpu 0 {}).onCore 0 (fun c => { c with swapq := [(0x10003, 1, 5)], slot0 := none })).onCtx 0 0 (fun _ => {})
/-- The running task, whose watchdog is due. -/
def wd : State := on (fun c => { c with guardian := c.tid, regs := { c.regs with wdt := 1000 } })
/-- The task leaving for core 5. -/
def lv : State := on (fun c => { c with run := .leaving, target := some 5 })

theorem witness_DroverPostsCreatesAndSwaps :
    ((posted 0x10002 [pst]).runs = true ∧ (posted 0x10002 [pst]).posts = [pst] ∧ (posted 0x10002 [pst]).postHeld { pst with tid := 0x10002 } = false ∧ numOf ((posted 0x10002 []).tsaWord 0x10002 0) = some 0x10002 ∧
      ((posted 0x10002 []).inst (tidInst 0x10002)).state ≠ 3 ∧ (posted 0x10002 []).tsaGet 0x10002 0x28 = 0) ∧
    ((posted 0x10003 [pst]).runs = true ∧ numOf ((posted 0x10003 []).tsaWord 0x10003 0) ≠ none ∧ numOf ((posted 0x10003 []).tsaWord 0x10003 0) ≠ some 0x10003) ∧
    (asked.runs = true ∧ (okVal (asked.readWords (tidInst 0x10003) 0 (asked.tsa 0x10003) 5)).isSome = true ∧
      (okVal (asked.readWords (tidInst 0x10003) 0 (asked.tsa 0x10003 + 0x28) 9)).isSome = true ∧
      (okVal (asked.readWords (tidInst 0x10003) 0 (asked.tsa 0x10003) 5)).map (fun h => bit (h.getD 1 {}).datum.toNat 0) = some false) ∧
    (sw.ctx 0 0).run = .empty := by
  and_intros <;> decide +kernel

theorem witness_DroverPostsCreatesAndSwaps_running :
    (sw.runs = true ∧ (sw.core 0).swapping = none ∧ (sw.core 0).sparing = none ∧ (sw.core 0).reset = none ∧ (sw.core 0).gated = 0 ∧ (sw.core 0).retired = false ∧
      sw.placeable 0 (sw.core 0).swapq = some (0x10003, 0, false) ∧ (sw.ctx 0 0).run = .empty) ∧
    (let s := sw.onCore 0 (fun c => { c with swapq := [], swapping := some (0, 0x10003) })
     (s.core 0).swapping = some (0, 0x10003) ∧ (okVal ((s.onCore 0 (fun c => { c with swapping := none })).placeTask 0 0 0x10003)).isSome = true) ∧
    (let s := cpu 0 {}
     (s.core 0).slot0 = some 0 ∧ bits (s.ctx 0 0).regs.qtm.toNat 15 0 ≠ 0 ∧ (s.ctx 0 0).run = .ready ∧ (s.ctx 0 0).routine = none ∧ (s.ctx 0 0).regs.pend = 0 ∧ s.rotation 0 0 = none ∧
      (two 30).rotation 0 0 = some 1 ∧ ((two 30).core 0).slot0 = some 0 ∧ ((two 30).ctx 0 0).regs.pend = 0) ∧
    (wd.runs = true ∧ (wd.ctx 0 0).run = .ready ∧ (wd.ctx 0 0).regs.wdt ≠ 0 ∧ (wd.ctx 0 0).regs.wdt ≤ wd.now ∧ (wd.ctx 0 0).guardian = (wd.ctx 0 0).tid) ∧
    (lv.runs = true ∧ (lv.ctx 0 0).run = .leaving ∧ (lv.ctx 0 0).target = some 5 ∧ (lv.ctx 0 0).sent = false ∧ (lv.ctx 0 0).regs.encl = 0 ∧
      (∀ e ∈ (lv.core 0).wb, e.tid ≠ (lv.ctx 0 0).tid) ∧ (okVal (lv.saveTask 0 0 5 4)).isSome = true) ∧
    (let s := lv.onCtx 0 0 (fun c => { c with sent := true }); (s.ctx 0 0).run = .leaving ∧ (s.ctx 0 0).target = some 5 ∧ (s.ctx 0 0).sent = true) := by
  and_intros <;> decide +kernel

/-- Core 0 being spared by Outrider 72. -/
def spr : State := { (cpu 0 {}).onCore 0 (fun c => { c with sparing := some (72, 1) }) with pcores := [(72, { role := 2 })] }
/-- Outrider 72, being tested or not. -/
def testing (b : Bool) : State := { cpu 0 {} with pcores := [(72, { role := 2, testing := b })] }

theorem witness_CoresRetryAreSparedAndTested :
    (let s := (cpu 0 {}).onCore 0 (fun c => { c with tries := 1 }); s.coreChecks 0 = true ∧ (s.core 0).tries < 2) ∧
    (let s := (cpu 0 {}).onCore 0 (fun c => { c with tries := 2 }); s.coreChecks 0 = true ∧ 2 ≤ (s.core 0).tries) ∧
    (spr.runs = true ∧ (spr.core 0).sparing = some (72, 1) ∧ (spr.core 0).hints = []) ∧
    ((testing false).runs = true ∧ ((testing false).pcore 72).role = 2 ∧ ((testing false).pcore 72).testing = false) ∧
    ((testing true).runs = true ∧ ((testing true).pcore 72).role = 2 ∧ ((testing true).pcore 72).testing = true) := by
  and_intros <;> decide +kernel

theorem witness_CoresRetryAreSparedAndTested_sets : (∀ k, ((cpu 0 {}).ctx 0 k).cairnBad = false) ∧ ∀ k, (spr.ctx 0 k).regs.pend = 0 := by
  exact ⟨fun k => eq_of_beq (ctx_all (fun c => c.cairnBad == false) (cpu 0 {}) 0 k (by decide +kernel) (by decide +kernel)), no_pend _ (by decide +kernel) 0⟩
/-! ### The channel subsystem -/

/-- A completion of WSN 1. -/
def compl1 : Compl := { bytes := complBytes 1 0 0 0 0 0 0 0 }
/-- A completion held back with the ring's tail at its last entry. -/
def heldC : State := io.onSub 3 (fun x => { x with held := [compl1], cqTail := 3 })
/-- One entry of the submission ring. -/
def ad : State := io.onSub 3 (fun x => { x with sqTail := 1 })
/-- The same on a stopped Route. -/
def adStop : State := ad.onRoute 0 (fun x => { x with stopped := true })

theorem witness_SubchannelRingsAndAdmission :
    (io.runs = true ∧ (io.sub 3).live = true ∧ (io.sub 3).depth = 4 ∧ (io.inst (io.sub 3).inst).state = 2 ∧ (io.ring 3).live = false ∧ (io.sub 3).held = []) ∧
    (heldC.runs = true ∧ (heldC.sub 3).live = true ∧ (heldC.ring 3).live = false ∧ (heldC.sub 3).held = [compl1] ∧ ((heldC.sub 3).cqTail + 1) % (heldC.sub 3).depth ≠ 3 % 65536) ∧
    (ad.runs = true ∧ (ad.sub 3).live = true ∧ (ad.sub 3).sqHead ≠ (ad.sub 3).sqTail ∧ ad.resetting 1 = false ∧ (ad.route 0).switching = none ∧ (ad.route 0).stopped = false ∧
      (okVal (ad.engWords 1 0 0x3000 4)).map (fun e => (fld e 0 8, fld e 8 1, zeros e 9 7)) = some (0x4000, 1, true) ∧ okVal (ad.admitChain 3 0x4000) = some [rdCmd] ∧ (ad.sub 3).slotBusy = false) ∧
    (adStop.runs = true ∧ (adStop.sub 3).sqHead ≠ (adStop.sub 3).sqTail ∧ adStop.resetting 1 = false ∧ (adStop.route 0).switching = none ∧ (adStop.route 0).stopped = true) := by
  and_intros <;> decide +kernel

/-- A READ whose data is discarded. -/
def discards (r : JRec) : JRec := { r with cmds := [{ rdCmd with flags := 16 }] }
/-- The whole READ has moved, with the completion ring full or not. -/
def fin (full : Bool) : State := (rc 3 (fun r => { r with moved := 512 })).onSub 3 (fun x => { x with cqHead := if full then 1 else 0 })

theorem witness_AttemptsRunToTheirFinalResponse :
    (let s := rc 1; let r := rec1 1 id
     s.runs = true ∧ s.jrec 3 1 = some r ∧ (s.route 0).stopped = false ∧ (s.route 0).switching = none ∧ (s.route 0).quiesce = false ∧ (s.activeEng 0).isSome = true ∧ s.inflight 0 < 65536 ∧
      (s.route 0).arb.pick ((s.dispatchable 0).map (fun r => (r.cls, r.inst))) = some (1, 1, false) ∧
      minBy (·.tAccept) ((s.dispatchable 0).filter (fun r => r.cls == 1 && r.inst == 1)) = some r ∧ (s.sub 3).pickPath r = some 0 ∧ r.prepEnd = none ∧
      (∀ k ∈ r.left, s.cmdFault r.inst k.2 = none ∧ (k.2.cmp && k.2.isOut) = false ∧ k.2.guarded = false) ∧ s.claim (stageOf 1 0) 0 = (s.route 0).claim) ∧
    (let s := rc 2; let r := rec1 2 id; s.jrec 3 1 = some r ∧ r.active = true ∧ s.now < r.tEnd ∧ r.aborting = false ∧ r.cmd.isIn = true ∧ r.cmd.discard = false ∧ r.cmd.cph = false ∧ r.cmd.cmp = false) ∧
    (let s := rc 2 discards; let r := rec1 2 discards; s.jrec 3 1 = some r ∧ r.active = true ∧ r.aborting = false ∧ r.cmd.isIn = true ∧ r.cmd.discard = true) ∧
    (∀ b, let s := fin b; let r := rec1 3 (fun r => { r with moved := 512 })
      s.runs = true ∧ s.jrec 3 1 = some r ∧ r.active = true ∧ s.now < r.tEnd ∧ r.aborting = false ∧ s.inlineLeft 3 1 = none ∧ s.indoubt = [] ∧ (r.cmd.isIn && r.cmd.cmp) = false ∧ r.cmds.length ≤ r.done + 1 ∧
      s.resetting r.inst = false ∧ r.inst = (s.sub 3).inst ∧ r.transfer = r.moved ∧ (s.sub 3).sense = 0 ∧ r.cond = 0 ∧ (s.sub 3).cqFull = b ∧ (s.sub 3).held = []) := by
  and_intros <;> decide +kernel

/-- An attempt being aborted: the kind of the abort and the status of its condition. -/
def aborted (k c : Nat) (r : JRec) : JRec := { r with abortRes := 1, abortKind := k, condStatus := c, abortEnd := 2000 }
/-- io with that attempt and a second path. -/
def ab (k c : Nat) : State := (rc 2 (aborted k c)).onSub 3 (fun x => { x with paths := x.paths.put 1 { state := 2, kind := 1, port := 1 } })
/-- io whose record may be sent no more. -/
def spent : State := (rc 2 (aborted 1 0)).onSub 3 (fun x => { x with maxAtt := 1 })
/-- A record waiting for a path, sent a number of times. -/
def pathless (n : Nat) (r : JRec) : JRec := { r with noPathEnd := 5, attempts := n }

theorem witness_FailedAttemptsAreAborted :
    (∀ n ∈ [1, 2], let s := (rc 2).onPath 3 0 (fun p => { p with timeouts := n })
      s.runs = true ∧ s.jrec 3 1 = some (rec1 2 id) ∧ (rec1 2 id).active = true ∧ s.now < (rec1 2 id).tEnd ∧ (rec1 2 id).aborting = false ∧ (rec1 2 id).resp = none ∧ s.heldAnswer 3 1 = false ∧ ((s.sub 3).paths.getD 0 {}).timeouts = n ∧ ((s.sub 3).paths.getD 0 {}).state = 2) ∧
    (∀ k ∈ [1, 3], ∀ c ∈ [0, 5], (ab k c).runs = true ∧ (ab k c).jrec 3 1 = some (rec1 2 (aborted k c)) ∧ (rec1 2 (aborted k c)).active = true ∧ (rec1 2 (aborted k c)).aborting = true ∧ (ab k c).now < (rec1 2 (aborted k c)).abortEnd ∧ (ab k c).heldAnswer 3 1 = false ∧
      ((ab k c).route 0).stopped = false ∧ ((ab k c).route 0).switching = none ∧ (ab k c).answerable 3 (rec1 2 (aborted k c)) = true ∧ (ab k c).resetting 1 = false) ∧
    ((ab 1 0).mayRedrive (rec1 2 (aborted 1 0)) = true ∧ (ab 1 0).doubtRoom = true) ∧
    (spent.jrec 3 1 = some (rec1 2 (aborted 1 0)) ∧ spent.answerable 3 (rec1 2 (aborted 1 0)) = true ∧ spent.mayRedrive (rec1 2 (aborted 1 0)) = false ∧ spent.doubtRoom = true) ∧
    (∀ n ∈ [0, 1], let s := rc 1 (pathless n); s.runs = true ∧ s.jrec 3 1 = some (rec1 1 (pathless n)) ∧ (rec1 1 (pathless n)).noPathEnd ≠ 0 ∧ (rec1 1 (pathless n)).attempts = n ∧ s.doubtRoom = true) ∧
    (let s := rc 6; let r := rec1 6 id; s.jrec 3 1 = some r ∧ r.state = 6 ∧ r.sc = 3 ∧ r.incarn = 0 ∧ r.wsn = 1 ∧ (s.sub 3).live = true ∧ (s.sub 3).incarn = 0 ∧ (s.sub 3).sense = 0) ∧
    (let s := rc 2; s.jrec 3 1 = some (rec1 2 id) ∧ s.indoubt = [] ∧ ((s.sub 3).live && (s.sub 3).incarn == 1) = false) := by
  and_intros <;> decide +kernel

/-- Path 0 in a state, with its login begun. -/
def pth (n : Nat) : State := io.onPath 3 0 (fun p => { p with state := n, loginAt := 5 })

theorem witness_PathsFollowTheirPortsAndLogins :
    (io.runs = true ∧ io.portUp 1 0 = true ∧ io.portUp 1 31 = false ∧ (io.sub 3).live = true ∧ ((io.sub 3).paths.getD 0 {}).state = 2 ∧ ((io.sub 3).paths.getD 0 {}).kind = 1 ∧ ((io.sub 3).paths.getD 0 {}).port = 0) ∧
    (∀ n ∈ [1, 3], (pth n).runs = true ∧ ((pth n).sub 3).live = true ∧ (((pth n).sub 3).paths.getD 0 {}).state = n ∧ (pth n).portUp 1 0 = true ∧ (pth n).logins 1 0 < 4096) := by
  and_intros <;> decide +kernel

/-- The Route with its two engines in given states. -/
def en (a b : Nat) : State := { io with engines := [(0, { state := a }), (1, { state := b })] }
/-- The same, the switchover to engine 1 begun. -/
def sw1 : State := { en 4 3 with routes := [(0, { stopped := false, switching := some (1, false) })] }
/-- The Route with one claim not acknowledged. -/
def unack : State := io.onRoute 0 (fun x => { x with unacked := [(3, 5)] })

theorem witness_RoutesSwitchOverUnderClaims :
    (io.runs = true ∧ io.activeEng 0 = some 0 ∧ (io.route 0).switching = none ∧ (io.engine (mate 0)).state = 3) ∧
    ((en 1 2).runs = true ∧ (en 1 2).activeEng 0 = some 0 ∧ ((en 1 2).engine (mate 0)).state ≠ 3 ∧ ((en 1 2).route 0).win = none) ∧
    (3 ∈ io.stages ∧ io.claim 3 0 = 1 ∧ 1 ≤ (2 + 2 ^ 32 - io.claim 3 0) % 2 ^ 32 ∧ (2 + 2 ^ 32 - io.claim 3 0) % 2 ^ 32 < 2 ^ 31 ∧ 2 = ((io.route 0).claim + 1) % 2 ^ 32) ∧
    (io.route 0).gap = none ∧ ((io.onRoute 0 (fun x => { x with gap := some (1, 500, false) })).route 0).gap = some (1, 500, false) ∧
    (unack.runs = true ∧ (unack.route 0).unacked = [(3, 5)]) ∧
    (sw1.runs = true ∧ (sw1.route 0).switching = some (1, false) ∧ (sw1.route 0).unacked = [] ∧ (sw1.route 0).held = []) ∧
    ((io.engine 1).state = 3 ∧ (io.engine (mate 1)).state = 1 ∧ (io.route 0).win = none) ∧
    ((en 4 1).runs = true ∧ ((en 4 1).engine 0).state = 4 ∧ ((en 4 1).engine 0).tested = false ∧ ((en 4 1).engine 0).win = none ∧ ((en 4 1).route (0 / 2)).switching = none ∧ ((en 4 1).route (0 / 2)).stopped = false) ∧
    ((en 2 1).runs = true ∧ ((en 2 1).engine 0).state = 2 ∧ ((en 2 1).engine (mate 0)).state = 1) := by
  and_intros <;> decide +kernel

/-- SUBCH_CREATE of subchannel 5. -/
def bMake : List Byte :=
  beBytes 4 5 ++ beBytes 1 4 ++ beBytes 1 1 ++ beBytes 1 9 ++ beBytes 1 0 ++ beBytes 8 0x7000 ++ beBytes 8 0x8000 ++ beBytes 8 0 ++ beBytes 8 0x10002 ++ beBytes 4 1000 ++ beBytes 1 2 ++ List.replicate 19 0
/-- The device whose configuration in force gives the journal 1 GiB. -/
def fwi (s : State) : State := { s with fw := { s.fw with inForce := putBytes s.fw.inForce 0x10 (beBytes 4 1) } }
/-- Subchannel 3, the operand of most commands. -/
def b3 : List Byte := beBytes 4 3 ++ beBytes 4 0
/-- PATH_ADD of path 2 on port 7. -/
def bPath : List Byte := beBytes 4 3 ++ beBytes 1 2 ++ beBytes 1 1 ++ beBytes 1 7 ++ beBytes 1 1 ++ List.replicate (0x128 - 8) 0

theorem witness_SubchannelJournalAndRouteCommands_subchannels :
    (let s := r1 (fwi io) 0x0200 bMake; s.takes cmdSubchCreate 1 false ∧ (s.sub 5).live = false ∧ (s.ring 5).live = false ∧ s.journalRoom (2 ^ s.arg 1 4 1) = true) ∧
    (let s := r1 io 0x0201 b3; s.takes cmdSubchDestroy 1 false ∧ (s.sub 3).live = true ∧ (s.sub 3).hasRec (fun r => r.outstanding || r.state == 6) = false) ∧
    (r1 io 0x0202 b3).takes cmdSubchQuery 1 false ∧
    (let s := r1 io 0x0203 bPath; s.takes cmdPathAdd 1 false ∧ s.arg 1 5 1 = 1 ∧ pathForm (s.sub 3).profile (s.mreq 1).body = true ∧ ((s.sub 3).paths.getD 2 {}).state = 0) ∧
    (let s := r1 io 0x0204 b3; s.takes cmdPathRemove 1 false ∧ ((s.sub 3).paths.getD 0 {}).state = 2 ∧ (s.sub 3).activeOn 0 = 0) ∧
    (let s := r1 (rc 2) 0x0204 b3; s.takes cmdPathRemove 1 false ∧ ((s.sub 3).paths.getD 0 {}).state = 2 ∧ (s.sub 3).activeOn 0 ≠ 0) ∧
    (r1 io 0x0205 b3).takes cmdPathQuery 1 false ∧
    (let s := r1 io 0x0206 (beBytes 4 3 ++ beBytes 1 2 ++ beBytes 1 12 ++ beBytes 2 0)
     s.takes cmdProfileSet 1 false ∧ (s.sub 3).hasRec JRec.outstanding = false ∧ ∀ q ∈ (s.sub 3).paths, q.2.state ≠ 0 → kindFits q.2.kind 2 = true) := by
  and_intros <;> decide +kernel

/-- An IN_DOUBT record of subchannel 3. -/
def doubt : JRec := { wsn := 9, sc := 3, inst := 1, state := 6, incarn := 0, user := 4, tFinal := 8, doubtNo := 1, cmds := [rdCmd] }
/-- The device with that record in the in-doubt store. -/
def dbt : State := { io with indoubt := [doubt] }
/-- INDOUBT_RESOLVE of it with an action. -/
def rsv (a : Nat) : State := r1 dbt 0x0209 (beBytes 4 3 ++ beBytes 4 0 ++ beBytes 8 9 ++ beBytes 1 a ++ List.replicate 7 0)
/-- ROUTE_SWITCH of Route 0 to an engine. -/
def toEng (e : Nat) : State := rung io 512 0x020C (beBytes 1 0 ++ beBytes 1 e ++ beBytes 6 0)

theorem witness_SubchannelJournalAndRouteCommands_journal :
    (let s := r1 (rc 5) 0x0207 (beBytes 4 3 ++ beBytes 4 0 ++ beBytes 8 1)
     s.takes cmdJournalQuery 1 false ∧ (s.sub 3).live = true ∧ s.arg 1 8 8 = 1 ∧ 1 < (s.sub 3).nextWsn ∧ s.findRec 3 1 = some (rec1 5 id)) ∧
    (let s := r1 dbt 0x0208 (beBytes 2 1 ++ beBytes 2 0 ++ beBytes 4 3 ++ beBytes 8 0)
     s.takes cmdIndoubtList 1 false ∧ (s.doubtList (s.arg 1 0 2) (s.arg 1 4 4)).filter (fun r => decide (s.arg 1 8 8 < r.doubtNo)) = [doubt]) ∧
    (∀ a ∈ [1, 2, 3], let s := rsv a; let u := (s.begun 1 false).purgeDoubt; let q := s.mreq 1; let all := u.indoubt ++ (u.sub 3).slots.map (·.2)
      s.takes (cmdResolve a) 1 false ∧ s.arg 1 0x10 1 = a ∧ all.find? (fun r => r.state != 6 && r.sc == 3 && r.resolveSeq == q.seq && r.resolveWin == q.w && r.resolveSeq != 0) = none ∧
      all.find? (namedRec q) = some doubt ∧ doubt.inst = 1 ∧ (u.sub 3).live = true ∧ (u.sub 3).inst = doubt.inst ∧ (u.sub 3).incarn = doubt.incarn ∧ (u.sub 3).slots.find (doubt.wsn % (u.sub 3).depth) = none) ∧
    (let s := rung io 512 0x020A (beBytes 1 1 ++ beBytes 7 0); s.takes cmdLoginQuery 512 false ∧ s.arg 512 0 1 = 1) ∧
    (rung io 512 0x020B (beBytes 8 0)).takes cmdRouteStatus 512 false ∧
    ((toEng 0).takes cmdRouteSwitch 512 false ∧ ((toEng 0).engine ((toEng 0).arg 512 1 1)).state = 1 ∧ ((toEng 0).route 0).win = none) ∧
    ((toEng 1).takes cmdRouteSwitch 512 false ∧ ((toEng 1).engine ((toEng 1).arg 512 1 1)).state = 3 ∧ ((toEng 1).route 0).win = none ∧ ((toEng 1).route 0).switching = none ∧ (toEng 1).inPhase 0 = false) := by
  and_intros <;> decide +kernel

/-! ### Cipher and Deflate Units -/

/-- Ring 4 of instance 1 with one entry at 0x3000, and page 0 keyed. -/
def cph : State :=
  { holding (cpu 0 {}) [(0x600, int (2 ^ 56 + 2 ^ 48 + 1)), (0x601, int 0x4000), (0x602, int 0x5000), (0x603, int 7), (0x604, int 0), (0x605, int 0), (0x606, int 0), (0x607, int 0), (0x800, int 1), (0x801, int 2)] with
    rings := [(4, { live := true, inst := 1, kind := 0, log2 := 2, sq := 0x3000, cq := 0x8000, sqTail := 1 })]
    pages := [(0, { state := 2, inst := 1, perm := 31, keylen := 1, key := List.replicate 16 0 })] }
/-- The request of that entry. -/
def q1 : Req := (okVal (cph.engWords 1 0 0x3000 8)).elim {} (entryReq (cph.ring 4) 4 0)
/-- Unit 2 with the request waiting. -/
def wq : State := { cph with bcus := [(2, { waiting := some q1 })] }
/-- Unit 2 with the request running on its input. -/
def rn : State := { cph with bcus := [(2, { running := some { q1 with input := (okVal (wq.engRead 1 0 0x4000 16)).getD [], key := List.replicate 16 0, stamp := 1000 } })] }
/-- A transform of two segments in unit 2. -/
def inReq : Req := { src := 3, sc := 3, wsn := 1, left := 131072, inst := 1, key := List.replicate 16 0 }
/-- s with that transform running. -/
def inl (s : State) : State := { s with bcus := [(2, { running := some inReq })] }
/-- A WRITE with cipher transform. -/
def wrRec (r : JRec) : JRec := { r with cmds := [{ rdCmd with code := 2, flags := 128, xf := some (0, 255, 0, 0) }] }

theorem witness_CipherRequestsRunToRelease :
    (cph.runs = true ∧ (cph.ring 4).live = true ∧ cph.doorOpen 4 = true ∧ 3 % 65536 < (cph.ring 4).depth) ∧
    ((cph.ring 4).kind = 0 ∧ (cph.ring 4).sqHead ≠ (cph.ring 4).sqTail ∧ cph.resetting 1 = false ∧
      (okVal (cph.engWords 1 0 0x3000 8)).map (fun e => (cipherForm e, fld e 1 1 % 4)) = some (true, 1) ∧ (cph.inst 1).requests < (cph.inst 1).reqLimit ∧ cph.reqHeld q1 = true) ∧
    (wq.runs = true ∧ (wq.bcu 2).serves = true ∧ (wq.bcu 2).running = none ∧ (wq.bcu 2).waiting = some q1 ∧ q1.src = 0 ∧ q1.stamp = 0 ∧ q1.guard = false ∧ wq.pageServes q1.inst 0 q1.page = true ∧
      (wq.page q1.page).state = 2 ∧ bit (wq.page q1.page).perm 5 = false ∧ (okVal (wq.engRead q1.inst 0 q1.from_ q1.len)).map (·.length) = some 16) ∧
    (rn.runs = true ∧ ((rn.bcu 2).running.map (fun q => (q.src, rn.engRange q.inst 0 q.to_ q.len))) = some (0, true) ∧ (rn.bcu 2).inject = false) ∧
    ((inl io).runs = true ∧ ((inl io).bcu 2).running = some inReq ∧ inReq.src = 3 ∧ 65536 < inReq.left ∧ (inl io).jrec 3 1 = none ∧ (inl io).segReady inReq = false) ∧
    ((inl (rc 3 wrRec)).jrec 3 1 = some (rec1 3 wrRec) ∧ (rec1 3 wrRec).cmd.isOut = true ∧ ((inl (rc 3 wrRec)).bcu 2).waiting = none) ∧
    (cph.bcu 2).state = 1 ∧ (cph.page 0).state = 2 ∧ cph.bcuReqs = [] ∧ cph.subchs = [] := by
  and_intros <;> decide +kernel

/-- A compression of 16 bytes. -/
def dq : Req := { src := 1, ring := 4, inst := 1, op := 1, len := 16, cap := 64, from_ := 0x4000, to_ := 0x5000, wbits := 15, verify := true }
/-- Deflate Unit 2 with a request waiting. -/
def df (q : Req) : State := { cph with dfus := [(2, { waiting := some q })] }
/-- Deflate Unit 2 with the compression running. -/
def dr : State := { cph with dfus := [(2, { running := some { dq with stamp := 1 } })] }

theorem witness_DeflateRequestsRunToCompletion :
    ((df dq).runs = true ∧ ((df dq).dfu 2).serves = true ∧ ((df dq).dfu 2).running = none ∧ ((df dq).dfu 2).waiting = some dq ∧ dq.stamp = 0 ∧ dq.dict = 0xFF) ∧
    (let q := { dq with dict := 3 }; ((df q).dfu 2).waiting = some q ∧ q.dict ≠ 0xFF ∧ (df q).dictOf q.inst q.dict = none) ∧
    (dr.runs = true ∧ (dr.dfu 2).running = some { dq with stamp := 1 } ∧ (dr.engPrefix 1 0 17 0x4000 16).2 = 0 ∧ dq.op = 1 ∧ (dr.dfu 2).inject = false ∧ dq.verify = true ∧ dq.misses = 0) ∧
    (dr.dfu 2).state = 1 := by
  and_intros <;> decide +kernel

/-- The output of a compression is free (log entry 9), but no longer than the buffer, and every byte of the buffer is within reach. -/
theorem witness_DeflateRequestsRunToCompletion_output :
    let b := (dr.engPrefix 1 0 17 0x4000 16).1
    let o := (deflateOut { dq with stamp := 1 } b).1.length
    (dr.onDfu 2 (fun u => { u with running := none, work := u.work + b.length })).engReach 1 0 0x5000 o = o := by
  have h : ∀ k, k < 65 → (dr.onDfu 2 (fun u => { u with running := none, work := u.work + (dr.engPrefix 1 0 17 0x4000 16).1.length })).engReach 1 0 0x5000 k = k := by
    decide +kernel
  exact h _ (Nat.lt_succ_of_le (List.length_take_le 64 _))

/-- Instance 1 may hold three pages. -/
def cp2 : State := cph.onInst 1 (fun x => { x with cpages := 3 })

theorem witness_CipherPagesRingsAndDictionaries_pages :
    (let s := r1 cp2 0x0300 (beBytes 2 0 ++ beBytes 1 5 ++ beBytes 5 0)
     s.takes cmdCpageAlloc 1 false ∧ s.arg 1 0 2 = 0 ∧ s.pages.find? (fun x => x.2.state != 0 && x.2.allocSeq == some ((s.win 1).reqSeq, 1)) = none ∧ s.pagesHeld 1 < (s.inst 1).cpages ∧
      (List.range 4096).find? (fun n => (s.page n).state == 0) = some 1) ∧
    (let s := r1 cp2 0x0302 (beBytes 2 0 ++ beBytes 1 1 ++ beBytes 1 0 ++ beBytes 4 5 ++ beBytes 8 0x4000)
     s.takes cmdCpageKeyWrite 1 false ∧ ((s.begun 1 false).keyAt 1 (s.arg 1 8 8) (s.arg 1 2 1 + 1)).isSome = true ∧ (s.page 0).encl = 0 ∧ (s.page 0).gen < s.arg 1 4 4) ∧
    (let s := r1 cp2 0x0303 (beBytes 8 0); s.takes cmdCpageKeyErase 1 false ∧ (s.page 0).state = 2 ∧ (s.page 0).inflight = 0 ∧ s.bcuReqs = [] ∧ s.subchs = []) ∧
    (let s := r1 cp2 0x0301 (beBytes 8 0); s.takes cmdCpageFree 1 false ∧ (s.page 0).state = 2 ∧ (s.page 0).inflight = 0 ∧ s.bcuReqs = [] ∧ s.subchs = []) ∧
    (r1 cp2 0x0304 (beBytes 8 0)).takes cmdCpageQuery 1 false ∧ (r1 cp2 0x0305 (beBytes 2 0 ++ beBytes 1 9 ++ beBytes 5 0)).takes cmdCpagePermSet 1 false := by
  and_intros <;> decide +kernel

theorem witness_CipherPagesRingsAndDictionaries_rings :
    (let s := r1 cp2 0x0306 (beBytes 4 6 ++ beBytes 1 1 ++ beBytes 1 5 ++ beBytes 2 0 ++ beBytes 8 0x9000 ++ beBytes 8 0xA000 ++ beBytes 8 0x10002 ++ beBytes 8 0)
     s.takes cmdCringCreate 1 false ∧ (s.sub 6).live = false ∧ (s.ring 6).live = false ∧ s.arg 1 4 1 = 1) ∧
    (let s := r1 cp2 0x0307 (beBytes 4 4 ++ beBytes 4 0); s.takes cmdCringDestroy 1 false ∧ (s.ring 4).live = true ∧ s.ringBusy 4 = false) ∧
    (let s := r1 cp2 0x0308 (beBytes 1 2 ++ beBytes 3 0 ++ beBytes 4 16 ++ beBytes 8 0x4000)
     s.takes cmdDictLoad 1 false ∧ s.dictOf 1 2 = none ∧ (okVal ((s.begun 1 false).engRead 1 0 (s.arg 1 8 8) (s.arg 1 4 4))).map (·.length) = some 16) ∧
    (r1 { cp2 with dicts := [(66, [1#8])] } 0x0309 (beBytes 1 2 ++ beBytes 7 0)).takes cmdDictFree 1 false ∧
    (let s := r1 cp2 0x030A []; s.takes cmdDictQuery 1 false ∧ ∀ k, k < 64 → s.dictOf 1 k = none) ∧
    (rung cp2 512 0x030B []).takes cmdCipherUnitStatus 512 false := by
  and_intros <;> decide +kernel
/-! ### Enclaves, holds, health, the Logbook, configuration, firmware, pins and power -/

/-- Enclave 1 of instance 1 in a state, with three granules. -/
def encl (st : Nat) : State :=
  { base with
    encls := [(4097, { state := st, threads := 1, evba := 0x10000, esa := 0x20000 })]
    emap := [(1, { code := true, write := false, inst := 1, encl := 1, iaddr := 1 }), (2, { code := false, write := true, inst := 1, encl := 1, iaddr := 2 }), (3, { code := false, write := true, inst := 1, encl := 1, iaddr := 3 })] }
/-- Enclave 1 in the first word of a body. -/
def b1e : List Byte := beBytes 2 1 ++ beBytes 6 0

theorem witness_EnclaveCommands :
    (let s := r1 base 0x0400 (beBytes 1 1 ++ beBytes 7 0 ++ beBytes 8 0x10000 ++ beBytes 8 0x20000 ++ beBytes 8 0)
     s.takes cmdEnclCreate 1 false ∧ s.encls = [] ∧ ((List.range 4095).map (· + 1)).find? (fun n => (s.encl 1 n).state == 0) = some 1) ∧
    (let s := r1 (encl 1) 0x0401 (beBytes 2 1 ++ beBytes 1 4 ++ beBytes 5 0 ++ beBytes 8 0x40000)
     s.takes cmdEnclAddGranule 1 false ∧ s.arg 1 0 2 = 1 ∧ s.enclNamed 1 1 = true ∧ (s.begun 1 false).instStage 1 0 (s.arg 1 8 8) false = .mem 0x40000 ∧ s.emap.find (0x40000 / 65536) = none ∧
      bit (s.arg 1 2 1) 0 = false ∧ bit (s.arg 1 2 1) 1 = false) ∧
    (let s := r1 (encl 1) 0x0402 (b1e ++ beBytes 8 0x30000)
     s.takes cmdEnclRemoveGranule 1 false ∧ (s.emap.find? (fun p => p.2.inst == 1 && p.2.encl == 1 && p.2.iaddr == s.arg 1 8 8 / 65536)).isSome = true ∧ (s.encl 1 1).needs (s.arg 1 8 8 / 65536) = false) ∧
    (let s := r1 (encl 1) 0x0403 b1e; s.takes cmdEnclFinalise 1 false ∧ (s.encl 1 1).state = 1 ∧ s.finalOk 1 1 = true ∧ s.enclPages 1 1 = []) ∧
    (let s := r1 (encl 2) 0x0404 b1e; s.takes cmdEnclDestroy 1 false ∧ (s.encl 1 1).bound = []) ∧
    (let s := r1 (encl 2) 0x0406 (b1e ++ List.replicate 64 3); s.takes cmdEnclAttest 1 false ∧ (s.encl 1 1).state = 2) ∧
    (let s := r1 (encl 2) 0x0405 (beBytes 2 1 ++ beBytes 2 1 ++ beBytes 4 0); s.takes cmdEnclQuery 1 false ∧ s.enclNamed (s.arg 1 0 2) (s.arg 1 2 2) = true) := by
  and_intros <;> decide +kernel

/-- Core 0 with its enclave ways on or off. -/
def waysOn (b : Bool) : State := base.onPCore 0 (fun c => { c with enclWays := b })
/-- ENCL_CORE_ENABLE of core 0. -/
def bCore (on : Nat) : List Byte := beBytes 2 0 ++ beBytes 1 on ++ beBytes 5 0
/-- A gating put off to a time, of a block of a kind. -/
def deferral (k n t : Nat) : Deferred := { kind := k, number := n, mode := 1, end_ := t, win := 512, code := 0x0703, seq := 9 }
/-- Deflate Unit 2 held by a request of an enclave. -/
def dfr : State := { base with deferred := [deferral 3 2 5000], dfus := [(2, { running := some { src := 1, encl := 1 } })] }
/-- The gating of core 0 put off. -/
def dfc (t : Nat) : State := { base with deferred := [deferral 1 0 t] }

theorem witness_HoldsAndDebugEnables :
    (let s := rung (waysOn true) 512 0x0407 (bCore 0); s.takes cmdEnclCoreEnable 512 false ∧ s.arg 512 2 1 = 0 ∧ s.coreUsers 0 = 0) ∧
    (let s := rung (waysOn true) 512 0x0407 (bCore 1); s.takes cmdEnclCoreEnable 512 false ∧ s.arg 512 2 1 = 1 ∧ s.enclCore 0 = true) ∧
    (let s := rung (waysOn false) 512 0x0407 (bCore 1); s.takes cmdEnclCoreEnable 512 false ∧ s.arg 512 2 1 = 1 ∧ s.enclCore 0 = false) ∧
    (let s := rung base 512 0x0408 (beBytes 1 1 ++ beBytes 7 0); s.takes cmdHoldQuery 512 false ∧ s.arg 512 0 1 = 1) ∧
    (dfr.runs = true ∧ dfr.deferred.find? (fun d => d.kind == 3 && d.number == 2) = some (deferral 3 2 5000) ∧ 0 < dfr.holdUsers 3 2) ∧
    (∀ t ∈ [1000, 1001], (dfc t).runs = true ∧ (dfc t).deferred.filter (fun d => d.kind == 1 && d.number == 0) = [deferral 1 0 t] ∧ (dfc t).holdUsers 1 0 = 0) ∧ base.now = 1000 ∧
    (rung base 512 0x0A00 (beBytes 1 3 ++ beBytes 7 0)).takes cmdDebugEnableSet 512 false ∧ (rung base 512 0x0A01 []).takes cmdDebugEnableGet 512 false := by
  and_intros <;> decide +kernel

/-- Physical core 0 at work, 2 and 19 Outriders. -/
def withOutriders : State := { base with pcores := [(0, { role := 1 }), (2, { role := 2, test := 1 }), (19, { role := 2, test := 1 })] }
/-- ERROR_INJECT of kind 7 into Block Cipher Unit 2. -/
def inj (b : Bool) : State := rung { base with dbgInv := b } 512 0x0A02 (beBytes 1 7 ++ beBytes 3 0 ++ beBytes 4 (7 * 256 + 2) ++ beBytes 8 0)
/-- Two injections waiting, and an active engine. -/
def ij (k u : Nat) : State := { base with log := { base.log with inject := [(1, 256, 0), (k, u, 0)] }, engines := [(0, { state := 1 }), (1, { state := 3 })] }

theorem witness_HealthUnitsAndInjectedFaults :
    (rung base 512 0x0503 (beBytes 1 7 ++ beBytes 1 0 ++ beBytes 2 2 ++ beBytes 2 3 ++ beBytes 2 0)).takes cmdHealthGet 512 false ∧ (rung base 512 0x0504 []).takes cmdSpareStatus 512 false ∧
    (let s := rung withOutriders 512 0x0505 (beBytes 8 0)
     s.takes cmdCoreSpare 512 false ∧ s.ranUnder 0x0505 (s.mreq 512) = none ∧ (s.core 0).retired = false ∧ (s.core 0).sparing = none ∧ (s.core 0).reset = none ∧ (s.pickOutrider (s.core 0).phys).isSome = true) ∧
    (let s := rung withOutriders 512 0x0506 (beBytes 4 (256 + 19) ++ beBytes 4 0)
     s.takes (cmdSelftestRun true 77) 512 false ∧ s.takes (cmdSelftestRun false 77) 512 false ∧ s.arg 512 0 4 / 256 = 1 ∧ (s.pcore (s.arg 512 0 4 % 256)).role = 2) ∧
    (rung base 512 0x0507 (beBytes 1 4 ++ beBytes 1 0 ++ beBytes 2 3 ++ beBytes 4 0)).takes cmdWayStatus 512 false ∧ (rung base 512 0x0508 (beBytes 1 1 ++ beBytes 7 0)).takes cmdMemportStatus 512 false ∧
    (∀ b, (inj b).takes cmdErrorInject 512 false ∧ (inj b).arg 512 0 1 = 7 ∧ (inj b).arg 512 4 4 = 7 * 256 + 2 ∧ (inj b).ranUnder 0x0A02 ((inj b).mreq 512) = none ∧ (inj b).dbgInv = b ∧
      (inj b).einvOk 7 (7 * 256 + 2) 0 = true ∧ (injectClasses 7).contains ((7 * 256 + 2) / 256) = true) ∧
    ((ij 7 (7 * 256 + 2)).runs = true ∧ (ij 7 (7 * 256 + 2)).log.inject[1]? = some (7, 7 * 256 + 2, 0) ∧ (ij 8 (8 * 256 + 2)).log.inject[1]? = some (8, 8 * 256 + 2, 0) ∧
      (ij 5 (6 * 256)).log.inject[1]? = some (5, 6 * 256, 0) ∧ (ij 5 (6 * 256)).activeEng (6 * 256 % 256 / 2) = some 0) := by
  and_intros <;> decide +kernel

/-- A device whose Logbook holds a record. -/
def lg : State := base.logRec 0x11 7 [1, 2]

theorem witness_LogbookCommandsAndHours :
    (rung base 512 0x0600 []).takes cmdLogInfo 512 false ∧
    (let s := rung lg 512 0x0601 (beBytes 1 1 ++ beBytes 3 0 ++ beBytes 4 1 ++ beBytes 8 0)
     s.takes cmdLogRead 512 false ∧ s.arg 512 4 4 = 1 ∧ (s.log.events.reverse.dropWhile (fun r => decide (r.lseq < s.arg 512 8 8))).length = 1 ∧ s.arg 512 0 1 = 1) ∧
    (rung lg 512 0x0602 (beBytes 1 7 ++ beBytes 1 0 ++ beBytes 2 0 ++ beBytes 2 2 ++ beBytes 2 0)).takes cmdLogCountersGet 512 false ∧
    (∀ k ∈ [1, 2], (rung lg 512 0x0603 (beBytes 1 k ++ beBytes 1 0 ++ beBytes 2 1 ++ beBytes 4 0)).takes cmdLogHistogramGet 512 false) ∧
    (let s := rung lg 512 0x0604 (List.replicate 0x58 65)
     s.takes cmdLogNote 512 false ∧ s.ranUnder 0x0604 (s.mreq 512) = none ∧ (s.log.notes.filter (fun t => decide (s.now < t + secT))).length < 16) ∧
    lg.tskUp = true := by
  and_intros <;> decide +kernel

/-- A start with nothing on the CXL ports. -/
def env0 : StartEnv := { cxl := [] }
/-- Core 0 with no task. -/
def idle : State := (({ base with ctxs := [] }).onCore 0 (fun c => { c with slot0 := none })).onInst 1 (fun x => { x with sets := [] })
/-- Core 0 in CORE_RESET since 500, its chain still active or not. -/
def crs (b : Bool) : State := idle.onCore 0 (fun c => { c with reset := some (512, 1, 500, b) })

theorem witness_ResetsAndGatesOfBlocks :
    (rung base 512 0x0700 []).takes (cmdSystemReset 2 env0) 512 false ∧
    (let s := rung idle 512 0x0701 (beBytes 8 0)
     s.takes cmdCoreReset 512 false ∧ s.ranUnder 0x0701 (s.mreq 512) = none ∧ (s.core 0).reset = none ∧ (s.core 0).retired = false ∧ (s.core 0).sparing = none ∧ s.holdUsers 1 0 = 0 ∧
      s.coreIdle 0 = true ∧ s.busySets 0 = [] ∧ (s.core 0).wb = []) ∧
    (∀ b, (crs b).runs = true ∧ ((crs b).core 0).reset = some (512, 1, 500, b) ∧ ((crs b).core 0).hints = []) ∧
    (let s := rung { base with bcus := [(2, { state := 2 })] } 512 0x0702 (beBytes 4 (7 * 256 + 2) ++ beBytes 4 0)
     s.takes (cmdEngineReset true 44) 512 false ∧ s.arg 512 0 4 = 7 * 256 + 2 ∧ s.ranUnder 0x0702 (s.mreq 512) = none ∧ s.holdUsers 2 2 = 0 ∧ (s.bcu 2).state = 2 ∧ (s.bcu 2).running = none) ∧
    (let s := rung idle 512 0x0703 (beBytes 1 1 ++ beBytes 1 1 ++ beBytes 2 0 ++ beBytes 4 0)
     s.takes cmdBlockGate 512 false ∧ s.arg 512 0 1 = 1 ∧ s.gatedOf 1 0 = 0 ∧ s.holdUsers 1 0 = 0 ∧ s.hasSets 0 = false) ∧
    (let s := rung base 512 0x0703 (beBytes 1 2 ++ beBytes 1 2 ++ beBytes 2 3 ++ beBytes 4 0)
     s.takes cmdBlockGate 512 false ∧ s.arg 512 0 1 = 2 ∧ s.gatedOf 2 3 = 0 ∧ s.holdUsers 2 3 = 0 ∧ (s.bcu 3).running = none ∧ (s.bcu 3).waiting = none ∧ s.bcuPool = []) ∧
    (let s := rung { base with dfus := [(3, { gated := 1 })] } 512 0x0704 (beBytes 1 3 ++ beBytes 1 0 ++ beBytes 2 3 ++ beBytes 4 0)
     s.takes (cmdBlockUngate true 8) 512 false ∧ s.arg 512 0 1 = 3 ∧ (s.dfu (s.arg 512 2 2)).gated = 1 ∧ s.ranUnder 0x0704 (s.mreq 512) = none) := by
  and_intros <;> decide +kernel

theorem witness_ResetsAndGatesOfBlocks_pend : ∀ j, ((crs false).ctx 0 j).regs.pend = 0 := no_pend _ (by decide +kernel) 0

/-- A P-384 public key, uncompressed: that of the private key 0x1234567890abcdef1234567890abcdef. -/
def pubKey : List Byte := beBytes 49 0x04bfd152465458e5b9f1a903eafef03095ebfd52c5f9ea97be74de9194355fcfb40ec097315adf6afdefba21f44b625b48 ++ beBytes 48 0x17058eff9a1ad175a4675e9c730cb028ec76aec544f7a56d58164d8cfc0402b489c4e74c918dc3a77f5c219d31b8e245
/-- A decode image of slot 5 with one micro-operation (an ADD), its signature not yet in place (Table 04-12). -/
def imgBody : List Byte :=
  beBytes 4 0x4F445431 ++ beBytes 2 1 ++ beBytes 1 5 ++ beBytes 1 2 ++ ascii "TESTROUT" ++ beBytes 2 2 ++ beBytes 2 2 ++ beBytes 2 0 ++ beBytes 1 1 ++ List.replicate 41 0 ++
    beBytes 4 (enc 1 1 2 3 0) ++ List.replicate 1020 0 ++ pubKey ++ List.replicate 7 0
/-- The image with its ECDSA P-384 signature, made outside Lean. -/
def img : List Byte :=
  imgBody ++ beBytes 48 0xe86b995e350e4d312a95a6b7d5d8cdcdb4682f588800a1cd6c972e1dcb2a5ac38d90046951b03ccb3b179a89fda88b1b ++
    beBytes 48 0x016697e0bb0d304595af90b9870f787ba917d3ab59227c2a7a33e7d5f11b42c78331cfec17f0fe91c836bd5faf3156de
/-- A TSK patch of version 3 with its signature, made outside Lean (Table 15-5). -/
def fwImg : List Byte :=
  beBytes 4 0x4F465731 ++ beBytes 4 0x02000000 ++ beBytes 4 3 ++ beBytes 4 0x108 ++ List.replicate 48 0 ++ pubKey ++ List.replicate 7 0 ++
    beBytes 48 0xe86b995e350e4d312a95a6b7d5d8cdcdb4682f588800a1cd6c972e1dcb2a5ac38d90046951b03ccb3b179a89fda88b1b ++
    beBytes 48 0x9770a40d32b5b211cfc4dcb1a63ec1e22553eceb39af3b0d801233a6b6f46a358f01fed7f2bbf6d4e6370da5352750f8

/-- A reset configuration of GEN 5 with a given Manager and CRC (Table 15-6). -/
def cfg (mgr crc : Nat) : List Byte :=
  let d := fun (real gib fl off : Nat) => beBytes 8 real ++ beBytes 4 gib ++ beBytes 1 0 ++ beBytes 1 1 ++ beBytes 1 fl ++ beBytes 1 0 ++ beBytes 8 off ++ beBytes 8 off
  let h := beBytes 4 0x4F524331 ++ beBytes 2 1 ++ beBytes 2 mgr ++ beBytes 2 4 ++ beBytes 4 0 ++ beBytes 1 1 ++ beBytes 1 8 ++ beBytes 4 16 ++ beBytes 4 0 ++ beBytes 4 64 ++ beBytes 4 0 ++
    beBytes 8 2 ++ beBytes 8 (64 * gibB)
  let t := beBytes 8 0 ++ d 0 16 1 0 ++ d (64 * gibB) 8 0 (16 * gibB) ++ List.replicate 1984 0
  h ++ beBytes 4 crc ++ beBytes 4 5 ++ t
/-- The configuration with Manager 1, with its CRC-32C. -/
def cfgA : List Byte := cfg 1 4127251767
/-- The configuration with Manager 7, with its CRC-32C. -/
def cfgB : List Byte := cfg 7 1995530302
/-- A device with a stored copy and a staging copy. -/
def cf (g : List Byte) : State := { base with fw := { base.fw with cfg0 := cfgA, staging := g } }
/-- RESET_CONFIG COMMIT of a staging copy with a CRC. -/
def cm (g : List Byte) (crc : Nat) : State := rung (cf g) 512 0x0706 (beBytes 1 3 ++ beBytes 7 0 ++ beBytes 4 crc ++ beBytes 4 0)
/-- An operation of RESET_CONFIG over the stored copy. -/
def rcfg (b : List Byte) : State := rung (cf cfgA) 512 0x0706 b

theorem witness_ConfigurationAndDecodeTableCommands_takes :
    (let s := rung base 512 0x0705 (beBytes 8 999999); s.takes cmdTodSet 512 false ∧ s.ranUnder 0x0705 (s.mreq 512) = none ∧ s.relay.sync ≠ 1 ∧ s.relay.sync ≠ 2 ∧ s.now < 2 ^ 64) ∧
    (rcfg (beBytes 1 1 ++ beBytes 7 0 ++ bytesAt cfgB 0 0x40)).takes cmdCfgHeader 512 false ∧ (rcfg (beBytes 1 2 ++ beBytes 1 0 ++ beBytes 2 3 ++ beBytes 4 0 ++ bytesAt cfgB 0x60 32)).takes cmdCfgDescriptor 512 false ∧
    ((cm cfgA 4127251767).takes cmdCfgCommit 512 false ∧ (cm cfgA 4127251767).arg 512 8 4 = 4127251767) ∧ ((cm cfgB 1995530302).takes cmdCfgCommit 512 false ∧ (cm cfgB 1995530302).arg 512 8 4 = 1995530302) ∧
    (rcfg (beBytes 1 4 ++ beBytes 7 0)).takes cmdCfgReadHeader 512 false ∧
    (rcfg (beBytes 1 5 ++ beBytes 1 0 ++ beBytes 2 1 ++ beBytes 4 0)).takes cmdCfgReadDescriptor 512 false ∧ (rcfg (beBytes 1 6 ++ beBytes 7 0)).takes cmdCfgDiscard 512 false := by
  and_intros <;> decide +kernel

/-- Both configurations have their CRC and are valid; they have the same SYSTEM descriptor and different contents. -/
theorem witness_ConfigurationAndDecodeTableCommands_copies :
    cfgCrc cfgA = 4127251767 ∧ cfgCrc cfgB = 1995530302 ∧ bytesAt cfgA 0 cfgLen = cfgA ∧ bytesAt cfgB 0 cfgLen = cfgB ∧ (cf cfgA).configOk cfgA = true ∧ (cf cfgB).configOk cfgB = true ∧
    (cf cfgA).configOk [] = false ∧ fld cfgA 0x30 4 = 4127251767 ∧ decide (cfgBody cfgA = cfgBody cfgB) = false ∧ sysDescr cfgA = sysDescr cfgB := by
  and_intros <;> decide +kernel

/-- The validity of a configuration depends on the state through its working cores alone. -/
theorem configOk_of_workCores (s t : State) (b : List Byte) (h : s.workCores = t.workCores) : s.configOk b = t.configOk b := by
  unfold State.configOk
  rw [h]

/-- The newest valid copy of s is the first one, where the second is empty. -/
theorem newestCopy_first (s : State) (b : List Byte) (h0 : s.fw.cfg0 = b) (h1 : s.fw.cfg1 = []) (hc : fld b 0x30 4 = cfgCrc b) (hb : s.configOk b = true) (he : s.configOk [] = false) :
    s.newestCopy = some (0, b) := by
  have a : s.copyOk b = true := by
    unfold State.copyOk
    rw [hc, hb, Bool.and_true, beq_self_eq_true]
  have c : s.copyOk [] = false := by
    unfold State.copyOk
    rw [he, Bool.and_false]
  unfold State.newestCopy
  rw [h0, h1, a, c]

/-- The newest valid copy is the first. -/
theorem witness_ConfigurationAndDecodeTableCommands_newest (b : List Byte) : (cf b).newestCopy = some (0, cfgA) := by
  obtain ⟨h1, -, -, -, h2, -, h3, h4, -⟩ := witness_ConfigurationAndDecodeTableCommands_copies
  exact newestCopy_first (cf b) cfgA rfl rfl (h4.trans h1.symm) ((configOk_of_workCores (cf b) (cf cfgA) cfgA rfl).trans h2) ((configOk_of_workCores (cf b) (cf cfgA) [] rfl).trans h3)

/-- The lines of the image at 0x9000, on their way from the Depot to memory. -/
def imgLines : List Evict :=
  (List.range 6).map (fun n => { la := 0x90 + n, dest := 5, unit := 0, line := (Vector.range 32).map (fun k => ⟨(words64 161 img).getD (32 * n + k) 0, Tag.int⟩), cls := 1 })
/-- The device with the image in memory at 0x9000. -/
def imgDev : State := { base with ms := { base.ms with evict := imgLines } }
/-- DECODE_LOAD of the image, with its key fused or not and a routine in slot 5. -/
def loadable (fused : Bool) (r : Tab Routine) : State :=
  rung { imgDev with
    fuses := { base.fuses with decodeKeys := if fused then [(sha384 pubKey, false)] else [] }
    decode := r } 512 0x0900 (beBytes 1 5 ++ beBytes 7 0 ++ beBytes 8 0x9000)

theorem witness_ConfigurationAndDecodeTableCommands_decode :
    ((loadable true []).takes cmdDecodeLoad 512 false ∧ (loadable true []).arg 512 0 1 = 5 ∧ (loadable true []).arg 512 8 8 = 0x9000 ∧ (loadable true []).decode.find 5 = none ∧
      (loadable true []).decodeKey img = true ∧ imageFields img 5 = true) ∧
    ((loadable false []).takes cmdDecodeLoad 512 false ∧ (loadable false []).decode.find 5 = none ∧ (loadable false []).decodeKey img = false) ∧
    (∀ d ∈ [sha384 img, []], (loadable true [(5, { image := img, digest := d })]).takes cmdDecodeLoad 512 false) ∧ sha384 img ≠ [] ∧
    (rung base 512 0x0901 (beBytes 1 5 ++ beBytes 7 0)).takes cmdDecodeUnload 512 false ∧ (rung base 512 0x0902 []).takes cmdDecodeQuery 512 false := by
  and_intros <;> decide +kernel

/-- What an engine reads does not depend on the mailbox, the Service Complex, the fuses and the decode table. -/
theorem engRead_of_memory (s : State) (w : Tab Window) (v : Svc) (f : Fuses) (d : Tab Routine) (i e a n : Nat) :
    ({ s with windows := w, svc := v, fuses := f, decode := d } : State).engRead i e a n = s.engRead i e a n := by
  have h : ∀ n a, ({ s with windows := w, svc := v, fuses := f, decode := d } : State).engWords i e a n = s.engWords i e a n := by
    intro n
    induction n with
    | zero => intro a; rfl
    | succ n ih =>
      intro a
      have hw : ({ s with windows := w, svc := v, fuses := f, decode := d } : State).engWord i e a = s.engWord i e a := rfl
      simp only [State.engWords, hw, ih]
  unfold State.engRead
  rw [h]

/-- The engine reads the image, in every one of those states. -/
theorem witness_ConfigurationAndDecodeTableCommands_image (f : Bool) (r : Tab Routine) : ((loadable f r).begun 512 false).engRead (loadable f r).mgr 0 0x9000 imageSize = .ok img := by
  have h : imgDev.engRead 1 0 0x9000 imageSize = .ok img := ok_of (by decide +kernel)
  let x := (loadable f r).begun 512 false
  exact (engRead_of_memory imgDev x.windows x.svc x.fuses x.decode 1 0 0x9000 imageSize).trans h

/-- The signature of the image verifies. -/
theorem witness_ConfigurationAndDecodeTableCommands_signed : imageSigned img = true := by decide +kernel
/-- A device whose second SFW slot was shipped good, with a TSK patch staged and its key fused. -/
def sf : State := { base with fw := { base.fw with shipped1 := true, tskStaged := fwImg }, fuses := { base.fuses with fwKeys := [(2, sha384 pubKey, false)] } }
/-- FW_ACTIVATE of SFW under way. -/
def fa : State := (sf.onSvc (fun v => { v with fwAct := some (512, 1, 0, 9000), fwReload := some 0 })).onSp 1 (fun x => { x with state := 5, slot := 1 })
/-- GPIO pin 3 claimed or not. -/
def gp (c : Nat) : State := { base with pins := { base.pins with gpio := [(3, { claim := c })] } }

theorem witness_FirmwareAndPinCommands :
    (let s := rung base 512 0x0707 (beBytes 1 2 ++ beBytes 3 0 ++ beBytes 4 8 ++ beBytes 8 77); s.takes cmdFwStage 512 false ∧ s.svc.fwAct = none ∧ s.arg 512 0 1 = 2) ∧
    (let s := rung sf 512 0x0708 (beBytes 1 2 ++ beBytes 7 0); s.takes cmdFwActivate 512 false ∧ s.arg 512 0 1 = 2 ∧ s.fwStatus 2 s.fw.tskStaged = stOk) ∧
    (let s := rung sf 512 0x0708 (beBytes 1 1 ++ beBytes 7 0)
     s.takes cmdFwActivate 512 false ∧ s.svc.holder = some 0 ∧ s.svc.fwAct = none ∧ s.ranUnder 0x0708 (s.mreq 512) = none ∧ s.slotStatus (1 - s.fw.pref) = stOk ∧ (s.sp (1 - 0)).state = 3) ∧
    (fa.runs = true ∧ fa.svc.fwAct = some (512, 1, 0, 9000) ∧ fa.svc.fwReload = some 0 ∧ (fa.sp (1 - 0)).state ≠ 3) ∧
    (let s := rung base 512 0x0709 (beBytes 1 1 ++ beBytes 7 0); s.takes cmdRefclkSelect 512 false ∧ s.clock.sel ≠ 1 ∧ (s.clock.ref 1).failed = false) ∧
    (let s := rung base 512 0x070A (beBytes 1 3 ++ beBytes 1 1 ++ beBytes 6 0); s.takes cmdGpioClaim 512 false ∧ (s.gpio 3).claim = 0 ∧ s.arg 512 1 1 ≠ 0) ∧
    (let s := rung (gp 1) 512 0x070B (beBytes 1 3 ++ beBytes 1 0 ++ beBytes 6 0); s.takes cmdGpioRelease 512 false ∧ (s.gpio 3).claim = 1) ∧
    (let s := rung (gp 1) 512 0x070C (beBytes 2 8 ++ beBytes 2 8 ++ beBytes 2 8 ++ beBytes 2 0); s.takes cmdGpioAccess 512 false ∧ ∀ k ∈ maskBits (s.arg 512 0 2) 16, (s.gpio k).claim = 1) ∧
    (let s := rung base 512 0x070D (beBytes 1 0 ++ beBytes 7 0); s.takes cmdPpsSourceSelect 512 false ∧ s.clock.ppsSource ≠ 0) ∧
    (rung base 512 0x070E []).takes cmdPowerStatus 512 false := by
  and_intros <;> decide +kernel

/-- The running device with PORST_N released. -/
def run : State := { base with pins := { base.pins with porst := false } }
/-- The device after reset with rail 3 out of its window. -/
def hld2 : State := State.reset.onRail 3 (fun r => { r with on := false })

theorem witness_ResetPinsHoldAndStartTheDevice :
    run.pins.porst = false ∧ (State.reset.phase = .held ∧ State.reset.pins.porst = true ∧ State.reset.pins.vstby = true ∧ State.reset.railsUp = true) ∧
    (hld2.phase = .held ∧ hld2.pins.porst = true ∧ hld2.pins.vstby = true ∧ hld2.railsUp = false ∧ hld2.pins.release = none) ∧
    ({ run with pins := { run.pins with vstby := false } } : State).pins.vstby = false ∧ run.awake = true ∧ ({ run with phase := .sysHeld } : State).phase = .sysHeld := by
  and_intros <;> decide +kernel

/-- A sensor at 130 °C. -/
def hot : State := { run with pins := { run.pins with temp := [(3, 1300)] } }

theorem witness_PowerTemperatureAndRails :
    run.awake = true ∧ run.clocked = true ∧ run.phase ≠ .held ∧ run.pins.thermtrip = false ∧ run.hottest.2 < 1300 ∧ (1300 ≤ hot.hottest.2 ∧ hot.phase ≠ .held ∧ hot.pins.thermtrip = false) := by
  and_intros <;> decide +kernel

/-- The task of set 0 with the writes of its group ended, and INV set or not. -/
def jt (b : Bool) : State := { run with dbgInv := b }.endGroup 0 0

theorem witness_TelemetryAndJtag :
    run.clocked = true ∧ run.pins.vstby = true ∧ State.reset.pins.porst = true ∧ State.reset.pins.vstby = true ∧
    (∀ b, (jt b).runs = true ∧ ((jt b).ctx 0 0).run ≠ .empty ∧ ((jt b).ctx 0 0).regs.encl = 0 ∧ (jt b).dbgInv = b) ∧ (jt true).endGroup 0 0 = jt true := by
  and_intros <;> decide +kernel

theorem witness_TelemetryAndJtag_pend : ∀ j, ((jt true).ctx 0 j).regs.pend = 0 := no_pend _ (by decide +kernel) 0
/-! ### The Relay -/

/-- Relay port 2, trained with device 1, changed. -/
def rp (f : RPort → RPort) : State :=
  base.onRelay (fun r => { r with ports := [(2, f { enabled := true, state := 2, lanes := 8, peer := 1, peerPort := 0, flight := 5 })], graph := [{ a := 0, pa := 2, b := 1, pb := 0 }] })
/-- Lock table 3 of this device. -/
def lt (l : Llt) : State := base.onRelay (fun r => { r with llts := [(3, l)], cache := [(3, 7), (4, 7)] })
/-- An operation of RELAY_ACCESS for device 9, instance 5 and table 3. -/
def acc (k : Nat) (l : Llt) : State := rung (lt l) 512 0x0805 (beBytes 1 k ++ beBytes 1 9 ++ beBytes 2 5 ++ beBytes 1 3 ++ beBytes 3 0)
/-- RELAY_PORT_SET of port 2. -/
def bPort (en : Nat) : List Byte := beBytes 1 2 ++ beBytes 1 en ++ beBytes 6 0

theorem witness_RelayCommandsAnswerAndConfigure :
    (rung base 512 0x0800 []).takes cmdRelayTopologyGet 512 false ∧
    (let s := rung base 512 0x0801 (bPort 1); s.takes cmdRelayPortSet 512 false ∧ s.arg 512 0 1 = 2 ∧ s.rlyEth 2 = false ∧ s.arg 512 1 1 = 1 ∧ (s.rport 2).enabled = false) ∧
    (let s := rung (rp (fun x => { x with state := 3 })) 512 0x0801 (bPort 0)
     s.takes cmdRelayPortSet 512 false ∧ s.rlyEth 2 = false ∧ s.arg 512 1 1 = 0 ∧ (s.rport 2).enabled = true ∧ (s.rport 2).carries = false) ∧
    (let s := rung (rp id) 512 0x0802 (beBytes 1 2 ++ beBytes 7 0); s.takes cmdRelayPortStatus 512 false ∧ s.rlyEth (s.arg 512 0 1) = false) ∧
    (let s := rung (lt { live := true, keys := [(7, { holds := [(1, 0, 0)] })] }) 512 0x0804 (beBytes 1 3 ++ beBytes 7 0)
     s.takes cmdLltDestroy 512 false ∧ (s.llt 3).live = true ∧ ∀ k ∈ (s.llt 3).keys, k.2.waits = []) ∧
    ((acc 1 { live := true }).takes cmdRelayAccessAllow 512 false ∧ ((acc 1 { live := true }).llt ((acc 1 { live := true }).arg 512 4 1)).live = true ∧ ((acc 1 { live := true }).mreq 512).pair ∉ ((acc 1 { live := true }).llt 3).allow) ∧
    ((acc 2 { live := true, allow := [(9, 5)] }).takes cmdRelayAccessRevoke 512 false ∧ ((acc 2 { live := true, allow := [(9, 5)] }).llt 3).live = true) ∧
    ((acc 3 {}).takes cmdRelayAccessMap 512 false ∧ ((acc 3 {}).mreq 512).table ∉ ((acc 3 {}).inst ((acc 3 {}).arg 512 2 2)).llts) ∧
    (acc 4 {}).takes cmdRelayAccessUnmap 512 false ∧ (rung base 512 0x0806 []).takes cmdTodSyncStatus 512 false := by
  and_intros <;> decide +kernel

/-- A SYSTEM region with a GiB for each byte that the device keeps there otherwise (log entry 12), and 64 more. -/
def bigRegion : Region := { real := 0, gib := Config.systemOther + 64, portA := 0, portB := none, sys := true, offA := 0, offB := 0 }
/-- LLT_CREATE of table 3 on such a device. -/
def roomy : State := rung { base with ms := { base.ms with regions := [bigRegion] } } 512 0x0803 (beBytes 1 3 ++ beBytes 1 10 ++ beBytes 2 0 ++ beBytes 4 5)

/-- A sum over one region. -/
theorem sum_one (f : Region → Nat) (r : Region) : ([r].map f).foldl (· + ·) 0 = f r := by
  simp only [List.map_cons, List.map_nil, List.foldl_cons, List.foldl_nil, Nat.zero_add]

/-- The SYSTEM bytes of a device with one region. -/
theorem systemBytes_one (s : State) (r : Region) (h : s.ms.regions = [r]) (hf : [r].filter (fun r => r.sys && r.ok) = [r]) : s.systemBytes = r.dataBytes := by
  unfold State.systemBytes
  rw [h, hf, sum_one]

/-- A request rung changes nothing of the memory system. -/
theorem rung_ms (s : State) (w c : Nat) (b : List Byte) : (rung s w c b).ms = s.ms := rfl

/-- The room that those 64 GiB give. -/
theorem room (x : Nat) : 0 * 2 ^ 20 + 0 + x + 98304 ≤ (x + 64) * 1073741824 / 8 * 7 := by omega

theorem witness_RelayCommandsAnswerAndConfigure_llt :
    roomy.takes cmdLltCreate 512 false ∧ roomy.arg 512 0 1 = 3 ∧ roomy.arg 512 1 1 = 10 ∧ (roomy.llt 3).live = false ∧ roomy.systemUsed + lltBytes 10 ≤ roomy.systemBytes := by
  refine ⟨by decide +kernel, by decide +kernel, by decide +kernel, by decide +kernel, ?_⟩
  have h : fld roomy.fw.inForce 0x10 4 = 0 := by decide +kernel
  have k : roomy.relay.llts = [] := by decide +kernel
  have l : lltBytes 10 = 98304 := by decide +kernel
  have g : gibB = 1073741824 := by decide +kernel
  have m : roomy.ms.regions = [bigRegion] := by rw [roomy, rung_ms]
  have b : bigRegion.gib = Config.systemOther + 64 := by rw [bigRegion]
  rw [systemBytes_one roomy bigRegion m (by rw [List.filter_cons]; rfl), Region.dataBytes, b, g, State.systemUsed, h, k, l]
  exact room _

/-- A bad frame. -/
def badFrame : RelayFrame := { ok := false }
/-- Relay port 2 down. -/
def dn : State := base.onRelay (fun r => { r with ports := [(2, { enabled := true, state := 3 })] })

theorem witness_RelayPortsTrainCarryAndLoseFrames :
    ((rp id).runs = true ∧ ((rp id).rport 2).state = 2 ∧ ({ fseq := 0 } : RelayFrame).ok = true ∧ ({ fseq := 0 } : RelayFrame).slots = [] ∧
      ({ fseq := 0 } : RelayFrame).fseq = (((rp id).rport 2).rxSeq + 1) % 65536 ∧ ((rp id).rport 2).out = []) ∧
    badFrame.ok = false ∧ ((rp (fun x => { x with rxBad := true })).rport 2).rxBad = true ∧ (((rp id).rport 2).rxBad = false ∧ ((rp id).rport 2).replayAt = []) ∧
    ((rp id).rport 2).badLanes = [] ∧ ((rp (fun x => { x with badLanes := [7] })).rport 2).badLanes = [3 + 4] ∧
    (dn.runs = true ∧ (dn.rport 2).enabled = true ∧ dn.rlyEth 2 = false ∧ (dn.rport 2).state = 3 ∧ (dn.rport 2).badLanes = [] ∧ dn.duplicate 2 1 0 = false) ∧
    (rp id).relay.master = (rp id).relay.self := by
  and_intros <;> decide +kernel

/-- A flit of task 0x10009 for key 7 of table 3. -/
def fl (ty arg res : Nat) : Flit := { type := ty, cls := 1, dst := 0, src := 0, llt := 3, tid := 0x10009, key := 7, arg := arg, result := res }
/-- Lock table 3 with a flit at port 4, behind one at another. -/
def fx (ty arg : Nat) (l : Llt) (res : Nat := 0) : State := (lt l).onRelay (fun r => { r with rx := [(6, { type := 9, cls := 2 }), (4, fl ty arg res)] })
/-- A live table with holds and waiters of key 7. -/
def hk (h : List (Nat × Nat × Nat)) (w : List (Nat × Nat × Nat × Nat × Nat) := []) : Llt := { live := true, log2 := 4, waitUs := 5, allow := [(0, 1)], keys := [(7, { holds := h, waits := w })] }
/-- A live table without keys. -/
def noKeys : Llt := { live := true, log2 := 4, allow := [(0, 1)] }
/-- A waiter whose limit of 5 µs has passed. -/
def waited : State := (lt (hk [(0x10008, 0, 0)] [(0x10009, 0, 0, 0, 1)])).onClock (fun c => { c with tod := 50000 })
/-- A hold of a device without a route. -/
def unreachable : State := (lt (hk [(0x10008, 9, 0)])).onRelay (fun r => { r with noRoute := [(9, 5)] })

theorem witness_LockTablesAndTheirFlits_tables :
    (∀ a ∈ [0, 1, 4, 5], (fx 1 a noKeys).runs = true ∧ firstFlit 4 1 [] (fx 1 a noKeys).relay.rx = some (fl 1 a 0) ∧ (fl 1 a 0).dst = (fx 1 a noKeys).relay.self ∧ (fl 1 a 0).src = (fx 1 a noKeys).relay.self ∧
      (fx 1 a noKeys).llt 3 = noKeys ∧ noKeys.allow.contains (0, 0x10009 / 65536) = true ∧ a % 4 < 2 ∧ noKeys.keys.find 7 = none ∧ noKeys.used < 2 ^ noKeys.log2) ∧
    (∀ a ∈ [0, 1], let s := fx 1 a (hk [(0x10008, 0, 0)]); firstFlit 4 1 [] s.relay.rx = some (fl 1 a 0) ∧ (s.llt 3).keys.find 7 = some { holds := [(0x10008, 0, 0)] } ∧ (s.llt 3).waiters < 2 ^ (s.llt 3).log2) ∧
    (let s := fx 1 2 (hk [(0x10009, 0, 1)]); firstFlit 4 1 [] s.relay.rx = some (fl 1 2 0) ∧ (s.llt 3).keys.find 7 = some { holds := [((fl 1 2 0).tid, (fl 1 2 0).src, 1)] }) ∧
    (let s := fx 4 0 (hk [(0x10008, 0, 0)] [(0x10009, 0, 0, 500, 1)]); firstFlit 4 4 [] s.relay.rx = some (fl 4 0 0) ∧ (s.llt 3).keys.find 7 = some { holds := [(0x10008, 0, 0)], waits := [(0x10009, 0, 0, 500, 1)] }) ∧
    (waited.runs = true ∧ (waited.llt 3).keys.find 7 = some { holds := [(0x10008, 0, 0)], waits := [(0x10009, 0, 0, 0, 1)] } ∧ 0 + (waited.llt 3).waitUs * usT ≤ waited.now) ∧
    (let s := fx 5 1 (hk [(0x10008, 0, 0), (0x20008, 0, 0)]); firstFlit 4 5 [] s.relay.rx = some (fl 5 1 0)) ∧
    (unreachable.runs = true ∧ unreachable.relay.noRoute.find 9 = some 5 ∧ unreachable.reaches 9 = false) := by
  and_intros <;> decide +kernel

/-- A probe of a task that is not resident, with a flit for it. -/
def an (ty res : Nat) : State := { fx ty 0 {} res with outcomes := [(0x10009, .probe 0 0 0 3 7 100 false 0 1)] }
/-- The address of register 8 of table 3 of this device. -/
def lltReg : Nat := devBase + 3 * 0x1000 + 8
/-- A store to that register, outstanding at the hub. -/
def ds : DevStore := { tid := 0x10009, kind := 3, num := 0, addr := lltReg, cls := 1 }
/-- A control write outstanding, and its CDATA. -/
def cd : State := { (fx 8 8 (hk [])).onRelay (fun r => { r with creqs := [(0x10009, 0, 3, 8, false)] }) with devStores := [ds] }
/-- A neighbour list of device 2, seen already or not. -/
def tp (b : Bool) : State := (lt {}).onRelay (fun r => { r with rx := [(4, { fl 11 9 0 with src := 2 })], seen := if b then [(2, 9)] else [] })
/-- A task with an unanswered probe to device 9, which no route reaches; queued or not. -/
def pb (b : Bool) : State := (on (fun c => { c with await := .probe 0 0 9 3 7 900 b 0 1 })).onRelay (fun r => { r with noRoute := [(9, 950)] })

theorem witness_LockTablesAndTheirFlits_flits :
    (∀ r ∈ [5, 0xB], (an 2 r).runs = true ∧ (an 2 r).whereTid 0x10009 = none ∧ (an 2 r).outcomes.getD 0x10009 .none = .probe 0 0 0 3 7 100 false 0 1 ∧ (an 2 r).probeLate (.probe 0 0 0 3 7 100 false 0 1) = false ∧ (fl 2 0 r).dst = (an 2 r).relay.self ∧
      0 + 4 * 0 = (fl 2 0 r).arg % 8 ∧ (fl 2 0 r).cls ≠ 0 ∧ firstFlit 4 2 [] (an 2 r).relay.rx = some (fl 2 0 r) ∧ (fl 2 0 r).result % 256 = r) ∧
    firstFlit 4 3 [] (an 3 5).relay.rx = some (fl 3 0 5) ∧ firstFlit 4 6 [] (fx 6 0x10 (hk [])).relay.rx = some (fl 6 0x10 0) ∧ firstFlit 4 7 [] (fx 7 8 (hk [])).relay.rx = some (fl 7 8 0) ∧
    (firstFlit 4 8 [] cd.relay.rx = some (fl 8 8 0) ∧ cd.relay.creqs = [(0x10009, 0, 3, 8, false)] ∧ cd.devStores = [ds] ∧ lltOf lltReg = (3, 8)) ∧
    firstFlit 4 9 [] (fx 9 0 (hk [])).relay.rx = some (fl 9 0 0) ∧ (firstFlit 4 0xA [] (fx 10 0 (hk [])).relay.rx = some (fl 10 0 0) ∧ (fx 10 0 (hk [])).whereTid 0x10009 = none) ∧
    ((fx 10 0 (hk [])).onCtx 0 5 (fun _ => { run := .ready, tid := 0x10009 })).whereTid 0x10009 = some (0, 5) ∧
    (∀ b, firstFlit 4 0xB [] (tp b).relay.rx = some { fl 11 9 0 with src := 2 } ∧ (2 : Nat) ≠ (tp b).relay.self ∧ (tp b).relay.seen.find 2 = (if b then some 9 else none)) ∧
    (∀ b, (pb b).runs = true ∧ (pb b).sentBy 0 0 = .probe 0 0 9 3 7 900 b 0 1 ∧ (pb b).relay.noRoute.find 9 = some 950 ∧ (pb b).reaches 9 = false) := by
  and_intros <;> decide +kernel
/-! ### Instructions

A witness of a statement about instructions is a state whose set 0 of core 0 issues the instruction, and in which the other conditions of its clause hold. `Begins` says so; the conditions on the state the fetch leaves are a computation that answers true. -/

/-- The instruction a set issues, with its word and mode, and the state its fetch leaves. -/
def issued (s : State) (core set : Nat) : Option (State × Ins × Nat × Nat) :=
  if s.canIssue core set && !s.overdue core set && !s.atGate core set && (s.dueFault core set).isNone then
    (match s.front core set with
     | (u, .ok x) => some (u, x)
     | _ => none)
  else none

/-- What issued shows starts. -/
theorem starts_of {s u : State} {core set w am : Nat} {i : Ins} (h : issued s core set = some (u, i, w, am)) : s.starts core set u i w am := by
  unfold issued at h
  split at h
  · rename_i hc
    simp only [Bool.and_eq_true, Bool.not_eq_true', Option.isNone_iff_eq_none] at hc
    split at h
    · rename_i v x hf
      cases h
      exact ⟨⟨hc.1.1.1, hc.1.1.2, hc.1.2, hc.2⟩, hf⟩
    · cases h
  · cases h

/-- The address of the next instruction is n. -/
def nextIs (u : State) (core set am n : Nat) : Bool :=
  okVal (u.formAddr core (u.ctx core set).inst (u.ctx core set).regs.her am 2 (u64 ((u.ctx core set).regs.pc.toNat + 4))) == some n
/-- What nextIs computes follows. -/
theorem follows_of {u : State} {core set am n : Nat} (h : nextIs u core set am n = true) : u.follows core set am n := ok_of (eq_of_beq h)

/-- The operand tags are accepted. -/
def tagsOk (her : Bool) (l : List Opd) : Bool := okVal (checkTags her l) == some ()
/-- What tagsOk computes is accepted. -/
theorem tags_of {her : Bool} {l : List Opd} (h : tagsOk her l = true) : checkTags her l = .ok () := ok_of (eq_of_beq h)

/-- The set issues instruction i, the next instruction follows, and p holds of the state the fetch leaves, its registers, the mode and the next address. -/
def Begins (s : State) (core set : Nat) (i : Ins) (p : State → Regs → Nat → Nat → Bool) : Prop :=
  ∃ u w am n, s.starts core set u i w am ∧ u.follows core set am n ∧ p u (u.ctx core set).regs am n = true

/-- The computation of Begins. -/
def begins (s : State) (core set : Nat) (i : Ins) (p : State → Regs → Nat → Nat → Bool) : Bool :=
  match issued s core set with
  | some (u, j, _, am) =>
    decide (j = i) && (match okVal (u.formAddr core (u.ctx core set).inst (u.ctx core set).regs.her am 2 (u64 ((u.ctx core set).regs.pc.toNat + 4))) with
      | some n => p u (u.ctx core set).regs am n
      | none => false)
  | none => false

/-- What begins computes begins. -/
theorem begins_of {s : State} {core set : Nat} {i : Ins} {p : State → Regs → Nat → Nat → Bool} (h : begins s core set i p = true) : Begins s core set i p := by
  unfold begins at h
  split at h
  · rename_i u j w am hi
    simp only [Bool.and_eq_true, decide_eq_true_eq] at h
    obtain ⟨rfl, h⟩ := h
    split at h
    · rename_i n hn
      exact ⟨u, w, am, n, starts_of hi, ok_of hn, h⟩
    · cases h
  · cases h

/-- Where an access leads, and the state its translation leaves. -/
def leadOf (u : State) (core set am acc ea size : Nat) : Option (Nat × State) :=
  if ea % size = 0 then
    (match u.formAddr core (u.ctx core set).inst (u.ctx core set).regs.her am acc ea with
     | .ok a =>
       (match u.translate core (u.ctx core set).inst (u.ctx core set).regs.encl acc a with
        | (v, .ok (ra, _)) => some (ra, v)
        | _ => none)
     | _ => none)
  else none

/-- What leadOf shows leads. -/
theorem leads_of {u v : State} {core set am acc ea size ra : Nat} (h : leadOf u core set am acc ea size = some (ra, v)) : u.leads core set am acc ea size ra v := by
  unfold leadOf at h
  split at h
  · rename_i hz
    split at h
    · rename_i a ha
      split at h
      · rename_i v' ra' m hm
        cases h
        exact ⟨hz, a, m, ha, hm⟩
      · cases h
    · cases h
  · cases h

/-- The state a load of a word leaves that finds it at once. -/
def findOf (v : State) (core set ra : Nat) : Option State :=
  match v.fillOf core (ra / 256) with
  | some f => if f.has (ra / 8 % 32) then some v else none
  | none => if v.evMiss core set (ra / 256) then none else some (v.fillFor 1 (v.core core).phys (ra / 256))

/-- What findOf shows is found. -/
theorem finds_of {v t : State} {core set ra : Nat} (h : findOf v core set ra = some t) : v.finds core set ra t := by
  unfold findOf at h
  unfold State.finds
  split at h <;> split at h <;> cases h <;> simp_all

/-- What a load finds: the real address, the word and the state with its line. -/
def loadOf (u : State) (core set am ea size : Nat) : Option (Nat × TWord × State) :=
  match leadOf u core set am 0 ea size with
  | some (ra, v) =>
    if inDev ra then none
    else (findOf v core set ra).map (fun t => (ra, t.wordFor core (t.ctx core set).tid (ra / 8), t))
  | none => none

/-- What loadOf shows loads. -/
theorem loads_of {u t : State} {core set am ea size ra : Nat} {x : TWord} (h : loadOf u core set am ea size = some (ra, x, t)) : u.loads core set am ea size ra x t := by
  unfold loadOf at h
  split at h
  · rename_i ra' v hl
    split at h
    · cases h
    · rename_i hn
      obtain ⟨t', ht, he⟩ := Option.map_eq_some_iff.mp h
      cases he
      exact ⟨v, leads_of hl, Bool.not_eq_true _ ▸ hn, finds_of ht, rfl⟩
  · cases h

/-- The buffer takes a store to a line. -/
def takesB (v : State) (core set la : Nat) : Bool :=
  !v.withheld (v.ctx core set).tid la && (v.fillOf core la).isNone && (decide ((v.core core).wb.length < 32) || v.coalesces core (v.ctx core set).tid la)
/-- What takesB computes is taken. -/
theorem takesStore_of {v : State} {core set la : Nat} (h : takesB v core set la = true) : v.takesStore core set la := by
  simp only [takesB, Bool.and_eq_true, Bool.not_eq_true', Bool.or_eq_true, decide_eq_true_eq, Option.isNone_iff_eq_none] at h
  exact ⟨h.1.1, h.1.2, h.2⟩

/-- Where a store goes. -/
def storeOf (u : State) (core set am ea size : Nat) (ok : List Nat) (force : Bool) : Option (Nat × State) :=
  match leadOf u core set am 1 ea size with
  | some (ra, v) =>
    let x := v.wordFor core (v.ctx core set).tid (ra / 8)
    if !inDev ra && takesB v core set (ra / 256) && okVal (memTags (v.ctx core set).regs.her false ok ea (ra / 8) x) == some () && okVal (lockCheck force ea x) == some () then some (ra, v)
    else none
  | none => none

/-- What storeOf shows stores. -/
theorem stores_of {u v : State} {core set am ea size ra : Nat} {ok : List Nat} {force : Bool} (h : storeOf u core set am ea size ok force = some (ra, v)) :
    u.stores core set am ea size ra ok force v := by
  unfold storeOf at h
  split at h
  · rename_i ra' v' hl
    simp only at h
    split at h
    · rename_i hc
      simp only [Bool.and_eq_true, Bool.not_eq_true', beq_iff_eq] at hc
      cases h
      exact ⟨leads_of hl, hc.1.1.1, takesStore_of hc.1.1.2, ok_of hc.1.2, ok_of hc.2⟩
    · cases h
  · cases h

/-- Whether a target stays in its world. -/
def staysB (u : State) (core set t : Nat) : Bool :=
  match u.targetOf (u.ctx core set).inst t with
  | none => (u.ctx core set).regs.encl == 0
  | some (ia, ra) =>
    if (u.ctx core set).regs.encl = 0 then (u.emap.find (ra / 65536)).isNone
    else (u.emap.find (ra / 65536)).isSome && u.enclOk (u.ctx core set).inst (u.ctx core set).regs.encl 2 ia ra

/-- What staysB computes stays. -/
theorem stays_of {u : State} {core set t : Nat} (h : staysB u core set t = true) : u.staysInWorld core set t := by
  unfold staysB at h
  unfold State.staysInWorld
  revert h
  cases u.targetOf (u.ctx core set).inst t with
  | none => exact fun h => eq_of_beq h
  | some p =>
    intro h
    change (if (u.ctx core set).regs.encl = 0 then (u.emap.find (p.2 / 65536)).isNone
      else (u.emap.find (p.2 / 65536)).isSome && u.enclOk (u.ctx core set).inst (u.ctx core set).regs.encl 2 p.1 p.2) = true at h
    change if (u.ctx core set).regs.encl = 0 then u.emap.find (p.2 / 65536) = none
      else (u.emap.find (p.2 / 65536)).isSome = true ∧ u.enclOk (u.ctx core set).inst (u.ctx core set).regs.encl 2 p.1 p.2 = true
    by_cases z : (u.ctx core set).regs.encl = 0
    · rw [if_pos z] at h ⊢
      exact Option.isNone_iff_eq_none.mp h
    · rw [if_neg z] at h ⊢
      exact (Bool.and_eq_true _ _).mp h

/-- A target address t of a branch: formed from ea, a multiple of 4, in the same world. -/
def aims (u : State) (am ea t : Nat) : Bool :=
  okVal (u.formAddr 0 (u.ctx 0 0).inst (u.ctx 0 0).regs.her am 2 (u64 ea)) == some t && t % 4 == 0 && staysB u 0 0 t

/-- Registers with numbers in G1 and G2. -/
def gs (a b : Nat) : Regs := withG [(1, int a), (2, int b)]
/-- The tags of two INT operands in G1 and G2. -/
def ints (r : Regs) : Bool := tagsOk r.her [⟨r.gpr 1, 1, tyInt, false⟩, ⟨r.gpr 2, 2, tyInt, false⟩]

theorem witness_IntegerAndTagInstructionsComplete :
    (∀ x ∈ [(AOp.add, 0), (.sub, 1), (.min, 6), (.max, 7), (.minu, 8), (.maxu, 9)],
      Begins (cpu (enc 1 3 1 2 x.2) (gs 0x7FFFFFFFFFFFFFFF 3)) 0 0 (.arith x.1 3 1 (.reg 2)) (fun _ r _ _ => tagsOk r.her (arithOpds x.1 1 2 (r.gpr 1) (r.src (.reg 2))))) ∧
    Begins (cpu (enc 4 3 1 0 5) (gs 5 3)) 0 0 (.arith .add 3 1 (.imm 5)) (fun _ r _ _ => tagsOk r.her (arithOpds .add 1 2 (r.gpr 1) (r.src (.imm 5)))) ∧
    Begins (cpu (enc 1 3 1 2 2) ((gs 5 3).setNzcv 2)) 0 0 (.carry false 3 1 2) (fun _ r _ _ => ints r && bit r.nzcv 1) ∧
    Begins (cpu (enc 1 3 1 2 3) ((gs 5 3).setNzcv 2)) 0 0 (.carry true 3 1 2) (fun _ r _ _ => ints r && bit r.nzcv 1) ∧
    Begins (cpu (enc 3 3 1 2 3) (gs 5 3)) 0 0 (.logic .andn 3 1 (.reg 2)) (fun _ r _ _ => tagsOk r.her [⟨r.gpr 1, 1, tyIntRaw, false⟩, ⟨r.src (.reg 2), 2, tyIntRaw, false⟩]) ∧
    Begins (cpu (enc 1 0 1 2 5) (gs 5 3)) 0 0 (.cmp 1 (.reg 2)) (fun _ r _ _ => tagsOk r.her (cmpOpds 1 2 (r.gpr 1) (r.src (.reg 2)))) ∧
    Begins (cpu (enc 9 3 0 0 5) {}) 0 0 (.lui 3 0x28000) (fun _ _ _ _ => true) ∧
    Begins (cpu (enc 0x15 3 1 0 0) (gs 5 3)) 0 0 (.gtag 3 1) (fun _ _ _ _ => true) ∧
    Begins (cpu (enc 0x15 3 1 2 1) (gs 5 0x20)) 0 0 (.stag 3 1 2) (fun _ r _ _ => tagsOk r.her [⟨r.gpr 1, 1, anyType, true⟩, ⟨r.gpr 2, 2, tyInt, true⟩] && decide (Tag.type ((r.gpr 2).datum.setWidth 8) < 8)) ∧
    Begins { cpu (enc 0x15 3 1 2 1) { gs 5 0x80 with toa := true } with freeCtr := 0 } 0 0 (.stag 3 1 2)
      (fun _ r _ _ => tagsOk r.her [⟨r.gpr 1, 1, anyType, true⟩, ⟨r.gpr 2, 2, tyInt, true⟩] && Tag.type ((r.gpr 2).datum.setWidth 8) == 8 && authority 0 r) := by
  refine ⟨?_, ?_, ?_, ?_, ?_, ?_, ?_, ?_, ?_, ?_⟩
  · have h : ∀ x ∈ [(AOp.add, 0), (.sub, 1), (.min, 6), (.max, 7), (.minu, 8), (.maxu, 9)],
        begins (cpu (enc 1 3 1 2 x.2) (gs 0x7FFFFFFFFFFFFFFF 3)) 0 0 (.arith x.1 3 1 (.reg 2)) (fun _ r _ _ => tagsOk r.her (arithOpds x.1 1 2 (r.gpr 1) (r.src (.reg 2)))) = true := by decide +kernel
    exact fun x hx => begins_of (h x hx)
  all_goals exact begins_of (by decide +kernel)

/-- The instruction issues, its two INT operands are accepted. -/
def onInts (i w : Nat) (r : Regs) (j : Ins) : Prop := Begins (cpu i r) 0 w j (fun _ r _ _ => ints r)

theorem witness_MultiplyWideWritesTheRegisterPair :
    onInts (enc 2 4 1 2 1) 0 (gs 0x7FFFFFFFFFFFFFFF 3) (.mulw true 4 1 2) ∧ onInts (enc 2 4 1 2 2) 0 (gs 0xFFFFFFFFFFFFFFFF 3) (.mulw false 4 1 2) ∧
    onInts (enc 2 0 1 2 1) 0 (gs 0x7FFFFFFFFFFFFFFF 3) (.mulw true 0 1 2) ∧
    (let s := cpu (enc 2 3 1 2 1) {}
     bits (enc 2 3 1 2 1) 30 25 = 2 ∧ bits (enc 2 3 1 2 1) 9 0 = 1 ∧ bits (enc 2 3 1 2 1) 24 20 % 2 = 1 ∧ s.canIssue 0 0 = true ∧ s.atGate 0 0 = false ∧ s.dueFault 0 0 = none ∧
       (okVal (s.fetchIns 0 0).2).map (·.1) = some (enc 2 3 1 2 1)) := by
  refine ⟨begins_of (by decide +kernel), begins_of (by decide +kernel), begins_of (by decide +kernel), ?_⟩
  and_intros <;> decide +kernel

/-- A division's operands: accepted, with a divisor and without overflow. -/
def divides (sg : Bool) (r : Regs) : Bool :=
  ints r && (r.gpr 2).datum != 0 && !(sg && (r.gpr 1).datum == 0x8000000000000000#64 && (r.gpr 2).datum == 0xFFFFFFFFFFFFFFFF#64)

theorem witness_DivisionTruncatesTowardZero :
    (∀ x ∈ [(true, false, 3), (false, false, 4), (true, true, 5), (false, true, 6)],
      Begins (cpu (enc 2 3 1 2 x.2.2) (gs (2 ^ 64 - 7) 3)) 0 0 (.div x.1 x.2.1 3 1 2) (fun _ r _ _ => divides x.1 r)) ∧
    Begins (cpu (enc 2 3 1 2 4) (gs (2 ^ 63) (2 ^ 64 - 1))) 0 0 (.div false false 3 1 2) (fun _ r _ _ => divides false r) ∧
    Begins (cpu (enc 2 3 1 2 3) (gs 5 0)) 0 0 (.div true false 3 1 2) (fun _ r _ _ => ints r && (r.gpr 2).datum == 0) ∧
    (∀ x ∈ [(false, 3), (true, 5)], Begins (cpu (enc 2 3 1 2 x.2) (gs (2 ^ 63) (2 ^ 64 - 1))) 0 0 (.div true x.1 3 1 2)
      (fun _ r _ _ => ints r && (r.gpr 1).datum == 0x8000000000000000#64 && (r.gpr 2).datum == 0xFFFFFFFFFFFFFFFF#64)) ∧
    (3 : Word) ≠ 0 := by
  have h : ∀ x ∈ [(true, false, 3), (false, false, 4), (true, true, 5), (false, true, 6)],
      begins (cpu (enc 2 3 1 2 x.2.2) (gs (2 ^ 64 - 7) 3)) 0 0 (.div x.1 x.2.1 3 1 2) (fun _ r _ _ => divides x.1 r) = true := by decide +kernel
  have g : ∀ x ∈ [(false, 3), (true, 5)], begins (cpu (enc 2 3 1 2 x.2) (gs (2 ^ 63) (2 ^ 64 - 1))) 0 0 (.div true x.1 3 1 2)
      (fun _ r _ _ => ints r && (r.gpr 1).datum == 0x8000000000000000#64 && (r.gpr 2).datum == 0xFFFFFFFFFFFFFFFF#64) = true := by decide +kernel
  exact ⟨fun x hx => begins_of (h x hx), begins_of (by decide +kernel), begins_of (by decide +kernel), fun x hx => begins_of (g x hx), by decide⟩

/-- s with two words of numbers at 0x3000. -/
def mem (s : State) : State := holding s [(0x600, int 0x1122334455667788), (0x601, int 99)]
/-- A paired operation's word: its two short operations, OP, D and S each (Table 04-6). -/
def pairW (x y : Nat × Nat × Nat) : Nat := 2 ^ 31 + (x.1 * 1024 + x.2.1 * 32 + x.2.2) * 65536 + (y.1 * 1024 + y.2.1 * 32 + y.2.2)
/-- A short operation from OP, D and S. -/
def sh (x : Nat × Nat × Nat) : Short := { op := x.1, d := x.2.1, s := x.2.2 }
/-- Registers for pairs: numbers in G1, G2 and G4, addresses in G3 and G31. -/
def pg : Regs := withG [(1, int 5), (2, int 7), (3, ptr 0x3000), (4, int 9), (31, ptr 0x2040)]
/-- The pair breaks no rule, its operands are accepted, and slot B raises nothing. -/
def sound (u : State) (r : Regs) (am : Nat) (x y : Nat × Nat × Nat) : Bool :=
  (pairBreach (sh x) (sh y)).isNone && tagsOk r.her ((sh x).opds r u.freeBool) && tagsOk r.her ((sh y).opds r u.freeBool) && u.slotClear 0 0 (pairW x y) am (sh x) (sh y) r
/-- The slot's access completes in u, and p holds of the state it leaves. -/
def slot (u : State) (am : Nat) (x : Nat × Nat × Nat) (r : Regs) (p : State → Bool) : Bool :=
  if x.1 = 0x14 then
    (match loadOf u 0 0 am (r.gpr x.2.2).datum.toNat 8 with
     | some (ra, y, v) => okVal (memTags (v.ctx 0 0).regs.her true loadTypes (r.gpr x.2.2).datum.toNat (ra / 8) y) == some () && p v
     | none => false)
  else if x.1 = 0x15 then (storeOf u 0 0 am (r.gpr x.2.1).datum.toNat 8 anyType false).any (fun y => p y.2)
  else p u
/-- What slot computes, the slot does. -/
theorem does_of {u : State} {am : Nat} {x : Nat × Nat × Nat} {r : Regs} {p : State → Bool} (h : slot u am x r p = true) :
    ∃ v f, u.slotDoes 0 0 am (sh x) r v f ∧ p v = true := by
  unfold slot at h
  unfold State.slotDoes
  split at h
  · rename_i e
    simp only [if_pos (show (sh x).op = 0x14 from e)]
    split at h
    · rename_i ra y v hl
      simp only [Bool.and_eq_true, beq_iff_eq] at h
      exact ⟨v, _, ⟨ra, y, loads_of hl, ok_of h.1, rfl⟩, h.2⟩
    · cases h
  · rename_i e
    simp only [if_neg (show ¬(sh x).op = 0x14 from e)]
    split at h
    · rename_i e2
      simp only [if_pos (show (sh x).op = 0x15 from e2)]
      cases hs : storeOf u 0 0 am (r.gpr x.2.1).datum.toNat 8 anyType false with
      | none => rw [hs] at h; cases h
      | some y =>
        rw [hs] at h
        exact ⟨y.2, _, ⟨y.1, stores_of hs, rfl⟩, h⟩
    · rename_i e2
      simp only [if_neg (show ¬(sh x).op = 0x15 from e2)]
      exact ⟨u, _, ⟨rfl, rfl⟩, h⟩
/-- Slot A completes, leaving the registers as they are and the next address n. -/
def slotA (u : State) (r : Regs) (am n : Nat) (x : Nat × Nat × Nat) (p : State → Bool) : Bool :=
  slot u am x r (fun v => nextIs v 0 0 am n && decide ((v.ctx 0 0).regs = r) && p v)

theorem witness_BranchesGoToTheirTargets :
    (Begins (cpu (enc 0x21 0 0 0 4) {}) 0 0 (.b 0 16) (fun _ r _ _ => !condHolds 0 r.nzcv) ∧
      Begins (cpu (enc 0x21 0 0 0 4) (({} : Regs).setNzcv 4)) 0 0 (.b 0 16) (fun u r am _ => condHolds 0 r.nzcv && aims u am (r.pc.toNat + 16) 0x2010)) ∧
    Begins (cpu (enc 0x22 0 0 0 4) {}) 0 0 (.call 16) (fun u r am _ => aims u am (r.pc.toNat + 16) 0x2010) ∧
    (∀ x ∈ [(Ins.br 3, enc 0x23 0 3 0 0), (.ret 3, enc 0x23 0 3 0 2), (.callr 3 3, enc 0x23 3 3 0 1)],
      Begins (cpu x.2 pg) 0 0 x.1 (fun u r am _ => tagsOk r.her [⟨r.gpr 3, 1, tyPtr, false⟩] && aims u am (r.gpr 3).datum.toNat 0x3000)) ∧
    (∀ x ∈ [((1, 1, 2), (2, 4, 2)), ((1, 1, 2), (0x14, 4, 3)), ((0x15, 3, 2), (1, 4, 2)), ((0x14, 4, 3), (1, 1, 2)), ((1, 1, 2), (0x15, 3, 2))],
      Begins (mem (cpu (pairW x.1 x.2) pg)) 0 0 (.pair (sh x.1) (sh x.2)) (fun u r am n => sound u r am x.1 x.2 && !(sh x.2).isBranch &&
        slotA u r am n x.1 (fun v => slot v am x.2 r (fun v2 => nextIs v2 0 0 am n)))) ∧
    (∀ x ∈ [((0x16, 0, 3), 0x3000), ((0x18, 0, 0), 0x2040), ((0x17, 14, 3), 0x3000)],
      Begins (cpu (pairW (1, 1, 2) x.1) pg) 0 0 (.pair (sh (1, 1, 2)) (sh x.1)) (fun u r am n => sound u r am (1, 1, 2) x.1 &&
        slotA u r am n (1, 1, 2) (fun v => aims v am (if x.1.1 = 0x18 then (r.gpr 31).datum.toNat else (r.gpr x.1.2.2).datum.toNat) x.2) && (x.1.1 != 0x17 || condHolds x.1.2.1 r.nzcv))) ∧
    Begins (cpu (pairW (1, 1, 2) (0x17, 0, 3)) pg) 0 0 (.pair (sh (1, 1, 2)) (sh (0x17, 0, 3))) (fun u r am n => sound u r am (1, 1, 2) (0x17, 0, 3) &&
      slotA u r am n (1, 1, 2) (fun _ => !condHolds 0 r.nzcv)) ∧
    Begins (cpu (pairW (1, 1, 2) (0x19, 0, 0)) pg) 0 0 (.pair (sh (1, 1, 2)) (sh (0x19, 0, 0))) (fun u r am n => sound u r am (1, 1, 2) (0x19, 0, 0) &&
      slotA u r am n (1, 1, 2) (fun v => r.pend == 0 && !v.yieldSwitches 0 0)) := by
  refine ⟨⟨begins_of (by decide +kernel), begins_of (by decide +kernel)⟩, begins_of (by decide +kernel), ?_, ?_, ?_, begins_of (by decide +kernel), begins_of (by decide +kernel)⟩
  · have h : ∀ x ∈ [(Ins.br 3, enc 0x23 0 3 0 0), (.ret 3, enc 0x23 0 3 0 2), (.callr 3 3, enc 0x23 3 3 0 1)],
      begins (cpu x.2 pg) 0 0 x.1 (fun u r am _ => tagsOk r.her [⟨r.gpr 3, 1, tyPtr, false⟩] && aims u am (r.gpr 3).datum.toNat 0x3000) = true := by decide +kernel
    exact fun x hx => begins_of (h x hx)
  · have h : ∀ x ∈ [((1, 1, 2), (2, 4, 2)), ((1, 1, 2), (0x14, 4, 3)), ((0x15, 3, 2), (1, 4, 2)), ((0x14, 4, 3), (1, 1, 2)), ((1, 1, 2), (0x15, 3, 2))],
      begins (mem (cpu (pairW x.1 x.2) pg)) 0 0 (.pair (sh x.1) (sh x.2)) (fun u r am n => sound u r am x.1 x.2 && !(sh x.2).isBranch &&
        slotA u r am n x.1 (fun v => slot v am x.2 r (fun v2 => nextIs v2 0 0 am n))) = true := by decide +kernel
    exact fun x hx => begins_of (h x hx)
  · have h : ∀ x ∈ [((0x16, 0, 3), 0x3000), ((0x18, 0, 0), 0x2040), ((0x17, 14, 3), 0x3000)],
      begins (cpu (pairW (1, 1, 2) x.1) pg) 0 0 (.pair (sh (1, 1, 2)) (sh x.1)) (fun u r am n => sound u r am (1, 1, 2) x.1 &&
        slotA u r am n (1, 1, 2) (fun v => aims v am (if x.1.1 = 0x18 then (r.gpr 31).datum.toNat else (r.gpr x.1.2.2).datum.toNat) x.2) && (x.1.1 != 0x17 || condHolds x.1.2.1 r.nzcv)) = true := by decide +kernel
    exact fun x hx => begins_of (h x hx)

/-- s with core 0's enclave feature, enclave 1 of the Manager with its code at 0x10000 and its data at 0x20000, and the TGATE instruction at its entry. -/
def encs (s : State) : State :=
  holding { s.onPCore 0 (fun c => { c with enclWays := true }) with
    encls := [(4097, { state := 2, threads := 1, evba := 0x10000, esa := 0x20000 })]
    emap := [(1, { code := true, write := false, inst := 1, encl := 1, iaddr := 1 }), (2, { code := false, write := true, inst := 1, encl := 1, iaddr := 2 })] }
    [(0x2000, ⟨0x4800000000000000#64, Tag.code⟩)]
/-- The core branching to the enclave's entry, from a normal-world instruction. -/
def toGate (i : Nat) : State := encs (cpu i (withG [(1, ptr 0x10000), (2, int 3)]))
/-- The gate clause's conditions: the target ea is a Toll Gate that accepts the task, and its F bank is saved. -/
def gated (u : State) (r : Regs) (am ea : Nat) : Bool :=
  okVal (u.formAddr 0 1 r.her am 2 (u64 ea)) == some ea && ea % 4 == 0 && r.encl == 0 && r.pend == 0 && (okVal (u.saveBank 0 0)).isSome &&
    (u.targetOf 1 ea).any (fun x => (u.emap.find (x.2 / 65536)).any (fun m => (u.gateSlot 0 1 r.her x.1 x.2 m).isSome))
/-- An instruction in the enclave's own code. -/
def inside (i : Nat) (r : Regs) : State :=
  (holding (encs (cpu 0 { r with tsw := word (2 ^ 62 + 2 ^ 48) })) [(0x2000, ⟨word (i * 2 ^ 32), Tag.code⟩)]).onCtx 0 0 (fun c => { c with regs := { c.regs with pc := 0x10000#64 } })
/-- A restarted task whose PC is the enclave's entry. -/
def fresh : State := (encs (cpu 0 {})).onCtx 0 0 (fun c => { c with fresh := true, regs := { c.regs with pc := 0x10000#64 } })
/-- The core with the image installed and an instruction of its slot. -/
def customs : State := { cpu (enc 0x3E 5 3 1 (2 * 32)) (withG [(1, int 5), (2, int 7)]) with decode := [(5, { image := img, digest := [] })] }

/-- What the fetch of an instruction word that is not assigned needs: the set issues and the word is fetched. -/
def fetches (s : State) (w : Nat) (p : State → Regs → Bool) : Prop :=
  s.fetches 0 0 ∧ ∃ u am, s.fetchIns 0 0 = (u, .ok (w, am)) ∧ p u (u.ctx 0 0).regs = true
/-- The computation of fetches. -/
def fetchB (s : State) (w : Nat) (p : State → Regs → Bool) : Bool :=
  s.canIssue 0 0 && !s.overdue 0 0 && !s.atGate 0 0 && (s.dueFault 0 0).isNone && (match s.fetchIns 0 0 with
    | (u, .ok (x, _)) => x == w && p u (u.ctx 0 0).regs
    | _ => false)
/-- What fetchB computes is fetched. -/
theorem fetches_of {s : State} {w : Nat} {p : State → Regs → Bool} (h : fetchB s w p = true) : fetches s w p := by
  unfold fetchB at h
  simp only [Bool.and_eq_true, Bool.not_eq_true', Option.isNone_iff_eq_none] at h
  refine ⟨⟨h.1.1.1.1, h.1.1.1.2, h.1.1.2, h.1.2⟩, ?_⟩
  have g := h.2
  split at g
  · rename_i u x am e
    simp only [Bool.and_eq_true, beq_iff_eq] at g
    obtain ⟨rfl, g⟩ := g
    exact ⟨u, am, e, g⟩
  · cases g

theorem witness_WorldChangesAndCustomInstructionsComplete :
    (∀ x ∈ [(Ins.b 14 0xE000, 0x20 * 2 ^ 25 + 0x3800), (.call 0xE000, 0x22 * 2 ^ 25 + 0x3800), (.br 1, enc 0x23 0 1 0 0), (.ret 1, enc 0x23 0 1 0 2), (.callr 4 1, enc 0x23 4 1 0 1)],
      Begins (toGate x.2) 0 0 x.1 (fun u r am _ => (toGate x.2).gateFits 0 0 && gated u r am 0x10000 && condHolds 14 r.nzcv && u64 (r.pc.toNat + 0xE000) == 0x10000 &&
        tagsOk r.her [⟨r.gpr 1, 1, tyPtr, false⟩] && (r.gpr 1).datum.toNat == 0x10000)) ∧
    Begins (inside (enc 0x24 0 0 0 0) {}) 0 0 .tgate (fun _ r _ _ => (inside (enc 0x24 0 0 0 0) {}).gateFits 0 0 && r.encl != 0) ∧
    (fresh.canIssue 0 0 = true ∧ fresh.atGate 0 0 = true ∧ fresh.dueFault 0 0 = none) ∧
    Begins (inside (enc 0x24 0 1 2 1) (withG [(1, int 5), (2, ptr 0x2000)])) 0 0 (.texit 1 2) (fun u r _ _ =>
      tagsOk r.her [⟨r.gpr 1, 1, tyInt, false⟩, ⟨r.gpr 2, 2, tyPtr, false⟩] && r.encl != 0 && (r.gpr 2).datum.toNat % 4 == 0 && r.pend == 0 &&
        (u.targetOf 1 (r.gpr 2).datum.toNat).all (fun x => (u.emap.find (x.2 / 65536)).isNone)) ∧
    Begins customs 0 0 (.custom 5 3 1 2 0) (fun u r am n => decide (u.imageFor (u.ctx 0 0) 5 = some img) && tagsOk r.her (customOpds img (r.gpr 1) (r.gpr 2) (r.gpr 0)) &&
      (match (envOf 0 0 (enc 0x3E 5 3 1 (2 * 32)) am).routine img 3 (r.gpr 1) (r.gpr 2) (r.gpr 0)
          (u.onCtx 0 0 (fun q => match q.await with | .datum z => { q with replies := q.replies ++ [z], await := .none } | _ => q)) with
        | .ok _ v => nextIs v 0 0 am n
        | _ => false)) ∧
    fetches (cpu (enc 0x3D 0 0 0 0) {}) (enc 0x3D 0 0 0 0) (fun _ _ => (okVal (decodeIns (enc 0x3D 0 0 0 0))).isNone) ∧
    fetches (cpu (enc 0x3E 0 0 0 0) {}) (enc 0x3E 0 0 0 0) (fun u _ => (okVal (decodeIns (enc 0x3E 0 0 0 0))).any (fun i => !u.legal (u.ctx 0 0) i)) := by
  refine ⟨?_, begins_of (by decide +kernel), by and_intros <;> decide +kernel, begins_of (by decide +kernel), begins_of (by decide +kernel), fetches_of (by decide +kernel), fetches_of (by decide +kernel)⟩
  have h : ∀ x ∈ [(Ins.b 14 0xE000, 0x20 * 2 ^ 25 + 0x3800), (.call 0xE000, 0x22 * 2 ^ 25 + 0x3800), (.br 1, enc 0x23 0 1 0 0), (.ret 1, enc 0x23 0 1 0 2), (.callr 4 1, enc 0x23 4 1 0 1)],
      begins (toGate x.2) 0 0 x.1 (fun u r am _ => (toGate x.2).gateFits 0 0 && gated u r am 0x10000 && condHolds 14 r.nzcv && u64 (r.pc.toNat + 0xE000) == 0x10000 &&
        tagsOk r.her [⟨r.gpr 1, 1, tyPtr, false⟩] && (r.gpr 1).datum.toNat == 0x10000) = true := by decide +kernel
  exact fun x hx => begins_of (h x hx)

/-- Registers with the address of the words at 0x3000 and a number. -/
def lgr : Regs := withG [(1, ptr 0x3000), (2, int 0x30)]
/-- A doubleword of device space. -/
def DV : Nat := devBase + 0x1040
/-- Registers with that address and a number. -/
def dg : Regs := withG [(1, ptr DV), (2, int 5)]
/-- s with the answer of a device or a table waiting for the set. -/
def answered (s : State) (z : Nat) : State := s.onCtx 0 0 (fun c => { c with await := .datum z })
/-- The answer that waits. -/
def datumOf (c : Ctx) : Option Nat := match c.await with | .datum x => some x | _ => none
/-- The load at ea completes with a word of an accepted type, and the next instruction follows. -/
def reads (u : State) (am n ea size : Nat) (ok : List Nat) : Bool :=
  (loadOf u 0 0 am ea size).any (fun x => okVal (memTags (u.ctx 0 0).regs.her true ok ea (x.1 / 8) x.2.1) == some () && nextIs x.2.2 0 0 am n)
/-- The access at ea leads to device space. -/
def atDev (u : State) (am acc ea size : Nat) (p : State → Bool) : Bool := (leadOf u 0 0 am acc ea size).any (fun x => inDev x.1 && p x.2)
/-- G1 is an accepted address. -/
def base1 (r : Regs) : Bool := tagsOk r.her [⟨r.gpr 1, 1, tyPtr, false⟩]

/-- The state in which an element of LDM or STM begins, where no Drover event is near. -/
def calm (u : State) (i : Nat) : Option State :=
  let m := u.withRegs 0 0 (fun r => r.setTsw 28 24 i)
  if m.eventsNear 0 0 then none else some m
/-- What calm computes is come to. -/
theorem comesTo_of {u m : State} {i : Nat} {first : Bool} (h : calm u i = some m) : u.comesTo 0 0 i first m := by
  simp only [calm] at h
  split at h
  · cases h
  · rename_i hn
    exact (if_neg (fun c => hn c.2)).mpr (Option.some.inj h).symm
/-- LDM's elements, computed. -/
def elemsL (am mask ea : Nat) : List Nat → State → Option State
  | [], u => some u
  | i :: l, u =>
    match calm u i with
    | some m =>
      match loadOf m 0 0 am (elemAddr ea mask i) 8 with
      | some (ra, x, v) =>
        if okVal (memTags (v.ctx 0 0).regs.her true loadTypes (elemAddr ea mask i) (ra / 8) x) = some () then
          elemsL am mask ea l ((v.withRegs 0 0 (fun r => r.setG i x)).onCtx 0 0 (fun c => { c with await := .none }))
        else none
      | none => none
    | none => none
/-- What elemsL computes is loaded. -/
theorem elemLoads_of {am mask ea : Nat} {t : State} (l : List Nat) (u : State) (first : Bool) (h : elemsL am mask ea l u = some t) : State.elemLoads 0 0 am mask ea first l u t := by
  induction l generalizing u first with
  | nil => exact (Option.some.inj h).symm
  | cons i l ih =>
    unfold elemsL at h
    split at h
    · rename_i m hc
      split at h
      · rename_i ra x v hl
        split at h
        · rename_i hm
          exact ⟨m, ra, x, v, comesTo_of hc, loads_of hl, ok_of hm, ih _ _ h⟩
        · cases h
      · cases h
    · cases h
/-- STM's elements, computed. -/
def elemsS (am mask ea : Nat) : List Nat → State → Option State
  | [], u => some u
  | i :: l, u =>
    match calm u i with
    | some m =>
      match storeOf m 0 0 am (elemAddr ea mask i) 8 anyType false with
      | some (ra, v) =>
        if okVal (checkTags (u.ctx 0 0).regs.her [⟨(u.ctx 0 0).regs.gpr i, 8, anyType, true⟩]) = some () then
          elemsS am mask ea l (v.commitStore 0 0 (ra / 256) (wholeWord ra ((u.ctx 0 0).regs.gpr i)) false)
        else none
      | none => none
    | none => none
/-- What elemsS computes is stored. -/
theorem elemStores_of {am mask ea : Nat} {t : State} (l : List Nat) (u : State) (first : Bool) (h : elemsS am mask ea l u = some t) : State.elemStores 0 0 am mask ea first l u t := by
  induction l generalizing u first with
  | nil => exact (Option.some.inj h).symm
  | cons i l ih =>
    unfold elemsS at h
    split at h
    · rename_i m hc
      split at h
      · rename_i ra v hl
        split at h
        · rename_i hm
          exact ⟨m, ra, v, comesTo_of hc, stores_of hl, ok_of hm, ih _ _ h⟩
        · cases h
      · cases h
    · cases h
/-- Registers for LDM and STM: an address just below the end of a page in G1, the mask 0x18 in G2. -/
def mg : Regs := withG [(1, ptr 0x3FF8), (2, int 0x18)]
/-- Two words around the page boundary. -/
def edge (s : State) : State := holding s [(0x7FF, int 7), (0x800, int 9)]
/-- The operands of LDM and STM are accepted, and neither is loaded. -/
def multi (r : Regs) : Bool := tagsOk r.her [⟨r.gpr 1, 1, tyPtr, false⟩, ⟨r.gpr 2, 5, tyIntRaw, false⟩] && !bit 0x18 1 && !bit 0x18 2 && (r.gpr 2).datum.toNat % 2 ^ 32 == 0x18 && (r.gpr 1).datum.toNat % 8 == 0
/-- A word with SIZE in bits 14 to 13 and a displacement. -/
def sized (major d size disp : Nat) : Nat := enc major d 1 (size * 8) disp

theorem witness_LoadsWriteTheirRegister :
    (∀ x ∈ [(Ins.ld 3 1 0, enc 0xC 3 1 0 0, 0x3000, 8, loadTypes), (.ldx true 2 3 1 2, sized 0xE 3 1 2, 0x3002, 2, subTypes), (.ldx false 4 3 1 4, sized 0xD 3 2 4, 0x3004, 4, subTypes),
        (.ldres 3 1 0, enc 0x11 3 1 0 0, 0x3000, 8, loadTypes), (.ldtag 3 1, enc 0x15 3 1 0 2, 0x3000, 8, loadTypes)],
      Begins (mem (cpu x.2.1 lgr)) 0 0 x.1 (fun u r am n => base1 r && reads u am n x.2.2.1 x.2.2.2.1 x.2.2.2.2)) ∧
    Begins (answered (cpu (enc 0xC 3 1 0 0) dg) 77) 0 0 (.ld 3 1 0) (fun u r am n => base1 r &&
      atDev u am 0 DV 8 (fun v => (v.ctx 0 0).replies.isEmpty && datumOf (v.ctx 0 0) == some 77 && nextIs v 0 0 am n)) ∧
    (∀ x ∈ [(Ins.ldx false 1 3 1 0, sized 0xD 3 0 0, 1), (.ldres 3 1 0, enc 0x11 3 1 0 0, 8), (.ldtag 3 1, enc 0x15 3 1 0 2, 8)],
      Begins (cpu x.2.1 dg) 0 0 x.1 (fun u r am _ => base1 r && atDev u am 0 DV x.2.2 (fun _ => true))) ∧
    Begins (edge (cpu (enc 0x14 2 1 0 0) mg)) 0 0 (.ldm 2 1 0) (fun u r am n => multi r && (elemsL am 0x18 0x3FF8 (maskFrom 0x18 r.mprog) u).any (fun v => nextIs v 0 0 am n)) := by
  refine ⟨?_, begins_of (by decide +kernel), ?_, begins_of (by decide +kernel)⟩
  · have h : ∀ x ∈ [(Ins.ld 3 1 0, enc 0xC 3 1 0 0, 0x3000, 8, loadTypes), (.ldx true 2 3 1 2, sized 0xE 3 1 2, 0x3002, 2, subTypes), (.ldx false 4 3 1 4, sized 0xD 3 2 4, 0x3004, 4, subTypes),
        (.ldres 3 1 0, enc 0x11 3 1 0 0, 0x3000, 8, loadTypes), (.ldtag 3 1, enc 0x15 3 1 0 2, 0x3000, 8, loadTypes)],
      begins (mem (cpu x.2.1 lgr)) 0 0 x.1 (fun u r am n => base1 r && reads u am n x.2.2.1 x.2.2.2.1 x.2.2.2.2) = true := by decide +kernel
    exact fun x hx => begins_of (h x hx)
  · have h : ∀ x ∈ [(Ins.ldx false 1 3 1 0, sized 0xD 3 0 0, 1), (.ldres 3 1 0, enc 0x11 3 1 0 0, 8), (.ldtag 3 1, enc 0x15 3 1 0 2, 8)],
      begins (cpu x.2.1 dg) 0 0 x.1 (fun u r am _ => base1 r && atDev u am 0 DV x.2.2 (fun _ => true)) = true := by decide +kernel
    exact fun x hx => begins_of (h x hx)

/-- The store at ea goes to memory, and the next instruction follows. -/
def writes (u : State) (am n ea size : Nat) (ok : List Nat) (force : Bool) : Bool := (storeOf u 0 0 am ea size ok force).any (fun x => nextIs x.2 0 0 am n)
/-- The operands of a store. -/
def stOk (r : Regs) : Bool :=
  tagsOk r.her [⟨r.gpr 1, 1, tyPtr, true⟩, ⟨r.gpr 2, 5, anyType, true⟩] && tagsOk r.her [⟨r.gpr 1, 1, tyPtr, false⟩, ⟨r.gpr 2, 5, tyIntRaw, false⟩] &&
    tagsOk r.her [⟨r.gpr 1, 1, tyPtr, false⟩, ⟨r.gpr 2, 2, anyType, false⟩] && tagsOk r.her [⟨r.gpr 1, 1, tyPtr, false⟩, ⟨r.gpr 2, 5, anyType, false⟩]

theorem witness_StoresCommitToTheWriteBuffer :
    (∀ x ∈ [(Ins.st 2 1 0, enc 0xF 2 1 0 0, 0x3000, 8, anyType), (.sts 2 2 1 2, sized 0x10 2 1 2, 0x3002, 2, stsTypes), (.sttx 1 2, enc 0x15 0 1 2 3, 0x3000, 8, anyType)],
      Begins (mem (cpu x.2.1 lgr)) 0 0 x.1 (fun u r am n => stOk r && writes u am n x.2.2.1 x.2.2.2.1 x.2.2.2.2 (authority 0 r && x.1 == .sttx 1 2))) ∧
    (∀ k ∈ [none, some 48],
      Begins ((mem (cpu (enc 0x12 2 1 0 0) lgr)).onCtx 0 0 (fun c => { c with resv := k })) 0 0 (.stcond 2 1 0) (fun u r am n => stOk r && writes u am n 0x3000 8 anyType false)) ∧
    Begins (cpu (enc 0xF 2 1 0 0) dg) 0 0 (.st 2 1 0) (fun u r am n => stOk r && (r.gpr 2).type != 9 && atDev u am 1 DV 8 (fun v => decide ((v.core 0).wb.length < 32) && nextIs v 0 0 am n)) ∧
    (∀ x ∈ [(Ins.sts 1 2 1 0, sized 0x10 2 0 0, 1), (.stcond 2 1 0, enc 0x12 2 1 0 0, 8)],
      Begins (cpu x.2.1 dg) 0 0 x.1 (fun u r am _ => stOk r && atDev u am 1 DV x.2.2 (fun _ => true))) ∧
    Begins (edge (cpu (enc 0x13 2 1 0 0) mg)) 0 0 (.stm 2 1 0) (fun u r am n => multi r && (elemsS am 0x18 0x3FF8 (maskFrom 0x18 r.mprog) u).any (fun v => nextIs v 0 0 am n)) := by
  refine ⟨?_, ?_, begins_of (by decide +kernel), ?_, begins_of (by decide +kernel)⟩
  · have h : ∀ x ∈ [(Ins.st 2 1 0, enc 0xF 2 1 0 0, 0x3000, 8, anyType), (.sts 2 2 1 2, sized 0x10 2 1 2, 0x3002, 2, stsTypes), (.sttx 1 2, enc 0x15 0 1 2 3, 0x3000, 8, anyType)],
      begins (mem (cpu x.2.1 lgr)) 0 0 x.1 (fun u r am n => stOk r && writes u am n x.2.2.1 x.2.2.2.1 x.2.2.2.2 (authority 0 r && x.1 == .sttx 1 2)) = true := by decide +kernel
    exact fun x hx => begins_of (h x hx)
  · have h : ∀ k ∈ [none, some 48],
      begins ((mem (cpu (enc 0x12 2 1 0 0) lgr)).onCtx 0 0 (fun c => { c with resv := k })) 0 0 (.stcond 2 1 0) (fun u r am n => stOk r && writes u am n 0x3000 8 anyType false) = true := by decide +kernel
    exact fun k hk => begins_of (h k hk)
  · have h : ∀ x ∈ [(Ins.sts 1 2 1 0, sized 0x10 2 0 0, 1), (.stcond 2 1 0, enc 0x12 2 1 0 0, 8)],
      begins (cpu x.2.1 dg) 0 0 x.1 (fun u r am _ => stOk r && atDev u am 1 DV x.2.2 (fun _ => true)) = true := by decide +kernel
    exact fun x hx => begins_of (h x hx)

/-- An MTS of G1 to a special register. -/
def ms (k : Nat) (x : TWord) (toa : Bool := false) : State := cpu (enc 0x26 0 1 0 k) { withG [(1, x)] with toa := toa }
/-- The source tag is accepted and its value passes p. -/
def src1 (r : Regs) (ty : List Nat) (p : Nat → Bool) : Bool := tagsOk r.her [⟨r.gpr 1, 1, ty, false⟩] && p (r.gpr 1).datum.toNat
/-- The core running an instruction in its trap set, 64. -/
def trapSet (i : Nat) (r : Regs) : State := let s := cpu i r; { s with cores := [(0, { slot0 := some 64 })], ctxs := [(64, { s.ctx 0 0 with run := .ready })] }
/-- An MTS of G1 to a special register in the trap set. -/
def ms64 (k : Nat) (x : TWord) : State := trapSet (enc 0x26 0 1 0 k) (withG [(1, x)])

theorem witness_SpecialRegistersReadAndWrite :
    Begins (cpu (enc 0x25 3 0 0 4) {}) 0 0 (.mfs 3 4) (fun _ _ _ _ => true) ∧
    Begins (trapSet (enc 0x25 3 0 0 0x10) {}) 0 64 (.mfs 3 0x10) (fun _ _ _ _ => true) ∧
    Begins (cpu (enc 0x25 3 0 0 0x10) {}) 0 0 (.mfs 3 0x10) (fun _ _ _ _ => true) ∧
    (∀ x ∈ [(0, int 0x300000000, tyInt), (9, int 3, subTypes), (3, int 0x00100005, tyInt), (4, int 500, tyInt), (4, int 0, tyInt), (5, int 0x1F, tyInt), (6, int 0x1F, subTypes), (7, int 1, tyInt)],
      Begins (ms x.1 x.2.1) 0 0 (.mts x.1 1) (fun _ r _ _ => src1 r x.2.2 (fun _ => true))) ∧
    Begins (ms 2 (ptr 0x3040)) 0 0 (.mts 2 1) (fun u r am n => src1 r tyPtr (fun v => v % 64 == 0) &&
      (okVal (u.hubPut 1 0 (u.tsa 0x10002 + 0x28) (TWord.ptr (word 0x3040)))).any (fun t => nextIs t 0 0 am n)) ∧
    Begins (ms 2 (ptr 0x3041)) 0 0 (.mts 2 1) (fun _ r _ _ => src1 r tyPtr (fun v => v % 64 != 0)) ∧
    Begins (ms 8 (ptr 0x4000) true) 0 0 (.mts 8 1) (fun _ r _ _ => src1 r tyPtr (fun v => v % 4096 == 0) && authority 0 r) ∧
    Begins (ms 8 (ptr 0x4000)) 0 0 (.mts 8 1) (fun _ r _ _ => src1 r tyPtr (fun v => v % 4096 == 0) && !authority 0 r) ∧
    (∀ x ∈ [(2, ptr 0x3040, tyPtr), (7, int 1, tyInt), (0x10, ptr 0x3040, tyPtr), (0x11, int 0x3040, tyInt), (0x13, int 0x3040, subTypes)],
      Begins (ms64 x.1 x.2.1) 0 64 (.mts x.1 1) (fun _ r _ _ => src1 r x.2.2 (fun v => v % 64 == 0 || x.1 == 7))) ∧
    (0x123456789 : Nat) < 2 ^ 64 := by
  refine ⟨begins_of (by decide +kernel), begins_of (by decide +kernel), begins_of (by decide +kernel), ?_, begins_of (by decide +kernel), begins_of (by decide +kernel),
    begins_of (by decide +kernel), begins_of (by decide +kernel), ?_, by decide⟩
  · have h : ∀ x ∈ [(0, int 0x300000000, tyInt), (9, int 3, subTypes), (3, int 0x00100005, tyInt), (4, int 500, tyInt), (4, int 0, tyInt), (5, int 0x1F, tyInt), (6, int 0x1F, subTypes), (7, int 1, tyInt)],
      begins (ms x.1 x.2.1) 0 0 (.mts x.1 1) (fun _ r _ _ => src1 r x.2.2 (fun _ => true)) = true := by decide +kernel
    exact fun x hx => begins_of (h x hx)
  · have h : ∀ x ∈ [(2, ptr 0x3040, tyPtr), (7, int 1, tyInt), (0x10, ptr 0x3040, tyPtr), (0x11, int 0x3040, tyInt), (0x13, int 0x3040, subTypes)],
      begins (ms64 x.1 x.2.1) 0 64 (.mts x.1 1) (fun _ r _ _ => src1 r x.2.2 (fun v => v % 64 == 0 || x.1 == 7)) = true := by decide +kernel
    exact fun x hx => begins_of (h x hx)

/-- A handle of lock table (9, 3) with low bits x. -/
def hnd (x : Nat) : Nat := 0x4C * 2 ^ 56 + 9 * 2 ^ 48 + 3 * 2 ^ 32 + x
/-- The core with a lock instruction on a key and a handle. -/
def lockIns (m : Nat) (x : Nat := 0) : State :=
  (cpu (enc 0x29 3 1 2 m) (withG [(1, ⟨word 7, 0x14#8⟩), (2, ⟨word (hnd x), 0x70#8⟩)])).onInst 1 (fun n => { n with llts := [(9, 3)] })
/-- What a lock instruction that sends its probe needs. -/
def probes (u : State) (r : Regs) : Bool :=
  (u.ctx 0 0).await == .none && tagsOk r.her [⟨r.gpr 1, 1, anyType, false⟩, ⟨r.gpr 2, 2, anyType, false⟩] && (r.gpr 1).type == 1 && (r.gpr 1).tag.shared && (r.gpr 2).type == 7 &&
    r.encl == 0 && handleOk (r.gpr 2).datum.toNat && (u.inst 1).llts.contains (bits (r.gpr 2).datum.toNat 53 48, bits (r.gpr 2).datum.toNat 35 32)
/-- The core at an IOBAR, with device stores outstanding. -/
def iob (l : List DevStore) : State := { cpu (enc 0x27 0 0 0 1) {} with devStores := l }

theorem witness_BarriersYieldSignalAndLocksComplete :
    (∀ x ∈ [(Ins.mbar, 0), (.isync, 3)], Begins (cpu (enc 0x27 0 0 0 x.2) {}) 0 0 x.1 (fun u _ _ _ => u.buffered 0 0x10002 == [])) ∧
    Begins (cpu (enc 0x27 0 0 0 2) {}) 0 0 .fsync (fun _ r _ _ => r.pend == 0) ∧
    Begins (cpu (enc 0x27 0 0 0 2) { ({} : Regs) with fpsr := word (2 ^ 16) }) 0 0 .fsync (fun _ r _ _ => r.pend != 0) ∧
    Begins (iob []) 0 0 .iobar (fun u _ _ _ => (u.ctx 0 0).await == .none && (u.buffered 0 0x10002).all (fun x => x.dev.isNone) && u.paths 0x10002 == []) ∧
    Begins ((iob []).onCtx 0 0 (fun c => { c with await := .iobar })) 0 0 .iobar (fun u _ _ _ => (u.ctx 0 0).await == .iobar && (u.ctx 0 0).bars == []) ∧
    (∀ x ∈ [(2, true), (3, false)], Begins (iob [{ tid := 0x10002, kind := 1, num := x.1, addr := DV, cls := 1 }]) 0 0 .iobar
      (fun u _ _ _ => (u.ctx 0 0).await == .none && (u.buffered 0 0x10002).all (fun y => y.dev.isNone) && u.paths 0x10002 != [] && (((u.endGroup 0 0).issueBars 0 0).barFails 0 0).isNone == x.2)) ∧
    Begins (cpu (enc 0x2A 0 0 0 0) {}) 0 0 .yield (fun _ r _ _ => r.pend == 0) ∧
    Begins (cpu (enc 0x2A 0 1 0 1) (withG [(1, int 0x10005)])) 0 0 (.signal 1) (fun u r am n => src1 r subTypes (fun v => v == 0x10005) && (r.gpr 1).type == 1 &&
      (okVal (u.tsaWord 0x10005 0)).isSome && nextIs (u.endGroup 0 0) 0 0 am n) ∧
    (∀ x ∈ [(Ins.lock false 3 1 2, lockIns 0), (.lock true 3 1 2, lockIns 1 1), (.lrel 3 1 2, lockIns 2)],
      Begins (answered x.2 55) 0 0 x.1 (fun u _ _ _ => datumOf (u.ctx 0 0) == some 55) ∧ Begins x.2 0 0 x.1 (fun u r _ _ => probes u r)) := by
  refine ⟨?_, begins_of (by decide +kernel), begins_of (by decide +kernel), begins_of (by decide +kernel), begins_of (by decide +kernel), ?_,
    begins_of (by decide +kernel), begins_of (by decide +kernel), ?_⟩
  rotate_left
  · have h : ∀ x ∈ [(2, true), (3, false)], begins (iob [{ tid := 0x10002, kind := 1, num := x.1, addr := DV, cls := 1 }]) 0 0 .iobar
        (fun u _ _ _ => (u.ctx 0 0).await == .none && (u.buffered 0 0x10002).all (fun y => y.dev.isNone) && u.paths 0x10002 != [] && (((u.endGroup 0 0).issueBars 0 0).barFails 0 0).isNone == x.2) = true := by
      decide +kernel
    exact fun x hx => begins_of (h x hx)
  rotate_left
  · have h : ∀ x ∈ [(Ins.mbar, 0), (.isync, 3)], begins (cpu (enc 0x27 0 0 0 x.2) {}) 0 0 x.1 (fun u _ _ _ => u.buffered 0 0x10002 == []) = true := by decide +kernel
    exact fun x hx => begins_of (h x hx)
  · have h : ∀ x ∈ [(Ins.lock false 3 1 2, lockIns 0), (.lock true 3 1 2, lockIns 1 1), (.lrel 3 1 2, lockIns 2)],
      begins (answered x.2 55) 0 0 x.1 (fun u _ _ _ => datumOf (u.ctx 0 0) == some 55) = true ∧ begins x.2 0 0 x.1 (fun u r _ _ => probes u r) = true := by decide +kernel
    exact fun x hx => ⟨begins_of (h x hx).1, begins_of (h x hx).2⟩

/-- The tables of a core's stores hold none of the instance. -/
def noStores (u : State) : Bool := u.cores.all (fun p => p.2.wb.all (fun x => tidInst x.tid != 1))
/-- A frame number fits a level. -/
def frameOk (u : State) (level v : Nat) : Bool :=
  let p := (u.core 0).phys
  let unit := if level ≤ 2 then p else if level = 3 then p / 20 * 20 + bits v 53 48 else bits v 53 48
  bits v 63 54 == 0 && bits v 47 32 == 0 && decide (bits v 53 48 < (if level ≤ 2 then 1 else if level = 3 then 20 else 64)) && decide (bits v 31 8 < setCount level unit) && decide (bits v 7 0 < wayCount level)

theorem witness_CacheMaintenanceCompletes :
    (∀ op ∈ [0, 1, 2], Begins (cpu (enc 0x28 0 1 0 (2 * 16 + op)) lgr) 0 0 (.maint 2 op 1) (fun u r am n => base1 r &&
      (leadOf u 0 0 am (if op = 0 then 0 else 1) 0x3000 1).any (fun x => !inDev x.1 && !x.2.lineStores (x.1 / 256) && nextIs x.2 0 0 am n))) ∧
    Begins (cpu (enc 0x28 0 1 0 (2 * 16 + 1)) dg) 0 0 (.maint 2 1 1) (fun u r am _ => base1 r && atDev u am 1 DV 1 (fun _ => true)) ∧
    (∀ x ∈ [(2, 0x100, false), (3, 19 * 2 ^ 48 + 408 * 256 + 31, true), (4, 63 * 2 ^ 48 + 393215 * 256 + 15, true)],
      Begins (cpu (enc 0x28 0 1 0 (x.1 * 16 + 9)) { withG [(1, int x.2.1)] with toa := x.2.2 }) 0 0 (.maintSw x.1 1 1) (fun u r _ _ =>
        src1 r tyInt (frameOk u x.1) && (decide (x.1 < 3) || authority 0 r))) ∧
    (∀ x ∈ [(2, 16, false), (3, 20 * 2 ^ 48, true), (4, 2 ^ 54, true)],
      Begins (cpu (enc 0x28 0 1 0 (x.1 * 16 + 9)) { withG [(1, int x.2.1)] with toa := x.2.2 }) 0 0 (.maintSw x.1 1 1) (fun u r _ _ =>
        src1 r tyInt (fun v => !frameOk u x.1 v) && (decide (x.1 < 3) || authority 0 r))) ∧
    Begins (cpu (enc 0x28 0 1 0 (3 * 16 + 9)) (withG [(1, int 0)])) 0 0 (.maintSw 3 1 1) (fun _ r _ _ => src1 r tyInt (fun _ => true) && !authority 0 r) ∧
    Begins (cpu (enc 0x28 0 0 0 (5 * 16 + 9)) {}) 0 0 (.tlbinv true 0) (fun u _ _ _ => noStores u) ∧
    Begins (cpu (enc 0x28 0 1 0 (5 * 16 + 1)) lgr) 0 0 (.tlbinv false 1) (fun u r am _ => base1 r && noStores u && (okVal (u.formAddr 0 1 r.her am 0 (r.gpr 1).datum.toNat)).isSome) := by
  refine ⟨?_, begins_of (by decide +kernel), ?_, ?_, begins_of (by decide +kernel), begins_of (by decide +kernel), begins_of (by decide +kernel)⟩
  · have h : ∀ op ∈ [0, 1, 2], begins (cpu (enc 0x28 0 1 0 (2 * 16 + op)) lgr) 0 0 (.maint 2 op 1) (fun u r am n => base1 r &&
      (leadOf u 0 0 am (if op = 0 then 0 else 1) 0x3000 1).any (fun x => !inDev x.1 && !x.2.lineStores (x.1 / 256) && nextIs x.2 0 0 am n)) = true := by decide +kernel
    exact fun x hx => begins_of (h x hx)
  · have h : ∀ x ∈ [(2, 0x100, false), (3, 19 * 2 ^ 48 + 408 * 256 + 31, true), (4, 63 * 2 ^ 48 + 393215 * 256 + 15, true)],
      begins (cpu (enc 0x28 0 1 0 (x.1 * 16 + 9)) { withG [(1, int x.2.1)] with toa := x.2.2 }) 0 0 (.maintSw x.1 1 1) (fun u r _ _ =>
        src1 r tyInt (frameOk u x.1) && (decide (x.1 < 3) || authority 0 r)) = true := by decide +kernel
    exact fun x hx => begins_of (h x hx)
  · have h : ∀ x ∈ [(2, 16, false), (3, 20 * 2 ^ 48, true), (4, 2 ^ 54, true)],
      begins (cpu (enc 0x28 0 1 0 (x.1 * 16 + 9)) { withG [(1, int x.2.1)] with toa := x.2.2 }) 0 0 (.maintSw x.1 1 1) (fun u r _ _ =>
        src1 r tyInt (fun v => !frameOk u x.1 v) && (decide (x.1 < 3) || authority 0 r)) = true := by decide +kernel
    exact fun x hx => begins_of (h x hx)

/-- The attached F bank of the set, with TSW.FPA set. -/
def bank (u : State) : Option Bank := if (u.ctx 0 0).regs.fpa then u.bankOf 0 0 else none
/-- What bank shows is used. -/
theorem uses_of {u : State} {k : Bank} (h : bank u = some k) : u.usesBank 0 0 k := by
  unfold bank at h
  split at h
  · exact ⟨h, ‹_›⟩
  · cases h
/-- s with the set holding an F bank of some registers, and TSW.FPA set. -/
def withF (s : State) (l : List (Nat × FReg)) : State :=
  (s.setFpa 0 0).onCore 0 (fun c => { c with banks := [{ owner := 0, f := l.foldl (fun f p => f.setIfInBounds p.1 p.2) (Vector.replicate 32 {}), lastUse := 0 }] })
/-- The core with an F bank: binary numbers in F1 to F3, decimal ones in F4 to F6. -/
def fs (i : Nat) (r : Regs := {}) : State :=
  withF (cpu i r) [(1, freg 64 Tag.bfp 0x3FF8000000000000), (2, freg 64 Tag.bfp 0x4002000000000000), (3, freg 64 Tag.bfp 0x4008000000000000),
    (4, freg 64 Tag.dfp (d64.encode (.fin false 15 (-1)))), (5, freg 64 Tag.dfp (d64.encode (.fin false 7 0))), (6, freg 128 Tag.dfp (d128.encode (.fin false 12345 0)))]
/-- The set holds a bank whose halves of the listed registers have the type of the format. -/
def fok (u : State) (r : Regs) (f : Fmt) (l : List Nat) : Bool :=
  (bank u).any (fun k => tagsOk r.her ((List.range l.length).flatMap (fun j => halves f.width (j + 1) (fpType f.dec) (fget k.f (l.getD j 0)))))
/-- The rows of the floating point, each with its word, format and operands. -/
def fpRows : List (Ins × Nat × Fmt × List Nat) :=
  [(.bfp .add 1 7 1 2, enc 0x18 7 1 2 0x100, b64, [1, 2]), (.bfp .sub 1 7 1 2, enc 0x18 7 1 2 0x101, b64, [1, 2]), (.bfp .mul 1 7 1 2, enc 0x18 7 1 2 0x102, b64, [1, 2]),
   (.bfp .div 1 7 1 2, enc 0x18 7 1 2 0x103, b64, [1, 2]), (.bfp .sqrt 1 7 1 0, enc 0x18 7 1 0 0x104, b64, [1]), (.bfp .rnd 1 7 1 0, enc 0x18 7 1 0 0x10E, b64, [1]),
   (.bfp (.cvt 0) 1 7 1 0, enc 0x18 7 1 0 0x10B, b64, [1]), (.bfp .abs 1 7 1 0, enc 0x18 7 1 0 0x108, b64, [1]), (.bfp .neg 1 7 1 0, enc 0x18 7 1 0 0x109, b64, [1]),
   (.bfp .mov 1 7 1 0, enc 0x18 7 1 0 0x10A, b64, [1]), (.bfma 3 1 7 1 2 3, enc 0x19 7 1 2 (3 * 32 + 11), b64, [1, 2, 3]), (.fminmax true 1 7 1 2, enc 0x18 7 1 2 0x107, b64, [1, 2]),
   (.fcmp false 1 1 2, enc 0x18 0 1 2 0x105, b64, [1, 2]), (.fcvti false 1 7 1, enc 0x18 7 1 0 0x10C, b64, [1])]
/-- The decimal rows. -/
def dfpRows : List (Ins × Nat × Fmt × List Nat) :=
  [(.dfp .add 0 7 4 5, enc 0x1A 7 4 5 0, d64, [4, 5]), (.dfp .sub 0 7 4 5, enc 0x1A 7 4 5 1, d64, [4, 5]), (.dfp .mul 0 7 4 5, enc 0x1A 7 4 5 2, d64, [4, 5]),
   (.dfp .div 0 7 4 5, enc 0x1A 7 4 5 3, d64, [4, 5]), (.dfp .sqrt 0 7 4 0, enc 0x1A 7 4 0 4, d64, [4]), (.dfp .rnd 0 7 4 0, enc 0x1A 7 4 0 10, d64, [4]),
   (.dfp (.cvt 1) 0 7 4 0, enc 0x1A 7 4 1 7, d64, [4]), (.dfma 1 0 7 4 5 4, enc 0x1B 7 4 5 (4 * 32 + 1), d64, [4, 5, 4]), (.dquant 0 7 4 5, enc 0x1A 7 4 5 6, d64, [4, 5]),
   (.fcmp true 0 4 5, enc 0x1A 0 4 5 5, d64, [4, 5]), (.fcvti true 0 7 4, enc 0x1A 7 4 0 8, d64, [4])]

theorem witness_FloatingPointInstructionsComplete :
    (∀ x ∈ fpRows, Begins (fs x.2.1) 0 0 x.1 (fun u r _ _ => fok u r x.2.2.1 x.2.2.2)) ∧
    (∀ x ∈ dfpRows, Begins (fs x.2.1) 0 0 x.1 (fun u r _ _ => fok u r x.2.2.1 x.2.2.2 && decide (0 < u.chCores))) ∧
    Begins (fs (enc 0x18 7 1 0 0x10D) (withG [(1, int 77)])) 0 0 (.bfp .cvtfi 1 7 1 0) (fun u r _ _ => (bank u).isSome && src1 r tyInt (fun _ => true)) ∧
    Begins (fs (enc 0x1A 7 1 0 9) (withG [(1, int 77)])) 0 0 (.dfp .cvtfi 0 7 1 0) (fun u r _ _ => (bank u).isSome && decide (0 < u.chCores) && src1 r tyInt (fun _ => true)) := by
  have h : ∀ x ∈ fpRows, begins (fs x.2.1) 0 0 x.1 (fun u r _ _ => fok u r x.2.2.1 x.2.2.2) = true := by decide +kernel
  have g : ∀ x ∈ dfpRows, begins (fs x.2.1) 0 0 x.1 (fun u r _ _ => fok u r x.2.2.1 x.2.2.2 && decide (0 < u.chCores)) = true := by decide +kernel
  exact ⟨fun x hx => begins_of (h x hx), fun x hx => begins_of (g x hx), begins_of (by decide +kernel), begins_of (by decide +kernel)⟩

/-- Binary words at 0x3000. -/
def fmem (s : State) : State := holding s [(0x600, ⟨word 0x1122334455667788, Tag.bfp⟩), (0x601, ⟨word 99, Tag.bfp⟩)]
/-- FLD of F7 and FST of F1 at G1: the word by size. -/
def fmove (major d size : Nat) : Nat := enc major d 1 ((if size = 4 then 0 else if size = 8 then 1 else 2) * 8) 0
/-- The halves of F1 and the address are accepted for a store. -/
def fstOk (u : State) (r : Regs) (size : Nat) : Bool :=
  (bank u).any (fun k => tagsOk r.her (⟨r.gpr 1, 1, tyPtr, false⟩ :: halves (8 * size) 5 subTypes (fget k.f 1)))

theorem witness_FloatMovesLoadsAndStoresComplete :
    (∀ x ∈ [(0, 0x00F), (1, 0x10F)], Begins (fs (enc 0x18 7 1 0 x.2)) 0 0 (.fmvg x.1 7 1) (fun u r _ _ =>
      (bank u).any (fun k => tagsOk r.her [⟨(fget k.f 1).lo, 1, [4], false⟩]))) ∧
    Begins (fs (enc 0x18 7 1 0 0x20F)) 0 0 (.fmvg 2 7 1) (fun u r _ _ => (bank u).any (fun k => tagsOk r.her [⟨(fget k.f 1).hi, 1, [4], false⟩])) ∧
    (∀ x ∈ [(0, 0x010), (1, 0x110), (2, 0x210)], Begins (fs (enc 0x18 7 1 0 x.2) (withG [(1, int 77)])) 0 0 (.gmvf x.1 7 1) (fun u r _ _ =>
      (bank u).isSome && src1 r tyInt (fun _ => true))) ∧
    (∀ size ∈ [4, 8], Begins (fmem (fs (fmove 0x16 7 size) lgr)) 0 0 (.fld size 7 1 0) (fun u r am n => (bank u).isSome && base1 r && reads u am n 0x3000 size fldTypes)) ∧
    Begins (fmem (fs (fmove 0x16 7 16) lgr)) 0 0 (.fld 16 7 1 0) (fun u r am n => (bank u).isSome && base1 r && (loadOf u 0 0 am 0x3000 16).any (fun x =>
      okVal (memTags r.her true fldTypes 0x3000 (x.1 / 8) x.2.1) == some () && !x.2.2.evMiss 0 0 ((x.1 + 8) / 256) &&
        (let t := x.2.2.fillFor 1 (x.2.2.core 0).phys ((x.1 + 8) / 256)
         okVal (memTags r.her true fldTypes 0x3008 (x.1 / 8 + 1) (t.wordFor 0 (t.ctx 0 0).tid ((x.1 + 8) / 8))) == some () && nextIs t 0 0 am n))) ∧
    Begins (answered (fs (fmove 0x16 7 8) dg) 77) 0 0 (.fld 8 7 1 0) (fun u r am n => (bank u).isSome && base1 r &&
      atDev u am 0 DV 8 (fun v => (v.ctx 0 0).replies.isEmpty && datumOf (v.ctx 0 0) == some 77 && nextIs v 0 0 am n)) ∧
    (∀ size ∈ [4, 8], Begins (mem (fs (fmove 0x17 1 size) lgr)) 0 0 (.fst size 1 1 0) (fun u r am n => fstOk u r size && writes u am n 0x3000 size anyType false)) ∧
    Begins (mem (fs (fmove 0x17 1 16) lgr)) 0 0 (.fst 16 1 1 0) (fun u r am n => fstOk u r 16 && (storeOf u 0 0 am 0x3000 16 anyType false).any (fun x =>
      nextIs x.2 0 0 am n && takesB x.2 0 0 ((x.1 + 8) / 256) &&
        (let y := x.2.wordFor 0 (x.2.ctx 0 0).tid ((x.1 + 8) / 8)
         okVal (memTags r.her false anyType 0x3008 ((x.1 + 8) / 8) y) == some () && okVal (lockCheck false 0x3008 y) == some ()))) ∧
    Begins (fs (fmove 0x17 1 8) dg) 0 0 (.fst 8 1 1 0) (fun u r am n => fstOk u r 8 && atDev u am 1 DV 8 (fun v => decide ((v.core 0).wb.length < 32) && nextIs v 0 0 am n)) := by
  refine ⟨?_, begins_of (by decide +kernel), ?_, ?_, begins_of (by decide +kernel), begins_of (by decide +kernel), ?_, begins_of (by decide +kernel), begins_of (by decide +kernel)⟩
  · have h : ∀ x ∈ [(0, 0x00F), (1, 0x10F)], begins (fs (enc 0x18 7 1 0 x.2)) 0 0 (.fmvg x.1 7 1) (fun u r _ _ =>
      (bank u).any (fun k => tagsOk r.her [⟨(fget k.f 1).lo, 1, [4], false⟩])) = true := by decide +kernel
    exact fun x hx => begins_of (h x hx)
  · have h : ∀ x ∈ [(0, 0x010), (1, 0x110), (2, 0x210)], begins (fs (enc 0x18 7 1 0 x.2) (withG [(1, int 77)])) 0 0 (.gmvf x.1 7 1) (fun u r _ _ =>
      (bank u).isSome && src1 r tyInt (fun _ => true)) = true := by decide +kernel
    exact fun x hx => begins_of (h x hx)
  · have h : ∀ size ∈ [4, 8], begins (fmem (fs (fmove 0x16 7 size) lgr)) 0 0 (.fld size 7 1 0) (fun u r am n => (bank u).isSome && base1 r && reads u am n 0x3000 size fldTypes) = true := by decide +kernel
    exact fun x hx => begins_of (h x hx)
  · have h : ∀ size ∈ [4, 8], begins (mem (fs (fmove 0x17 1 size) lgr)) 0 0 (.fst size 1 1 0) (fun u r am n => fstOk u r size && writes u am n 0x3000 size anyType false) = true := by decide +kernel
    exact fun x hx => begins_of (h x hx)

/-- The value a computation of the machine answers and the state it leaves. -/
def ran {α : Type} (x : M α) (s : State) : Option (α × State) := match x s with | .ok a t => some (a, t) | _ => none
/-- What ran shows is answered. -/
theorem ran_of {α : Type} {x : M α} {s t : State} {a : α} (h : ran x s = some (a, t)) : x s = .ok a t := by
  unfold ran at h
  split at h
  · rename_i e
    cases h
    exact e
  · cases h
/-- Packed fields: +123 in four bytes at 0x3000, +45 in two bytes at 0x4000. The task is mapped by tables of three levels, whose leaf is not yet marked written. -/
def pmem (s : State) : State := holding s [(0x200, ptr 0x8000), (0x1000, int 0x9001), (0x1200, int 0xA001), (0x1400, int 0xF), (0x600, ⟨0x0000123C00000000#64, Tag.pdec⟩), (0x800, ⟨0x045C000000000000#64, Tag.pdec⟩)]
/-- Their addresses. -/
def pr : Regs := withG [(1, ptr 0x3000), (2, ptr 0x4000)]
/-- The word of a packed operation: lengths 4 and 2. -/
def pk (op : Nat) : Nat := enc 0x1C 1 2 3 (32 + op)
/-- The clause of a packed operation of two fields: reached, accepted and computed. -/
def packs (op : POp2) (u : State) (r : Regs) (am n w0 : Nat) : Bool :=
  let e := envOf 0 0 w0 am
  let rd := decide (op ≠ .arith .zadd)
  let wr := decide (op ≠ .arith .cmp)
  tagsOk r.her [⟨r.gpr 1, 1, tyPtr, false⟩, ⟨r.gpr 2, 2, tyPtr, false⟩] && (r.gpr 1).datum.toNat == 0x3000 && (r.gpr 2).datum.toNat == 0x4000 &&
  (ran (e.pAddr rd wr (wordParts 3 0x3000 4)) u).any (fun pa =>
    (ran (e.pAddr true false (wordParts 3 0x4000 2)) pa.2).any (fun pb =>
      (if op = .arith .cmp then some pb.2 else (ran (e.pReady pa.1) pb.2).map (·.2)).any (fun u3 =>
        (ran (e.pWords rd pa.1) u3).any (fun wa => (ran (e.pWords true pb.1) wa.2).any (fun wb =>
          okVal (pTags r.her ((pa.1.zip wa.1).map (fun p => ⟨p.1, p.2, rd, wr⟩) ++ (pb.1.zip wb.1).map (fun p => ⟨p.1, p.2, true, false⟩))) == some () &&
            (okVal (packedRun r.her am op 0x3000 0x4000 4 2 (pBytes pa.1 wa.1) (pBytes pb.1 wb.1))).isSome && nextIs wb.2 0 0 am n)))))
/-- RAW registers. -/
def rawF (i : Nat) (r : Regs) : State := withF (cpu i r) [(1, freg 128 Tag.raw 5), (2, freg 128 Tag.raw 7)]

theorem witness_PackedAndVectorInstructionsComplete :
    (∀ x ∈ [(POp.add, 0), (.sub, 1), (.mul, 2), (.zadd, 4), (.cmp, 5)], Begins (pmem (cpu (pk x.2) pr)) 0 0 (.packed x.1 1 2 4 2) (fun u r am n => packs (.arith x.1) u r am n (pk x.2))) ∧
    (∀ x ∈ [(false, 3), (true, 6)], Begins (pmem (cpu (pk x.2) pr)) 0 0 (.pdiv x.1 1 2 4 2) (fun u r am n => packs (if x.1 then .rem else .div) u r am n (pk x.2))) ∧
    Begins (pmem (cpu (enc 0x1D 3 1 0 3) pr)) 0 0 (.ptob 3 1 4) (fun u _ am n => (ran ((envOf 0 0 (enc 0x1D 3 1 0 3) am).pRead 1 4) u).any (fun p => nextIs p.2 0 0 am n &&
      decide (-(2 ^ 63) ≤ signed p.1.2.1 p.1.2.2 ∧ signed p.1.2.1 p.1.2.2 < 2 ^ 63))) ∧
    Begins (pmem (fs (enc 0x1D 3 1 0 35) pr)) 0 0 (.ptod 3 1 4) (fun u _ am n => (bank u).isSome && (ran ((envOf 0 0 (enc 0x1D 3 1 0 35) am).pRead 1 4) u).any (fun p => nextIs p.2 0 0 am n)) ∧
    Begins (pmem (cpu (enc 0x1D 0 1 2 19) (withG [(1, ptr 0x3000), (2, int (2 ^ 64 - 45))]))) 0 0 (.btop 1 2 4) (fun u r am n =>
      tagsOk r.her [⟨r.gpr 1, 1, tyPtr, false⟩, ⟨r.gpr 2, 2, tyInt, false⟩] &&
        (ran ((envOf 0 0 (enc 0x1D 0 1 2 19) am).pWrite 0x3000 4 none (decide ((r.gpr 2).datum.toInt < 0), (r.gpr 2).datum.toInt.natAbs)) u).any (fun p => nextIs p.2 0 0 am n)) ∧
    Begins (pmem (fs (enc 0x1D 0 1 6 51) pr)) 0 0 (.dtop 1 6 4) (fun u r am n => (bank u).any (fun k =>
      tagsOk r.her (⟨r.gpr 1, 1, tyPtr, false⟩ :: halves 128 2 [5] (fget k.f 6)) && d128.decode (fbits 128 (fget k.f 6)) == .fin false 12345 0) &&
        (ran ((envOf 0 0 (enc 0x1D 0 1 6 51) am).pWrite 0x3000 4 none (false, 12345)) u).any (fun p => nextIs p.2 0 0 am n)) ∧
    Begins (rawF (enc 0x1E 7 1 2 0) {}) 0 0 (.vec .clmul 7 1 2) (fun u r _ _ => (bank u).any (fun k => tagsOk r.her (vecOpds .clmul (fget k.f 1) (fget k.f 2)))) ∧
    Begins ((rawF (enc 0x1F 7 1 2 0) (withG [(2, int 4)])).onCtx 0 0 (fun c => { c with await := .block true 1234 })) 0 0 (.bcrypt false 7 1 2) (fun u r _ _ =>
      (bank u).any (fun k => tagsOk r.her (halves 128 1 tyIntRaw (fget k.f 1) ++ [⟨r.gpr 2, 2, tyInt, false⟩])) && (u.ctx 0 0).await == .block true 1234) ∧
    (okVal (packedRun false 0 (.arith .add) 0x3000 0x4000 4 2 [0#8, 0#8, 0x12#8, 0x3C#8] [0x04#8, 0x5D#8])) = some (false, 78) := by
  refine ⟨?_, ?_, begins_of (by decide +kernel), begins_of (by decide +kernel), begins_of (by decide +kernel), begins_of (by decide +kernel), begins_of (by decide +kernel), begins_of (by decide +kernel), by decide +kernel⟩
  · have h : ∀ x ∈ [(POp.add, 0), (.sub, 1), (.mul, 2), (.zadd, 4), (.cmp, 5)], begins (pmem (cpu (pk x.2) pr)) 0 0 (.packed x.1 1 2 4 2) (fun u r am n => packs (.arith x.1) u r am n (pk x.2)) = true := by decide +kernel
    exact fun x hx => begins_of (h x hx)
  · have h : ∀ x ∈ [(false, 3), (true, 6)], begins (pmem (cpu (pk x.2) pr)) 0 0 (.pdiv x.1 1 2 4 2) (fun u r am n => packs (if x.1 then .rem else .div) u r am n (pk x.2)) = true := by decide +kernel
    exact fun x hx => begins_of (h x hx)

/-- 1.5 x 10^-1 and its opposite, written with different exponents. -/
theorem witness_ExactZeroSumsHaveTheStatedSign :
    d64 ∈ [b32, b64, b128, d64, d128] ∧ ((-2 : Int) ≤ -2) ∧ ((-2 : Int) ≤ -1) ∧
      signed false (150 * d64.b ^ ((-2 : Int) - -2).toNat) + signed true (15 * d64.b ^ ((-1 : Int) - -2).toNat) = 0 ∧
      signed false (150 * d64.b ^ ((-2 : Int) - -2).toNat) - signed false (15 * d64.b ^ ((-1 : Int) - -2).toNat) = 0 ∧
      b64 ∈ [b32, b64, b128, d64, d128] ∧ signed true (0 * b64.b ^ ((5 : Int) - 5).toNat) + signed true (0 * b64.b ^ ((5 : Int) - 5).toNat) = 0 := by
  and_intros
  · simp
  all_goals decide +kernel

theorem witness_ComparisonsSetTheFlagsOfTheirRelation :
    b64 ∈ [b32, b64, b128, d64, d128] ∧ (Fv.nan true false 0).isNan = true ∧
      signed true (1 * b64.b ^ ((3 : Int) - 3).toNat) < signed false (1 * b64.b ^ ((3 : Int) - 3).toNat) ∧
      signed false (2 * b64.b ^ ((3 : Int) - 3).toNat) = signed false (1 * b64.b ^ ((4 : Int) - 3).toNat) ∧
      signed true (1 * b64.b ^ ((4 : Int) - 3).toNat) < signed true (1 * b64.b ^ ((3 : Int) - 3).toNat) := by
  and_intros
  · simp
  all_goals decide +kernel

/-- A device held in reset, with every window idle and a command waiting. -/
def heldIdle : State := { State.reset with windows := [], pending := [.vstbyRise] }
theorem witness_DormancyIsKeptByEveryStep : heldIdle.dormant := by
  refine ⟨Or.inl (by decide +kernel), fun w => ?_, ?_⟩
  · exact (by decide : (0 : Nat) ≠ 1)
  · decide +kernel

/-! ### Well-formedness refuses, and words decode -/

/-- One term for each check of Instr.wf that the check refuses. -/
theorem test_wf_refuses :
    ([.integerArithmetic 72 0, .integerArithmetic 0 68, .storePerformed 72, .deviceSpaceLoadReply 0 0 (2 ^ 64), .deviceSpaceLoadReply 72 0 1, .cxlLinkDownTimeout 12, .flitCrcFailure 7 false,
      .refclkEdgeLoss 2, .ppsEdge 0, .ppsEdge 3, .leaseRequest 3, .sfwFault ⟨2, none⟩, .nrHeadWrite 514 0, .nrHeadWrite 0 (2 ^ 64), .notificationWrite 514, .instanceResetComplete 512,
      .subchannelDoorbell (2 ^ 20) 0, .subchannelDoorbell 0 (2 ^ 64), .waybillAdmission (2 ^ 20), .engineHeartbeat 16, .lateResponse 0 0 0 0 0 44 [], .pathSignalLoss 0 32, .pathSignalLoss 1 12,
      .pathSignalLoss 2 0, .pathLogout 0 8, .engineCheckerFault 32] : List Instr).all (fun c => !c.wf) = true ∧
    ([.claimWriteResend 16 0, .claimWriteResend 0 56, .outputStageFrame 56 0 0, .outputStageFrame 0 16 0, .requestRingDoorbell (2 ^ 20) 0, .requestRingDoorbell 0 (2 ^ 64), .requestAdmission (2 ^ 20),
      .bcuDispatch 8, .lltCounterClear 16 0, .lltCounterClear 0 (2 ^ 64), .quantumExpiry 72 0, .quantumExpiry 0 2, .outriderSelfTest 80, .relayLinkLoss 6, .relayLaneFailure 6 0, .relayLaneFailure 0 16,
      .probe 7, .waitLimitExpiry 16 0 0, .homeDeviceUnreachable 64, .pmbAlert 10 0, .temperatureReading 32 0 false, .depotChannelLoss 64, .cipherPageStorageError 4096] : List Instr).all (fun c => !c.wf) = true := by
  decide

/-- The same commands on units that exist are accepted. -/
theorem test_wf_accepts :
    ([.integerArithmetic 71 67, .deviceSpaceLoadReply 0 0 (2 ^ 64 - 1), .cxlLinkDownTimeout 11, .ppsEdge 1, .ppsEdge 2, .notificationWrite 513, .pathSignalLoss 0 31, .pathSignalLoss 1 11, .pathLogout 0 7,
      .claimWriteResend 15 55, .quantumExpiry 71 1, .relayLaneFailure 5 15, .probe 6, .cipherPageStorageError 4095, .vstbyRise] : List Instr).all Instr.wf = true := by decide

/-- The words that the spec spells out, each with the instruction it stands for: R329, R360, the worked examples of chapters 04, 05 and 08, and the encoding checks of chapters 06 and 10. -/
theorem test_words_decode :
    [0x30308900, 0x32408868, 0x50028042, 0x26728000, 0x88A65805, 0x3E41A400, 0x48000000, 0x4803FC01, 0x5284A800, 0x5284A801].map (fun w => okVal (decodeIns w)) =
      [some (.bfp .add 1 3 1 2), some (.bfma 0 1 4 1 2 3), some (.maint 4 2 5), some (.stm 7 5 0), some (.pair { op := 2, d := 5, s := 6 } { op := 0x16, d := 0, s := 5 }),
        some (.bcrypt false 4 3 9), some .tgate, some (.texit 7 31), some (.lock false 8 9 10), some (.lock true 8 9 10)] := by decide +kernel

/-- The words that the spec names as unassigned (R143 and the pair example of chapter 04). -/
theorem test_words_refused : [0x00000000, 0x80000000, 0x88A6D805].all (fun w => (okVal (decodeIns w)).isNone) = true := by decide +kernel

/-- A branch in slot A of a pair is an illegal pairing (the pair example of chapter 04). -/
theorem test_branch_in_slot_a : (okVal (decodeIns 0xD80508A6)).map (fun i => match i with | .pair x y => pairBreach x y | _ => none) = some (some (0, 0)) := by decide +kernel

/-- The published check value of CRC-32C: that of the nine digits 1 to 9. -/
theorem test_crc32c : crc32c (ascii "123456789") = 0xE3069283 := by decide +kernel

/-- The published digest of the three letters abc under SHA-384. -/
theorem test_sha384 : beNat (sha384 (ascii "abc")) = 0xcb00753f45a35e8bb5a03d699ac65007272c32ab0eded1631a8b605a43ff5bed8086072ba1e7cc2358baeca134c825a7 := by decide +kernel

/-- Binary64 by hand: 1.5 + 2.25 is 3.75, 1 / 3 rounds to 3FD5555555555555 and is inexact, the square root of 2 is 3FF6A09E667F3BCD. -/
theorem test_binary64 :
    b64.encode (b64.add 0 (b64.decode 0x3FF8000000000000) (b64.decode 0x4002000000000000)).1 = 0x400E000000000000 ∧
      b64.encode (b64.div 0 (b64.decode 0x3FF0000000000000) (b64.decode 0x4008000000000000)).1 = 0x3FD5555555555555 ∧
      (b64.div 0 (b64.decode 0x3FF0000000000000) (b64.decode 0x4008000000000000)).2 = fNX ∧
      b64.encode (b64.sqrt 0 (b64.decode 0x4000000000000000)).1 = 0x3FF6A09E667F3BCD := by decide +kernel

/-- Decimal64 by hand: 15 x 10^-1 has biased exponent 397 and declet 015. -/
theorem test_decimal64 : d64.encode (.fin false 15 (-1)) = 0x2234000000000015 ∧ d64.decode 0x2234000000000015 = .fin false 15 (-1) := by decide +kernel

/-- AES of FIPS 197, appendix C: the key 00 to 0F on the block 00112233445566778899AABBCCDDEEFF. -/
theorem test_aes : beNat (aesEnc ((List.range 16).map (fun k => BitVec.ofNat 8 k)) (beBytes 16 0x00112233445566778899aabbccddeeff)) = 0x69c4e0d86a7b0430d8cdb78070b4c55a := by decide +kernel

end Sys2Proof.Tests
end

section
/-! SUPPORT. What answering a mailbox command leaves beside its window, said once for every command (R71, R81, R289). -/
namespace Sys2Proof.Machine

/-! ### What a task finds in memory does not depend on the Service Complex -/

theorem State.source_svc (s : State) (v : Svc) (ph la : Nat) : ({ s with svc := v } : State).source ph la = s.source ph la := by
  unfold State.source State.hit State.memLine; rfl

theorem State.hubWord_svc (s : State) (v : Svc) (i e ia : Nat) : ({ s with svc := v } : State).hubWord i e ia = s.hubWord i e ia := by
  unfold State.hubWord State.tableWord State.instStage State.wordNow State.lineNow
  simp only [State.source_svc]
  rfl

theorem State.tsa_svc (s : State) (v : Svc) (tid : Nat) : ({ s with svc := v } : State).tsa tid = s.tsa tid := by
  simp only [State.tsa, State.inst]

/-- The class of a task does not depend on the Service Complex (R219). -/
theorem State.taskClass_svc (s : State) (v : Svc) (tid : Nat) : ({ s with svc := v } : State).taskClass tid = s.taskClass tid := by
  unfold State.taskClass State.tsaWord
  rw [State.hubWord_svc, State.tsa_svc]

/-! ### Settling the in-doubt store depends on the store, the slots and LAST_DONE alone (R280, R289) -/

/-- Two states hold the same in-doubt store and the same subchannels. -/
def State.sameStore (a b : State) : Prop := a.indoubt = b.indoubt ∧ a.subchs = b.subchs

theorem State.sameStore.trans {a b c : State} (h : a.sameStore b) (k : b.sameStore c) : a.sameStore c := ⟨h.1.trans k.1, h.2.trans k.2⟩

/-- A record leaves the slots of two such states for the store in the same way. -/
theorem State.storeDoubt_sameStore {a b : State} (h : a.sameStore b) (sc wsn : Nat) : (a.storeDoubt sc wsn).sameStore (b.storeDoubt sc wsn) := by
  obtain ⟨hi, hs⟩ := h
  have hr : a.doubtRoom = b.doubtRoom := by unfold State.doubtRoom; rw [hi]
  have hj : a.jrec sc wsn = b.jrec sc wsn := by unfold State.jrec State.sub; rw [hs]
  unfold State.storeDoubt
  rw [hj, hr]
  split
  · split
    · exact ⟨congrArg (· ++ _) hi, by unfold State.onSub; dsimp only; rw [hs]⟩
    · exact ⟨hi, hs⟩
  · exact ⟨hi, hs⟩

theorem State.enterStore_sameStore {a b : State} (h : a.sameStore b) (r : JRec) : (a.enterStore r).sameStore (b.enterStore r) := by
  have hr : a.doubtRoom = b.doubtRoom := by unfold State.doubtRoom; rw [h.1]
  unfold State.enterStore
  rw [hr]
  split
  · split
    · exact ⟨congrArg (List.map _) h.1, h.2⟩
    · exact h
  · exact State.storeDoubt_sameStore h _ _

theorem State.enterStores_sameStore (l : List JRec) {a b : State} (h : a.sameStore b) : (l.foldl State.enterStore a).sameStore (l.foldl State.enterStore b) := by
  induction l generalizing a b with
  | nil => exact h
  | cons r l ih => exact ih (State.enterStore_sameStore h r)

/-- States with the same store, slots and LAST_DONE settle alike. -/
theorem State.purgeDoubt_sameStore {a b : State} (h : a.sameStore b) (hd : ∀ v, (a.win v).lastDone = (b.win v).lastDone) :
    a.purgeDoubt.sameStore b.purgeDoubt := by
  obtain ⟨hi, hs⟩ := h
  have hg : a.settledGone = b.settledGone := by funext r; unfold State.settledGone; rw [hd]
  unfold State.purgeDoubt
  rw [hi, hs, hg]
  exact State.enterStores_sameStore _ ⟨rfl, rfl⟩

/-- Counting a latency and posting EV_MB leave the store and the slots as they are. -/
theorem State.doneWin_sameStore (s : State) (w st : Nat) (resp : List Byte) : (s.doneWin w st resp).sameStore s := by
  unfold State.doneWin
  dsimp only
  split <;> split <;> exact ⟨rfl, rfl⟩

/-- What the end of a command settles: LAST_DONE of its window has advanced. -/
theorem State.finishCmd_sameStore (s : State) (w st : Nat) (body : List Byte) : (s.finishCmd w st body).sameStore (s.settled w) := by
  unfold State.finishCmd State.settled
  refine (State.doneWin_sameStore _ w st _).trans (State.purgeDoubt_sameStore ⟨rfl, rfl⟩ (fun v => ?_))
  rw [State.onWin_win, State.onWin_win]
  split <;> rfl

/-! ### A command that answers with a changed state u -/

/-- The state u, reached by the command taken in window w of s: the order of service has advanced and the command's entry is mirrored (R45, R46, R71). -/
def State.ranIn (u s : State) (w : Nat) (f : Bool) : State :=
  { u with svc := { u.svc with lastTenant := (s.takeWin w f).svc.lastTenant, credit := (s.takeWin w f).svc.credit }, windows := (s.begun w f).windows }

/-- The class of a task does not depend on the order of service and the windows (R219). -/
theorem State.ranIn_taskClass (u s : State) (w tid : Nat) (f : Bool) (W : Tab Window) :
    ({ u.ranIn s w f with windows := W } : State).taskClass tid = u.taskClass tid :=
  (State.taskClass_frame { u with svc := (u.ranIn s w f).svc } W u.indoubt u.subchs u.log tid).trans (State.taskClass_svc u _ tid)

/-- The window of the command, when it has run and its changes are noted: as in s, but in execution and with its entry. -/
theorem State.ranIn_win (u s b : State) (w : Nat) (f : Bool) :
    ∃ e, ((u.ranIn s w f).noteChanges b w).win w = { s.win w with inExec := true, entry := e } := by
  obtain ⟨e, he⟩ := State.noteChanges_win (u.ranIn s w f) b w
  have hw : (u.ranIn s w f).win w = (s.begun w f).win w := rfl
  exact ⟨e, by rw [he, hw, State.begun_win]⟩

/-- The other windows are those of s. -/
theorem State.ranIn_win_ne (u s b : State) (w v : Nat) (f : Bool) (h : v ≠ w) : ((u.ranIn s w f).noteChanges b w).win v = s.win v :=
  (State.noteChanges_win_ne _ b w v h).trans (State.begun_win_ne s w v f h)

/-- LAST_DONE of every window before the command ends. -/
theorem State.ranIn_lastDone (u s b : State) (w v : Nat) (f : Bool) : (((u.ranIn s w f).noteChanges b w).win v).lastDone = (s.win v).lastDone := by
  by_cases h : v = w
  · obtain ⟨e, he⟩ := State.ranIn_win u s b w f
    rw [h, he]
  · rw [State.ranIn_win_ne u s b w v f h]

/-- The end of the command settles what it would settle of u (R289). -/
theorem State.ranIn_settled (u s b : State) (w : Nat) (f : Bool) (hw : u.windows = s.windows) :
    (((u.ranIn s w f).noteChanges b w).settled w).sameStore (u.settled w) := by
  have hu : ∀ v, u.win v = s.win v := fun v => congrArg (fun t : Tab Window => t.getD v {}) hw
  refine State.purgeDoubt_sameStore ?_ (fun v => ?_)
  · rw [State.noteChanges_eq]
    exact ⟨rfl, rfl⟩
  · rw [State.onWin_win, State.onWin_win, hu, hu]
    split
    · obtain ⟨e, he⟩ := State.ranIn_win u s b w f
      rw [he]
    · exact State.ranIn_lastDone u s b w v f

/-- The command's end posts EV_MB for its window as u would, unless the window is the console's (R81, R89). -/
theorem State.ranIn_posts (u s b : State) (w st : Nat) (f : Bool) (body : List Byte) (hw : u.windows = s.windows) :
    (((u.ranIn s w f).noteChanges b w).finishCmd w st body).posts =
      if w = 513 then u.posts else u.posts ++ [{ tid := (u.win w).tid, ev := 3, cause := 1, source := w, tod := u64 u.now, cls := u.taskClass (u.win w).tid }] := by
  have hu : u.win w = s.win w := congrArg (fun t : Tab Window => t.getD w {}) hw
  obtain ⟨e, he⟩ := State.ranIn_win u s b w f
  rw [State.finishCmd_posts, he, State.noteChanges_eq, State.ranIn_taskClass, hu]
  rfl

/-- A command that has changed the state to u and is answered leaves u beside the answer. -/
theorem State.ranIn_isBut (u s b : State) (w st : Nat) (f : Bool) (body : List Byte) (hw : u.windows = s.windows) :
    (((u.ranIn s w f).noteChanges b w).finishCmd w st body).isBut u w := by
  obtain ⟨hi, hs⟩ := (State.finishCmd_sameStore ((u.ranIn s w f).noteChanges b w) w st body).trans (State.ranIn_settled u s b w f hw)
  have hp := State.ranIn_posts u s b w st f body hw
  have hl := State.finishCmd_log ((u.ranIn s w f).noteChanges b w) w st body
  have ht := State.finishCmd_eq ((u.ranIn s w f).noteChanges b w) w st body
  refine ⟨?_, fun v hv => ?_⟩
  · generalize ((u.ranIn s w f).noteChanges b w).finishCmd w st body = t at *
    rw [hi, hs, hp, hl, State.noteChanges_eq] at ht
    have hv : t.svc = (u.ranIn s w f).svc := by rw [ht]
    rw [hv]
    exact ht
  · rw [State.finishCmd_win_ne _ _ _ _ _ hv, State.ranIn_win_ne u s b w v f hv]
    exact congrArg (fun t : Tab Window => t.getD v {}) hw.symm

/-- What a row does whose command is taken, changes the state to u beside the windows, and answers: its window shows the answer, and beside it the state is u (R81). -/
theorem serve_isBut {c : Command} {w st : Nat} {f : Bool} {s : State} (u : State) {body : List Byte} (h : s.takes c w f) (hw : u.windows = s.windows)
    (hr : c.run (s.begun w f) (s.mreq w) = (u.ranIn s w f, some (st, body))) : ∃ t, serve c w s = .next t ∧ t.shows s w st body ∧ t.isBut u w := by
  obtain ⟨e, he⟩ := State.ranIn_win u s (s.begun w f) w f
  exact ⟨_, serve_answers c w f s _ st body h hr, State.finishCmd_shows _ s w st body (by rw [he]), State.ranIn_isBut u s _ w st f body hw⟩

end Sys2Proof.Machine
end

section
/-! SUPPORT. The commands of cipher pages, request rings, dictionaries and unit status (R298 to R302, R308, R320, R321), each taken in its window. -/
namespace Sys2Proof.Machine

/-! ### What u holds, the answered state holds -/

theorem State.isBut.pages {t u : State} {w : Nat} (h : t.isBut u w) : t.pages = u.pages := by rw [h.1]

theorem State.isBut.page {t u : State} {w : Nat} (h : t.isBut u w) (n : Nat) : t.page n = u.page n := by unfold State.page; rw [h.pages]

theorem State.isBut.rings {t u : State} {w : Nat} (h : t.isBut u w) : t.rings = u.rings := by rw [h.1]

theorem State.isBut.ring {t u : State} {w : Nat} (h : t.isBut u w) (n : Nat) : t.ring n = u.ring n := by unfold State.ring; rw [h.rings]

theorem State.isBut.dicts {t u : State} {w : Nat} (h : t.isBut u w) : t.dicts = u.dicts := by rw [h.1]

/-! ### Cipher pages -/

/-- CPAGE_ALLOC without an enclave, not yet done under its number, within the share, with n the lowest free page (R98, R298). -/
theorem cmdCpageAlloc_run {s : State} {q : MReq} {n : Nat} (he : fld q.body 0 2 = 0)
    (hq : s.pages.find? (fun x => x.2.state != 0 && x.2.allocSeq == some (q.seq, q.w)) = none) (hh : s.pagesHeld q.w < (s.inst q.w).cpages)
    (hn : (List.range 4096).find? (fun n => (s.page n).state == 0) = some n) :
    cmdCpageAlloc.run s q = (s.onPage n (fun _ => { state := 1, inst := q.w, perm := fld q.body 2 1, allocSeq := some (q.seq, q.w) }), some (stOk, beBytes 2 n ++ beBytes 6 0)) := by
  simp only [cmdCpageAlloc, he, hq, hn, if_neg (Nat.not_le.mpr hh), (by decide : ¬4096 ≤ 0), ne_eq, not_true_eq_false, false_and, or_self, if_false]

theorem cpageAlloc_gives_lowest {s : State} {w n : Nat} {f : Bool} (h : s.takes cmdCpageAlloc w f) (he : s.arg w 0 2 = 0)
    (hq : s.pages.find? (fun x => x.2.state != 0 && x.2.allocSeq == some ((s.win w).reqSeq, w)) = none) (hh : s.pagesHeld w < (s.inst w).cpages)
    (hn : (List.range 4096).find? (fun n => (s.page n).state == 0) = some n) :
    ∃ t, exec (.cpageAlloc w) s = .next t ∧ t.shows s w stOk (beBytes 2 n ++ beBytes 6 0) ∧ (t.page n).state = 1 ∧ (t.page n).inst = w ∧ (t.page n).encl = 0 ∧ (t.page n).perm = s.arg w 2 1 ∧
      (t.page n).key = [] ∧ (∀ m, m ≠ n → t.page m = s.page m) ∧ t.isBut { s with pages := t.pages } w := by
  obtain ⟨t, ht, hs, hb⟩ := serve_isBut (s.onPage n (fun _ => { state := 1, inst := w, perm := s.arg w 2 1, allocSeq := some ((s.win w).reqSeq, w) })) h rfl
    (cmdCpageAlloc_run (s := s.begun w f) (q := s.mreq w) he hq hh hn)
  have hn : t.page n = { state := 1, inst := w, perm := s.arg w 2 1, allocSeq := some ((s.win w).reqSeq, w) } := by rw [hb.page, State.onPage_page_self]
  refine ⟨t, ht, hs, by rw [hn], by rw [hn], by rw [hn], by rw [hn], by rw [hn], fun m hm => ?_, ?_⟩
  · rw [hb.page, State.onPage_page_ne _ _ _ _ hm]
  · rw [hb.pages]
    exact hb

/-- CPAGE_KEY_WRITE of a key it can read, with a generation above the page's, on a page of no enclave (R301). -/
theorem cmdCpageKeyWrite_run {s : State} {q : MReq} {key : List Byte} (hk : s.keyAt q.w (fld q.body 8 8) (fld q.body 2 1 + 1) = some key)
    (he : (s.page q.page).encl = 0) (hg : (s.page q.page).gen < fld q.body 4 4) :
    cmdCpageKeyWrite.run s q =
      (s.onPage q.page (fun x => x.rekey key (fld q.body 2 1) (fld q.body 4 4) (fld q.body 3 1 == 1)), some (stOk, (sha384 key).take 4 ++ beBytes 4 0)) := by
  simp only [cmdCpageKeyWrite, hk, he, if_pos hg, ne_eq, not_true_eq_false, if_false]

/-! ### The erase of a page with nothing dispatched on it (R302) -/

/-- A unit that holds no request of a test keeps what it holds. -/
theorem Unit.drop_none {sel : Req → Bool} {u : Unit} (hr : ∀ q, u.running = some q → sel q = false) (hw : ∀ q, u.waiting = some q → sel q = false) : u.drop sel = u := by
  have keep : ∀ o : Option Req, (∀ q, o = some q → sel q = false) → o.filter (fun q => !sel q) = o := by
    intro o ho
    cases o with
    | none => rfl
    | some q => simp [ho q rfl]
  unfold Unit.drop
  rw [keep _ hr, keep _ hw]

/-- Removing cipher requests changes nothing where the test selects none. -/
theorem State.dropReqs_none {s : State} {sel : Req → Bool} (h : ∀ q ∈ s.bcuReqs, sel q = false) : s.dropReqs sel = s := by
  have hp : s.bcuPool.filter (fun q => !sel q) = s.bcuPool := List.filter_eq_self.mpr (fun q hq => by simp [h q (by simp [State.bcuReqs, hq])])
  have hu : s.bcus.map (fun u => (u.1, u.2.drop sel)) = s.bcus := by
    refine (List.map_congr_left (fun u hu => ?_)).trans (List.map_id _)
    have hd : u.2.drop sel = u.2 := Unit.drop_none
      (fun q hq => h q (by unfold State.bcuReqs; exact List.mem_append_left _ (List.mem_append_right _ (List.mem_filterMap.mpr ⟨u, hu, hq⟩))))
      (fun q hq => h q (by unfold State.bcuReqs; exact List.mem_append_right _ (List.mem_filterMap.mpr ⟨u, hu, hq⟩)))
    rw [hd]
    rfl
  have hf : s.bcuReqs.filter sel = [] := List.filter_eq_nil_iff.mpr (fun q hq => by simp [h q hq])
  unfold State.dropReqs
  rw [hf, List.foldl_nil]
  dsimp only
  rw [hp, hu]

/-- Aborting what is dispatched on a page changes nothing where no unit holds a request on it and there is no subchannel. -/
theorem State.abortOn_idle {s : State} {p : Nat} (hq : ∀ q ∈ s.bcuReqs, q.page ≠ p) (hc : s.subchs = []) : s.abortOn p = s := by
  have hm : ∀ q ∈ s.bcuReqs, (q.page == p && q.stamp != 0 && q.src != 3) = false := fun q h => by simp [hq q h]
  have hf : s.bcuReqs.filter (fun q => q.page == p && q.stamp != 0 && q.src != 3) = [] := List.filter_eq_nil_iff.mpr (fun q h => by simp [hm q h])
  unfold State.abortOn
  simp only [State.dropReqs_none hm, hf, List.filter_nil, List.foldl_nil, hc, List.flatMap_nil]

/-- A KEYED page is ERASED without its key, and what is in flight on it is aborted. -/
theorem State.freeErase_keyed {s : State} {p : Nat} (hs : (s.page p).state = 2) (hq : ∀ q ∈ s.bcuReqs, q.page ≠ p) (hc : s.subchs = []) :
    s.freeErase p = s.onPage p (fun x => { x with state := 3, key := [] }) := by
  unfold State.freeErase State.erasePage
  rw [if_pos (Or.inl hs)]
  exact State.abortOn_idle hq hc

/-- Erasing a KEYED page is the erase that freeing it begins with. -/
theorem State.eraseKey_keyed {s : State} {p : Nat} (hs : (s.page p).state = 2) : s.eraseKey p = s.freeErase p := by
  unfold State.eraseKey State.freeErase
  rw [if_pos (Or.inl hs)]

theorem cmdCpageKeyErase_run {s : State} {q : MReq} (hs : (s.page q.page).state = 2) (hi : (s.page q.page).inflight = 0)
    (hq : ∀ r ∈ s.bcuReqs, r.page ≠ q.page) (hc : s.subchs = []) :
    cmdCpageKeyErase.run s q = (s.onPage q.page (fun x => { x with state := 3, key := [] }), some (stOk, [])) := by
  simp only [cmdCpageKeyErase, State.eraseKey_keyed hs, State.freeErase_keyed hs hq hc, State.onPage_page_self, hi, if_true]

theorem cmdCpageFree_run {s : State} {q : MReq} (hs : (s.page q.page).state = 2) (hi : (s.page q.page).inflight = 0)
    (hq : ∀ r ∈ s.bcuReqs, r.page ≠ q.page) (hc : s.subchs = []) :
    cmdCpageFree.run s q =
      ((s.onPage q.page (fun x => { x with state := 3, key := [] })).onPage q.page (fun _ => { freeSeq := some (q.seq, q.w) }), some (stOk, [])) := by
  simp only [cmdCpageFree, State.freeErase_keyed hs hq hc, State.onPage_page_self, hi, hs, if_true, (by decide : ¬2 = 0), if_false]

theorem cpageFree_frees {s : State} {w : Nat} {f : Bool} (h : s.takes cmdCpageFree w f) (hs : (s.page (s.arg w 0 2)).state = 2) (hi : (s.page (s.arg w 0 2)).inflight = 0)
    (hq : ∀ q ∈ s.bcuReqs, q.page ≠ s.arg w 0 2) (hc : s.subchs = []) :
    ∃ t, exec (.cpageFree w) s = .next t ∧ t.shows s w stOk [] ∧ (t.page (s.arg w 0 2)).state = 0 ∧ (t.page (s.arg w 0 2)).key = [] ∧ (t.page (s.arg w 0 2)).gen = 0 ∧
      (∀ m, m ≠ s.arg w 0 2 → t.page m = s.page m) ∧ t.isBut { s with pages := t.pages } w := by
  obtain ⟨t, ht, hsh, hb⟩ := serve_isBut ((s.onPage (s.arg w 0 2) (fun x => { x with state := 3, key := [] })).onPage (s.arg w 0 2) (fun _ => { freeSeq := some ((s.win w).reqSeq, w) })) h rfl
    (cmdCpageFree_run (s := s.begun w f) (q := s.mreq w) hs hi hq hc)
  have hn : t.page (s.arg w 0 2) = { freeSeq := some ((s.win w).reqSeq, w) } := by rw [hb.page, State.onPage_page_self]
  refine ⟨t, ht, hsh, by rw [hn], by rw [hn], by rw [hn], fun m hm => ?_, ?_⟩
  · rw [hb.page, State.onPage_page_ne _ _ _ _ hm, State.onPage_page_ne _ _ _ _ hm]
  · rw [hb.pages]
    exact hb

/-- The six registers of a page as CPAGE_QUERY answers them (Table 10-4). -/
theorem CPage.reg_bytes (p : CPage) : [0, 8, 0x10, 0x18, 0x20, 0x28].flatMap (fun o => beBytes 8 (p.reg o)) =
    beBytes 8 (p.gen * 2 ^ 32 + b2n p.test * 2 ^ 31 + p.perm * 2 ^ 16 + p.keylen * 2 ^ 8 + p.state) ++ beBytes 8 (p.encl * 2 ^ 16 + p.inst) ++
      beBytes 8 (p.mark / 2 ^ 64) ++ beBytes 8 (p.mark % 2 ^ 64) ++ beBytes 8 p.kcv ++ beBytes 8 p.inflight := by
  simp only [List.flatMap_cons, List.flatMap_nil, List.append_nil, List.append_assoc]
  rfl

/-! ### Request rings -/

/-- The ring that a CRING_CREATE of KIND 0x01 makes (R308, Table 10-14). -/
def MReq.cipherRing (q : MReq) : Ring :=
  { live := true, inst := q.w, encl := 0, kind := 0, log2 := fld q.body 5 1, sq := fld q.body 8 8, cq := fld q.body 0x10 8, evTid := fld q.body 0x18 8, params := q.body }

/-- CRING_CREATE of KIND 0x01 on a number that no subchannel and no ring has (R308). -/
theorem cmdCringCreate_run {s : State} {q : MReq} (hs : (s.sub q.sc).live = false) (hr : (s.ring q.sc).live = false) (hk : fld q.body 4 1 = 1) :
    cmdCringCreate.run s q = ({ s with rings := s.rings.put q.sc q.cipherRing }, some (stOk, [])) := by
  simp only [cmdCringCreate, hs, hr, hk, Bool.false_eq_true, if_false]
  rfl

theorem cringCreate_makes_ring {s : State} {w n : Nat} {f : Bool} (h : s.takes cmdCringCreate w f) (hn : n = s.arg w 0 4) (hs : (s.sub n).live = false) (hr : (s.ring n).live = false)
    (hk : s.arg w 4 1 = 1) :
    ∃ t, exec (.cringCreate w) s = .next t ∧ t.shows s w stOk [] ∧ (t.ring n).live = true ∧ (t.ring n).inst = w ∧ (t.ring n).encl = 0 ∧ (t.ring n).kind = 0 ∧ (t.ring n).log2 = s.arg w 5 1 ∧
      (t.ring n).sq = s.arg w 8 8 ∧ (t.ring n).cq = s.arg w 0x10 8 ∧ (t.ring n).evTid = s.arg w 0x18 8 ∧ (∀ m, m ≠ n → t.ring m = s.ring m) ∧ t.isBut { s with rings := t.rings } w := by
  subst hn
  obtain ⟨t, ht, hsh, hb⟩ := serve_isBut { s with rings := s.rings.put (s.arg w 0 4) (s.mreq w).cipherRing } h rfl (cmdCringCreate_run (s := s.begun w f) (q := s.mreq w) hs hr hk)
  have hring : ∀ m, t.ring m = if m = s.arg w 0 4 then (s.mreq w).cipherRing else s.ring m := fun m => (hb.ring m).trans (Tab.getD_put ..)
  have hself := (hring (s.arg w 0 4)).trans (if_pos rfl)
  refine ⟨t, ht, hsh, ?_, ?_, ?_, ?_, ?_, ?_, ?_, ?_, fun m hm => (hring m).trans (if_neg hm), ?_⟩
  case refine_9 =>
    rw [hb.rings]
    exact hb
  all_goals
    rw [hself]
    rfl

/-- CRING_DESTROY of a ring without an admitted request. -/
theorem cmdCringDestroy_run {s : State} {q : MReq} (hl : (s.ring q.sc).live = true) (hb : s.ringBusy q.sc = false) :
    cmdCringDestroy.run s q = ({ s with rings := s.rings.del q.sc }, some (stOk, [])) := by
  simp only [cmdCringDestroy, hl, hb, Bool.not_true, Bool.false_eq_true, if_false]

theorem cringDestroy_removes_ring {s : State} {w n : Nat} {f : Bool} (h : s.takes cmdCringDestroy w f) (hn : n = s.arg w 0 4) (hl : (s.ring n).live = true) (hb : s.ringBusy n = false) :
    ∃ t, exec (.cringDestroy w) s = .next t ∧ t.shows s w stOk [] ∧ (t.ring n).live = false ∧ t.isBut { s with rings := s.rings.del n } w := by
  subst hn
  obtain ⟨t, ht, hsh, hu⟩ := serve_isBut { s with rings := s.rings.del (s.arg w 0 4) } h rfl (cmdCringDestroy_run (s := s.begun w f) (q := s.mreq w) hl hb)
  refine ⟨t, ht, hsh, ?_, hu⟩
  rw [hu.ring, State.ring, Tab.getD, Tab.find_del_self]
  rfl

/-! ### Dictionaries -/

/-- DICT_LOAD into an empty slot of bytes it can read (R320). -/
theorem cmdDictLoad_run {s : State} {q : MReq} {b : List Byte} (hr : s.engRead q.w 0 (fld q.body 8 8) (fld q.body 4 4) = .ok b) (hd : s.dictOf q.w (fld q.body 0 1) = none) :
    cmdDictLoad.run s q = ({ s with dicts := s.dicts.put (q.w * 64 + fld q.body 0 1) b }, some (stOk, beBytes 4 (adler32 b) ++ beBytes 4 0)) := by
  simp only [cmdDictLoad, hr, hd]

theorem dictLoad_stores {s : State} {w k : Nat} {f : Bool} (h : s.takes cmdDictLoad w f) (hk : k = s.arg w 0 1) (hd : s.dictOf w k = none) {b : List Byte}
    (hr : (s.begun w f).engRead w 0 (s.arg w 8 8) (s.arg w 4 4) = .ok b) :
    ∃ t, exec (.dictLoad w) s = .next t ∧ t.shows s w stOk (beBytes 4 (adler32 b) ++ beBytes 4 0) ∧ t.dictOf w k = some b ∧ t.isBut { s with dicts := t.dicts } w := by
  subst hk
  obtain ⟨t, ht, hs, hu⟩ := serve_isBut { s with dicts := s.dicts.put (w * 64 + s.arg w 0 1) b } h rfl (cmdDictLoad_run (s := s.begun w f) (q := s.mreq w) hr hd)
  refine ⟨t, ht, hs, ?_, ?_⟩
  · rw [State.dictOf, hu.dicts, Tab.find_put_self]
  · rw [hu.dicts]
    exact hu

theorem dictFree_empties {s : State} {w k : Nat} {f : Bool} (h : s.takes cmdDictFree w f) (hk : k = s.arg w 0 1) :
    ∃ t, exec (.dictFree w) s = .next t ∧ t.shows s w stOk [] ∧ t.dictOf w k = none ∧ (∀ j, j ≠ w * 64 + k → t.dicts.find j = s.dicts.find j) ∧ t.isBut { s with dicts := t.dicts } w := by
  subst hk
  obtain ⟨t, ht, hs, hu⟩ := serve_isBut { s with dicts := s.dicts.del (w * 64 + s.arg w 0 1) } h rfl rfl
  refine ⟨t, ht, hs, ?_, fun j hj => ?_, ?_⟩
  · rw [State.dictOf, hu.dicts, Tab.find_del_self]
  · rw [hu.dicts, Tab.find_del_ne _ _ _ hj]
  · rw [hu.dicts]
    exact hu

/-- DICT_QUERY with no dictionary loaded answers a mask of 0 and 64 empty entries. -/
theorem cmdDictQuery_run {s : State} {q : MReq} (hd : ∀ k, k < 64 → s.dictOf q.w k = none) : cmdDictQuery.run s q = (s, some (stOk, List.replicate 520 0)) := by
  have hmask : (List.range 64).map (fun k => if ((s.dictOf q.w k).getD []).isEmpty then 0 else 2 ^ k) = (List.range 64).map (fun _ => 0) :=
    List.map_congr_left (fun k hk => by rw [hd k (List.mem_range.mp hk)]; rfl)
  have hent : (List.range 64).flatMap (fun k => if ((s.dictOf q.w k).getD []).isEmpty then beBytes 8 0
      else beBytes 4 ((s.dictOf q.w k).getD []).length ++ beBytes 4 (adler32 ((s.dictOf q.w k).getD []))) = (List.range 64).flatMap (fun _ => beBytes 8 0) :=
    congrArg List.flatten (List.map_congr_left (fun k hk => by rw [hd k (List.mem_range.mp hk)]; rfl))
  have hzero : beBytes 8 (((List.range 64).map (fun _ => 0)).foldl (· + ·) 0) ++ (List.range 64).flatMap (fun _ => beBytes 8 0) = List.replicate 520 0 := by decide +kernel
  simp only [cmdDictQuery, hmask, hent, hzero]

end Sys2Proof.Machine
end

section
/-! The statement about cipher pages, rings and dictionaries. -/
namespace Sys2Proof.Machine

/-- Settles O30: each command runs in the state its window began in, and its answer changes the window alone. -/
theorem cipherPagesRingsAndDictionaries : Obligations.CipherPagesRingsAndDictionaries := by
  unfold Obligations.CipherPagesRingsAndDictionaries
  refine ⟨fun s w f p hp => ?_, fun s w f => ?_⟩
  · subst hp
    refine ⟨fun h he hq hh n hn => cpageAlloc_gives_lowest h he hq hh hn, fun h key hk he hg => ?_, fun hs hi hq hc => ⟨fun h => ?_, fun h => cpageFree_frees h hs hi hq hc⟩, fun h => ?_, fun h => ?_⟩
    · exact serve_isBut (s.onPage (s.arg w 0 2) (fun x => x.rekey key (s.arg w 2 1) (s.arg w 4 4) (s.arg w 3 1 == 1))) h rfl (cmdCpageKeyWrite_run (q := s.mreq w) hk he hg)
    · exact serve_isBut (s.onPage (s.arg w 0 2) (fun x => { x with state := 3, key := [] })) h rfl (cmdCpageKeyErase_run (s := s.begun w f) (q := s.mreq w) hs hi hq hc)
    · obtain ⟨t, ht, hs, hb⟩ := serve_isBut s h rfl rfl
      exact ⟨t, ht, hb, by rw [← CPage.reg_bytes]; exact hs⟩
    · exact serve_isBut (s.onPage (s.arg w 0 2) (fun x => { x with perm := s.arg w 2 1 })) h rfl rfl
  · refine ⟨fun n hn => ⟨fun h hs hr hk => cringCreate_makes_ring h hn hs hr hk, fun h hl hb => cringDestroy_removes_ring h hn hl hb⟩,
      fun k hk => ⟨fun h hd b hr => dictLoad_stores h hk hd hr, fun h => dictFree_empties h hk⟩, fun h hd => ?_, fun h => ?_⟩
    · exact serve_isBut s h rfl (cmdDictQuery_run (s := s.begun w f) (q := s.mreq w) hd)
    · obtain ⟨t, ht, hs, hb⟩ := serve_isBut s h rfl rfl
      exact ⟨t, ht, hb, hs⟩

end Sys2Proof.Machine
end

section
/-! The statement about cores, regions and subchannel ranges fails: it speaks of every state, those among them whose table of task sets is not in rising order of the key (Machine/Tab.lean). -/
namespace Sys2Proof

/-- A value read from a table is the default or one of those listed. -/
theorem Tab.getD_eq_or_mem {α : Type} (t : Tab α) (n : Nat) (d : α) : Tab.getD t n d = d ∨ ∃ p ∈ t, p.2 = Tab.getD t n d := by
  induction t with
  | nil => exact Or.inl rfl
  | cons p t ih =>
    by_cases h : p.1 = n
    · exact Or.inr ⟨p, List.mem_cons_self .., by simp [Tab.getD, Tab.find, h]⟩
    · have hp : Tab.getD (p :: t) n d = Tab.getD t n d := by simp [Tab.getD, Tab.find, h]
      rw [hp]
      exact ih.imp id (fun ⟨q, hq, e⟩ => ⟨q, List.mem_cons_of_mem _ hq, e⟩)

end Sys2Proof

namespace Sys2Proof.Machine

/-- Window 512 with a CORE_ASSIGN rung: 8 task sets of core 0 for tenant 5. -/
def coreAssignRung : Window := { state := 1, cmd := 0x0105, cls := 1, reqSeq := 1, req := [(0, 0x0105 * 2 ^ 48 + 8 * 2 ^ 32), (1, 5 * 2 ^ 48 + 8 * 2 ^ 24)] }

/-- A running device whose table lists set 3 of core 0 before sets 0, 1 and 2. Sets 0 to 7 hold ready tasks of tenant 5, to which no task set of the core is assigned yet. -/
def setsOutOfOrder : State :=
  { State.reset with
    phase := .running
    svc := { holder := some 0, leaseEnd := 1, spA := { state := 1 } }
    windows := [(512, coreAssignRung)]
    insts := [(5, { state := 1 })]
    ctxs := [3, 0, 1, 2, 4, 5, 6, 7].map (fun k => (k, { run := .ready, inst := 5 })) }

theorem setsOutOfOrder_takes : setsOutOfOrder.takes cmdCoreAssign 512 false := by decide +kernel

/-- No task set has an FP Imprecise pending. -/
theorem setsOutOfOrder_pend (core j : Nat) : (setsOutOfOrder.ctx core j).regs.pend = 0 := by
  have hall : ∀ p ∈ setsOutOfOrder.ctxs, p.2.regs.pend = 0 := by decide +kernel
  unfold State.ctx
  obtain h | ⟨p, hp, h⟩ := Tab.getD_eq_or_mem setsOutOfOrder.ctxs (core * 128 + j) {}
  · rw [h]
    decide +kernel
  · rw [← h]
    exact hall p hp

/-- Filling the slots of the core lists sets 0 and 1 a second time, before set 3: the eight occupied sets then count as ten, and the command stays in execution until two tasks have left. -/
theorem setsOutOfOrder_waits : (cmdCoreAssign.run (setsOutOfOrder.begun 512 false) (setsOutOfOrder.mreq 512)).2 = none ∧
    ((cmdCoreAssign.run (setsOutOfOrder.begun 512 false) (setsOutOfOrder.mreq 512)).1.win 512).state = 1 := by decide +kernel

/-- A row whose command stays in execution leaves the STATE that the command left in its window. -/
theorem serve_waits_win {c : Command} {w : Nat} {f : Bool} {s t : State} (h : s.takes c w f) (hr : (c.run (s.begun w f) (s.mreq w)).2 = none) (ht : serve c w s = .next t) :
    (t.win w).state = ((c.run (s.begun w f) (s.mreq w)).1.win w).state := by
  rw [serve_waits c w f s _ h (Prod.ext rfl hr)] at ht
  cases ht
  obtain ⟨e, he⟩ := State.noteChanges_win (c.run (s.begun w f) (s.mreq w)).1 (s.begun w f) w
  rw [he]

/-- Refutes O5: where the table of task sets is not in rising order of the key, filling the slots lists a set twice, and CORE_ASSIGN waits for tasks beyond its count. -/
theorem not_resourcesAreAssignedAndRemoved : ¬ Obligations.ResourcesAreAssignedAndRemoved := by
  unfold Obligations.ResourcesAreAssignedAndRemoved
  intro h
  obtain ⟨hcore, -, -⟩ := h setsOutOfOrder 512 false (by decide +kernel)
  obtain ⟨t, ht, ⟨hdone, -⟩, -⟩ := hcore setsOutOfOrder_takes 0 8 (by decide +kernel) (by decide +kernel) (by decide) (by decide +kernel) (by decide +kernel) (by decide +kernel)
    (by decide +kernel) (by decide +kernel) (setsOutOfOrder_pend 0)
  have hstate := serve_waits_win setsOutOfOrder_takes setsOutOfOrder_waits.1 ht
  rw [hdone, setsOutOfOrder_waits.2] at hstate
  exact absurd hstate (by decide)

end Sys2Proof.Machine
end

section
/-! Numbers as data. -/
namespace Sys2Proof.Machine

/-! ### Patterns and words -/

theorem bit_toNat (x : Word) (k : Nat) : bit x.toNat k = x.getLsbD k := by
  rw [← BitVec.testBit_toNat, Nat.testBit_eq_decide_div_mod_eq]
  rfl

theorem sext_toNat (x : Word) : sext 64 x.toNat = x.toInt := by
  rw [sext, bit_toNat, ← BitVec.msb_eq_getLsbD_last, Nat.mod_eq_of_lt x.isLt, BitVec.toInt_eq_msb_cond]
  rfl

theorem word_toNat (x : Word) : word x.toNat = x := BitVec.eq_of_toNat_eq (Nat.mod_eq_of_lt x.isLt)

theorem word_tag (t : Tag) : word t.toNat = t.setWidth 64 := by
  rw [word, BitVec.ofNat_toNat]

theorem word_u64 (n : Nat) : word (u64 n) = word n := by
  apply BitVec.eq_of_toNat_eq
  simp [word, u64]

theorem word_i64 (n : Int) : word (i64 n) = BitVec.ofInt 64 n := by
  apply BitVec.eq_of_toNat_eq
  simp [word, i64, BitVec.toNat_ofInt]
  omega

theorem word_sub64 (x y : Word) (w : Nat) (hw : w < 2 ^ 64) : word (sub64 x.toNat y.toNat w) = x - y - word w := by
  apply BitVec.eq_of_toNat_eq
  have hx := x.isLt
  have hy := y.isLt
  simp only [word, sub64, BitVec.toNat_ofNat, BitVec.toNat_sub]
  omega

/-! ### Flags -/

theorem nzcvOf_toNat (z : Word) (c : Bool) (v : Int) :
    nzcvOf (bit z.toNat 63) (z.toNat == 0) c (decide (sext 64 z.toNat ≠ v)) = nzcvOf z.msb (z == 0) c (decide (z.toInt ≠ v)) := by
  have hz : (z.toNat == 0) = (z == 0) := by
    rw [Bool.eq_iff_iff, beq_iff_eq, beq_iff_eq, BitVec.toNat_eq]
    rfl
  rw [bit_toNat, ← BitVec.msb_eq_getLsbD_last, sext_toNat, hz]

theorem flagsAdd_toNat (x y : Word) (c : Nat) : flagsAdd x.toNat y.toNat c = sumFlags x y c := by
  have ht : (x.toNat + y.toNat + c) % 2 ^ 64 = (x + y + word c).toNat := by simp [word, BitVec.toNat_add]
  rw [flagsAdd, sumFlags, ← nzcvOf_toNat, ht, sext_toNat x, sext_toNat y]

theorem flagsSub_toNat (x y : Word) (w : Nat) (hw : w < 2 ^ 64) : flagsSub x.toNat y.toNat w = diffFlags x y w := by
  have ht : (x.toNat + 2 ^ 64 * 2 - y.toNat - w) % 2 ^ 64 = (x - y - word w).toNat := by
    rw [← word_sub64 x y w hw, sub64, word, BitVec.toNat_ofNat, Nat.mod_mod]
  rw [flagsSub, diffFlags, ← nzcvOf_toNat, ht, sext_toNat x, sext_toNat y]

/-! ### Table 05-2 -/

theorem word_arithVal (op : AOp) (x y : Word) : word (arithVal op x.toNat y.toNat) = arithWord op x y := by
  cases op with
  | add => exact (word_u64 _).trans (by simp [arithWord, word, BitVec.ofNat_add])
  | sub => exact (word_sub64 x y 0 (by decide)).trans (by simp [arithWord, word])
  | neg => exact (word_sub64 0 x 0 (by decide)).trans (by simp [arithWord, word])
  | mul => exact (word_u64 _).trans (by simp [arithWord, word, BitVec.ofNat_mul])
  | min => simp only [arithVal, arithWord, sext_toNat, BitVec.sle_iff_toInt_le, apply_ite word, word_toNat]
  | max => simp only [arithVal, arithWord, sext_toNat, BitVec.sle_iff_toInt_le, apply_ite word, word_toNat]
  | minu => simp only [arithVal, arithWord, BitVec.ule_iff_toNat_le, apply_ite word, word_toNat]
  | maxu => simp only [arithVal, arithWord, BitVec.ule_iff_toNat_le, apply_ite word, word_toNat]

theorem arithFlags_toNat (op : AOp) (old : Nat) (x y : Word) :
    arithFlags op old x.toNat y.toNat = (match op with | .add => sumFlags x y 0 | .sub => diffFlags x y 0 | .neg => diffFlags 0 x 0 | _ => old) := by
  cases op with
  | add => exact flagsAdd_toNat x y 0
  | sub => exact flagsSub_toNat x y 0 (by decide)
  | neg => exact flagsSub_toNat 0 x 0 (by decide)
  | _ => rfl

/-- ADDC and SUBB: the carry in is C, and the borrow in is its inverse (R157). -/
theorem word_carry (sub : Bool) (x y : Word) (k : Nat) :
    word (if sub then sub64 x.toNat y.toNat (1 - k) else u64 (x.toNat + y.toNat + k)) = if sub then x - y - word (1 - k) else x + y + word k := by
  rw [apply_ite word, word_u64, word_sub64 x y (1 - k) (by omega)]
  simp [word, BitVec.ofNat_add]

theorem carryFlags_toNat (sub : Bool) (x y : Word) (k : Nat) :
    (if sub then flagsSub x.toNat y.toNat (1 - k) else flagsAdd x.toNat y.toNat k) = if sub then diffFlags x y (1 - k) else sumFlags x y k := by
  rw [flagsSub_toNat x y (1 - k) (by omega), flagsAdd_toNat]

theorem word_clz64 (x : Word) : word (clz64 x.toNat) = x.clz := by
  by_cases hx : x = 0
  · subst hx
    decide
  · have h0 : x.toNat ≠ 0 := fun h => hx (BitVec.eq_of_toNat_eq h)
    have hlt : x.clz.toNat < 64 := BitVec.clz_lt_iff_ne_zero.mpr hx
    have hlog : x.toNat.log2 = 63 - x.clz.toNat := by
      rw [Nat.log2_eq_iff h0]
      refine ⟨BitVec.two_pow_sub_clz_le_toNat_of_ne_zero (by decide) hx, ?_⟩
      have := BitVec.toNat_lt_two_pow_sub_clz (x := x)
      rwa [show 63 - x.clz.toNat + 1 = 64 - x.clz.toNat by omega]
    rw [clz64, if_neg h0, hlog, show 63 - (63 - x.clz.toNat) = x.clz.toNat by omega]
    exact word_toNat _

theorem popc64_toNat (x : Word) : popc64 x.toNat = (List.range 64).countP (fun k => x.getLsbD k) := by
  rw [popc64, maskBits, ← List.countP_eq_length_filter]
  simp only [bit_toNat]

theorem rol64_eq_or (x : Word) (n : Nat) (hn : n ≤ 64) : rol64 x.toNat n = (x.toNat <<< n) % 2 ^ 64 ||| x.toNat >>> (64 - n) := by
  have hsplit : 2 ^ 64 = 2 ^ n * 2 ^ (64 - n) := by rw [← Nat.pow_add, Nat.add_sub_cancel' hn]
  have hlow : x.toNat >>> (64 - n) < 2 ^ n := by
    rw [Nat.shiftRight_eq_div_pow, Nat.div_lt_iff_lt_mul (Nat.two_pow_pos _), ← hsplit]
    exact x.isLt
  have hhigh : (x.toNat <<< n) % 2 ^ 64 = 2 ^ n * (x.toNat % 2 ^ (64 - n)) := by
    rw [Nat.shiftLeft_eq, Nat.mul_comm, hsplit, Nat.mul_mod_mul_left]
  have hsum : rol64 x.toNat n = (x.toNat <<< n) % 2 ^ 64 + x.toNat >>> (64 - n) := by
    rw [Nat.shiftLeft_eq, Nat.shiftRight_eq_div_pow] <;> rfl
  rw [hsum, hhigh, Nat.two_pow_add_eq_or_of_lt hlow]

theorem word_rol (x : Word) {n : Nat} (hn : n < 64) : word (if n = 0 then x.toNat else rol64 x.toNat n) = x.rotateLeft n := by
  by_cases h0 : n = 0
  · subst h0
    rw [if_pos rfl, word_toNat]
    exact BitVec.eq_of_toNat_eq (by simp [BitVec.toNat_rotateLeft, Nat.mod_eq_of_lt x.isLt, Nat.shiftRight_eq_zero _ _ x.isLt])
  · have h : (x.rotateLeft n).toNat = rol64 x.toNat n := by
      rw [BitVec.toNat_rotateLeft, rol64_eq_or x n (Nat.le_of_lt hn), Nat.mod_eq_of_lt hn]
    rw [if_neg h0, ← h, word_toNat]

theorem word_ror (x : Word) {n : Nat} (hn : n < 64) : word (if n = 0 then x.toNat else rol64 x.toNat (64 - n)) = x.rotateRight n := by
  by_cases h0 : n = 0
  · subst h0
    rw [if_pos rfl, word_toNat]
    exact BitVec.eq_of_toNat_eq (by simp [BitVec.toNat_rotateRight, Nat.shiftLeft_eq])
  · have h : (x.rotateRight n).toNat = rol64 x.toNat (64 - n) := by
      rw [BitVec.toNat_rotateRight, rol64_eq_or x (64 - n) (Nat.sub_le ..), Nat.mod_eq_of_lt hn, Nat.sub_sub_self (Nat.le_of_lt hn), Nat.or_comm]
    rw [if_neg h0, ← h, word_toNat]

theorem word_shl (x : Word) (n : Nat) : word (u64 (x.toNat * 2 ^ n)) = x <<< n := by
  rw [word_u64]
  exact BitVec.eq_of_toNat_eq (by simp [word, BitVec.toNat_shiftLeft, Nat.shiftLeft_eq])

theorem word_shr (x : Word) (n : Nat) : word (x.toNat / 2 ^ n) = x >>> n := by
  rw [← Nat.shiftRight_eq_div_pow, ← BitVec.toNat_ushiftRight, word_toNat]

theorem word_sar (x : Word) (n : Nat) : word (i64 (sext 64 x.toNat / (2 ^ n : Nat))) = x.sshiftRight n := by
  rw [word_i64, sext_toNat, BitVec.sshiftRight, Int.shiftRight_eq_div_pow]

theorem word_land_not (x y : Word) : word (Nat.land x.toNat (2 ^ 64 - 1 - y.toNat)) = x &&& ~~~y := by
  rw [← BitVec.toNat_not]
  exact word_toNat (x &&& ~~~y)

theorem word_not (x : Word) : word (2 ^ 64 - 1 - x.toNat) = ~~~x := by
  rw [← BitVec.toNat_not, word_toNat]

theorem beNat_append_byte (l : List Byte) (b : Byte) : beNat (l ++ [b]) = beNat l * 256 + b.toNat := by
  simp [beNat]

theorem toNat_append_byte {n : Nat} (x : BitVec n) (b : Byte) : (x ++ b).toNat = x.toNat * 256 + b.toNat := by
  rw [BitVec.toNat_append, ← Nat.shiftLeft_add_eq_or_of_lt b.isLt, Nat.shiftLeft_eq]

/-- The bytes of a datum are its slices of eight bits. -/
theorem byte_eq_slice (x : Word) (k : Nat) : BitVec.ofNat 8 (x.toNat / 256 ^ k) = x.extractLsb' (8 * k) 8 := by
  apply BitVec.eq_of_toNat_eq
  rw [BitVec.extractLsb'_toNat, BitVec.toNat_ofNat, Nat.shiftRight_eq_div_pow, Nat.pow_mul]

theorem word_bswap (x : Word) : word (beNat (beBytes 8 x.toNat).reverse) = logicWord .bswap x 0 := by
  have h : beNat (beBytes 8 x.toNat).reverse = (logicWord .bswap x 0).toNat := by
    simp only [logicWord, toNat_append_byte, beBytes, List.reverse_cons, List.reverse_nil, beNat_append_byte, byte_eq_slice, Nat.reduceMul]
    simp [beNat]
  rw [h, word_toNat]

theorem word_logicVal (op : LOp) (x y : Word) : word (logicVal op x.toNat y.toNat) = logicWord op x y := by
  have hn : y.toNat % 64 < 64 := Nat.mod_lt _ (by decide)
  cases op with
  | and => exact word_toNat (x &&& y)
  | or => exact word_toNat (x ||| y)
  | xor => exact word_toNat (x ^^^ y)
  | andn => exact word_land_not x y
  | nor => exact word_not (x ||| y)
  | shl => exact word_shl x _
  | shr => exact word_shr x _
  | sar => exact word_sar x _
  | rol => exact word_rol x hn
  | ror => exact word_ror x hn
  | clz => exact word_clz64 x
  | popc => exact congrArg word (popc64_toNat x)
  | bswap => exact word_bswap x

/-! ### Division -/

theorem divCheck_none {signed : Bool} {x y : Word} (hy : y ≠ 0) (hovf : ¬(signed = true ∧ x = 0x8000000000000000#64 ∧ y = 0xFFFFFFFFFFFFFFFF#64)) :
    divCheck signed x.toNat y.toNat = none := by
  have h0 : y.toNat ≠ 0 := fun h => hy (BitVec.eq_of_toNat_eq h)
  rw [divCheck, if_neg h0, if_neg]
  exact fun ⟨hs, hx, hy⟩ => hovf ⟨hs, BitVec.eq_of_toNat_eq hx, BitVec.eq_of_toNat_eq hy⟩

theorem word_divVal (signed rem : Bool) (x y : Word) :
    word (divVal signed rem x.toNat y.toNat) = if signed then (if rem then x.srem y else x.sdiv y) else (if rem then x % y else x / y) := by
  cases signed <;> cases rem
  · exact word_toNat (x / y)
  · exact word_toNat (x % y)
  · simp only [divVal, if_true, Bool.false_eq_true, if_false, word_i64, sext_toNat]
    exact BitVec.eq_of_toInt_eq (by rw [BitVec.toInt_ofInt, BitVec.toInt_sdiv])
  · simp only [divVal, if_true, word_i64, sext_toNat]
    rw [← BitVec.toInt_srem, BitVec.ofInt_toInt]

/-- The remainder of a truncated division has the dividend's sign and is smaller than the divisor (R159). -/
theorem srem_sign_and_magnitude (x y : Word) (hy : y ≠ 0) : (x.srem y).toInt.natAbs < y.toInt.natAbs ∧ 0 ≤ (x.srem y).toInt * x.toInt := by
  rw [BitVec.toInt_srem]
  refine ⟨?_, ?_⟩
  · have h0 : y.toInt ≠ 0 := fun h => hy (BitVec.eq_of_toInt_eq h)
    rw [Int.natAbs_tmod]
    exact Nat.mod_lt _ (Int.natAbs_pos.mpr h0)
  · obtain hx | hx := Int.le_total 0 x.toInt
    · exact Int.mul_nonneg (Int.tmod_nonneg _ hx) hx
    · have h : 0 ≤ -x.toInt.tmod y.toInt := Int.neg_tmod x.toInt y.toInt ▸ Int.tmod_nonneg _ (Int.neg_nonneg_of_nonpos hx)
      exact Int.mul_nonneg_of_nonpos_of_nonpos (Int.nonpos_of_neg_nonneg h) hx

end Sys2Proof.Machine
end

section
/-! How the row of an instruction runs (Machine/Issue.lean). -/
namespace Sys2Proof.Machine

variable {α β : Type} {u v : State} {e : Env}

/-! ### Computations -/

theorem M.bind_ok {x : M α} {f : α → M β} {a : α} (h : x u = .ok a v) : (x >>= f) u = f a v := by
  simp only [bind, EStateM.bind, h]

theorem M.bind_error {x : M α} {f : α → M β} {z : Stop} (h : x u = .error z v) : (x >>= f) u = .error z v := by
  simp only [bind, EStateM.bind, h]

theorem Env.regs_ok : e.regs u = .ok (u.ctx e.core e.set).regs u := rfl

theorem Env.ctx_ok : e.ctx u = .ok (u.ctx e.core e.set) u := rfl

theorem M.get_ok : (get : M State) u = .ok u u := rfl

theorem Env.lift_ok {x : Except XFlt α} {a : α} (h : x = .ok a) : e.lift x u = .ok a u := by
  rw [h]
  rfl

theorem Env.check_ok {os : List Opd} (h : checkTags (u.ctx e.core e.set).regs.her os = .ok ()) : e.check os u = .ok () u := by
  rw [Env.check, M.bind_ok Env.regs_ok, Env.lift_ok h]

theorem Env.next_ok {n : Nat} (h : u.follows e.core e.set e.am n) : e.next u = .ok n u := by
  rw [Env.next, M.bind_ok Env.regs_ok, Env.form, M.bind_ok Env.ctx_ok, M.bind_ok M.get_ok, Env.lift_ok h]

/-- An effect that nothing stops is performed, and the instruction retires at the next address. -/
theorem Env.commit_ok {x : Effect} {f : State → State} {n : Nat} {k m : Bool} (hx : x u = .ok f v) (hn : v.follows e.core e.set e.am n) :
    e.commit x k m u = .ok () ((f v).retire e.core e.set n k m) := by
  rw [Env.commit, M.bind_ok hx, M.bind_ok (Env.next_ok hn)]
  rfl

/-- An effect that is stopped stops the instruction. -/
theorem Env.commit_error {x : Effect} {z : Stop} {k m : Bool} (hx : x u = .error z v) : e.commit x k m u = .error z v := M.bind_error hx

/-! ### Rows -/

/-- The row whose kind the instruction at PC is runs its body in the state the fetch leaves. -/
theorem State.issue_starts {s : State} {core set w am : Nat} {i : Ins} {fits : Ins → Bool} {body : Env → Ins → M PUnit}
    (h : s.starts core set u i w am) (hf : fits i = true) : s.issue core set fits body = Sys2Proof.Machine.finish core set (body (envOf core set w am) i u) := by
  obtain ⟨⟨hissue, hwdt, hgate, hdue⟩, hfront⟩ := h
  have hs : (if s.coreLive core then s.expireWdt core set else s) = s := by simp [State.expireWdt, hwdt]
  simp only [State.issue, hs, hissue, hgate, hdue, hfront, hf, Bool.not_false, Bool.and_self, if_true]
  rfl

section
variable {s : State} {core set w am n : Nat} {i : Ins} {fits : Ins → Bool} {body : Env → Ins → M PUnit} {x : Effect} {f : State → State} {k m : Bool}

theorem State.issue_commits (h : s.starts core set u i w am) (hf : fits i = true) (hb : body (envOf core set w am) i = (envOf core set w am).commit x k m)
    (hn : v.follows core set am n) (hx : x u = .ok f v) : s.issue core set fits body = (f v).retire core set n k m := by
  rw [State.issue_starts h hf, hb, Env.commit_ok (e := envOf core set w am) hx hn]
  rfl

theorem State.issue_faults {z : XFlt} (h : s.starts core set u i w am) (hf : fits i = true) (hb : body (envOf core set w am) i = (envOf core set w am).commit x k m)
    (hx : x u = .error (.fault z 0) v) : s.issue core set fits body = v.takeException core set z 0 := by
  rw [State.issue_starts h hf, hb, Env.commit_error hx]
  rfl
end

end Sys2Proof.Machine
end

section
/-! What the integer, logical, compare and tag instructions write (R128, R129, R156, R157, R159). -/
namespace Sys2Proof.Machine

theorem Env.lui_ok {u : State} (e : Env) {d k : Nat} : e.lui d k u = .ok (e.onRegs (fun q => q.setG d ⟨word k, resTag q.her Tag.int⟩)) u := rfl

section
variable {u : State} (e : Env) (r : Regs) (hr : (u.ctx e.core e.set).regs = r)
include hr

theorem Env.arith_ok {op : AOp} {d a : Nat} {b : Src} (h : checkTags r.her (arithOpds op 1 2 (r.gpr a) (r.src b)) = .ok ()) :
    e.arith op d a b u = .ok (e.onRegs (fun q => (q.setG d (arithRes op q.her (r.gpr a) (r.src b))).setNzcv
      (match b with | .reg _ => arithFlags op r.nzcv (r.gpr a).datum.toNat (r.src b).datum.toNat | .imm _ => r.nzcv))) u := by
  subst hr
  rw [Env.arith, M.bind_ok Env.regs_ok]
  refine (M.bind_ok (Env.check_ok h)).trans ?_
  cases b <;> rfl

theorem Env.carry_ok {sub : Bool} {d a b x y k : Nat} (h : checkTags r.her [⟨r.gpr a, 1, tyInt, false⟩, ⟨r.gpr b, 2, tyInt, false⟩] = .ok ())
    (hx : x = (r.gpr a).datum.toNat) (hy : y = (r.gpr b).datum.toNat) (hk : k = b2n (bit r.nzcv 1)) :
    e.carry sub d a b u = .ok (e.onRegs (fun q => (q.setG d ⟨word (if sub then sub64 x y (1 - k) else u64 (x + y + k)), resTag q.her Tag.int⟩).setNzcv
      (if sub then flagsSub x y (1 - k) else flagsAdd x y k))) u := by
  subst hr hx hy hk
  rw [Env.carry, M.bind_ok Env.regs_ok]
  exact M.bind_ok (Env.check_ok h)

theorem Env.logic_ok {op : LOp} {d a : Nat} {b : Src} (h : checkTags r.her [⟨r.gpr a, 1, tyIntRaw, false⟩, ⟨r.src b, 2, tyIntRaw, false⟩] = .ok ()) :
    e.logic op d a b u = .ok (e.onRegs (fun q => q.setG d (logicRes op q.her (r.gpr a) (r.src b)))) u := by
  subst hr
  rw [Env.logic, M.bind_ok Env.regs_ok]
  exact M.bind_ok (Env.check_ok h)

theorem Env.cmp_ok {a : Nat} {b : Src} (h : checkTags r.her (match b with | .reg _ => cmpOpds 1 2 (r.gpr a) (r.src b) | .imm _ => [⟨r.gpr a, 1, tyInt, false⟩]) = .ok ()) :
    e.cmp a b u = .ok (e.onRegs (fun q => q.setNzcv (flagsSub (r.gpr a).datum.toNat (r.src b).datum.toNat 0))) u := by
  subst hr
  rw [Env.cmp, M.bind_ok Env.regs_ok]
  exact M.bind_ok (Env.check_ok h)

theorem Env.gtag_ok {d a : Nat} : e.gtag d a u = .ok (e.onRegs (fun q => q.setG d ⟨word (r.gpr a).tag.toNat, resTag q.her Tag.int⟩)) u := by
  subst hr
  rfl

theorem Env.div_ok {signed rem : Bool} {d a b : Nat} (h : checkTags r.her [⟨r.gpr a, 1, tyInt, false⟩, ⟨r.gpr b, 2, tyInt, false⟩] = .ok ())
    (hc : divCheck signed (r.gpr a).datum.toNat (r.gpr b).datum.toNat = none) :
    e.div signed rem d a b u = .ok (e.onRegs (fun q => q.setG d ⟨word (divVal signed rem (r.gpr a).datum.toNat (r.gpr b).datum.toNat), resTag q.her Tag.int⟩)) u := by
  subst hr
  rw [Env.div, M.bind_ok Env.regs_ok]
  refine (M.bind_ok (Env.check_ok h)).trans ?_
  rw [hc]
  rfl

theorem Env.div_error {signed rem : Bool} {d a b i : Nat} (h : checkTags r.her [⟨r.gpr a, 1, tyInt, false⟩, ⟨r.gpr b, 2, tyInt, false⟩] = .ok ())
    (hc : divCheck signed (r.gpr a).datum.toNat (r.gpr b).datum.toNat = some i) : e.div signed rem d a b u = .error (.fault ⟨8, 0, i⟩ e.slot) u := by
  subst hr
  rw [Env.div, M.bind_ok Env.regs_ok]
  refine (M.bind_ok (Env.check_ok h)).trans ?_
  rw [hc]
  rfl

theorem Env.stag_ok {d a b : Nat} {t : Tag} (h : checkTags r.her [⟨r.gpr a, 1, anyType, true⟩, ⟨r.gpr b, 2, tyInt, true⟩] = .ok ()) (ht : t = (r.gpr b).datum.setWidth 8)
    (hlt : t.type < 10) (ha : t.type = 8 ∨ t.type = 9 → authority e.set r = true) : e.stag d a b u = .ok (e.onRegs (fun q => q.setG d ⟨(r.gpr a).datum, t⟩)) u := by
  subst hr
  have hb : (BitVec.ofNat 8 ((u.ctx e.core e.set).regs.gpr b).datum.toNat : Tag) = t := ht.symm
  rw [Env.stag, M.bind_ok Env.regs_ok, hb, if_neg (fun h => absurd h.2 (Nat.not_le.mpr hlt))]
  refine (M.bind_ok (Env.check_ok h)).trans ?_
  rw [if_neg (by simpa using ha)]
  rfl

end

/-- The row of an instruction that writes registers alone: it leaves the state of its fetch with what it writes, and retires. -/
theorem State.issue_writes {s u : State} {core set w am n : Nat} {i : Ins} {fits : Ins → Bool} {body : Env → Ins → M PUnit} {x : Effect} {f g : Regs → Regs}
    (h : s.starts core set u i w am) (hn : u.follows core set am n) (hf : fits i = true) (hb : body (envOf core set w am) i = (envOf core set w am).commit x)
    (hx : x u = .ok ((envOf core set w am).onRegs f) u) (hfg : ∀ q, f q = g q) : s.issue core set fits body = (u.withRegs core set g).retire core set n false false := by
  rw [State.issue_commits h hf hb hn hx, funext hfg]
  rfl

end Sys2Proof.Machine
end

section
/-! The statements about integer and tag instructions, and about division. -/
namespace Sys2Proof.Machine

/-- Settles O44: the checks pass, so each instruction writes what its row computes, and that is the result of Table 05-2. -/
theorem integerAndTagInstructionsComplete : Obligations.IntegerAndTagInstructionsComplete := by
  unfold Obligations.IntegerAndTagInstructionsComplete
  intro s u core set w am n c r done hn
  let e := envOf core set w am
  refine ⟨?arith, ?carry, ?logic, ?cmp, ?lui, ?gtag, ?stag⟩
  case arith =>
    intro op d a b h hc x y fl
    refine congrArg Host.Outcome.next (State.issue_writes h hn rfl rfl (e.arith_ok r rfl hc) (fun q => ?_))
    rw [arithRes, word_arithVal]
    cases b with
    | imm v => rfl
    | reg m => exact congrArg _ (arithFlags_toNat op r.nzcv x y)
  case carry =>
    intro sub d a b h hc x y k
    refine congrArg Host.Outcome.next (State.issue_writes h hn rfl rfl (e.carry_ok r rfl hc rfl rfl rfl) (fun q => ?_))
    rw [word_carry, carryFlags_toNat]
  case logic =>
    intro op d a b h hc
    refine congrArg Host.Outcome.next (State.issue_writes h hn rfl rfl (e.logic_ok r rfl hc) (fun q => ?_))
    rw [logicRes, word_logicVal]
  case cmp =>
    intro a b h hc
    refine congrArg Host.Outcome.next (State.issue_writes h hn rfl rfl (e.cmp_ok r rfl hc) (fun q => ?_))
    rw [flagsSub_toNat _ _ 0 (by decide)]
  case lui =>
    intro d v h
    exact congrArg Host.Outcome.next (State.issue_writes h hn rfl rfl e.lui_ok (fun q => rfl))
  case gtag =>
    intro d a h
    refine congrArg Host.Outcome.next (State.issue_writes h hn rfl rfl (e.gtag_ok r rfl) (fun q => ?_))
    rw [word_tag]
  case stag =>
    intro d a b h hc t ht hlt ha
    exact congrArg Host.Outcome.next (State.issue_writes h hn rfl rfl (e.stag_ok r rfl hc ht hlt ha) (fun q => rfl))

/-- Settles O46: where the two Divide Checks do not stop it, a division writes the truncated quotient or the remainder. -/
theorem divisionTruncatesTowardZero : Obligations.DivisionTruncatesTowardZero := by
  unfold Obligations.DivisionTruncatesTowardZero
  refine ⟨fun s u core set w am n signed rem d a b => ?division, fun x y hy => ?remainder⟩
  case division =>
    intro r x y v ovf h hc
    let e := envOf core set w am
    refine ⟨fun hn hy ho => ?value, fun hy => ?zero, fun ho => ?overflow⟩
    case value =>
      refine congrArg Host.Outcome.next (State.issue_writes h hn rfl rfl (e.div_ok r rfl hc (divCheck_none hy ho)) (fun q => ?_))
      rw [word_divVal]
    case zero =>
      have hz : divCheck signed x.toNat y.toNat = some 0 := by rw [hy]; rfl
      exact congrArg Host.Outcome.next (State.issue_faults h rfl rfl (e.div_error r rfl hc hz))
    case overflow =>
      have hz : divCheck signed x.toNat y.toNat = some 1 := by
        obtain ⟨hs, hx, hy⟩ := ho
        rw [hs, hx, hy]
        rfl
      exact congrArg Host.Outcome.next (State.issue_faults h rfl rfl (e.div_error r rfl hc hz))
  case remainder =>
    obtain ⟨hmag, hsign⟩ := srem_sign_and_magnitude x y hy
    have hpos : 0 < y.toNat := Nat.pos_of_ne_zero (fun h => hy (BitVec.eq_of_toNat_eq h))
    exact ⟨hmag, hsign, Nat.mod_lt _ hpos, Nat.div_add_mod' _ _⟩

end Sys2Proof.Machine
end

section
/-! The statement about barriers, YIELD, SIGNAL and locks fails: it speaks of every state, those among them whose COMPLETION timeout is 0, below the 50 µs that IO_TIMEOUT_SET accepts (R112). -/
namespace Sys2Proof.Machine

/-- A running device whose core 0 is about to issue an IOBAR at 0x2000 for task 0x10002. The task has a store outstanding at PCIe port 2, whose link is up, and its COMPLETION timeout is 0. -/
def iobarNoInterval : State :=
  { State.reset with
    phase := .running
    insts := [(1, { state := 2, regions := [⟨0, 1, 0⟩], complUs := 0 })]
    cores := [(0, { slot0 := some 0 })]
    ctxs := [(0, { run := .ready, inst := 1, tid := 0x10002, regs := { pc := 0x2000#64 } })]
    devStores := [{ tid := 0x10002, kind := 1, num := 2, addr := devBase + 0x1200000000000, cls := 1 }]
    ms := { regions := [{ real := 0, gib := 64, portA := 0, portB := none, sys := true, offA := 0, offB := 0 }]
            ports := [(0, { link := 1, width := 8, rate := 32 }), (2, { pcie := true, link := 1 })]
            mem := ((({} : MemSys).mem.setWord 0x200 ⟨0, Tag.int⟩).setWord 0x400 ⟨0x4E000001#64 <<< 32, Tag.code⟩) } }

/-- The state its fetch leaves. -/
def iobarFetched : State := (iobarNoInterval.front 0 0).1

/-- That state with the group ended and the flushing read issued. -/
def iobarIssued : State := (iobarFetched.endGroup 0 0).issueBars 0 0

/-- A result whose value is shown is that value. -/
theorem eq_ok_of_toOption {ε α : Type} {x : Except ε α} {a : α} (h : x.toOption = some a) : x = .ok a := by
  cases x with
  | ok b => exact congrArg Except.ok (Option.some.inj h)
  | error z => cases h

theorem iobarNoInterval_starts : iobarNoInterval.starts 0 0 iobarFetched .iobar 0x4E000001 0 :=
  ⟨by decide +kernel, Prod.ext rfl (eq_ok_of_toOption (by decide +kernel))⟩

/-- Set 0 of core 0 waits with its IOBAR. -/
def waitsAtIobar : Out → Bool
  | .next t => (t.ctx 0 0).await == .iobar
  | _ => false

/-- The model looks for a path that fails before it issues the flushing read, finds none, and waits. -/
theorem iobarNoInterval_waits : waitsAtIobar (exec (.iobar 0 0) iobarNoInterval) = true := by decide +kernel

/-- The interval of the flushing read ends at the stamp at which it is issued. -/
theorem iobarIssued_fails : iobarIssued.barFails 0 0 = some ((1, 2), false) := by decide +kernel

theorem ioFail_waits_not : waitsAtIobar (.next (iobarIssued.ioFail 0 0 (1, 2) false)) = false := by decide +kernel

/-- Refutes O52: with a COMPLETION timeout of 0 the flushing read has failed as soon as it is issued, and IOBAR waits all the same. -/
theorem not_barriersYieldSignalAndLocksComplete : ¬ Obligations.BarriersYieldSignalAndLocksComplete := by
  unfold Obligations.BarriersYieldSignalAndLocksComplete
  intro h
  obtain ⟨-, -, -, hiobar, -⟩ := h iobarNoInterval iobarFetched 0 0 0x4E000001 0 _ (if_pos (Or.inr rfl))
  obtain ⟨-, hnew⟩ := hiobar iobarNoInterval_starts
  obtain ⟨-, hpaths⟩ := hnew (by decide +kernel) (by decide +kernel)
  obtain ⟨-, hfails⟩ := hpaths (by decide +kernel) iobarIssued rfl
  have hwaits := iobarNoInterval_waits
  rw [hfails (1, 2) false iobarIssued_fails, ioFail_waits_not] at hwaits
  exact absurd hwaits (by decide)

end Sys2Proof.Machine
end

section
/-! Zero sums and comparisons: numbers of one format over a common exponent (R190, R193). -/
namespace Sys2Proof.Machine

/-! ### The order of integers -/

theorem compare_int (x y : Int) : compare x y = if x < y then .lt else if x = y then .eq else .gt := rfl

theorem compare_sub_zero (x y : Int) : compare (x - y) 0 = compare x y := by
  have hlt : x - y < 0 ↔ x < y := by omega
  simp only [compare_int, hlt, Int.sub_eq_zero]

theorem compare_mul_pos {k : Int} (hk : 0 < k) (x y : Int) : compare (x * k) (y * k) = compare x y := by
  simp only [compare_int, Int.mul_lt_mul_right hk, Int.mul_eq_mul_right_iff (Int.ne_of_gt hk)]

/-! ### Signed coefficients over a common exponent -/

theorem Fmt.b_pos (f : Fmt) : 0 < f.b := by
  unfold Fmt.b
  split <;> decide

theorem signed_false (c : Nat) : signed false c = c := rfl

theorem signed_true (c : Nat) : signed true c = -c := rfl

theorem signed_mul_nat (n : Bool) (c k : Nat) : signed n (c * k) = signed n c * k := by
  cases n <;> simp only [signed_false, signed_true, Int.natCast_mul, Int.neg_mul]

theorem signed_not (n : Bool) (c : Nat) : signed (!n) c = -signed n c := by
  cases n <;> simp only [Bool.not_false, Bool.not_true, signed_false, signed_true, Int.neg_neg]

theorem signed_zero (n : Bool) : signed n 0 = 0 := by
  cases n <;> rfl

/-- Over a smaller exponent every coefficient of a sum takes the same power of the radix. -/
theorem signed_align {b : Nat} (n : Bool) (c : Nat) {e m q : Int} (he : e ≤ m) (hm : m ≤ q) :
    signed n (c * b ^ (q - e).toNat) = signed n (c * b ^ (q - m).toNat) * (b ^ (m - e).toNat : Nat) := by
  rw [← signed_mul_nat, Nat.mul_assoc, ← Nat.pow_add]
  congr 3
  omega

section
variable (f : Fmt) {n1 n2 : Bool} {c1 c2 : Nat} {e1 e2 e : Int}

theorem Fmt.pow_b_pos (k : Nat) : (0 : Int) < (f.b ^ k : Nat) := Int.natCast_pos.mpr (Nat.pow_pos f.b_pos)

theorem exactSum_of_sum_eq_zero (dir : Nat) (h1 : e ≤ e1) (h2 : e ≤ e2) (h : signed n1 (c1 * f.b ^ (e1 - e).toNat) + signed n2 (c2 * f.b ^ (e2 - e).toNat) = 0) :
    exactSum f.b dir n1 c1 e1 n2 c2 e2 = { neg := if c1 = 0 ∧ n1 = n2 then n1 else dir == 3, n := 0, e := min e1 e2 } := by
  rw [signed_align n1 c1 (Int.le_min.mpr ⟨h1, h2⟩) (Int.min_le_left ..), signed_align n2 c2 (Int.le_min.mpr ⟨h1, h2⟩) (Int.min_le_right ..), ← Int.add_mul] at h
  exact if_pos ((Int.mul_eq_zero.mp h).resolve_right (Int.ne_of_gt (f.pow_b_pos _)))

theorem Fmt.round_zero (dir : Nat) (n : Bool) (e ideal : Int) : f.round dir { neg := n, n := 0, e := e } ideal = (f.zero n ideal, 0) := rfl

theorem Fmt.add_fin (dir : Nat) : f.add dir (.fin n1 c1 e1) (.fin n2 c2 e2) = f.round dir (exactSum f.b dir n1 c1 e1 n2 c2 e2) (if e1 ≤ e2 then e1 else e2) := rfl

theorem Fmt.sub_fin (dir : Nat) : f.sub dir (.fin n1 c1 e1) (.fin n2 c2 e2) = f.add dir (.fin n1 c1 e1) (.fin (!n2) c2 e2) := rfl

/-- A sum of zero is a zero of the format with the sign of R190. -/
theorem Fmt.add_of_sum_eq_zero (dir : Nat) (h1 : e ≤ e1) (h2 : e ≤ e2) (h : signed n1 (c1 * f.b ^ (e1 - e).toNat) + signed n2 (c2 * f.b ^ (e2 - e).toNat) = 0) :
    f.add dir (.fin n1 c1 e1) (.fin n2 c2 e2) = (f.zero (if c1 = 0 ∧ n1 = n2 then n1 else dir == 3) (if e1 ≤ e2 then e1 else e2), 0) := by
  rw [Fmt.add_fin, exactSum_of_sum_eq_zero f dir h1 h2 h, Fmt.round_zero]

theorem Fmt.order_fin_min :
    f.order (.fin n1 c1 e1) (.fin n2 c2 e2) = compare (signed n1 (c1 * f.b ^ (e1 - min e1 e2).toNat) - signed n2 (c2 * f.b ^ (e2 - min e1 e2).toNat)) 0 := rfl

/-- The order of two finite values is that of their signed coefficients over any common exponent. -/
theorem Fmt.order_fin (h1 : e ≤ e1) (h2 : e ≤ e2) :
    f.order (.fin n1 c1 e1) (.fin n2 c2 e2) = compare (signed n1 (c1 * f.b ^ (e1 - e).toNat)) (signed n2 (c2 * f.b ^ (e2 - e).toNat)) := by
  have hm : e ≤ min e1 e2 := Int.le_min.mpr ⟨h1, h2⟩
  rw [Fmt.order_fin_min, signed_align n1 c1 hm (Int.min_le_left ..), signed_align n2 c2 hm (Int.min_le_right ..), compare_sub_zero, compare_mul_pos (f.pow_b_pos _)]
end

/-! ### Flags of a comparison (Table 06-6) -/

/-- N, Z, C and V of an ordered comparison. -/
def orderFlags : Ordering → Nat
  | .lt => nzcvOf true false false false
  | .eq => nzcvOf false true true false
  | .gt => nzcvOf false false true false

theorem Fmt.cmp_of_nan (f : Fmt) {a b : Fv} (h : a.isNan = true ∨ b.isNan = true) : f.cmp a b = (nzcvOf false false true true, snanFlag [a, b]) :=
  if_pos (Bool.or_eq_true_iff.mpr h)

theorem Fmt.cmp_of_not_nan (f : Fmt) {a b : Fv} (h : ¬(a.isNan = true ∨ b.isNan = true)) : f.cmp a b = (orderFlags (f.order a b), 0) := by
  rw [Fmt.cmp, if_neg (by rwa [Bool.or_eq_true_iff])]
  cases f.order a b <;> rfl

theorem Fv.isNan_of_isSnan {a : Fv} (h : a.isSnan = true) : a.isNan = true := by
  cases a with
  | nan n s p => rfl
  | fin n c e => cases h
  | inf n => cases h

theorem snanFlag_pair (a b : Fv) : snanFlag [a, b] = if a.isSnan = true ∨ b.isSnan = true then fNV else 0 := by
  simp only [snanFlag, List.any_cons, List.any_nil, Bool.or_false, Bool.or_eq_true]

theorem Fmt.cmp_fin (f : Fmt) {n1 n2 : Bool} {c1 c2 : Nat} {e1 e2 e : Int} (h1 : e ≤ e1) (h2 : e ≤ e2) :
    (f.cmp (.fin n1 c1 e1) (.fin n2 c2 e2)).1 = orderFlags (compare (signed n1 (c1 * f.b ^ (e1 - e).toNat)) (signed n2 (c2 * f.b ^ (e2 - e).toNat))) := by
  have hnan : ¬((Fv.fin n1 c1 e1).isNan = true ∨ (Fv.fin n2 c2 e2).isNan = true) := fun h => h.elim Bool.false_ne_true Bool.false_ne_true
  rw [Fmt.cmp_of_not_nan f hnan, Fmt.order_fin f h1 h2]

/-- What the conditions of Table 05-3 read from an ordered comparison. -/
theorem condHolds_orderFlags (o : Ordering) :
    condHolds 6 (orderFlags o) = false ∧ (condHolds 0 (orderFlags o) = true ↔ o = .eq) ∧ (condHolds 12 (orderFlags o) = true ↔ o = .gt) ∧
      (condHolds 10 (orderFlags o) = true ↔ o ≠ .lt) ∧ (condHolds 9 (orderFlags o) = true ↔ o ≠ .gt) := by
  cases o <;> decide

/-! ### The statements -/

/-- Settles O57: where the sum over one exponent vanishes, so does the exact sum of the addition, whose sign is that of R190. -/
theorem exactZeroSumsHaveTheStatedSign : Obligations.ExactZeroSumsHaveTheStatedSign := by
  unfold Obligations.ExactZeroSumsHaveTheStatedSign
  intro f dir n1 n2 c1 c2 e1 e2 e _ h1 h2 x y
  refine ⟨fun h => ?sum, fun h => ?difference, fun q => ?zeros⟩
  case sum => exact ⟨_, Fmt.add_of_sum_eq_zero f dir h1 h2 h⟩
  case difference =>
    have hneg : x + signed (!n2) (c2 * f.b ^ (e2 - e).toNat) = 0 := by rwa [signed_not]
    simp only [Fmt.sub_fin, Fmt.add_of_sum_eq_zero f dir h1 h2 hneg, Bool.eq_not]
    exact ⟨_, rfl⟩
  case zeros =>
    have hadd : (f.add dir (.fin n1 0 q) (.fin n1 0 q)).1.neg = n1 := by
      rw [Fmt.add_of_sum_eq_zero f dir (Int.le_refl q) (Int.le_refl q) (by rw [Nat.zero_mul, signed_zero]; rfl)]
      exact if_pos ⟨rfl, rfl⟩
    rw [Fmt.sub_fin, Bool.not_not]
    exact ⟨hadd, hadd⟩

/-- Settles O58: the flags are those of the order of the operands, which does not depend on the exponent they are brought to. -/
theorem comparisonsSetTheFlagsOfTheirRelation : Obligations.ComparisonsSetTheFlagsOfTheirRelation := by
  unfold Obligations.ComparisonsSetTheFlagsOfTheirRelation
  intro f _
  refine ⟨fun a b h => ?unordered, fun a b => ?invalid, fun n1 n2 c1 c2 e1 e2 e h1 h2 => ?finite, fun n1 n2 c e => ?infinite, fun a b => ?conditions⟩
  case unordered => rw [Fmt.cmp_of_nan f h]
  case invalid =>
    by_cases h : a.isNan = true ∨ b.isNan = true
    · rw [Fmt.cmp_of_nan f h, snanFlag_pair]
    · rw [Fmt.cmp_of_not_nan f h, if_neg (fun hs => h (hs.imp Fv.isNan_of_isSnan Fv.isNan_of_isSnan))]
  case finite =>
    intro x y g
    have hg : g = orderFlags (compare x y) := Fmt.cmp_fin f h1 h2
    rw [compare_int] at hg
    refine ⟨fun h => ?_, fun h => ?_, fun h => ?_⟩
    · rw [hg, if_pos h]
      rfl
    · rw [hg, if_neg (Int.not_lt.mpr (Int.le_of_eq h.symm)), if_pos h]
      rfl
    · rw [hg, if_neg (Int.not_lt.mpr (Int.le_of_lt h)), if_neg (Int.ne_of_gt h)]
      rfl
  case infinite => cases n1 <;> cases n2 <;> exact ⟨rfl, rfl, rfl⟩
  case conditions =>
    intro g nan
    by_cases h : nan
    · have hg : g = nzcvOf false false true true := congrArg Prod.fst (Fmt.cmp_of_nan f h)
      have hfalse {c : Nat} {p : Prop} (hc : condHolds c (nzcvOf false false true true) = false) : condHolds c g = true ↔ ¬nan ∧ p :=
        iff_of_false (by rw [hg, hc]; decide) (fun hp => hp.1 h)
      refine ⟨iff_of_true ?_ h, hfalse rfl, hfalse rfl, hfalse rfl, hfalse rfl, fun _ => ⟨?_, ?_⟩⟩ <;> rw [hg] <;> rfl
    · have hg : g = orderFlags (f.order a b) := congrArg Prod.fst (Fmt.cmp_of_not_nan f h)
      rw [hg]
      obtain ⟨hvs, heq, hgt, hge, hls⟩ := condHolds_orderFlags (f.order a b)
      have hand (p : Prop) : p ↔ ¬nan ∧ p := (and_iff_right h).symm
      exact ⟨iff_of_false (by rw [hvs]; decide) h, heq.trans (hand _), hgt.trans (hand _), hge.trans (hand _), hls.trans (hand _), fun hn => absurd hn h⟩

end Sys2Proof.Machine
end

section
/-! What the floating-point instructions write, for a set that uses a bank (R183, R186, R188, R191, R193, R196, R201). -/
namespace Sys2Proof.Machine

/-! ### The bank of a set -/

section
variable {u : State} {e : Env} {k : Bank} (hk : u.usesBank e.core e.set k)
include hk

theorem Env.useBank_ok : e.useBank u = .ok () u := by
  obtain ⟨hbank, hfpa⟩ := hk
  rw [Env.useBank, M.bind_ok M.get_ok, hbank]
  change EStateM.Result.ok () (u.setFpa e.core e.set) = _
  rw [State.setFpa, if_pos hfpa]

theorem Env.fregs_ok : e.fregs u = .ok k.f u := by
  rw [Env.fregs, M.bind_ok M.get_ok, hk.1]
  rfl

end

theorem Env.needDecimal_ok {u : State} {e : Env} (h : e.core < u.chCores) : e.needDecimal u = .ok () u := by
  rw [Env.needDecimal, M.bind_ok M.get_ok, if_pos h]
  rfl

theorem Env.fpReady_ok {u : State} {e : Env} {k : Bank} {dec : Bool} (hk : u.usesBank e.core e.set k) (h : dec = true → e.core < u.chCores) : e.fpReady dec u = .ok () u := by
  cases dec with
  | false => exact Env.useBank_ok hk
  | true => exact (M.bind_ok (Env.needDecimal_ok (h rfl))).trans (Env.useBank_ok hk)

theorem binFmt_dec (fmt : Nat) : (binFmt fmt).dec = false := by
  unfold binFmt
  split
  · rfl
  · split <;> rfl

theorem decFmt_dec (fmt : Nat) : (decFmt fmt).dec = true := by
  unfold decFmt
  split <;> rfl

theorem fmtOf_dec (dec : Bool) (fmt : Nat) : (fmtOf dec fmt).dec = dec := by
  cases dec
  · exact binFmt_dec fmt
  · exact decFmt_dec fmt

/-! ### Operands and results -/

/-- The halves that an operation of a format reads of a list of registers. -/
def fpHalves (f : Fmt) (k : Bank) (l : List Nat) : List Opd := (List.range l.length).flatMap (fun j => halves f.width (j + 1) (fpType f.dec) (fget k.f (l.getD j 0)))

/-- The value that a register of a bank holds in a format. -/
def fpVal (f : Fmt) (k : Bank) (a : Nat) : Fv := f.decode (fbits f.width (fget k.f a))

/-- The bits that FABS, FNEG and FMOV write. -/
def signBits (op : BOp) (width x : Nat) : Nat :=
  match op with
  | .abs => x % 2 ^ (width - 1)
  | .neg => x % 2 ^ (width - 1) + b2n (!bit x (width - 1)) * 2 ^ (width - 1)
  | _ => x

/-- What a floating-point result does to the state: F D takes it, and its flags are raised. -/
def Env.fpDoes (e : Env) (f : Fmt) (her : Bool) (d : Nat) (x : Fv × Nat) : State → State :=
  fun s => e.setF d (freg f.width (fpTag her f.dec) (f.encode x.1)) (e.onRegs (fun q => q.raiseFp x.2) s)

/-- What a floating-point instruction without a result in F D does: it writes registers and records its use of the bank. -/
def Env.touchRegs (e : Env) (g : Regs → Regs) : State → State := fun s => e.touchF (e.onRegs g s)

section
variable {u : State} (e : Env) (r : Regs) (k : Bank) (hr : (u.ctx e.core e.set).regs = r) (hk : u.usesBank e.core e.set k)
  {f : Fmt} (hd : f.dec = true → e.core < u.chCores) {dir : Nat} (hdir : r.dir f.dec = dir)

include hr

theorem Env.fpWrite_ok {d : Nat} {x : Fv × Nat} : e.fpWrite f d x u = .ok (e.fpDoes f r.her d x) u := by
  subst hr
  rfl

include hk hd

theorem Env.fpOpds_ok {l : List Nat} (h : checkTags r.her (fpHalves f k l) = .ok ()) : e.fpOpds f l u = .ok (l.map (fpVal f k)) u := by
  subst hr
  rw [Env.fpOpds, M.bind_ok (Env.fpReady_ok hk hd), M.bind_ok (Env.fregs_ok hk)]
  exact M.bind_ok (Env.check_ok h)

section
include hdir

theorem Env.fp2_ok {op d a b : Nat} (h : checkTags r.her (fpHalves f k [a, b]) = .ok ()) :
    e.fp2 f op d a b u = .ok (e.fpDoes f r.her d (arithF f dir op (fpVal f k a) (fpVal f k b))) u := by
  rw [Env.fp2, M.bind_ok (e.fpOpds_ok r k hr hk hd h)]
  subst hr hdir
  rfl

theorem Env.fp1_ok {op d a : Nat} (h : checkTags r.her (fpHalves f k [a]) = .ok ()) :
    e.fp1 f op d a u = .ok (e.fpDoes f r.her d (arithF f dir op (fpVal f k a) defNan)) u := by
  rw [Env.fp1, M.bind_ok (e.fpOpds_ok r k hr hk hd h)]
  subst hr hdir
  rfl

theorem Env.fp3_ok {op d a b c : Nat} (h : checkTags r.her (fpHalves f k [a, b, c]) = .ok ()) :
    e.fp3 f op d a b c u = .ok (e.fpDoes f r.her d (f.fma dir (decide (2 ≤ op)) (op % 2 == 1) (fpVal f k a) (fpVal f k b) (fpVal f k c))) u := by
  rw [Env.fp3, M.bind_ok (e.fpOpds_ok r k hr hk hd h)]
  subst hr hdir
  rfl

theorem Env.fpCvt_ok {t : Fmt} {d a : Nat} (h : checkTags r.her (fpHalves f k [a]) = .ok ()) :
    e.fpCvt f t d a u = .ok (e.fpDoes t r.her d (t.cvt f dir (fpVal f k a))) u := by
  rw [Env.fpCvt, M.bind_ok (e.fpOpds_ok r k hr hk hd h)]
  subst hr hdir
  rfl

theorem Env.fpOfInt_ok {d a : Nat} (h : checkTags r.her [⟨r.gpr a, 1, tyInt, false⟩] = .ok ()) :
    e.fpOfInt f d a u = .ok (e.fpDoes f r.her d (f.ofInt dir (r.gpr a).datum.toInt)) u := by
  rw [Env.fpOfInt, M.bind_ok (Env.fpReady_ok hk hd), M.bind_ok Env.regs_ok, hr, sext_toNat]
  subst hr hdir
  exact M.bind_ok (Env.check_ok h)

theorem Env.fpToInt_ok {d a : Nat} (h : checkTags r.her (fpHalves f k [a]) = .ok ()) :
    e.fpToInt f d a u = .ok (e.touchRegs (fun q => (q.setG d ⟨word (f.toInt dir (fpVal f k a)).1, resTag q.her Tag.int⟩).raiseFp (f.toInt dir (fpVal f k a)).2)) u := by
  rw [Env.fpToInt, M.bind_ok (e.fpOpds_ok r k hr hk hd h)]
  subst hr hdir
  rfl

end

theorem Env.fpCmp_ok {a b : Nat} (h : checkTags r.her (fpHalves f k [a, b]) = .ok ()) :
    e.fpCmp f a b u = .ok (e.touchRegs (fun q => (q.setNzcv (f.cmp (fpVal f k a) (fpVal f k b)).1).raiseFp (f.cmp (fpVal f k a) (fpVal f k b)).2)) u := by
  rw [Env.fpCmp, M.bind_ok (e.fpOpds_ok r k hr hk hd h)]
  rfl

theorem Env.fpSign_ok {op : BOp} {d a : Nat} (h : checkTags r.her (fpHalves f k [a]) = .ok ()) :
    e.fpSign f op d a u = .ok (e.setF d (freg f.width (fpTag r.her false) (signBits op f.width (fbits f.width (fget k.f a))))) u := by
  rw [Env.fpSign, M.bind_ok (e.fpOpds_ok r k hr hk hd h), M.bind_ok (Env.fregs_ok hk)]
  subst hr
  rfl

end

theorem Env.fminmax_ok {u : State} (e : Env) (r : Regs) (k : Bank) (hr : (u.ctx e.core e.set).regs = r) (hk : u.usesBank e.core e.set k) {mx : Bool} {fmt d a b : Nat}
    (hd : (binFmt fmt).dec = true → e.core < u.chCores) (h : checkTags r.her (fpHalves (binFmt fmt) k [a, b]) = .ok ()) :
    e.fminmax mx fmt d a b u = .ok (e.fpDoes (binFmt fmt) r.her d ((binFmt fmt).minmax mx (fpVal (binFmt fmt) k a) (fpVal (binFmt fmt) k b))) u := by
  rw [Env.fminmax, M.bind_ok (e.fpOpds_ok r k hr hk hd h)]
  exact e.fpWrite_ok r hr

theorem Env.dquant_ok {u : State} (e : Env) (r : Regs) (k : Bank) (hr : (u.ctx e.core e.set).regs = r) (hk : u.usesBank e.core e.set k) {fmt d a b : Nat}
    (hd : (decFmt fmt).dec = true → e.core < u.chCores) (h : checkTags r.her (fpHalves (decFmt fmt) k [a, b]) = .ok ()) :
    e.dquant fmt d a b u = .ok (e.fpDoes (decFmt fmt) r.her d ((decFmt fmt).quantize (r.dir true) (fpVal (decFmt fmt) k a) (fpVal (decFmt fmt) k b))) u := by
  rw [Env.dquant, M.bind_ok (e.fpOpds_ok r k hr hk hd h)]
  subst hr
  rfl

/-! ### The operations both radices share -/

/-- The operations of Tables 06-2 and 06-7 by code: where the operands read pass `ok`, the result of the operation is written. -/
def arithClauses (ok : List Nat → Prop) (writes : Fv × Nat → Prop) (f : Fmt) (dir : Nat) (v : Nat → Fv) (j a b : Nat) : Prop :=
  (j = 0 → ok [a, b] → writes (f.add dir (v a) (v b))) ∧ (j = 1 → ok [a, b] → writes (f.sub dir (v a) (v b))) ∧
  (j = 2 → ok [a, b] → writes (f.mul dir (v a) (v b))) ∧ (j = 3 → ok [a, b] → writes (f.div dir (v a) (v b))) ∧
  (j = 4 → ok [a] → writes (f.sqrt dir (v a))) ∧ (j = 5 → ok [a] → writes (f.rnd dir (v a)))

theorem arithClauses_of_arithF {ok : List Nat → Prop} {writes : Fv × Nat → Prop} {f : Fmt} {dir : Nat} {v : Nat → Fv} {j a b : Nat}
    (htwo : j ≤ 3 → ok [a, b] → writes (arithF f dir j (v a) (v b))) (hone : 4 ≤ j → ok [a] → writes (arithF f dir j (v a) defNan)) :
    arithClauses ok writes f dir v j a b := by
  refine ⟨?add, ?sub, ?mul, ?div, ?sqrt, ?rnd⟩ <;> rintro rfl
  case sqrt => exact hone (by decide)
  case rnd => exact hone (by decide)
  all_goals exact htwo (by decide)

section
variable {u : State} (e : Env) (r : Regs) (k : Bank) (hr : (u.ctx e.core e.set).regs = r) (hk : u.usesBank e.core e.set k)
  {f : Fmt} (hd : f.dec = true → e.core < u.chCores) {dir : Nat} (hdir : r.dir f.dec = dir)
include hr hk hd hdir

/-- An instruction that is a row of fp2 or fp1 and writes what that computes meets the clauses. -/
theorem Env.arithClauses_of_row {x : Effect} {writes : (State → State) → Prop} {d a b j : Nat} (hw : ∀ g, x u = .ok g u → writes g)
    (hx : j ≤ 3 ∧ x = e.fp2 f j d a b ∨ 4 ≤ j ∧ x = e.fp1 f j d a) :
    arithClauses (fun l => checkTags r.her (fpHalves f k l) = .ok ()) (fun y => writes (e.fpDoes f r.her d y)) f dir (fpVal f k) j a b := by
  refine arithClauses_of_arithF (fun hj h => hw _ ?_) (fun hj h => hw _ ?_)
  · obtain ⟨-, rfl⟩ := hx.resolve_right (fun h => by omega)
    exact e.fp2_ok r k hr hk hd hdir h
  · obtain ⟨-, rfl⟩ := hx.resolve_left (fun h => by omega)
    exact e.fp1_ok r k hr hk hd hdir h

end

theorem Regs.dir_binFmt (r : Regs) (fmt : Nat) : r.dir (binFmt fmt).dec = bits r.fpsr.toNat 26 24 := by
  rw [binFmt_dec]
  rfl

theorem Regs.dir_decFmt (r : Regs) (fmt : Nat) : r.dir (decFmt fmt).dec = bits r.fpsr.toNat 30 28 := by
  rw [decFmt_dec]
  rfl

theorem signBits_neg (width x : Nat) : signBits .neg width x = x % 2 ^ (width - 1) + (if bit x (width - 1) then 0 else 2 ^ (width - 1)) := by
  unfold signBits
  cases bit x (width - 1) with
  | false => exact congrArg (_ + ·) (Nat.one_mul _)
  | true => exact congrArg (_ + ·) (Nat.zero_mul _)

section
variable {s u : State} {core set w am n : Nat} {i : Ins} {fits : Ins → Bool} {body : Env → Ins → M PUnit} {x : Effect}
  (h : s.starts core set u i w am) (hn : u.follows core set am n) (hf : fits i = true) (hb : body (envOf core set w am) i = (envOf core set w am).commit x)
include h hn hf hb

/-- The row of an operation whose result goes to F D. -/
theorem State.issue_fpDoes {f : Fmt} {her : Bool} {d : Nat} {y : Fv × Nat} (hx : x u = .ok ((envOf core set w am).fpDoes f her d y) u) :
    s.issue core set fits body =
      ((envOf core set w am).setF d (freg f.width (fpTag her f.dec) (f.encode y.1)) (u.withRegs core set (fun q => q.raiseFp y.2))).retire core set n false false :=
  State.issue_commits (v := u) (f := (envOf core set w am).fpDoes f her d y) h hf hb hn hx

/-- The row of an operation that reads F registers and writes others. -/
theorem State.issue_touchRegs {g : Regs → Regs} (hx : x u = .ok ((envOf core set w am).touchRegs g) u) :
    s.issue core set fits body = ((envOf core set w am).touchF (u.withRegs core set g)).retire core set n false false :=
  State.issue_commits (v := u) (f := (envOf core set w am).touchRegs g) h hf hb hn hx

end

section
variable {s u v : State} {core set w am n : Nat} {i : Ins} {fits : Ins → Bool} {body : Env → Ins → M PUnit} {x : Effect}
  (h : s.starts core set u i w am) (hn : v.follows core set am n) (hf : fits i = true) (hb : body (envOf core set w am) i = (envOf core set w am).commit x)
include h hn hf hb

/-- The row of an operation that writes F D alone. -/
theorem State.issue_setF {d : Nat} {y : FReg} (hx : x u = .ok ((envOf core set w am).setF d y) v) :
    s.issue core set fits body = ((envOf core set w am).setF d y v).retire core set n false false :=
  State.issue_commits h hf hb hn hx

/-- The row of an operation that writes registers alone, after what its accesses leave. -/
theorem State.issue_onRegs {g : Regs → Regs} (hx : x u = .ok ((envOf core set w am).onRegs g) v) :
    s.issue core set fits body = (v.withRegs core set g).retire core set n false false :=
  State.issue_commits (f := (envOf core set w am).onRegs g) h hf hb hn hx

end

/-- Settles O54: the bank is attached and the operands pass their checks, so each row writes what its operation computes. -/
theorem floatingPointInstructionsComplete : Obligations.FloatingPointInstructionsComplete := by
  unfold Obligations.FloatingPointInstructionsComplete
  intro s u core set w am n k r e v ok wr two hn hk
  have hbin (fmt : Nat) : (binFmt fmt).dec = true → core < u.chCores := fun h => absurd ((binFmt_dec fmt).symm.trans h) (by decide)
  refine ⟨?bfp, ?bfma, fun hch => ⟨?dfp, ?dfma, ?dquant⟩, ?minmax, ?cmp, ?toInt⟩
  case bfp =>
    intro op fmt d a b h f o dir m
    have hdir : r.dir f.dec = dir := r.dir_binFmt fmt
    have shared (j : Nat) : (j ≤ 3 ∧ e.bfp op fmt d a b = e.fp2 f j d a b ∨ 4 ≤ j ∧ e.bfp op fmt d a b = e.fp1 f j d a) → two o f dir j d a b :=
      e.arithClauses_of_row r k rfl hk (hbin fmt) hdir (writes := fun g => o = .next ((g u).retire core set n false false))
        (fun g hg => congrArg Host.Outcome.next (State.issue_commits h rfl rfl hn hg))
    have sign (hx : e.bfp op fmt d a b = e.fpSign f op d a) (hok : ok f [a]) :
        o = .next ((e.setF d (freg f.width (fpTag r.her false) (signBits op f.width m)) u).retire core set n false false) :=
      congrArg Host.Outcome.next (State.issue_setF h hn rfl (congrArg e.commit hx) (e.fpSign_ok r k rfl hk (hbin fmt) hok))
    cases op with
    | add => exact shared 0 (.inl ⟨by decide, rfl⟩)
    | sub => exact shared 1 (.inl ⟨by decide, rfl⟩)
    | mul => exact shared 2 (.inl ⟨by decide, rfl⟩)
    | div => exact shared 3 (.inl ⟨by decide, rfl⟩)
    | sqrt => exact shared 4 (.inr ⟨by decide, rfl⟩)
    | rnd => exact shared 5 (.inr ⟨by decide, rfl⟩)
    | cvt t => exact fun hok => congrArg Host.Outcome.next (State.issue_fpDoes h hn rfl rfl (e.fpCvt_ok r k rfl hk (hbin fmt) hdir hok))
    | cvtfi => exact fun hok => congrArg Host.Outcome.next (State.issue_fpDoes h hn rfl rfl (e.fpOfInt_ok r k rfl hk (hbin fmt) hdir hok))
    | abs => exact sign rfl
    | neg =>
      rw [signBits_neg] at sign
      exact sign rfl
    | mov => exact sign rfl
  case bfma =>
    intro op fmt d a b g h hok
    exact congrArg Host.Outcome.next (State.issue_fpDoes h hn rfl rfl (e.fp3_ok r k rfl hk (hbin fmt) (r.dir_binFmt fmt) hok))
  case dfp =>
    intro op fmt d a b h f o dir
    have hdir : r.dir f.dec = dir := r.dir_decFmt fmt
    have shared (j : Nat) : (j ≤ 3 ∧ e.dfp op fmt d a b = e.fp2 f j d a b ∨ 4 ≤ j ∧ e.dfp op fmt d a b = e.fp1 f j d a) → two o f dir j d a b :=
      e.arithClauses_of_row r k rfl hk (fun _ => hch) hdir (writes := fun g => o = .next ((g u).retire core set n false false))
        (fun g hg => congrArg Host.Outcome.next (State.issue_commits h rfl rfl hn hg))
    cases op with
    | add => exact shared 0 (.inl ⟨by decide, rfl⟩)
    | sub => exact shared 1 (.inl ⟨by decide, rfl⟩)
    | mul => exact shared 2 (.inl ⟨by decide, rfl⟩)
    | div => exact shared 3 (.inl ⟨by decide, rfl⟩)
    | sqrt => exact shared 4 (.inr ⟨by decide, rfl⟩)
    | rnd => exact shared 5 (.inr ⟨by decide, rfl⟩)
    | cvt t => exact fun hok => congrArg Host.Outcome.next (State.issue_fpDoes h hn rfl rfl (e.fpCvt_ok r k rfl hk (fun _ => hch) hdir hok))
    | cvtfi => exact fun hok => congrArg Host.Outcome.next (State.issue_fpDoes h hn rfl rfl (e.fpOfInt_ok r k rfl hk (fun _ => hch) hdir hok))
  case dfma =>
    intro op fmt d a b g h hok
    exact congrArg Host.Outcome.next (State.issue_fpDoes h hn rfl rfl (e.fp3_ok r k rfl hk (fun _ => hch) (r.dir_decFmt fmt) hok))
  case dquant =>
    intro fmt d a b h hok
    exact congrArg Host.Outcome.next (State.issue_fpDoes h hn rfl rfl (e.dquant_ok r k rfl hk (fun _ => hch) hok))
  case minmax =>
    intro mx fmt d a b h hok
    exact congrArg Host.Outcome.next (State.issue_fpDoes h hn rfl rfl (e.fminmax_ok r k rfl hk (hbin fmt) hok))
  case cmp =>
    intro dec fmt a b h hch hok
    exact congrArg Host.Outcome.next (State.issue_touchRegs h hn rfl rfl (e.fpCmp_ok r k rfl hk (by rwa [fmtOf_dec]) hok))
  case toInt =>
    intro dec fmt d a h hch hok
    exact congrArg Host.Outcome.next (State.issue_touchRegs h hn rfl rfl (e.fpToInt_ok r k rfl hk (by rwa [fmtOf_dec]) (by rw [fmtOf_dec]; rfl) hok))

end Sys2Proof.Machine
end

section
/-! Packed decimal, conversions, vector operations and the block cipher (R204, R205, R208, R210, R304, R305, R306). -/
namespace Sys2Proof.Machine

/-! ### Signed magnitudes -/

theorem signed_signMag (x : Int) : signed (signMag x).1 (signMag x).2 = x := by
  simp only [signed, signMag, decide_eq_true_eq]
  split <;> omega

theorem signMag_sext (x : Word) : signMag (sext 64 x.toNat) = (decide (x.toInt < 0), x.toInt.natAbs) := by
  rw [sext_toNat, signMag]

/-- The sign a zero result takes does not change its value (R208). -/
theorem signed_resSign (her n : Bool) (m : Nat) : signed (resSign her n m) m = signed n m := by
  unfold resSign
  split
  case isTrue h => rw [h.1, signed_zero, signed_zero]
  case isFalse => rfl

theorem signed_bne (m n : Bool) (c : Nat) : signed (m != n) c = if m then -signed n c else signed n c := by
  cases m with
  | false => rw [Bool.false_bne]; rfl
  | true => rw [Bool.true_bne, signed_not]; rfl

theorem signed_bne_mul (m n : Bool) (x y : Nat) : signed (m != n) (x * y) = signed m x * signed n y := by
  rw [signed_bne, Nat.mul_comm, signed_mul_nat, Int.mul_comm]
  cases m with
  | false => rfl
  | true => exact (Int.neg_mul ..).symm

theorem signed_div (n : Bool) (x y : Nat) : signed n (x / y) = (x : Int).tdiv (signed n y) := by
  cases n with
  | false => exact Int.ofNat_tdiv x y
  | true => rw [signed_true, signed_true, Int.tdiv_neg, Int.ofNat_tdiv]

theorem signed_bne_div (m n : Bool) (x y : Nat) : signed (m != n) (x / y) = (signed m x).tdiv (signed n y) := by
  rw [signed_bne, signed_div]
  cases m with
  | false => rfl
  | true => exact (Int.neg_tdiv ..).symm

theorem tmod_signed (n : Bool) (x : Int) (y : Nat) : x.tmod (signed n y) = x.tmod y := by
  cases n with
  | false => rfl
  | true => exact Int.tmod_neg ..

/-- A remainder takes the sign of the dividend, whatever that of the divisor. -/
theorem signed_mod (m n : Bool) (x y : Nat) : signed m (x % y) = (signed m x).tmod (signed n y) := by
  rw [tmod_signed]
  cases m with
  | false => exact Int.ofNat_tmod x y
  | true => rw [signed_true, signed_true, Int.neg_tmod, Int.ofNat_tmod]

/-- The signed value of Table 06-8. -/
theorem signed_packedRes (op : POp2) (x y : Bool × Nat) :
    signed (packedRes op x y).1 (packedRes op x y).2 = (match op with
      | .arith .add => signed x.1 x.2 + signed y.1 y.2
      | .arith .sub => signed x.1 x.2 - signed y.1 y.2
      | .arith .mul => signed x.1 x.2 * signed y.1 y.2
      | .arith .zadd => signed y.1 y.2
      | .arith .cmp => signed x.1 x.2
      | .div => (signed x.1 x.2).tdiv (signed y.1 y.2)
      | .rem => (signed x.1 x.2).tmod (signed y.1 y.2)) := by
  cases op with
  | arith o =>
    cases o with
    | add => exact signed_signMag _
    | sub => exact signed_signMag _
    | mul => exact signed_bne_mul ..
    | zadd => rfl
    | cmp => rfl
  | div => exact signed_bne_div ..
  | rem => exact signed_mod ..

theorem except_bind_ok {ε α β : Type} {x : Except ε α} {g : α → Except ε β} {b : β} (h : (x >>= g) = .ok b) : ∃ a, x = .ok a ∧ g a = .ok b := by
  cases x with
  | error z => cases h
  | ok a => exact ⟨a, rfl, h⟩

/-- A computation that goes on after a conditional step has not been stopped by it. -/
theorem except_when_ok {ε β : Type} {p : Prop} [Decidable p] {x : Except ε PUnit} {g : PUnit → Except ε β} {b : β} (h : (if p then x >>= g else g ()) = .ok b) :
    (p → x = .ok ()) ∧ g () = .ok b := by
  by_cases hp : p
  · rw [if_pos hp] at h
    obtain ⟨a, hx, hg⟩ := except_bind_ok h
    exact ⟨fun _ => hx, hg⟩
  · rw [if_neg hp] at h
    exact ⟨fun h => absurd h hp, h⟩

/-- A computation that nothing stops answers the result of Table 06-8 with the sign of R208, and that fits its field. -/
theorem packedRun_ok {her : Bool} {am : Nat} {op : POp2} {a b l1 l2 : Nat} {x y : List Byte} {v : Bool × Nat} (h : packedRun her am op a b l1 l2 x y = .ok v) :
    v.2 < 10 ^ (2 * l1 - 1) ∧ v = (resSign her (packedRes op (packedVal x) (packedVal y)).1 (packedRes op (packedVal x) (packedVal y)).2, (packedRes op (packedVal x) (packedVal y)).2) := by
  unfold packedRun at h
  obtain ⟨-, h⟩ := except_when_ok h
  obtain ⟨-, h⟩ := except_when_ok h
  obtain ⟨-, -, h⟩ := except_bind_ok h
  obtain ⟨-, h⟩ := except_when_ok h
  obtain ⟨hfits, h⟩ := except_when_ok h
  refine ⟨Nat.lt_of_not_le (fun hlong => ?_), (Except.ok.inj h).symm⟩
  cases h
  cases hfits hlong

/-! ### Major 0x1C -/

/-- A step that a condition guards. -/
theorem M.when_ok {β : Type} {p : Prop} [Decidable p] {x : M PUnit} {g : PUnit → M β} {u v : State} (h : if p then x u = .ok () v else v = u) :
    (if p then x >>= g else g ()) u = g () v := by
  by_cases hp : p
  · rw [if_pos hp] at h ⊢
    exact M.bind_ok h
  · rw [if_neg hp] at h ⊢
    rw [h]


section
variable {u : State} (e : Env) (r : Regs) (hr : (u.ctx e.core e.set).regs = r)
include hr

theorem Env.packed2_ok {op : POp2} {ga gb l1 l2 a b : Nat} {pa pb : List PWord} {wa wb : List TWord} {v : Bool × Nat} {u1 u2 u3 u4 u5 : State}
    (hc : checkTags r.her [⟨r.gpr ga, 1, tyPtr, false⟩, ⟨r.gpr gb, 2, tyPtr, false⟩] = .ok ()) (ha : a = (r.gpr ga).datum.toNat) (hb : b = (r.gpr gb).datum.toNat)
    (hpa : e.pAddr (decide (op ≠ .arith .zadd)) (decide (op ≠ .arith .cmp)) (wordParts 3 a l1) u = .ok pa u1) (hpb : e.pAddr true false (wordParts 3 b l2) u1 = .ok pb u2)
    (hready : if op = .arith .cmp then u3 = u2 else e.pReady pa u2 = .ok () u3) (hwa : e.pWords (decide (op ≠ .arith .zadd)) pa u3 = .ok wa u4) (hwb : e.pWords true pb u4 = .ok wb u5)
    (ht : pTags r.her ((pa.zip wa).map (fun p => ⟨p.1, p.2, decide (op ≠ .arith .zadd), decide (op ≠ .arith .cmp)⟩) ++ (pb.zip wb).map (fun p => ⟨p.1, p.2, true, false⟩)) = .ok ())
    (hv : packedRun r.her e.am op a b l1 l2 (pBytes pa wa) (pBytes pb wb) = .ok v) :
    e.packed2 op ga gb l1 l2 u = .ok (if op = .arith .cmp then e.onRegs (fun q => q.setNzcv (pcmpFlags (packedVal (pBytes pa wa)) (packedVal (pBytes pb wb))))
      else e.pCommit (pTag r.her) pa (packField l1 v.1 v.2)) u5 := by
  subst hr ha hb
  rw [Env.packed2, M.bind_ok Env.regs_ok, M.bind_ok (Env.check_ok hc)]
  refine (M.bind_ok hpa).trans ?_
  refine (M.bind_ok hpb).trans ?_
  refine (M.when_ok (v := u3) ?ready).trans ?_
  case ready =>
    by_cases hop : op = .arith .cmp
    · rw [if_pos hop] at hready
      rw [if_neg (fun h => absurd hop (of_decide_eq_true h)), hready]
    · rw [if_neg hop] at hready
      rwa [if_pos (decide_eq_true hop)]
  refine (M.bind_ok hwa).trans ((M.bind_ok hwb).trans ((M.bind_ok (Env.lift_ok ht)).trans ((M.bind_ok (Env.lift_ok hv)).trans ?_)))
  exact congrArg (EStateM.Result.ok · u5) (by simp only [decide_eq_true_eq, ne_eq, ite_not])

/-! ### Conversions (R210) -/

variable {d ga gb len : Nat}

theorem Env.ptob_ok {p : Nat × (Bool × Nat)} {v : State} (h : e.pRead ga len u = .ok p v) (hlow : -(2 ^ 63) ≤ signed p.2.1 p.2.2) (hhigh : signed p.2.1 p.2.2 < 2 ^ 63) :
    e.ptob d ga len u = .ok (e.onRegs (fun q => q.setG d ⟨BitVec.ofInt 64 (signed p.2.1 p.2.2), resTag r.her Tag.int⟩)) v := by
  subst hr
  rw [Env.ptob, M.bind_ok Env.regs_ok, M.bind_ok h, ← word_i64, if_neg (by omega)]
  rfl

theorem Env.btop_ok {f : State → State} {v : State} (hc : checkTags r.her [⟨r.gpr ga, 1, tyPtr, false⟩, ⟨r.gpr gb, 2, tyInt, false⟩] = .ok ())
    (h : e.pWrite (r.gpr ga).datum.toNat len none (decide ((r.gpr gb).datum.toInt < 0), (r.gpr gb).datum.toInt.natAbs) u = .ok f v) : e.btop ga gb len u = .ok f v := by
  subst hr
  rw [Env.btop, M.bind_ok Env.regs_ok, M.bind_ok (Env.check_ok hc), signMag_sext, h]

section
variable (k : Bank) (hk : u.usesBank e.core e.set k)
include hk

theorem Env.ptod_ok {p : Nat × (Bool × Nat)} {v : State} (h : e.pRead ga len u = .ok p v) :
    e.ptod d ga len u = .ok (e.setF d (freg 128 (fpTag r.her true) (d128.encode (.fin p.2.1 p.2.2 0)))) v := by
  subst hr
  rw [Env.ptod, M.bind_ok (Env.useBank_ok hk), M.bind_ok Env.regs_ok, M.bind_ok h]
  rfl

theorem Env.dtop_ok {fb x : Nat} {neg : Bool} {y : Int} {f : State → State} {v : State}
    (hc : checkTags r.her (⟨r.gpr ga, 1, tyPtr, false⟩ :: halves 128 2 [5] (fget k.f fb)) = .ok ()) (hx : d128.decode (fbits 128 (fget k.f fb)) = .fin neg x y)
    (h : e.pWrite (r.gpr ga).datum.toNat len none (neg, x) u = .ok f v) : e.dtop ga fb len u = .ok (fun s => e.touchF (f s)) v := by
  subst hr
  rw [Env.dtop, M.bind_ok (Env.useBank_ok hk), M.bind_ok Env.regs_ok, M.bind_ok (Env.fregs_ok hk)]
  refine (M.bind_ok (Env.check_ok hc)).trans ?_
  rw [hx]
  exact M.bind_ok h

/-! ### Vector operations and the block cipher (R304, R305, R306) -/

omit hr in
theorem Env.vec_ok {op : VOp} {a b : Nat} (h : checkTags (u.ctx e.core e.set).regs.her (vecOpds op (fget k.f a) (fget k.f b)) = .ok ()) :
    e.vec op d a b u = .ok (e.setF d (rawReg (vecVal op (fget k.f a) (fget k.f b)))) u := by
  rw [Env.vec, M.bind_ok (Env.useBank_ok hk), M.bind_ok (Env.fregs_ok hk)]
  exact M.bind_ok (Env.check_ok h)

theorem Env.bcrypt_ok {dec : Bool} {a b y : Nat} (h : checkTags r.her (halves 128 1 tyIntRaw (fget k.f a) ++ [⟨r.gpr b, 2, tyInt, false⟩]) = .ok ())
    (hy : (u.ctx e.core e.set).await = .block true y) : e.bcrypt dec d a b u = .ok (e.setF d (rawReg y)) u := by
  subst hr
  rw [Env.bcrypt, M.bind_ok (Env.useBank_ok hk), M.bind_ok Env.regs_ok, M.bind_ok (Env.fregs_ok hk)]
  refine (M.bind_ok (Env.check_ok h)).trans ?_
  rw [M.bind_ok Env.ctx_ok, hy]
  rfl

end

end

/-- The row of an operation on packed fields: it commits the first field, or it writes flags. -/
theorem State.issue_packed {s u v : State} {core set w am n : Nat} {i : Ins} {fits : Ins → Bool} {body : Env → Ins → M PUnit} {x : Effect} {cmp : Prop} [Decidable cmp]
    {g : Regs → Regs} {f : State → State} (h : s.starts core set u i w am) (hn : v.follows core set am n) (hf : fits i = true)
    (hb : body (envOf core set w am) i = (envOf core set w am).commit x) (hx : x u = .ok (if cmp then (envOf core set w am).onRegs g else f) v) :
    s.issue core set fits body = (if cmp then v.withRegs core set g else f v).retire core set n false false := by
  by_cases hc : cmp
  · rw [if_pos hc] at hx ⊢
    exact State.issue_onRegs h hn hf hb hx
  · rw [if_neg hc] at hx ⊢
    exact State.issue_commits h hf hb hn hx

/-- Settles O56: with its words reached, checked and computed, each row commits what its computation answers; the value of a result is that of Table 06-8, whatever sign a zero takes. -/
theorem packedAndVectorInstructionsComplete : Obligations.PackedAndVectorInstructionsComplete := by
  unfold Obligations.PackedAndVectorInstructionsComplete
  refine ⟨fun s u core set w am n => ?rows, fun her am op a b l1 l2 x y v h => ?values⟩
  case rows =>
    intro r e
    refine ⟨?packed, fun d a len p v h hn => ⟨?ptob, ?ptod⟩, ?btop, ?dtop, fun k hn hk => ⟨?vec, ?bcrypt⟩⟩
    case packed =>
      intro o op a b l1 l2 ho hc ea eb rd pa pb wa wb v u1 u2 u3 u4 u5 hpa hpb hready hwa hwb ht hv hn
      have hx := e.packed2_ok r rfl hc rfl rfl hpa hpb hready hwa hwb ht hv
      obtain ⟨p, h, rfl, rfl⟩ | ⟨m, h, rfl, rfl⟩ := ho
      · exact congrArg Host.Outcome.next (State.issue_packed h hn rfl rfl hx)
      · exact congrArg Host.Outcome.next (State.issue_packed h hn rfl rfl hx)
    case ptob =>
      intro h' hlow hhigh
      exact congrArg Host.Outcome.next (State.issue_onRegs h' hn rfl rfl (e.ptob_ok r rfl h hlow hhigh))
    case ptod =>
      intro k h' hk
      exact congrArg Host.Outcome.next (State.issue_setF h' hn rfl rfl (e.ptod_ok r rfl k hk h))
    case btop =>
      intro a b len f v h hc hw hn
      exact congrArg Host.Outcome.next (State.issue_commits h rfl rfl hn (e.btop_ok r rfl hc hw))
    case dtop =>
      intro a b len f v k neg x y h hk hc hx hw hn
      exact congrArg Host.Outcome.next (State.issue_commits (f := fun t => e.touchF (f t)) h rfl rfl hn (e.dtop_ok r rfl k hk hc hx hw))
    case vec =>
      intro op d a b h hc
      exact congrArg Host.Outcome.next (State.issue_setF h hn rfl rfl (e.vec_ok k hk hc))
    case bcrypt =>
      intro dec d a b y h hc hy
      exact congrArg Host.Outcome.next (State.issue_setF h hn rfl rfl (e.bcrypt_ok r rfl k hk hc hy))
  case values =>
    intro p q
    obtain ⟨hfits, rfl⟩ := packedRun_ok h
    exact ⟨(signed_resSign ..).trans (signed_packedRes op (packedVal x) (packedVal y)), hfits⟩

end Sys2Proof.Machine
end

section
/-! What an engine's write to memory changes (R122, R123, R235 to R255, R264). -/
namespace Sys2Proof.Machine

/-- Beside the memory system, the cores, their sets and the count of free values, t is s. -/
structure State.memOnly (t s : State) : Prop where
  eq : t = { s with ms := t.ms, cores := t.cores, ctxs := t.ctxs, freeCtr := t.freeCtr }

theorem State.memOnly.refl (s : State) : s.memOnly s := ⟨rfl⟩

theorem State.memOnly.trans {a b c : State} (h : c.memOnly b) (k : b.memOnly a) : c.memOnly a := by
  obtain ⟨h⟩ := h
  obtain ⟨k⟩ := k
  exact ⟨by rw [h, k]⟩

theorem State.memOnly.subchs {t s : State} (h : t.memOnly s) : t.subchs = s.subchs := by rw [h.eq]

theorem State.memOnly.sub {t s : State} (h : t.memOnly s) (n : Nat) : t.sub n = s.sub n := congrArg (fun x : Tab Subch => x.getD n {}) h.subchs

theorem State.memOnly.insts {t s : State} (h : t.memOnly s) : t.insts = s.insts := by rw [h.eq]

theorem State.memOnly.inst {t s : State} (h : t.memOnly s) (n : Nat) : t.inst n = s.inst n := congrArg (fun x : Tab Inst => x.getD n {}) h.insts

/-- What every element of a list leaves so leaves the list. -/
theorem State.memOnly_foldl {α : Type} {f : State → α → State} (h : ∀ s x, (f s x).memOnly s) (l : List α) (s : State) : (l.foldl f s).memOnly s :=
  List.foldlRecOn (motive := fun t => t.memOnly s) l f (.refl s) (fun b hb x _ => State.memOnly.trans (h b x) hb)

variable (s : State)

theorem State.onMs_memOnly (f : MemSys → MemSys) : (s.onMs f).memOnly s := ⟨rfl⟩
theorem State.onPort_memOnly (n : Nat) (f : CxlPort → CxlPort) : (s.onPort n f).memOnly s := ⟨rfl⟩
theorem State.onCore_memOnly (n : Nat) (f : LCore → LCore) : (s.onCore n f).memOnly s := ⟨rfl⟩
theorem State.onCtx_memOnly (n k : Nat) (f : Ctx → Ctx) : (s.onCtx n k f).memOnly s := ⟨rfl⟩
theorem State.drawn_memOnly : s.drawn.memOnly s := ⟨rfl⟩
theorem State.buffer_memOnly (la dest unit : Nat) (l : Line) : (s.buffer la dest unit l).memOnly s := ⟨rfl⟩
theorem State.storeLine_memOnly (la : Nat) (l : Line) : (s.storeLine la l).memOnly s := ⟨rfl⟩
theorem State.killResv_memOnly (la : Nat) (k : Option Nat) : (s.killResv la k).memOnly s := ⟨rfl⟩

theorem State.inClass_memOnly (c : Nat) : (s.inClass c).memOnly s := by
  unfold State.inClass
  split <;> exact ⟨rfl⟩

/-! ### Ports and the tag shadow -/

theorem State.portAnswered_memOnly (p : Nat) : (s.portAnswered p).memOnly s := by
  unfold State.portAnswered
  split <;> exact ⟨rfl⟩

theorem State.answered_memOnly (la : Nat) : (s.answered la).memOnly s := by
  unfold State.answered
  split
  · exact ⟨rfl⟩
  · split
    · exact s.portAnswered_memOnly _
    · split
      · exact ⟨rfl⟩
      · exact (s.drawn.portAnswered_memOnly _).trans s.drawn_memOnly

theorem State.keepShadow_memOnly (p off : Nat) : (s.keepShadow p off).memOnly s := by
  unfold State.keepShadow
  dsimp only
  split
  · exact ⟨rfl⟩
  · split <;> exact ⟨rfl⟩

theorem State.touchShadow_memOnly (la : Nat) : (s.touchShadow la).memOnly s := by
  have two (s : State) (p a b : Nat) : ((s.keepShadow p a).keepShadow p b).memOnly s := ((s.keepShadow p a).keepShadow_memOnly p b).trans (s.keepShadow_memOnly p a)
  unfold State.touchShadow
  split
  · exact ⟨rfl⟩
  · dsimp only
    split
    · exact two ..
    · exact (two ..).trans (two ..)

theorem State.writeAnswered_memOnly (r : Region) : (s.writeAnswered r).memOnly s := by
  unfold State.writeAnswered
  split
  · exact s.portAnswered_memOnly _
  · next b _ =>
    have ha : (if (s.port r.portA).outOfStep then s else s.portAnswered r.portA).memOnly s := by
      split
      · exact ⟨rfl⟩
      · exact s.portAnswered_memOnly _
    dsimp only
    generalize (if (s.port r.portA).outOfStep then s else s.portAnswered r.portA) = u at ha ⊢
    split
    · exact ha
    · exact (u.portAnswered_memOnly b).trans ha

theorem State.memWrite_memOnly (la : Nat) (l : Line) : (s.memWrite la l).memOnly s := by
  unfold State.memWrite
  split
  · exact ⟨rfl⟩
  · split
    · exact (State.writeAnswered_memOnly _ _).trans ((State.touchShadow_memOnly _ la).trans (s.storeLine_memOnly la l))
    · exact ⟨rfl⟩

/-! ### Levels -/

theorem State.invalidate_memOnly (lvl phys la : Nat) : (s.invalidate lvl phys la).memOnly s := by
  unfold State.invalidate
  dsimp only
  split <;> exact ⟨rfl⟩

theorem State.install_memOnly (lvl phys la st : Nat) (l : Line) : (s.install lvl phys la st l).1.memOnly s := by
  unfold State.install
  dsimp only
  split
  · exact ⟨rfl⟩
  · split
    · exact ⟨rfl⟩
    · split <;> exact ⟨rfl⟩

theorem State.settleMem_memOnly (la : Nat) : (s.settleMem la).memOnly s := by
  unfold State.settleMem
  exact .trans (State.memOnly_foldl (fun t (e : Evict) => t.memWrite_memOnly la e.line) _ _) ⟨rfl⟩

theorem State.toDepot_memOnly (la : Nat) (l : Line) (dirty : Bool) : (s.toDepot la l dirty).memOnly s := by
  unfold State.toDepot
  dsimp only
  have hw : (if (dirty && s.mirrored (la * 256)) = true then s.memWrite la l else s).memOnly s := by
    split
    · exact s.memWrite_memOnly la l
    · exact ⟨rfl⟩
  generalize (if (dirty && s.mirrored (la * 256)) = true then s.memWrite la l else s) = u at hw ⊢
  split
  · have hi := u.install_memOnly 4 0 la (if (dirty && !s.mirrored (la * 256)) = true then 3 else 2) l
    split
    · rename_i hv
      rw [hv] at hi
      split
      · exact (State.buffer_memOnly ..).trans (hi.trans hw)
      · exact hi.trans hw
    · rename_i hv
      rw [hv] at hi
      exact hi.trans hw
  · split
    · exact (State.memWrite_memOnly ..).trans ((u.settleMem_memOnly la).trans hw)
    · exact hw

theorem State.toL3_memOnly (phys la st : Nat) (l : Line) : (s.toL3 phys la st l).memOnly s := by
  unfold State.toL3
  split
  · have hi := s.install_memOnly 3 phys la st l
    split
    · rename_i hv
      rw [hv] at hi
      split
      · exact (State.buffer_memOnly ..).trans hi
      · exact hi
    · rename_i hv
      rw [hv] at hi
      exact hi
  · split
    · exact s.toDepot_memOnly la l true
    · exact ⟨rfl⟩

theorem State.toL2_memOnly (phys la st : Nat) (l : Line) : (s.toL2 phys la st l).memOnly s := by
  unfold State.toL2
  split
  · have hi := s.install_memOnly 2 phys la st l
    split
    · rename_i u v hv
      rw [hv] at hi
      have hl1 : ((u.invalidate 0 phys v.la).invalidate 1 phys v.la).memOnly s := (State.invalidate_memOnly ..).trans ((u.invalidate_memOnly 0 phys v.la).trans hi)
      dsimp only
      split
      · exact (State.buffer_memOnly ..).trans hl1
      · exact (State.toL3_memOnly ..).trans hl1
    · rename_i hv
      rw [hv] at hi
      exact hi
  · exact s.toL3_memOnly phys la st l

theorem State.land_memOnly (e : Evict) : (s.land e).memOnly s := by
  unfold State.land
  split
  · exact s.memWrite_memOnly _ _
  · split
    · exact s.toDepot_memOnly _ _ _
    · split
      · exact s.toL3_memOnly _ _ _ _
      · exact s.toDepot_memOnly _ _ _

theorem State.settleLine_memOnly (la : Nat) : (s.settleLine la).memOnly s := by
  unfold State.settleLine
  exact .trans (State.memOnly_foldl State.land_memOnly _ _) ⟨rfl⟩

theorem State.invalOthers_memOnly (la : Nat) (l : List (Nat × Nat × Frame)) : (s.invalOthers la l).memOnly s := by
  induction l generalizing s with
  | nil => exact ⟨rfl⟩
  | cons h l ih =>
    unfold State.invalOthers
    refine (ih _).trans ?_
    split
    · exact (State.invalidate_memOnly ..).trans ((State.invalidate_memOnly ..).trans (s.invalidate_memOnly ..))
    · exact s.invalidate_memOnly ..

theorem State.reinstall_memOnly (la : Nat) : (s.reinstall la).memOnly s := by
  unfold State.reinstall
  split
  · exact ⟨rfl⟩
  · split
    · split
      · exact s.toL2_memOnly ..
      · exact s.toL3_memOnly ..
    · split
      · split
        · exact s.toDepot_memOnly ..
        · exact ⟨rfl⟩
      · exact ⟨rfl⟩

theorem State.boundDirty_memOnly (la : Nat) : (s.boundDirty la).memOnly s := by
  unfold State.boundDirty
  dsimp only
  split
  · split
    · exact (State.install_memOnly ..).trans ((State.toDepot_memOnly ..).trans (s.settleLine_memOnly _))
    · exact ⟨rfl⟩
  · exact ⟨rfl⟩

theorem State.readFor_memOnly (src la : Nat) : (s.readFor src la).memOnly s := by
  unfold State.readFor
  split
  · exact (State.touchShadow_memOnly ..).trans (s.answered_memOnly la)
  · exact ⟨rfl⟩

theorem State.dropFills_memOnly (la : Nat) : (s.dropFills la).memOnly s := by
  unfold State.dropFills
  split <;> exact ⟨rfl⟩

/-! ### Writes -/

theorem State.ownWrite_memOnly (phys la : Nat) (f : Line → Line) : (s.ownWrite phys la f).memOnly s := by
  unfold State.ownWrite
  exact (State.toL2_memOnly ..).trans ((State.dropFills_memOnly ..).trans ((State.invalOthers_memOnly ..).trans ((State.readFor_memOnly ..).trans
    ((State.reinstall_memOnly ..).trans (s.boundDirty_memOnly la)))))

theorem State.endGroup_memOnly (core set : Nat) : (s.endGroup core set).memOnly s := ⟨rfl⟩

theorem State.performEnt_memOnly (core : Nat) (e : WbEnt) : (s.performEnt core e).memOnly s := by
  unfold State.performEnt
  exact (State.onMs_memOnly ..).trans ((State.killResv_memOnly ..).trans ((State.ownWrite_memOnly ..).trans (s.inClass_memOnly e.cls)))

theorem State.drainGo_memOnly (core la n : Nat) : (State.drainGo core la n s).memOnly s := by
  induction n generalizing s with
  | zero => exact ⟨rfl⟩
  | succ n ih =>
    unfold State.drainGo
    dsimp only
    split
    · split
      · exact ⟨rfl⟩
      · rename_i e _
        refine (ih _).trans ((State.performEnt_memOnly ..).trans ((State.onCore_memOnly ..).trans ?_))
        split
        · exact s.endGroup_memOnly core e.set
        · exact ⟨rfl⟩
    · exact ⟨rfl⟩

theorem State.releaseLine_memOnly (la : Nat) : (s.releaseLine la).memOnly s := by
  unfold State.releaseLine
  exact State.memOnly_foldl (fun t (p : Nat × LCore) => t.drainGo_memOnly p.1 la p.2.wb.length) _ _

theorem State.agentWrite_memOnly (la : Nat) (f : Line → Line) : (s.agentWrite la f).memOnly s := by
  unfold State.agentWrite
  exact (State.toDepot_memOnly ..).trans ((State.killResv_memOnly ..).trans ((State.dropFills_memOnly ..).trans ((State.invalOthers_memOnly ..).trans ((State.readFor_memOnly ..).trans
    ((State.settleLine_memOnly ..).trans (s.releaseLine_memOnly la))))))

theorem State.engWriteGo_memOnly (i e n : Nat) : ∀ (s : State) (c ia : Nat) (bs : List Byte), (s.engWriteGo i e c n ia bs).1.memOnly s := by
  induction n with
  | zero => exact fun s _ _ _ => .refl s
  | succ n ih =>
    intro s c ia bs
    cases bs with
    | nil => exact ⟨rfl⟩
    | cons b bs =>
      unfold State.engWriteGo
      split
      · exact ⟨rfl⟩
      · dsimp only
        split
        · exact ih ..
        · exact (ih ..).trans (s.agentWrite_memOnly ..)

/-- A write of an engine changes memory and what holds lines of it, and drains stores of cores to it (R122, R123). -/
theorem State.engWrite_memOnly (i e ia : Nat) (bs : List Byte) : (s.engWrite i e ia bs).1.memOnly s := by
  unfold State.engWrite
  split
  · exact ⟨rfl⟩
  · exact State.engWriteGo_memOnly ..

end Sys2Proof.Machine
end

section
/-! What updates of tables and records amount to. -/
namespace Sys2Proof

theorem Tab.put_put {α : Type} (t : Tab α) (n : Nat) (x y : α) : Tab.put (Tab.put t n x) n y = Tab.put t n y := by
  induction t with
  | nil => simp [Tab.put]
  | cons p t ih =>
    obtain ⟨k, v⟩ := p
    by_cases hlt : n < k
    · simp [Tab.put, hlt]
    · by_cases hk : k = n
      · simp [Tab.put, hk]
      · simp [Tab.put, hlt, hk, ih]

end Sys2Proof

namespace Sys2Proof.Machine

variable {s : State}

/-- Two changes of a subchannel are one. -/
theorem State.onSub_onSub (n : Nat) (f g : Subch → Subch) : (s.onSub n f).onSub n g = s.onSub n (fun x => g (f x)) := by
  have h : (s.onSub n f).subchs.upd n {} g = s.subchs.upd n {} (fun x => g (f x)) := by
    have hn : (s.onSub n f).subchs.getD n {} = f (s.subchs.getD n {}) := State.onSub_sub_self s n f
    rw [Tab.upd, hn]
    exact Tab.put_put ..
  exact congrArg (fun x => { s with subchs := x }) h

/-- What changes a subchannel in the same way leaves the same state. -/
theorem State.onSub_congr {n : Nat} {f g : Subch → Subch} (h : f (s.sub n) = g (s.sub n)) : s.onSub n f = s.onSub n g :=
  congrArg (fun x => { s with subchs := s.subchs.put n x }) h

/-! ### Records in slots (R280) -/

theorem State.jrec_of_find {sc wsn : Nat} {r : JRec} (h : (s.sub sc).slots.find (wsn % (s.sub sc).depth) = some r) (hw : r.wsn = wsn) (hs : r.state ≠ 0) :
    s.jrec sc wsn = some r := by
  unfold State.jrec
  rw [h]
  exact if_pos ⟨hw, hs⟩

theorem State.jrec_eq_some {sc wsn : Nat} {r : JRec} (h : s.jrec sc wsn = some r) :
    (s.sub sc).slots.find (wsn % (s.sub sc).depth) = some r ∧ r.wsn = wsn ∧ r.state ≠ 0 := by
  unfold State.jrec at h
  split at h
  · next q hq =>
    split at h
    · next hr =>
      cases h
      exact ⟨hq, hr⟩
    · cases h
  · cases h

/-- The records of a subchannel are in its slots. -/
theorem State.jrec_congr {t : State} {sc : Nat} (h : t.sub sc = s.sub sc) (wsn : Nat) : t.jrec sc wsn = s.jrec sc wsn := by
  unfold State.jrec
  rw [h]

theorem State.onRec_some {sc wsn : Nat} {r : JRec} (h : s.jrec sc wsn = some r) (f : JRec → JRec) :
    s.onRec sc wsn f = s.onSub sc (fun x => { x with slots := x.slots.put (wsn % x.depth) (f r) }) := by
  unfold State.onRec
  rw [h]

theorem State.onRec_none {sc wsn : Nat} (h : s.jrec sc wsn = none) (f : JRec → JRec) : s.onRec sc wsn f = s := by
  unfold State.onRec
  rw [h]

theorem State.onRec_eq (s : State) (sc wsn : Nat) (f : JRec → JRec) : s.onRec sc wsn f = { s with subchs := (s.onRec sc wsn f).subchs } := by
  unfold State.onRec
  split <;> rfl

/-- A part of every subchannel that an update of one keeps is kept. -/
theorem State.onSub_keeps {α : Type} (g : Subch → α) (s : State) (n m : Nat) (f : Subch → Subch) (h : g (f (s.sub n)) = g (s.sub n)) : g ((s.onSub n f).sub m) = g (s.sub m) := by
  rw [State.onSub_sub]
  split
  · next hm => rw [h, hm]
  · rfl

/-- Changing a record changes, of the subchannels, slots alone. -/
theorem State.onRec_keeps {α : Type} (g : Subch → α) (hg : ∀ x l, g { x with slots := l } = g x) (s : State) (sc wsn m : Nat) (f : JRec → JRec) :
    g ((s.onRec sc wsn f).sub m) = g (s.sub m) := by
  unfold State.onRec
  split
  · exact State.onSub_keeps g s sc m _ (hg ..)
  · rfl

theorem State.onRec_sub_ne (s : State) {sc n : Nat} (wsn : Nat) (f : JRec → JRec) (h : n ≠ sc) : (s.onRec sc wsn f).sub n = s.sub n := by
  unfold State.onRec
  split
  · exact State.onSub_sub_ne _ _ _ _ h
  · rfl

theorem State.onRec_jrec_self {sc wsn : Nat} {r : JRec} {f : JRec → JRec} (h : s.jrec sc wsn = some r) (hw : (f r).wsn = wsn) (hs : (f r).state ≠ 0) :
    (s.onRec sc wsn f).jrec sc wsn = some (f r) := by
  rw [State.onRec_some h]
  refine State.jrec_of_find ?_ hw hs
  rw [State.onSub_sub_self]
  exact Tab.find_put_self ..

/-! ### Doorbells (R269, R272) -/

theorem State.sqWrite_within {sc v : Nat} (hl : (s.sub sc).live = true) (hi : (s.inst (s.sub sc).inst).state = 2) (hv : v % 65536 < (s.sub sc).depth) :
    s.sqWrite sc v = s.onSub sc (fun x => { x with sqTail := v % 65536, rungAt := s.now }) := by
  simp [State.sqWrite, State.doorOpen, hl, hi, Nat.not_le.mpr hv]

theorem State.sqWrite_outside {sc v : Nat} (hl : (s.sub sc).live = true) (hi : (s.inst (s.sub sc).inst).state = 2) (hv : (s.sub sc).depth ≤ v % 65536) :
    s.sqWrite sc v = s.onSub sc (fun x => { x with idxErr := true }) := by
  simp [State.sqWrite, State.doorOpen, hl, hi, hv]

theorem State.cqWrite_outside {sc v : Nat} (hl : (s.sub sc).live = true) (hv : (s.sub sc).depth ≤ v % 65536) :
    s.cqWrite sc v = s.onSub sc (fun x => { x with idxErr := true }) := by
  simp [State.cqWrite, hl, hv]

theorem State.cqWrite_within {sc v : Nat} (hl : (s.sub sc).live = true) (hv : v % 65536 < (s.sub sc).depth) :
    s.cqWrite sc v = State.flushHeld sc 65536 (s.onSub sc (fun x => { x with cqHead := v % 65536 })) := by
  simp [State.cqWrite, hl, Nat.not_le.mpr hv]

theorem State.flushHeld_nil {sc : Nat} (h : (s.sub sc).held = []) (n : Nat) : State.flushHeld sc n s = s := by
  cases n with
  | zero => rfl
  | succ n => rw [State.flushHeld, h]

theorem State.flushHeld_cons {sc : Nat} {c : Compl} {l : List Compl} (h : (s.sub sc).held = c :: l) (hf : (s.sub sc).cqFull = false) (n : Nat) :
    State.flushHeld sc (n + 1) s = State.flushHeld sc n ((s.onSub sc (fun y => { y with held := l })).putCompl sc c) := by
  rw [State.flushHeld, h]
  exact if_neg (by simp [hf])

/-- A completion entry that is written changes, of the subchannels, slots and the count of retired records (R271). -/
theorem State.entryWritten_keeps {α : Type} (g : Subch → α) (hg : ∀ x l, g { x with slots := l } = g x) (hr : ∀ x k, g { x with retired := k } = g x) (s : State) (sc wsn m : Nat) :
    g ((s.entryWritten sc wsn).sub m) = g (s.sub m) := by
  unfold State.entryWritten
  split
  · next r _ =>
    have hu : ∀ c : Prop, [Decidable c] → g ((if c then (s.onRec sc wsn (fun r => { r with tRetire := s.now })).countLat 1 r.tFinal
        else s.onRec sc wsn (fun r => { r with tRetire := s.now })).sub m) = g (s.sub m) := by
      intro c _
      split
      · exact State.onRec_keeps g hg ..
      · exact State.onRec_keeps g hg ..
    dsimp only
    split
    · exact (State.onSub_keeps g _ _ _ _ (hr ..)).trans ((State.onRec_keeps g hg ..).trans (hu _))
    · exact hu _
  · rfl

/-- Writing a completion changes, of the subchannels, the tail of the ring, slots and the count of retired records (R271). -/
theorem State.putCompl_keeps {α : Type} (g : Subch → α) (hg : ∀ x l, g { x with slots := l } = g x) (hr : ∀ x k, g { x with retired := k } = g x)
    (ht : ∀ x k b, g { x with cqTail := k, phase := b } = g x) (s : State) (sc m : Nat) (c : Compl) : g ((s.putCompl sc c).sub m) = g (s.sub m) := by
  have hm : ∀ i a b f, (∀ x, g (f x) = g x) → g ((((s.inClass c.cls).engWrite i 0 a b).1.onSub sc f).sub m) = g (s.sub m) := fun i a b f hf =>
    (State.onSub_keeps g _ _ _ _ (hf _)).trans (congrArg g (((State.engWrite_memOnly ..).trans (s.inClass_memOnly c.cls)).sub m))
  unfold State.putCompl
  dsimp only
  split
  · exact hm _ _ _ _ (fun x => ht ..)
  · exact (State.entryWritten_keeps g hg hr ..).trans (hm _ _ _ _ (fun x => ht ..))

end Sys2Proof.Machine
end

section
/-! Admission of an entry, and the statement about the rings of a subchannel (R270, R279, Table 09-3). -/
namespace Sys2Proof.Machine

variable {s : State}

/-- The record that admission writes, as the slot of the next WSN holds it at first (Table 09-3 step 6). -/
def Subch.accepted (x : Subch) (sc : Nat) (r : JRec) : JRec :=
  { r with wsn := x.nextWsn, sc := sc, incarn := x.incarn, state := 1, rflags := r.rflags % 2 + (if r.cmds.any (fun c => c.code == 8) then 2 else 0) }

/-- A subchannel that has used up its next WSN for a record (R279). -/
def Subch.accepts (x : Subch) (sc : Nat) (r : JRec) : Subch :=
  { x with nextWsn := (x.nextWsn + 1) % 2 ^ 64, exhausted := x.nextWsn + 1 = 2 ^ 64, stalled := false, slots := x.slots.put (x.nextWsn % x.depth) (x.accepted sc r) }

theorem State.acceptRec_eq (s : State) (sc : Nat) (r : JRec) :
    s.acceptRec sc r = ((s.onInst (s.sub sc).inst (fun n => { n with waybills := n.waybills + 1 })).onSub sc (fun x => x.accepts sc r)).waitPath sc (s.sub sc).nextWsn :=
  congrArg (fun t : State => t.waitPath sc (s.sub sc).nextWsn) (State.onSub_congr rfl)

theorem State.acceptRec_frame (s : State) (sc : Nat) (r : JRec) :
    s.acceptRec sc r = { s with subchs := (s.acceptRec sc r).subchs, insts := (s.onInst (s.sub sc).inst (fun n => { n with waybills := n.waybills + 1 })).insts } := by
  rw [State.acceptRec_eq, State.waitPath, State.onRec_eq]
  rfl

theorem State.acceptRec_jrec (s : State) (sc : Nat) (r : JRec) :
    ∃ e, (s.acceptRec sc r).jrec sc (s.sub sc).nextWsn = some { (s.sub sc).accepted sc r with noPathEnd := e } := by
  rw [State.acceptRec_eq]
  refine ⟨_, State.onRec_jrec_self (r := (s.sub sc).accepted sc r) (State.jrec_of_find ?_ rfl Nat.one_ne_zero) rfl Nat.one_ne_zero⟩
  rw [State.onSub_sub_self]
  exact Tab.find_put_self ..

theorem State.acceptRec_keeps {α : Type} (g : Subch → α) (hg : ∀ x l, g { x with slots := l } = g x) (s : State) (sc : Nat) (r : JRec) :
    g ((s.acceptRec sc r).sub sc) = g ((s.sub sc).accepts sc r) := by
  rw [State.acceptRec_eq]
  refine (State.onRec_keeps g hg ..).trans ?_
  rw [State.onSub_sub_self]
  rfl

theorem State.acceptRec_sub_ne (s : State) {sc n : Nat} (r : JRec) (h : n ≠ sc) : (s.acceptRec sc r).sub n = s.sub n := by
  rw [State.acceptRec_eq, State.waitPath, State.onRec_sub_ne _ _ _ h, State.onSub_sub_ne _ _ _ _ h]
  rfl

theorem State.fixClass_explicit (s : State) (i : Nat) (b : Bool) {req : Nat} (h : req ≠ 0) : s.fixClass i b req = (s, req) := if_pos h

/-- The record that admission makes of an entry with an explicit class (R270). -/
def State.entryRec (s : State) (sc : Nat) (e : List Byte) (cmds : List Cmd) : JRec :=
  { inst := (s.sub sc).inst, cls := fld e 8 1, user := fld e 0x18 8, wbAddr := fld e 0 8, subidx := (s.sub sc).sqHead, tAccept := s.now, cmds := cmds, bell := (s.sub sc).rungAt }

/-- The state in which SQ_HEAD has advanced for the class of an entry. -/
def State.entryTaken (s : State) (sc c : Nat) : State :=
  ((s.inClass c).onSub sc (fun x => { x with sqHead := ((s.sub sc).sqHead + 1) % x.depth })).inClass c

theorem State.entryTaken_frame (s : State) (sc c : Nat) : s.entryTaken sc c = { s with ms := (s.entryTaken sc c).ms, subchs := (s.entryTaken sc c).subchs } := by
  unfold State.entryTaken State.inClass
  split <;> split <;> rfl

theorem State.entryTaken_sub (s : State) (sc c : Nat) : (s.entryTaken sc c).sub sc = { s.sub sc with sqHead := ((s.sub sc).sqHead + 1) % (s.sub sc).depth } := by
  rw [State.entryTaken, State.inClass_sub', State.onSub_sub_self, State.inClass_sub']

theorem State.entryTaken_sub_ne (s : State) {sc n : Nat} (c : Nat) (h : n ≠ sc) : (s.entryTaken sc c).sub n = s.sub n := by
  rw [State.entryTaken, State.inClass_sub', State.onSub_sub_ne _ _ _ _ h, State.inClass_sub']

/-- Table 09-3 for an entry that every step passes: it is accepted, and its WSN is written to it. -/
theorem State.admitEntry_admits {sc : Nat} {e : List Byte} {cmds : List Cmd} (hr : (s.route (s.sub sc).route).stopped = false)
    (he : s.engWords (s.sub sc).inst 0 ((s.sub sc).sq + 32 * (s.sub sc).sqHead) 4 = .ok e) (hc : fld e 8 1 = 1 ∨ fld e 8 1 = 2) (hz : zeros e 9 7 = true)
    (ha : fld e 0 8 % 32 = 0) (hk : (s.inClass (fld e 8 1)).admitChain sc (fld e 0 8) = .ok cmds) (hb : (s.sub sc).slotBusy = false) :
    s.admitEntry sc = (((s.entryTaken sc (fld e 8 1)).acceptRec sc (s.entryRec sc e cmds)).engWrite (s.sub sc).inst 0 ((s.sub sc).sq + 32 * (s.sub sc).sqHead + 0x10)
      (beBytes 8 (s.sub sc).nextWsn)).1 := by
  have hform : ¬(3 ≤ fld e 8 1 ∨ (!zeros e 9 7) = true ∨ fld e 0 8 % 32 ≠ 0) := by
    simp only [hz, ha, Bool.not_true, Bool.false_eq_true, ne_eq, not_true_eq_false, or_false]
    omega
  have hexpl : fld e 8 1 ≠ 0 := by omega
  unfold State.admitEntry
  simp only [hr, he, Bool.false_eq_true, if_false, if_neg hform, hk, hb, State.fixClass_explicit _ _ _ hexpl, State.inClass_now]
  rfl

/-- What an accepted entry has become (R270, R279). -/
theorem State.admitEntry_accepts {sc : Nat} {e : List Byte} {cmds : List Cmd} (hr : (s.route (s.sub sc).route).stopped = false)
    (he : s.engWords (s.sub sc).inst 0 ((s.sub sc).sq + 32 * (s.sub sc).sqHead) 4 = .ok e) (hc : fld e 8 1 = 1 ∨ fld e 8 1 = 2) (hz : zeros e 9 7 = true)
    (ha : fld e 0 8 % 32 = 0) (hk : (s.inClass (fld e 8 1)).admitChain sc (fld e 0 8) = .ok cmds) (hb : (s.sub sc).slotBusy = false) :
    ∃ t r, s.admitEntry sc = t ∧ t.jrec sc (s.sub sc).nextWsn = some r ∧ r.state = 1 ∧ r.cls = fld e 8 1 ∧ r.user = fld e 0x18 8 ∧
      r.subidx = (s.sub sc).sqHead ∧ r.tAccept = s.now ∧ r.cmds = cmds ∧ (t.sub sc).sqHead = ((s.sub sc).sqHead + 1) % (s.sub sc).depth ∧
      (t.sub sc).nextWsn = ((s.sub sc).nextWsn + 1) % 2 ^ 64 ∧ (t.inst (s.sub sc).inst).waybills = (s.inst (s.sub sc).inst).waybills + 1 ∧
      (∀ n, n ≠ sc → t.sub n = s.sub n) ∧ t = { s with subchs := t.subchs, insts := t.insts, ms := t.ms, cores := t.cores, ctxs := t.ctxs, freeCtr := t.freeCtr } := by
  rw [State.admitEntry_admits hr he hc hz ha hk hb]
  generalize hu : s.entryTaken sc (fld e 8 1) = u
  have hsub : u.sub sc = { s.sub sc with sqHead := ((s.sub sc).sqHead + 1) % (s.sub sc).depth } := hu ▸ s.entryTaken_sub sc _
  have hne : ∀ n, n ≠ sc → u.sub n = s.sub n := fun n hn => hu ▸ s.entryTaken_sub_ne _ hn
  have hframe : u = { s with ms := u.ms, subchs := u.subchs } := hu ▸ s.entryTaken_frame sc _
  generalize hv : u.acceptRec sc (s.entryRec sc e cmds) = v
  obtain ⟨p, hp⟩ := u.acceptRec_jrec sc (s.entryRec sc e cmds)
  have hhead := u.acceptRec_keeps Subch.sqHead (fun _ _ => rfl) sc (s.entryRec sc e cmds)
  have hnext := u.acceptRec_keeps Subch.nextWsn (fun _ _ => rfl) sc (s.entryRec sc e cmds)
  have hvne : ∀ n, n ≠ sc → v.sub n = u.sub n := fun n hn => hv ▸ u.acceptRec_sub_ne _ hn
  have hvframe := u.acceptRec_frame sc (s.entryRec sc e cmds)
  rw [hv] at hp hhead hnext hvframe
  rw [hsub] at hp hhead hnext hvframe
  generalize hm : (v.engWrite (s.sub sc).inst 0 ((s.sub sc).sq + 32 * (s.sub sc).sqHead + 0x10) (beBytes 8 (s.sub sc).nextWsn)).1 = t
  have hmem : t.memOnly v := hm ▸ State.engWrite_memOnly ..
  have hinst : v.inst (s.sub sc).inst = { s.inst (s.sub sc).inst with waybills := (s.inst (s.sub sc).inst).waybills + 1 } := by
    have h : v.inst (s.sub sc).inst = (u.onInst (s.sub sc).inst (fun n => { n with waybills := n.waybills + 1 })).inst (s.sub sc).inst := by rw [hvframe]; rfl
    rw [h, State.onInst_inst_self, hframe]
    rfl
  refine ⟨t, _, rfl, (State.jrec_congr (hmem.sub sc) _).trans hp, rfl, rfl, rfl, rfl, rfl, rfl, ?_, ?_, ?_, fun n hn => ?_, ?_⟩
  · rw [hmem.sub, hhead]
    rfl
  · rw [hmem.sub, hnext]
    rfl
  · rw [hmem.inst, hinst]
  · rw [hmem.sub, hvne n hn, hne n hn]
  · rw [hmem.eq, hvframe, hframe]

/-- Settles O22: the doorbells by the branches of their writes, admission by Table 09-3, its frame from what an engine's write leaves. -/
theorem subchannelRingsAndAdmission : Obligations.SubchannelRingsAndAdmission := by
  unfold Obligations.SubchannelRingsAndAdmission
  intro s sc v hrun hlive
  refine ⟨fun hi => ⟨fun hv => ?_, fun hv => ?_⟩, fun hring => ?_, fun hne hreset hsw => ?_⟩
  · have hx : exec (.subchannelDoorbell sc v) s = .next (s.onSub sc (fun x => { x with sqTail := v % 65536, rungAt := s.now })) := by
      rw [← State.sqWrite_within hlive hi hv]
      exact congrArg (fun b => when b s _) hrun
    exact ⟨_, hx, rfl, by rw [State.onSub_sub_self], fun n hn => State.onSub_sub_ne _ _ _ _ hn⟩
  · rw [← State.sqWrite_outside hlive hi hv]
    exact congrArg (fun b => when b s _) hrun
  · have hx : exec (.completionRingHeadWrite sc v) s = .next (s.cqWrite sc v) := by
      change execCompletionRingHeadWrite sc v s = _
      simp [execCompletionRingHeadWrite, State.cqHeadSub, hring, hrun]
    rw [hx]
    refine ⟨fun hv => ?_, fun hv hheld => ?_, fun c hv hheld hfull => ?_⟩
    · rw [State.cqWrite_outside hlive hv]
    · rw [State.cqWrite_within hlive hv, State.flushHeld_nil (by rw [State.onSub_sub_self]; exact hheld)]
    · rw [State.cqWrite_within hlive hv, State.flushHeld_cons (by rw [State.onSub_sub_self]; exact hheld)
        (by rw [State.onSub_sub_self]; exact beq_eq_false_iff_ne.mpr hfull), State.onSub_onSub]
      refine congrArg Host.Outcome.next (State.flushHeld_nil ?_ _)
      rw [State.putCompl_keeps Subch.held (fun _ _ => rfl) (fun _ _ => rfl) (fun _ _ _ => rfl), State.onSub_sub_self]
  · have hx : exec (.waybillAdmission sc) s = .next (s.admitEntry sc) := by
      change execWaybillAdmission sc s = _
      simp [execWaybillAdmission, hrun, hlive, bne_iff_ne.mpr hne, hreset, hsw]
    rw [hx]
    refine ⟨fun e cmds hr he hc hz ha hk hb => ?_, fun hr => ?_⟩
    · obtain ⟨t, r, ht, h⟩ := State.admitEntry_accepts hr he hc hz ha hk hb
      exact ⟨t, r, congrArg _ ht, h⟩
    · unfold State.admitEntry
      rw [if_pos hr]
      exact congrArg (fun u : State => Host.Outcome.next (u.refuseEntry sc (s.sub sc).sqHead stRetrySafe)) (State.onSub_congr rfl)

end Sys2Proof.Machine
end

section
/-! What failing, aborting and ending records of the journal leaves (R280 to R288, R291, R292). -/
namespace Sys2Proof.Machine

theorem State.ioOnly.trans {a b c : State} (h : c.ioOnly b) (k : b.ioOnly a) : c.ioOnly a := by
  unfold State.ioOnly at *
  rw [h, k]

/-- What failing, aborting and ending records leaves: nothing changes but the channel subsystem and what it writes; time, ports and engines stay, a Route keeps all but its last frame and gap, and no path changes state but a DRAINING one. -/
structure State.recordsEnd (t s : State) : Prop where
  io : t.ioOnly s
  clock : t.clock = s.clock
  ioports : t.ioports = s.ioports
  engines : t.engines = s.engines
  route : ∀ r, ∃ l g k, t.route r = { s.route r with lastFrame := l, gap := g, lastGap := k }
  path : ∀ sc p, ((s.sub sc).paths.getD p {}).state ≠ 4 → ((t.sub sc).paths.getD p {}).state = ((s.sub sc).paths.getD p {}).state

theorem State.recordsEnd.trans {a b c : State} (h : c.recordsEnd b) (k : b.recordsEnd a) : c.recordsEnd a where
  io := h.io.trans k.io
  clock := h.clock.trans k.clock
  ioports := h.ioports.trans k.ioports
  engines := h.engines.trans k.engines
  route := fun r => by
    obtain ⟨_, _, _, hr⟩ := h.route r
    obtain ⟨_, _, _, kr⟩ := k.route r
    exact ⟨_, _, _, by rw [hr, kr]⟩
  path := fun sc p hp => by
    have hb := k.path sc p hp
    exact (h.path sc p (by rwa [hb])).trans hb

/-- A state that differs in none of what `recordsEnd` speaks of. -/
theorem State.recordsEnd.of_eq {t s : State} (h : t = { s with
      svc := { s.svc with fifo := t.svc.fifo }, insts := t.insts, cores := t.cores, ctxs := t.ctxs, log := t.log, ms := t.ms, indoubt := t.indoubt, doubts := t.doubts, wire := t.wire,
      bcus := t.bcus, dfus := t.dfus, bcuPool := t.bcuPool, dfuPool := t.dfuPool, pages := t.pages, posts := t.posts, freeCtr := t.freeCtr }) : t.recordsEnd s := by
  have hsub : ∀ n, t.sub n = s.sub n := fun n => by rw [h]; rfl
  have hroute : ∀ n, t.route n = s.route n := fun n => by rw [h]; rfl
  exact ⟨by unfold State.ioOnly; rw [h], by rw [h], by rw [h], by rw [h], fun r => ⟨_, _, _, by rw [hroute]⟩, fun sc p _ => by rw [hsub]⟩

theorem State.recordsEnd.refl (s : State) : s.recordsEnd s := .of_eq rfl

theorem State.recordsEnd.of_memOnly {t s : State} (h : t.memOnly s) : t.recordsEnd s := .of_eq (by rw [h.eq])

/-- What every element of a list leaves so leaves the list. -/
theorem State.recordsEnd_foldl {α : Type} {f : State → α → State} (h : ∀ s x, (f s x).recordsEnd s) (l : List α) (s : State) : (l.foldl f s).recordsEnd s :=
  List.foldlRecOn (motive := fun t => t.recordsEnd s) l f (.refl s) (fun b hb x _ => State.recordsEnd.trans (h b x) hb)

variable (s : State)

/-- A change of a subchannel that keeps the states of its paths, but for DRAINING ones. -/
theorem State.onSub_recordsEnd (n : Nat) (f : Subch → Subch)
    (h : ∀ p, ((s.sub n).paths.getD p {}).state ≠ 4 → ((f (s.sub n)).paths.getD p {}).state = ((s.sub n).paths.getD p {}).state) : (s.onSub n f).recordsEnd s := by
  refine ⟨rfl, rfl, rfl, rfl, fun r => ⟨_, _, _, rfl⟩, fun sc p hp => ?_⟩
  rw [State.onSub_sub]
  split
  · next hsc =>
    subst hsc
    exact h p hp
  · rfl

theorem State.onRoute_recordsEnd (n : Nat) (f : Route → Route) (h : ∃ l g k, f (s.route n) = { s.route n with lastFrame := l, gap := g, lastGap := k }) :
    (s.onRoute n f).recordsEnd s := by
  refine ⟨rfl, rfl, rfl, rfl, fun r => ?_, fun _ _ _ => rfl⟩
  rw [State.onRoute_route]
  split
  · next hr =>
    subst hr
    exact h
  · exact ⟨_, _, _, rfl⟩

theorem State.inClass_recordsEnd (c : Nat) : (s.inClass c).recordsEnd s := .of_memOnly (s.inClass_memOnly c)

theorem State.onRec_recordsEnd (sc wsn : Nat) (f : JRec → JRec) : (s.onRec sc wsn f).recordsEnd s := by
  unfold State.onRec
  split
  · exact s.onSub_recordsEnd _ _ (fun _ _ => rfl)
  · exact .refl s

/-- A change of a path that keeps its state. -/
theorem State.onPath_recordsEnd (sc p : Nat) (f : Path → Path) (h : ∀ q, (f q).state = q.state) : (s.onPath sc p f).recordsEnd s := by
  refine s.onSub_recordsEnd _ _ (fun k _ => ?_)
  rw [Tab.getD_upd]
  split
  · next hk => rw [h, hk]
  · rfl

theorem State.settlePath_recordsEnd (sc p : Nat) : (s.settlePath sc p).recordsEnd s := by
  unfold State.settlePath
  dsimp only
  split
  · next hp =>
    refine s.onSub_recordsEnd _ _ (fun k hk => ?_)
    have hne : k ≠ p := fun e => hk (e ▸ hp.1)
    rw [Tab.getD, Tab.find_del_ne _ _ _ hne]
    rfl
  · exact .refl s

/-! ### Requests at the units -/

theorem State.dropInline_recordsEnd (sc wsn : Nat) : (s.dropInline sc wsn).recordsEnd s := by
  have hp : ∀ l : List Req, (l.foldl State.endOnPage s).recordsEnd s := fun l => State.recordsEnd_foldl (fun s q => by
    unfold State.endOnPage
    split
    · exact .refl s
    · exact .of_eq rfl) l s
  unfold State.dropInline State.dropReqs
  dsimp only
  refine State.recordsEnd.trans (b := (s.bcuReqs.filter (inlineOf sc wsn)).foldl State.endOnPage s) ?_ (hp _)
  generalize (s.bcuReqs.filter (inlineOf sc wsn)).foldl State.endOnPage s = u
  exact .of_eq rfl

/-! ### Frames of aborts, and failures (R281, R287, R291) -/

theorem State.endGap_recordsEnd (r : Nat) : (s.endGap r).recordsEnd s := by
  unfold State.endGap
  dsimp only
  split
  · exact .refl s
  · next old last inj _ =>
    have hr := s.onRoute_recordsEnd r (fun x => { x with gap := none, lastGap := (s.now - last) / 4 }) ⟨_, _, _, rfl⟩
    refine State.recordsEnd.trans ?_ hr
    unfold State.asInjected
    split <;> exact .of_eq rfl

theorem State.withWire_recordsEnd (l : List (Nat × Nat × Nat)) : ({ s with wire := l } : State).recordsEnd s := .of_eq rfl
theorem State.withIndoubt_recordsEnd (l : List JRec) : ({ s with indoubt := l } : State).recordsEnd s := .of_eq rfl
theorem State.withDoubts_recordsEnd (n : Nat) : ({ s with doubts := n } : State).recordsEnd s := .of_eq rfl

theorem State.frameOut_recordsEnd (stage r c : Nat) : (s.frameOut stage r c).recordsEnd s := by
  unfold State.frameOut
  split
  · exact (State.withWire_recordsEnd ((s.endGap r).onRoute r (fun x => { x with lastFrame := s.now })) _).trans (((s.endGap r).onRoute_recordsEnd r (fun x => { x with lastFrame := s.now }) ⟨_, _, _, rfl⟩).trans (s.endGap_recordsEnd r))
  · exact .refl s

theorem State.sendAbort_recordsEnd (sc wsn kind at_ : Nat) : (s.sendAbort sc wsn kind at_).recordsEnd s := by
  unfold State.sendAbort
  dsimp only
  refine (State.onRec_recordsEnd ..).trans ?_
  split
  · exact s.frameOut_recordsEnd ..
  · exact .refl s

theorem State.failAttempt_recordsEnd (sc wsn condStatus cond at_ : Nat) : (s.failAttempt sc wsn condStatus cond at_).recordsEnd s := by
  unfold State.failAttempt
  split
  · exact .refl s
  · split
    · exact .refl s
    · exact (State.sendAbort_recordsEnd ..).trans ((State.onPath_recordsEnd _ _ _ _ (fun _ => by rfl)).trans ((State.onRec_recordsEnd ..).trans
        ((State.dropInline_recordsEnd ..).trans (s.inClass_recordsEnd _))))

/-! ### Completions and ends (Table 09-11) -/

theorem State.lessWaybill_recordsEnd (i : Nat) : (s.lessWaybill i).recordsEnd s := .of_eq rfl
theorem State.notify_recordsEnd (a b c d e : Nat) : (s.notify a b c d e).recordsEnd s := .of_eq rfl
theorem State.post_recordsEnd (a b c d : Nat) : (s.post a b c d).recordsEnd s := .of_eq rfl

theorem State.entryWritten_recordsEnd (sc wsn : Nat) : (s.entryWritten sc wsn).recordsEnd s := by
  unfold State.entryWritten
  split
  · next r _ =>
    have hu : ∀ c : Prop, [Decidable c] → (if c then (s.onRec sc wsn (fun r => { r with tRetire := s.now })).countLat 1 r.tFinal
        else s.onRec sc wsn (fun r => { r with tRetire := s.now })).recordsEnd s := by
      intro c _
      split
      · exact .trans (.of_eq rfl) (s.onRec_recordsEnd ..)
      · exact s.onRec_recordsEnd ..
    dsimp only
    split
    · exact (State.onSub_recordsEnd _ _ _ (fun _ _ => rfl)).trans ((State.lessWaybill_recordsEnd ..).trans ((State.onRec_recordsEnd ..).trans (hu _)))
    · exact hu _
  · exact .of_eq rfl

theorem State.putCompl_recordsEnd (sc : Nat) (c : Compl) : (s.putCompl sc c).recordsEnd s := by
  have hp : ∀ i a b f w x y z, (∀ y, (f y).paths = y.paths) → (((((s.inClass c.cls).engWrite i 0 a b).1).onSub sc f).post w x y z).recordsEnd s := fun i a b f w x y z hf =>
    (State.post_recordsEnd ..).trans ((State.onSub_recordsEnd _ _ _ (fun p _ => by rw [hf])).trans (.of_memOnly ((State.engWrite_memOnly ..).trans (s.inClass_memOnly _))))
  unfold State.putCompl
  dsimp only
  split
  · exact hp _ _ _ _ _ _ _ _ (fun _ => rfl)
  · exact (State.entryWritten_recordsEnd ..).trans (hp _ _ _ _ _ _ _ _ (fun _ => rfl))

theorem State.complete_recordsEnd (sc : Nat) (c : Compl) : (s.complete sc c).recordsEnd s := by
  unfold State.complete
  dsimp only
  split
  · split
    · exact .refl s
    · exact s.entryWritten_recordsEnd ..
  · split
    · exact s.onSub_recordsEnd _ _ (fun _ _ => rfl)
    · exact s.putCompl_recordsEnd ..

theorem State.storeDoubt_recordsEnd (sc wsn : Nat) : (s.storeDoubt sc wsn).recordsEnd s := by
  unfold State.storeDoubt
  split
  · split
    · exact (State.withIndoubt_recordsEnd (s.onSub sc (fun x => { x with slots := x.slots.del (wsn % x.depth), stalled := false })) _).trans (s.onSub_recordsEnd sc (fun x => { x with slots := x.slots.del (wsn % x.depth), stalled := false }) (fun _ _ => rfl))
    · exact .refl s
  · exact .refl s

/-- The first part of every end of a record: its inline transforms are dropped, the record has ended, and one waybill less is outstanding. -/
theorem State.leaveRec_recordsEnd (sc wsn c i : Nat) (f : JRec → JRec) : ((((s.inClass c).dropInline sc wsn).onRec sc wsn f).lessWaybill i).recordsEnd s :=
  (State.lessWaybill_recordsEnd ..).trans ((State.onRec_recordsEnd ..).trans ((State.dropInline_recordsEnd ..).trans (s.inClass_recordsEnd _)))

theorem State.cancelRec_recordsEnd (sc wsn st at_ : Nat) : (s.cancelRec sc wsn st at_).recordsEnd s := by
  unfold State.cancelRec
  split
  · exact .refl s
  · have hu : ∀ c i p f, (((((s.inClass c).dropInline sc wsn).onRec sc wsn f).lessWaybill i).settlePath sc p).recordsEnd s := fun c i p f =>
      (State.settlePath_recordsEnd ..).trans (s.leaveRec_recordsEnd ..)
    dsimp only
    split
    · exact (State.complete_recordsEnd ..).trans (hu ..)
    · exact hu ..

theorem State.doubtRec_recordsEnd (sc wsn at_ : Nat) : (s.doubtRec sc wsn at_).recordsEnd s := by
  unfold State.doubtRec
  split
  · exact .refl s
  · next r _ =>
    have hu := fun n => (State.withDoubts_recordsEnd _ n).trans (s.leaveRec_recordsEnd sc wsn r.cls r.inst
      (fun q => { q with state := 6, status := stInDoubt, tFinal := at_, doubtNo := ((s.inClass r.cls).dropInline sc wsn).doubts + 1 }))
    refine (State.storeDoubt_recordsEnd ..).trans ?_
    split
    · exact (State.complete_recordsEnd ..).trans ((State.notify_recordsEnd ..).trans ((State.settlePath_recordsEnd ..).trans (hu _)))
    · exact (State.notify_recordsEnd ..).trans ((State.settlePath_recordsEnd ..).trans (hu _))

theorem State.confirmAbort_recordsEnd (sc wsn : Nat) : (s.confirmAbort sc wsn).recordsEnd s := by
  unfold State.confirmAbort
  split
  · exact .refl s
  · dsimp only
    split
    · exact .refl s
    · refine State.recordsEnd.trans ?_ (s.onRec_recordsEnd sc wsn (fun r => { r with abortRes := 2 }))
      split
      · exact (State.cancelRec_recordsEnd ..).trans (.of_eq rfl)
      · split
        · exact State.cancelRec_recordsEnd ..
        · split
          · exact (State.settlePath_recordsEnd ..).trans ((State.onRec_recordsEnd ..).trans (State.onRec_recordsEnd ..))
          · exact State.doubtRec_recordsEnd ..

end Sys2Proof.Machine
end

section
/-! Paths of subchannels, their ports and their logins (R281, R283, R285, Table 09-12). -/
namespace Sys2Proof

/-- What a key reads is listed under the key. -/
theorem Tab.mem_of_find {α : Type} {t : Tab α} {n : Nat} {x : α} (h : Tab.find t n = some x) : (n, x) ∈ t := by
  induction t with
  | nil => cases h
  | cons p t ih =>
    obtain ⟨k, v⟩ := p
    unfold Tab.find at h
    split at h
    · next hk =>
      cases h
      exact hk ▸ List.mem_cons_self ..
    · exact List.mem_cons_of_mem _ (ih h)

/-- A value that is not the default is listed under its key. -/
theorem Tab.mem_of_getD_ne {α : Type} {t : Tab α} {n : Nat} {d : α} (h : Tab.getD t n d ≠ d) : (n, Tab.getD t n d) ∈ t := by
  unfold Tab.getD at *
  cases hf : Tab.find t n with
  | none => exact absurd (by rw [hf]; rfl) h
  | some x => exact mem_of_find hf

end Sys2Proof

namespace Sys2Proof.Machine

/-- A path of a subchannel; an EMPTY one where the index has none (R285). -/
def State.path (s : State) (sc p : Nat) : Path := (s.sub sc).paths.getD p {}

variable (s : State)

/-- A path that is not EMPTY is listed, under its subchannel. -/
theorem State.path_listed {sc p : Nat} (h : (s.path sc p).state ≠ 0) : ∃ x, (sc, x) ∈ s.subchs ∧ (p, s.path sc p) ∈ x.paths := by
  have hp : (s.sub sc).paths.getD p {} ≠ {} := fun e => h (by rw [State.path, e])
  have hs : s.subchs.getD sc {} ≠ {} := fun e => hp (by rw [State.sub, e]; rfl)
  exact ⟨s.sub sc, Tab.mem_of_getD_ne hs, Tab.mem_of_getD_ne hp⟩

theorem State.onPath_path (sc p k j : Nat) (f : Path → Path) : (s.onPath sc p f).path k j = if k = sc ∧ j = p then f (s.path sc p) else s.path k j := by
  unfold State.path State.onPath
  rw [State.onSub_sub]
  by_cases hk : k = sc
  · rw [if_pos hk, Tab.getD_upd, hk]
    simp only [true_and]
  · rw [if_neg hk, if_neg (fun h => hk h.1)]

theorem State.recordsEnd.keeps_path {t s : State} (h : t.recordsEnd s) {sc p : Nat} (hp : (s.path sc p).state ≠ 4) : (t.path sc p).state = (s.path sc p).state := h.path sc p hp

/-! ### A path becomes LOST -/

/-- The path as its loss leaves it (R285). -/
def Path.lost (q : Path) (at_ : Nat) : Path := { q with state := if q.state = 4 then 4 else 3, change := at_, loginAt := at_, timeouts := 0 }

theorem State.losePath_idle {s : State} {sc p : Nat} (h : (s.path sc p).state = 0 ∨ (s.path sc p).state = 3) (at_ : Nat) : s.losePath sc p at_ = s := if_pos h

/-- Losing a path that is up or logging in is its change of state, and failures of attempts. -/
theorem State.losePath_recordsEnd {s : State} {sc p : Nat} (h : ¬((s.path sc p).state = 0 ∨ (s.path sc p).state = 3)) (at_ : Nat) :
    (s.losePath sc p at_).recordsEnd (s.onPath sc p (fun q => q.lost at_)) := by
  have hx : s.losePath sc p at_ = (((s.onPath sc p (fun q => q.lost at_)).sub sc).wsns (fun r => r.active && r.path == p)).foldl
      (fun s w => s.failAttempt sc w 0 0 at_) (s.onPath sc p (fun q => q.lost at_)) := if_neg h
  rw [hx]
  exact State.recordsEnd_foldl (fun t w => t.failAttempt_recordsEnd sc w 0 0 at_) _ _

theorem State.losePath_io (sc p at_ : Nat) : (s.losePath sc p at_).ioOnly s := by
  by_cases h : (s.path sc p).state = 0 ∨ (s.path sc p).state = 3
  · rw [State.losePath_idle h]
    rfl
  · exact (State.losePath_recordsEnd h at_).io.trans rfl

theorem State.losePath_clock (sc p at_ : Nat) : (s.losePath sc p at_).clock = s.clock := by
  by_cases h : (s.path sc p).state = 0 ∨ (s.path sc p).state = 3
  · rw [State.losePath_idle h]
  · exact (State.losePath_recordsEnd h at_).clock

theorem State.losePath_ioports (sc p at_ : Nat) : (s.losePath sc p at_).ioports = s.ioports := by
  by_cases h : (s.path sc p).state = 0 ∨ (s.path sc p).state = 3
  · rw [State.losePath_idle h]
  · exact (State.losePath_recordsEnd h at_).ioports

/-- A path that is neither EMPTY nor DRAINING is LOST after its loss. -/
theorem State.losePath_lost {s : State} {sc p : Nat} (h0 : (s.path sc p).state ≠ 0) (h4 : (s.path sc p).state ≠ 4) (at_ : Nat) : ((s.losePath sc p at_).path sc p).state = 3 := by
  by_cases h : (s.path sc p).state = 0 ∨ (s.path sc p).state = 3
  · rw [State.losePath_idle h]
    exact h.resolve_left h0
  · have hon : ((s.onPath sc p (fun q => q.lost at_)).path sc p).state = 3 := by
      rw [State.onPath_path, if_pos ⟨rfl, rfl⟩]
      exact if_neg h4
    rw [(State.losePath_recordsEnd h at_).keeps_path (by rw [hon]; decide), hon]

/-- The loss of one path leaves the states of the others, but for DRAINING ones. -/
theorem State.losePath_other {s : State} {sc p k j : Nat} (h4 : (s.path k j).state ≠ 4) (hne : ¬(k = sc ∧ j = p)) (at_ : Nat) :
    ((s.losePath sc p at_).path k j).state = (s.path k j).state := by
  by_cases h : (s.path sc p).state = 0 ∨ (s.path sc p).state = 3
  · rw [State.losePath_idle h]
  · have hon : (s.onPath sc p (fun q => q.lost at_)).path k j = s.path k j := by rw [State.onPath_path, if_neg hne]
    rw [(State.losePath_recordsEnd h at_).keeps_path (by rwa [hon]), hon]

/-- Losing paths one after the other makes every listed one LOST that is neither EMPTY nor DRAINING, and keeps LOST ones. -/
theorem State.losePaths_lost_of_mem {sc p : Nat} (l : List (Nat × Nat)) {s : State} (h0 : (s.path sc p).state ≠ 0) (h4 : (s.path sc p).state ≠ 4)
    (hl : (sc, p) ∈ l ∨ (s.path sc p).state = 3) : ((l.foldl (fun s k => s.losePath k.1 k.2) s).path sc p).state = 3 := by
  induction l generalizing s with
  | nil => exact hl.resolve_left List.not_mem_nil
  | cons k l ih =>
    rw [List.foldl_cons]
    by_cases hk : sc = k.1 ∧ p = k.2
    · have hlost : ((s.losePath k.1 k.2).path sc p).state = 3 := by
        obtain ⟨rfl, rfl⟩ := hk
        exact State.losePath_lost h0 h4 _
      exact ih (by rw [hlost]; decide) (by rw [hlost]; decide) (Or.inr hlost)
    · have hsame := State.losePath_other h4 hk s.now
      refine ih (by rwa [hsame]) (by rwa [hsame]) ?_
      rw [hsame]
      exact hl.imp_left (fun h => (List.mem_cons.mp h).resolve_left (fun e => hk ⟨congrArg Prod.fst e, congrArg Prod.snd e⟩))

theorem State.losePaths_ioports (kind port : Nat) : (s.losePaths kind port).ioports = s.ioports :=
  List.foldlRecOn (motive := fun t : State => t.ioports = s.ioports) _ _ rfl (fun t ht k _ => (State.losePath_ioports t k.1 k.2 t.now).trans ht)

/-- The loss of a port loses the paths on it that are logging in or up (R285). -/
theorem State.losePaths_lost {s : State} {sc p kind port : Nat} (h0 : (s.path sc p).state ≠ 0) (h4 : (s.path sc p).state ≠ 4)
    (hk : ioKey (s.path sc p).kind (s.path sc p).port = ioKey kind port) : ((s.losePaths kind port).path sc p).state = 3 := by
  obtain ⟨x, hx, hp⟩ := s.path_listed h0
  refine State.losePaths_lost_of_mem _ h0 h4 (Or.inl (List.mem_flatMap.mpr ⟨(sc, x), hx, List.mem_map.mpr ⟨(p, s.path sc p), List.mem_filter.mpr ⟨hp, ?_⟩, rfl⟩⟩))
  simp [h0, hk]

/-! ### Ports -/

theorem State.portUp_fc (port : Nat) : s.portUp 1 port = (s.ioport port).up := rfl

/-- An event whose condition holds takes place. -/
theorem when_next {c : Bool} {s : State} (h : c = true) (t : State) : when c s t = .next t := by rw [h, when_true]

/-- What the loss of signal of a Fibre Channel port changes before its paths are lost (R285). -/
def State.portLost (s : State) (port : Nat) : State :=
  (((s.onIoport port (fun p => { p with up := false, signal := false, lostAt := s.now - msT, change := s.now })).countB (portUnit 1 port)).setHealth (portUnit 1 port) 4 5).logRec 9
    (portUnit 1 port) [port, 3]

theorem State.portLost_path (port sc p : Nat) : (s.portLost port).path sc p = s.path sc p := by
  unfold State.path State.portLost
  rw [State.logRec_sub', State.setHealth_sub', State.countB_sub', State.onIoport_sub']

theorem State.portLost_up (port : Nat) : ((s.portLost port).ioport port).up = false := by
  unfold State.portLost
  rw [State.logRec_ioport', State.setHealth_ioport', State.countB_ioport', State.onIoport_ioport_self]

/-- The loss of signal of a Fibre Channel port that is up: its link goes down and it loses its paths (R285). -/
theorem pathSignalLoss_loses {s : State} {port : Nat} (hrun : s.runs = true) (hport : port < 32) (hup : s.portUp 1 port = true) :
    ∃ t, exec (.pathSignalLoss 1 port) s = .next t ∧ t.portUp 1 port = false ∧
      ∀ sc p, ((s.path sc p).state = 1 ∨ (s.path sc p).state = 2) → (s.path sc p).kind = 1 → (s.path sc p).port = port → (t.path sc p).state = 3 := by
  have hc : (s.runs && s.portIs 1 port && s.portUp 1 port) = true := by simp [hrun, hup, State.portIs, hport]
  refine ⟨(s.portLost port).losePaths 1 port, when_next hc _, ?_, fun sc p hs hk hp => State.losePaths_lost ?_ ?_ ?_⟩
  · have h := (s.portLost port).losePaths_ioports 1 port
    rw [State.portUp_fc, State.ioport, h]
    exact s.portLost_up port
  · rw [s.portLost_path]
    omega
  · rw [s.portLost_path]
    omega
  · rw [s.portLost_path, hk, hp]

/-- A restored Fibre Channel port that was down (R285, LOGIN_QUERY). -/
def State.portRestored (s : State) (port rate : Nat) : State :=
  (((s.onIoport port (fun p => { p with up := true, signal := true, rate := rate, retrains := p.retrains + 1, change := s.now })).countA (portUnit 1 port)).setHealth (portUnit 1 port) 0 0).logRec 9
    (portUnit 1 port) [port, 2]

theorem State.portRestored_ioport (port rate : Nat) :
    (s.portRestored port rate).ioport port = { s.ioport port with up := true, signal := true, rate := rate, retrains := (s.ioport port).retrains + 1, change := s.now } := by
  unfold State.portRestored
  rw [State.logRec_ioport', State.setHealth_ioport', State.countA_ioport', State.onIoport_ioport_self]

theorem State.portRestored_frame (port rate : Nat) :
    s.portRestored port rate = { s with ioports := (s.portRestored port rate).ioports, log := (s.portRestored port rate).log, svc := (s.portRestored port rate).svc } := by
  unfold State.portRestored State.setHealth
  dsimp only
  split <;> rfl

theorem portSignalRestored_restores {s : State} {port rate : Nat} (hrun : s.runs = true) (hport : port < 32) (hup : s.portUp 1 port = false) :
    ∃ t, exec (.portSignalRestored 1 port rate) s = .next t ∧ t.portUp 1 port = true ∧ (t.ioport port).rate = rate ∧
      (t.ioport port).retrains = (s.ioport port).retrains + 1 ∧ t = { s with ioports := t.ioports, log := t.log, svc := t.svc } := by
  have hc : (s.runs && s.portIs 1 port && !s.portUp 1 port) = true := by simp [hrun, hup, State.portIs, hport]
  refine ⟨s.portRestored port rate, when_next hc _, ?_, ?_, ?_, s.portRestored_frame port rate⟩
  · rw [State.portUp_fc, s.portRestored_ioport]
  · rw [s.portRestored_ioport]
  · rw [s.portRestored_ioport]

/-! ### Logins -/

/-- A good login answer makes its path OPERATIONAL, whatever its timeouts decided before (R285, R287). -/
theorem State.loginOk_operational (sc p : Nat) : ((s.loginOk sc p).path sc p).state = 2 := by
  unfold State.loginOk
  dsimp only
  generalize ((s.sub sc).wsns (fun r => r.state == 1 || (r.active && r.path == p))).foldl (fun s w => s.expireRec sc w s.now) s = u
  have hup : ((u.onPath sc p (fun q => { q with state := 2, change := u.now, timeouts := 0 })).path sc p).state = 2 := by rw [State.onPath_path, if_pos ⟨rfl, rfl⟩]
  generalize u.onPath sc p (fun q => { q with state := 2, change := u.now, timeouts := 0 }) = v at hup ⊢
  have hsend := State.recordsEnd_foldl (fun t w => t.sendAbort_recordsEnd sc w 2 t.now) ((v.sub sc).wsns (fun r => r.aborting && r.abortKind == 2 && r.path == p)) v
  generalize ((v.sub sc).wsns (fun r => r.aborting && r.abortKind == 2 && r.path == p)).foldl (fun s w => s.sendAbort sc w 2) v = x at hsend ⊢
  have hwait := (State.recordsEnd_foldl (fun t w => t.onRec_recordsEnd sc w (fun r => { r with noPathEnd := 0 })) ((x.sub sc).wsns (fun r => r.state == 1)) x).trans hsend
  generalize ((x.sub sc).wsns (fun r => r.state == 1)).foldl (fun s w => s.onRec sc w (fun r => { r with noPathEnd := 0 })) x = y at hwait ⊢
  have hv : (v.path sc p).state ≠ 4 := by rw [hup]; decide
  split
  · rw [hwait.keeps_path hv, hup]
  · next w _ _ =>
    have hconf := (State.recordsEnd_foldl (fun (t : State) (k : Nat × Nat) => t.confirmAbort_recordsEnd k.1 k.2) (y.confirmed sc w) y).trans hwait
    rw [hconf.keeps_path hv, hup]

theorem State.advanceTo_eq (a : Nat) : s.advanceTo a = { s with clock := (s.advanceTo a).clock } := by
  unfold State.advanceTo
  split <;> rfl

theorem State.advanceTo_path (a sc p : Nat) : (s.advanceTo a).path sc p = s.path sc p := by
  unfold State.path
  rw [State.advanceTo_sub']

/-- A first login that is not answered by a stamp loses its path (R285). -/
theorem loginTimeout_loses {s : State} {sc p a : Nat} (hrun : s.runs = true) (hlive : (s.sub sc).live = true) (h1 : (s.path sc p).state = 1) (ha : a = (s.path sc p).loginAt + secT) :
    ∃ t, exec (.loginTimeout sc p) s = .next t ∧ (t.path sc p).state = 3 ∧ t.clock = (s.advanceTo a).clock := by
  have hc : (s.runs && (s.sub sc).live && (s.path sc p).state == 1) = true := by simp [hrun, hlive, h1]
  refine ⟨(s.advanceTo a).losePath sc p, ?_, State.losePath_lost ?_ ?_ _, State.losePath_clock ..⟩
  · rw [ha]
    exact when_next hc _
  · rw [s.advanceTo_path, h1]
    decide
  · rw [s.advanceTo_path, h1]
    decide

/-- A LOST path tries again (R285). -/
theorem loginRetry_tries {s : State} {sc p a : Nat} (hrun : s.runs = true) (hlive : (s.sub sc).live = true) (h3 : (s.path sc p).state = 3) (ha : a = (s.path sc p).loginAt + secT) :
    ∃ t, exec (.loginRetry sc p) s = .next t ∧ t.path sc p = { s.path sc p with loginAt := t.now } ∧ t.clock = (s.advanceTo a).clock ∧
      t = { s with clock := t.clock, subchs := t.subchs } := by
  have hc : (s.runs && (s.sub sc).live && (s.path sc p).state == 3) = true := by simp [hrun, hlive, h3]
  refine ⟨(s.advanceTo a).onPath sc p (fun q => { q with loginAt := (s.advanceTo a).now }), ?_, ?_, rfl, ?_⟩
  · rw [ha]
    exact when_next hc _
  · rw [State.onPath_path, if_pos ⟨rfl, rfl⟩, s.advanceTo_path]
    rfl
  · have h := s.advanceTo_eq a
    generalize s.advanceTo a = u at h ⊢
    rw [h]
    rfl

/-- Settles O25: what ends records keeps the states of paths, so that the event's own change of a path is what is left. -/
theorem pathsFollowTheirPortsAndLogins : Obligations.PathsFollowTheirPortsAndLogins := by
  unfold Obligations.PathsFollowTheirPortsAndLogins
  intro s sc p hrun
  refine ⟨fun port hport => ⟨fun hup => ?_, fun rate hup => portSignalRestored_restores hrun hport hup⟩, fun hlive q hq => ⟨fun h2 => ?_, fun h13 => ⟨fun hup hfit => ?_, ?_⟩, fun h1 => ?_, fun h3 => ?_⟩⟩
  · obtain ⟨t, ht, hdown, hlost⟩ := pathSignalLoss_loses hrun hport hup
    exact ⟨t, ht, hdown, fun q hq => by subst hq; exact hlost sc p⟩
  all_goals
    subst hq
  · have hc : (s.runs && (s.sub sc).live && ((s.path sc p).state == 2 || (s.path sc p).state == 4)) = true := by simp [hrun, hlive, State.path, h2]
    exact ⟨_, when_next hc _, State.losePath_lost (by rw [State.path, h2]; decide) (by rw [State.path, h2]; decide) _, s.losePath_io ..⟩
  · have hc : (s.runs && (s.sub sc).live && ((s.path sc p).state == 1 || (s.path sc p).state == 3) && (!true || s.portUp (s.path sc p).kind (s.path sc p).port)) = true := by
      simpa [hrun, hlive, State.path, hup] using h13
    refine ⟨_, (when_next hc _).trans (congrArg Host.Outcome.next (if_pos ?_)), s.loginOk_operational sc p⟩
    simpa using hfit
  · have hc : (s.runs && (s.sub sc).live && ((s.path sc p).state == 1 || (s.path sc p).state == 3) && (!false || s.portUp (s.path sc p).kind (s.path sc p).port)) = true := by
      simpa [hrun, hlive, State.path] using h13
    exact ⟨_, when_next hc _, State.losePath_lost (by unfold State.path; omega) (by unfold State.path; omega) _⟩
  · exact loginTimeout_loses hrun hlive h1 rfl
  · exact loginRetry_tries hrun hlive h3 rfl

end Sys2Proof.Machine
end

section
/-! Channel Engines, claims and Routes (R290 to R294). -/
namespace Sys2Proof.Machine

variable (s : State)

theorem mate_ne (n : Nat) : mate n ≠ n := by
  unfold mate
  split <;> omega

/-- The Route of either engine of a Route (R25). -/
theorem routeOf_of_engine {r n : Nat} (h : n = 2 * r ∨ n = 2 * r + 1) : routeOf n = r := by
  unfold routeOf
  omega

theorem State.activeEng_state {s : State} {r n : Nat} (h : s.activeEng r = some n) : (s.engine n).state = 1 := by
  simpa using List.find?_some h

theorem State.recordsEnd.engine {t s : State} (h : t.recordsEnd s) (n : Nat) : t.engine n = s.engine n := congrArg (fun x : Tab Engine => x.getD n {}) h.engines

/-! ### An engine changes state -/

theorem State.setHealth_only (u st c : Nat) : s.setHealth u st c = { s with log := (s.setHealth u st c).log, svc := (s.setHealth u st c).svc } := by
  unfold State.setHealth
  dsimp only
  split <;> rfl

/-- Beside the engine, the health words of its Route follow (R387). -/
theorem State.toEngine_only (n st c : Nat) :
    s.toEngine n st c = { s.onEngine n (fun e => { e with state := st }) with log := (s.toEngine n st c).log, svc := (s.toEngine n st c).svc } := by
  unfold State.toEngine
  dsimp only
  rw [State.setHealth_only, State.setHealth_only]

theorem State.toEngine_routes (n st c : Nat) : (s.toEngine n st c).routes = s.routes := by
  rw [State.toEngine_only]
  rfl

theorem State.toEngine_route (n st c r : Nat) : (s.toEngine n st c).route r = s.route r := by
  unfold State.route
  rw [State.toEngine_routes]

theorem State.toEngine_engine (n st c m : Nat) : (s.toEngine n st c).engine m = if m = n then { s.engine n with state := st } else s.engine m := by
  have h : (s.toEngine n st c).engines = (s.onEngine n (fun e => { e with state := st })).engines := by
    rw [State.toEngine_only]
  exact (congrArg (fun x : Tab Engine => x.getD m {}) h).trans (s.onEngine_engine ..)

theorem State.toEngine_self (n st c : Nat) : (s.toEngine n st c).engine n = { s.engine n with state := st } := by rw [State.toEngine_engine, if_pos rfl]

theorem State.toEngine_ne {n m : Nat} (st c : Nat) (h : m ≠ n) : (s.toEngine n st c).engine m = s.engine m := by rw [State.toEngine_engine, if_neg h]

/-! ### The end of a ROUTE_SWITCH -/

theorem State.endSwitchCmd_idle {s : State} {r : Nat} (h : (s.route r).win = none) (st : Nat) : s.endSwitchCmd r st = s := by
  unfold State.endSwitchCmd
  rw [h]

theorem State.endMb_keeps (w st : Nat) (b : List Byte) : (s.endMb w st b).engines = s.engines ∧ (s.endMb w st b).routes = s.routes := by
  unfold State.endMb
  split
  · rw [State.finishCmd_eq]
    exact ⟨rfl, rfl⟩
  · exact ⟨rfl, rfl⟩

theorem State.endSwitchCmd_engine (r st n : Nat) : (s.endSwitchCmd r st).engine n = s.engine n := by
  unfold State.endSwitchCmd
  split
  · rfl
  · exact congrArg (fun x : Tab Engine => x.getD n {}) (State.endMb_keeps ..).1

theorem State.endSwitchCmd_route (r st : Nat) : ∃ w q, (s.endSwitchCmd r st).route r = { s.route r with win := w, quiesce := q } := by
  unfold State.endSwitchCmd
  split
  · exact ⟨_, _, rfl⟩
  · next w _ =>
    have h := ((s.onRoute r (fun x => { x with win := none, quiesce := false })).endMb_keeps w st []).2
    exact ⟨_, _, (congrArg (fun x : Tab Route => x.getD r {}) h).trans (s.onRoute_route_self ..)⟩

/-! ### An engine fails (R292 to R294) -/

/-- An engine that has failed may be tested once (R293). -/
def State.engineFailed (s : State) (n c : Nat) : State := (s.onEngine n (fun e => { e with tested := false })).toEngine n 4 c

theorem State.engineFailed_self (n c : Nat) : (s.engineFailed n c).engine n = { s.engine n with state := 4, tested := false } := by
  unfold State.engineFailed
  rw [State.toEngine_self, State.onEngine_engine_self]

theorem State.engineFailed_ne {n m : Nat} (c : Nat) (h : m ≠ n) : (s.engineFailed n c).engine m = s.engine m := by
  unfold State.engineFailed
  rw [State.toEngine_ne _ _ _ h, State.onEngine_engine_ne _ _ _ _ h]

theorem State.engineFailed_route (n c r : Nat) : (s.engineFailed n c).route r = s.route r := State.toEngine_route ..

section
variable {s : State} {n : Nat} (hsw : (s.route (routeOf n)).switching = none)
include hsw

/-- The failure of an active engine with a ready standby starts the standby's takeover. -/
theorem State.failEngine_switches (ha : (s.engine n).state = 1) (hm : (s.engine (mate n)).state = 3) (c : Nat) :
    s.failEngine n c = (s.engineFailed n c).beginSwitch (routeOf n) (mate n) false := by
  unfold State.failEngine
  dsimp only
  rw [← State.engineFailed, State.engineFailed_route, hsw]
  dsimp only
  rw [if_neg (not_not_intro ha), State.engineFailed_ne _ _ (mate_ne n), if_pos hm]

/-- Without a ready standby it stops the Route. -/
theorem State.failEngine_stops (ha : (s.engine n).state = 1) (hm : (s.engine (mate n)).state ≠ 3) (hw : (s.route (routeOf n)).win = none) (c : Nat) :
    s.failEngine n c = (s.engineFailed n c).stopRoute (routeOf n) := by
  unfold State.failEngine
  dsimp only
  rw [← State.engineFailed, State.engineFailed_route, hsw]
  dsimp only
  rw [if_neg (not_not_intro ha), State.engineFailed_ne _ _ (mate_ne n), if_neg hm, State.endSwitchCmd_idle (by rw [State.engineFailed_route, hw])]

/-- The failure of a standby leaves the Route to its active engine. -/
theorem State.failEngine_standby (ha : (s.engine n).state ≠ 1) (hw : (s.route (routeOf n)).win = none) (c : Nat) : s.failEngine n c = s.engineFailed n c := by
  unfold State.failEngine
  dsimp only
  rw [← State.engineFailed, State.engineFailed_route, hsw]
  dsimp only
  rw [if_pos ha, State.endSwitchCmd_idle (by rw [State.engineFailed_route, hw]), ite_self]

end

theorem State.beginSwitch_route (r n : Nat) (b : Bool) : (s.beginSwitch r n b).route r = { s.route r with switching := some (n, b), unacked := s.stages.map (fun k => (k, s.now)) } :=
  State.onRoute_route_self ..

theorem State.engineFailed_stages (n c : Nat) : (s.engineFailed n c).stages = s.stages := by
  unfold State.engineFailed
  rw [State.toEngine_only]
  rfl

theorem State.engineFailed_now (n c : Nat) : (s.engineFailed n c).now = s.now := by
  unfold State.engineFailed
  rw [State.toEngine_only]
  rfl

/-- A Route that stops: its records end, its engines stay as they are (R294). -/
theorem State.stopRoute_stops (r : Nat) : ((s.stopRoute r).route r).stopped = true ∧ ∀ n, (s.stopRoute r).engine n = s.engine n := by
  unfold State.stopRoute
  dsimp only
  have hr : ((s.onRoute r (fun x => { x with stopped := true, switching := none, unacked := [], held := [], quiesce := false })).route r).stopped = true := by rw [State.onRoute_route_self]
  have he : ∀ n, (s.onRoute r (fun x => { x with stopped := true, switching := none, unacked := [], held := [], quiesce := false })).engine n = s.engine n := fun _ => rfl
  generalize s.onRoute r (fun x => { x with stopped := true, switching := none, unacked := [], held := [], quiesce := false }) = u at hr he ⊢
  have hc := State.recordsEnd_foldl (fun (t : State) (p : Nat × Nat) => t.cancelRec_recordsEnd p.1 p.2 stRetrySafe t.now) (u.routeRecs r (fun x => x.state == 1 && x.attempts == 0)) u
  generalize (u.routeRecs r (fun x => x.state == 1 && x.attempts == 0)).foldl (fun s p => s.cancelRec p.1 p.2 stRetrySafe) u = v at hc ⊢
  have hd := (State.recordsEnd_foldl (fun (t : State) (p : Nat × Nat) => t.doubtRec_recordsEnd p.1 p.2 t.now) (v.routeRecs r (fun x => x.state == 1 || x.active)) v).trans hc
  obtain ⟨_, _, _, hroute⟩ := hd.route r
  exact ⟨by rw [hroute]; exact hr, fun n => (hd.engine n).trans (he n)⟩

/-! ### Takeover (R292) -/

/-- The Route takes the next claim (R292 step 2). -/
def State.nextClaim (s : State) (r n : Nat) : State :=
  s.onRoute r (fun x => { x with
    claim := ((s.route r).claim + 1) % 2 ^ 32, switching := none, held := [], switchovers := x.switchovers + 1, lastSwitch := s.now,
    gap := some (mate n, (s.route r).lastFrame, (s.route r).injected), beat := s.now, quiesce := false, injected := false })

/-- Data phases in the old engine's buffers are lost, unless ROUTE_SWITCH has let them end (R292, R293). -/
def State.loseBuffers (s : State) (r : Nat) (byCmd : Bool) : State :=
  if byCmd then s else (s.routeRecs r (fun x => x.active && !x.aborting)).foldl (fun s p => if s.phaseOf p.1 p.2 then s.failAttempt p.1 p.2 0 0 else s) s

/-- What was prepared for waybills not yet dispatched is lost. -/
def State.refreshRecs (s : State) (r : Nat) : State :=
  (s.routeRecs r (fun x => x.state == 1)).foldl (fun s p => (s.dropInline p.1 p.2).onRec p.1 p.2 JRec.fresh) s

/-- The old engine becomes the standby, or is tested after its failure (R293). -/
def State.oldEngine (s : State) (old : Nat) : State :=
  if (s.engine old).state = 1 then s.toEngine old 2 0 else if (s.engine old).state = 4 ∧ !(s.engine old).tested then s.toEngine old 5 0 else s

theorem State.loseBuffers_recordsEnd (r : Nat) (byCmd : Bool) : (s.loseBuffers r byCmd).recordsEnd s := by
  unfold State.loseBuffers
  split
  · exact .refl s
  · refine State.recordsEnd_foldl (fun t p => ?_) _ _
    split
    · exact t.failAttempt_recordsEnd ..
    · exact .refl t

theorem State.refreshRecs_recordsEnd (r : Nat) : (s.refreshRecs r).recordsEnd s :=
  State.recordsEnd_foldl (fun t (p : Nat × Nat) => (State.onRec_recordsEnd _ p.1 p.2 JRec.fresh).trans (t.dropInline_recordsEnd p.1 p.2)) _ s

theorem State.oldEngine_route (old r : Nat) : (s.oldEngine old).route r = s.route r := by
  unfold State.oldEngine
  split
  · exact s.toEngine_route ..
  · split
    · exact s.toEngine_route ..
    · rfl

/-- The takeover, but for the frames held. -/
def State.takenOver (s : State) (r n : Nat) (byCmd : Bool) : State :=
  ((((((((s.nextClaim r n).loseBuffers r byCmd).refreshRecs r).oldEngine (mate n)).toEngine n 1 0).endSwitchCmd r stOk).notify 512 6 0 r
    (((s.route r).claim + 1) % 2 ^ 32)).countB 0xFF01).countA (unitCode 6 (mate n))

theorem State.takeOver_eq (r n : Nat) (byCmd : Bool) : s.takeOver r n byCmd = (s.route r).held.foldl State.takeFrame (s.takenOver r n byCmd) := by
  unfold State.takenOver State.oldEngine State.refreshRecs State.loseBuffers State.nextClaim
  rfl

/-- With no frame held, the takeover makes the new engine ACTIVE under the next claim (R292). -/
theorem State.takeOver_takes {s : State} {r n : Nat} (byCmd : Bool) (hheld : (s.route r).held = []) :
    ((s.takeOver r n byCmd).engine n).state = 1 ∧ ((s.takeOver r n byCmd).route r).claim = ((s.route r).claim + 1) % 2 ^ 32 ∧
      ((s.takeOver r n byCmd).route r).switching = none ∧ ((s.takeOver r n byCmd).route r).switchovers = (s.route r).switchovers + 1 := by
  rw [State.takeOver_eq, hheld, List.foldl_nil, State.takenOver, State.countA_engine', State.countB_engine', State.notify_engine', State.endSwitchCmd_engine, State.toEngine_self,
    State.countA_route', State.countB_route', State.notify_route']
  obtain ⟨_, _, hend⟩ := (((((s.nextClaim r n).loseBuffers r byCmd).refreshRecs r).oldEngine (mate n)).toEngine n 1 0).endSwitchCmd_route r stOk
  obtain ⟨_, _, _, hrecs⟩ := (((s.nextClaim r n).loseBuffers r byCmd).refreshRecs_recordsEnd r |>.trans ((s.nextClaim r n).loseBuffers_recordsEnd r byCmd)).route r
  rw [hend, State.toEngine_route, State.oldEngine_route, hrecs, State.nextClaim, State.onRoute_route_self]
  exact ⟨rfl, rfl, rfl, rfl⟩

/-! ### Heartbeats and claims -/

theorem engineHeartbeat_stamps {s : State} {r n a : Nat} (hrun : s.runs = true) (ha : s.activeEng r = some n) (hsw : (s.route r).switching = none) (hb : a = (s.route r).beat + 4000) :
    ∃ t, exec (.engineHeartbeat r) s = .next t ∧ (t.route r).beat = t.now ∧ t.clock = (s.advanceTo a).clock ∧ t = { s with clock := t.clock, routes := t.routes } := by
  have hc : (s.runs && (s.activeEng r).isSome && (s.route r).switching.isNone) = true := by simp [hrun, ha, hsw]
  refine ⟨(s.advanceTo a).onRoute r (fun x => { x with beat := (s.advanceTo a).now }), ?_, ?_, rfl, ?_⟩
  · rw [hb]
    exact when_next hc _
  · rw [State.onRoute_route_self]
    rfl
  · have h := s.advanceTo_eq a
    generalize s.advanceTo a = u at h ⊢
    rw [h]
    rfl

theorem claimWriteResend_stamps {s : State} {r stage at0 a : Nat} (hrun : s.runs = true) (hu : (s.route r).unacked = [(stage, at0)]) (ha : a = at0 + 2000) :
    ∃ t, exec (.claimWriteResend r stage) s = .next t ∧ (t.route r).unacked = [(stage, t.now)] ∧ t.clock = (s.advanceTo a).clock ∧ t = { s with clock := t.clock, routes := t.routes } := by
  refine ⟨(s.advanceTo a).onRoute r (fun x => { x with unacked := x.unacked.map (fun v => if v.1 = stage then (stage, (s.advanceTo a).now) else v) }), ?_, ?_, rfl, ?_⟩
  · change execClaimWriteResend r stage s = _
    have hf : (s.route r).unacked.find? (fun u => u.1 == stage) = some (stage, at0) := by simp [hu]
    unfold execClaimWriteResend
    rw [hf, ha]
    exact when_next hrun _
  · rw [State.onRoute_route_self, State.advanceTo_route', hu]
    simp only [List.map_cons, List.map_nil, if_true]
    rfl
  · have h := s.advanceTo_eq a
    generalize s.advanceTo a = u at h ⊢
    rw [h]
    rfl

/-- An output stage stores a claim ahead of its own; that of the switchover under way is acknowledged (R291, R292). -/
theorem State.claimWrite_ahead {s : State} {r stage c : Nat} (h1 : 1 ≤ (c + 2 ^ 32 - s.claim stage r) % 2 ^ 32) (h2 : (c + 2 ^ 32 - s.claim stage r) % 2 ^ 32 < 2 ^ 31) (hc : c < 2 ^ 32) :
    (s.claimWrite r stage c).claim stage r = c ∧ s.claimWrite r stage c = { s with claims := (s.claimWrite r stage c).claims, routes := (s.claimWrite r stage c).routes } ∧
      (c = ((s.route r).claim + 1) % 2 ^ 32 → ((s.claimWrite r stage c).route r).unacked = (s.route r).unacked.filter (fun u => u.1 != stage)) := by
  have hput : ({ s with claims := s.claims.put (stage * 16 + r) c } : State).claim stage r = c := by
    unfold State.claim
    rw [Tab.getD_put, if_pos rfl]
  have hw : s.claimWrite r stage c = if c = ((s.route r).claim + 1) % 2 ^ 32 then
      ({ s with claims := s.claims.put (stage * 16 + r) c } : State).onRoute r (fun x => { x with unacked := x.unacked.filter (fun u => u.1 != stage) })
      else { s with claims := s.claims.put (stage * 16 + r) c } := by
    unfold State.claimWrite
    simp only [if_pos (And.intro h1 h2), Nat.mod_eq_of_lt hc, hput]
    rfl
  rw [hw]
  split
  · refine ⟨hput, rfl, fun _ => ?_⟩
    rw [State.onRoute_route_self]
    rfl
  · next hne => exact ⟨hput, rfl, fun h => absurd h hne⟩

/-- The first frame after a switchover ends its gap and is on the wire (R292). -/
theorem State.frameOut_ends_gap {s : State} {stage r c old last : Nat} {inj : Bool} (hc : s.claim stage r = c) (hg : (s.route r).gap = some (old, last, inj)) :
    ((s.frameOut stage r c).route r).gap = none ∧ ((s.frameOut stage r c).route r).lastGap = (s.now - last) / 4 ∧ ((s.frameOut stage r c).route r).lastFrame = s.now ∧
      (s.frameOut stage r c).wire = (stage, r, c) :: s.wire := by
  have hroute : (s.endGap r).route r = { s.route r with gap := none, lastGap := (s.now - last) / 4 } := by
    have h := s.onRoute_route_self r (fun x => { x with gap := none, lastGap := (s.now - last) / 4 })
    unfold State.endGap State.asInjected
    dsimp only
    rw [hg]
    cases inj with
    | false => exact h
    | true => exact h
  have hf : ({ (s.endGap r).onRoute r (fun x => { x with lastFrame := s.now }) with wire := (stage, r, c) :: s.wire } : State).route r =
      { s.route r with gap := none, lastGap := (s.now - last) / 4, lastFrame := s.now } := by
    refine ((s.endGap r).onRoute_route_self r (fun x => { x with lastFrame := s.now })).trans ?_
    rw [hroute]
  unfold State.frameOut
  rw [if_pos hc, hf]
  exact ⟨rfl, rfl, rfl, rfl⟩

theorem State.frameOut_on_wire {s : State} {stage r c : Nat} (hc : s.claim stage r = c) (hg : (s.route r).gap = none) :
    s.frameOut stage r c = { s.onRoute r (fun x => { x with lastFrame := s.now }) with wire := (stage, r, c) :: s.wire } := by
  have hend : s.endGap r = s := by
    unfold State.endGap
    dsimp only
    rw [hg]
  unfold State.frameOut
  rw [if_pos hc, hend]

/-! ### Self-tests of the standby -/

/-- The engine that a loopback of the Route exercises (R294). -/
theorem standby_found {s : State} {r n : Nat} (hn : n = 2 * r ∨ n = 2 * r + 1) (h3 : (s.engine n).state = 3) (h1 : (s.engine (mate n)).state = 1) :
    [2 * r, 2 * r + 1].find? (fun n => (s.engine n).state == 2 || (s.engine n).state == 3) = some n := by
  obtain rfl | rfl := hn
  · simp [h3]
  · have hm : mate (2 * r + 1) = 2 * r := by
      unfold mate
      rw [if_neg (by omega)]
      rfl
    rw [hm] at h1
    simp [h1, h3]

/-- The engine whose loopback failed, before its failure takes effect (R294). -/
def State.loopFailed (s : State) (r n a : Nat) : State :=
  (((((s.advanceTo a).onRoute r (fun x => { x with loop := (s.advanceTo a).now })).onEngine n (fun e => { e with loopFails := (e.loopFails + 1) % 2 ^ 32 })).countB (unitCode 6 n)).logRec 0x12
    (unitCode 6 n) [n])

theorem State.loopFailed_engine (r n a m : Nat) :
    (s.loopFailed r n a).engine m = if m = n then { s.engine n with loopFails := ((s.engine n).loopFails + 1) % 2 ^ 32 } else s.engine m := by
  unfold State.loopFailed
  rw [State.logRec_engine', State.countB_engine', State.onEngine_engine, State.onRoute_engine', State.onRoute_engine', State.advanceTo_engine', State.advanceTo_engine']

theorem State.loopFailed_route (r n a : Nat) : (s.loopFailed r n a).route r = { s.route r with loop := (s.advanceTo a).now } := by
  unfold State.loopFailed
  rw [State.logRec_route', State.countB_route', State.onEngine_route', State.onRoute_route_self, State.advanceTo_route']

section
variable {s : State} {r n : Nat} (hrun : s.runs = true) (hsw : (s.route r).switching = none) (hn : n = 2 * r ∨ n = 2 * r + 1)
  (h3 : (s.engine n).state = 3) (h1 : (s.engine (mate n)).state = 1)
include hrun hsw hn h3 h1

theorem standbyLoopback_passed {a : Nat} (ha : a = (s.route r).loop + 10 * msT) : ∃ t, exec (.standbyLoopback r true) s = .next t ∧ t = { s with clock := t.clock, routes := t.routes } := by
  refine ⟨(s.advanceTo a).onRoute r (fun x => { x with loop := (s.advanceTo a).now }), ?_, ?_⟩
  · change execStandbyLoopback r true s = _
    unfold execStandbyLoopback
    rw [standby_found hn h3 h1, ha]
    exact when_next (by simp [hrun, hsw]) _
  · have h := s.advanceTo_eq a
    generalize s.advanceTo a = u at h ⊢
    rw [h]
    rfl

theorem standbyLoopback_failed {a : Nat} (ha : a = (s.route r).loop + 10 * msT) (hw : (s.route r).win = none) :
    ∃ t, exec (.standbyLoopback r false) s = .next t ∧ (t.engine n).state = 4 ∧ (t.engine n).loopFails = ((s.engine n).loopFails + 1) % 2 ^ 32 ∧ (t.engine (mate n)).state = 1 := by
  have hr : (s.loopFailed r n a).route (routeOf n) = { s.route r with loop := (s.advanceTo a).now } := by rw [routeOf_of_engine hn, State.loopFailed_route]
  have he := s.loopFailed_engine r n a
  have hf := State.failEngine_standby (s := s.loopFailed r n a) (n := n) (by rw [hr]; exact hsw) (by rw [he, if_pos rfl]; exact fun h => absurd (h3.symm.trans h) (by decide))
    (by rw [hr]; exact hw) 3
  refine ⟨(s.loopFailed r n a).failEngine n 3, ?_, ?_, ?_, ?_⟩
  · change execStandbyLoopback r false s = _
    unfold execStandbyLoopback
    rw [standby_found hn h3 h1, ← ha]
    exact when_next (by simp [hrun, hsw]) _
  · rw [hf, State.engineFailed_self]
  · rw [hf, State.engineFailed_self, he, if_pos rfl]
  · rw [hf, State.engineFailed_ne _ _ (mate_ne n), he, if_neg (mate_ne n), h1]

end

section
variable {s : State} {r n : Nat} (hrun : s.runs = true) (hact : s.activeEng r = some n) (hsw : (s.route r).switching = none) (hn : n = 2 * r ∨ n = 2 * r + 1)
include hrun hact hsw hn

/-- A lost heartbeat of the active engine, its standby ready (R292). -/
theorem heartbeatLoss_switches {a : Nat} (ha : a = (s.route r).beat + 16000) (hm : (s.engine (mate n)).state = 3) :
    ∃ t, exec (.heartbeatLoss r) s = .next t ∧ (t.engine n).state = 4 ∧ (t.route r).switching = some (mate n, false) := by
  have hro := routeOf_of_engine hn
  have hf := State.failEngine_switches (s := s.advanceTo a) (n := n) (by rw [hro, State.advanceTo_route', hsw]) (by rw [State.advanceTo_engine', State.activeEng_state hact])
    (by rw [State.advanceTo_engine', hm]) 2
  refine ⟨(s.advanceTo a).failEngine n 2, ?_, ?_, ?_⟩
  · change execHeartbeatLoss r s = _
    unfold execHeartbeatLoss
    rw [hact, ha]
    exact when_next (by simp [hrun, hsw, hm]) _
  · rw [hf, State.beginSwitch, State.onRoute_engine', State.engineFailed_self]
  · rw [hf, hro, State.beginSwitch_route]

omit hsw hn in
/-- A fault that a checker finds in the active engine. -/
theorem engineCheckerFault_fails : exec (.engineCheckerFault n) s = .next (s.failEngine n 2) :=
  when_next (by simp [hrun, State.activeEng_state hact]) _

end

/-- Settles O26: an engine's failure by the state of its standby, claims by the branches of their writes, the takeover by its steps, of which none but the first and the last touches the claim or the new engine. -/
theorem routesSwitchOverUnderClaims : Obligations.RoutesSwitchOverUnderClaims := by
  unfold Obligations.RoutesSwitchOverUnderClaims
  intro s r n hrun
  refine ⟨fun hact hsw => ⟨engineHeartbeat_stamps hrun hact hsw rfl, fun hn hm => ⟨heartbeatLoss_switches hrun hact hsw hn rfl hm, ?checker⟩, ?stops⟩, fun stage c hst => ⟨?claim, fun hc => ⟨?wire, ?gap⟩, ?discard⟩,
    fun stage at0 hu => claimWriteResend_stamps hrun hu rfl, ?takeover,
    fun hsw hn h3 h1 hw => ⟨standbyLoopback_passed hrun hsw hn h3 h1 rfl, standbyLoopback_failed hrun hsw hn h3 h1 rfl hw⟩, ?selftest, ?mirror⟩
  case checker =>
    have hro := routeOf_of_engine hn
    rw [engineCheckerFault_fails hrun hact, State.failEngine_switches (by rwa [hro]) (State.activeEng_state hact) hm, hro]
    refine ⟨_, rfl, ?_, ?_, ?_⟩
    · rw [State.beginSwitch, State.onRoute_engine', State.engineFailed_self]
    · rw [State.beginSwitch_route]
    · rw [State.beginSwitch_route, State.engineFailed_stages, State.engineFailed_now]
  case stops =>
    intro hn hm hw
    have hro := routeOf_of_engine hn
    rw [engineCheckerFault_fails hrun hact, State.failEngine_stops (by rwa [hro]) (State.activeEng_state hact) hm (by rwa [hro]), hro]
    obtain ⟨hstop, heng⟩ := (s.engineFailed n 2).stopRoute_stops r
    exact ⟨_, rfl, by rw [heng, State.engineFailed_self], hstop⟩
  case claim =>
    intro h1 h2 hc
    obtain ⟨hclaim, hframe, hack⟩ := State.claimWrite_ahead h1 h2 hc
    exact ⟨_, when_next (by simp [hrun, hst]) _, hclaim, hframe, hack⟩
  case wire =>
    intro hg
    rw [← State.frameOut_on_wire hc hg]
    exact when_next (by simp [hrun, hst]) _
  case gap =>
    intro old last inj hg
    exact ⟨_, when_next (by simp [hrun, hst]) _, State.frameOut_ends_gap hc hg⟩
  case discard =>
    intro hc
    exact (when_next (by simp [hrun, hst]) _).trans (congrArg Host.Outcome.next (if_neg hc))
  case takeover =>
    intro byCmd hsw hu hh
    refine ⟨s.takeOver r n byCmd, ?_, State.takeOver_takes byCmd hh⟩
    change execClaimsAcknowledged r s = _
    unfold execClaimsAcknowledged
    rw [hsw]
    exact when_next (by simp [hrun, hu]) _
  case selftest =>
    intro h4 ht hw hsw hstop
    have hc : (s.runs && ((s.engine n).state == 4 || (s.engine n).state == 5) && !(s.engine n).tested && (s.engine n).win.isNone && (s.route (routeOf n)).switching.isNone) = true := by
      simp [hrun, h4, ht, hw, routeOf, hsw]
    refine ⟨⟨s.enginePassed n, when_next hc _, ?_⟩, ⟨_, when_next hc _, ?_, ?_⟩⟩
    · rw [State.enginePassed, routeOf, hstop, if_neg Bool.false_ne_true, State.toEngine_self]
    · rw [if_neg Bool.false_ne_true, State.toEngine_self]
    · rw [if_neg Bool.false_ne_true, State.toEngine_self, State.logRec_engine', State.onEngine_engine_self]
  case mirror =>
    intro h2 h1
    refine ⟨s.toEngine n 3 0, when_next (by simp [hrun, h2, h1]) _, by rw [State.toEngine_self], ?_⟩
    rw [State.toEngine_only]
    rfl

end Sys2Proof.Machine
end

section
/-! What the end of a command leaves of the journal and the in-doubt store (R280, R289). -/
namespace Sys2Proof

theorem Tab.del_put {α : Type} (t : Tab α) (n : Nat) (x : α) : Tab.del (Tab.put t n x) n = Tab.del t n := by
  unfold Tab.del
  induction t with
  | nil => simp [Tab.put]
  | cons p t ih =>
    obtain ⟨k, v⟩ := p
    unfold Tab.put
    by_cases hlt : n < k
    · simp [hlt]
    · by_cases hk : k = n
      · simp [hk]
      · simp [hlt, hk, ih]

end Sys2Proof

namespace Sys2Proof.Machine

/-! ### Entering the store -/

/-- A subchannel whose record of that WSN has entered the store. -/
def Subch.vacate (x : Subch) (wsn : Nat) : Subch := { x with slots := x.slots.del (wsn % x.depth), stalled := false }

/-- A record that takes its place in the store leaves a subchannel as it is, or frees the slot of an IN_DOUBT record there. -/
theorem State.enterStore_sub (s : State) (r : JRec) (n : Nat) :
    (s.enterStore r).sub n = s.sub n ∨
      ∃ q, s.jrec n r.wsn = some q ∧ q.state = 6 ∧ (s.enterStore r).sub n = (s.sub n).vacate r.wsn := by
  unfold State.enterStore State.storeDoubt
  split
  · split <;> exact .inl rfl
  · split
    · next q hq =>
      split
      · next h6 =>
        have hsub := s.onSub_sub r.sc n (fun x => x.vacate r.wsn)
        by_cases hn : n = r.sc
        · subst hn
          exact .inr ⟨q, hq, h6.1, hsub.trans (if_pos rfl)⟩
        · exact .inl (hsub.trans (if_neg hn))
      · exact .inl rfl
    · exact .inl rfl

theorem State.enterStore_keeps {α : Type} (g : Subch → α) (hg : ∀ x l b, g { x with slots := l, stalled := b } = g x) (s : State) (r : JRec) (n : Nat) :
    g ((s.enterStore r).sub n) = g (s.sub n) := by
  obtain h | ⟨q, -, -, h⟩ := s.enterStore_sub r n
  · rw [h]
  · rw [h]
    exact hg ..

/-- A subchannel with no slot in use stays as it is. -/
theorem State.enterStore_sub_nil {s : State} {n : Nat} (h : (s.sub n).slots = []) (r : JRec) : (s.enterStore r).sub n = s.sub n := by
  obtain hs | ⟨q, hq, -, -⟩ := s.enterStore_sub r n
  · exact hs
  · have hfind := (State.jrec_eq_some hq).1
    rw [h] at hfind
    cases hfind

/-- A record that is not IN_DOUBT keeps its slot. -/
theorem State.enterStore_slot {s : State} {n k : Nat} {d : JRec} (h : (s.sub n).slots.find k = some d) (hd : d.state ≠ 6) (r : JRec) :
    ((s.enterStore r).sub n).slots.find k = some d := by
  obtain hs | ⟨q, hq, h6, hs⟩ := s.enterStore_sub r n
  · rw [hs, h]
  · have hfind := (State.jrec_eq_some hq).1
    have hk : k ≠ r.wsn % (s.sub n).depth := fun e => by
      rw [← e, h] at hfind
      exact hd (Option.some.inj hfind ▸ h6)
    rw [hs]
    exact (Tab.find_del_ne _ _ _ hk).trans h

/-- A record of the store stays there, beside the mark that it keeps the memory of its slot. -/
theorem State.enterStore_indoubt {s : State} {e : JRec} {b : Bool} (h : { e with kept := b } ∈ s.indoubt) (r : JRec) : ∃ c, { e with kept := c } ∈ (s.enterStore r).indoubt := by
  unfold State.enterStore State.storeDoubt
  split
  · split
    · have hm := List.mem_map_of_mem (f := fun q : JRec => if q.kept ∧ q.doubtNo = r.doubtNo then { q with kept := false } else q) h
      by_cases hc : b = true ∧ e.doubtNo = r.doubtNo
      · exact ⟨false, by simpa [hc] using hm⟩
      · rw [if_neg hc] at hm
        exact ⟨b, hm⟩
    · exact ⟨b, h⟩
  · split
    · split
      · exact ⟨b, List.mem_append_left _ h⟩
      · exact ⟨b, h⟩
    · exact ⟨b, h⟩

/-! ### Settling the store -/

theorem State.purgeDoubt_keeps {α : Type} (g : Subch → α) (hg : ∀ x l b, g { x with slots := l, stalled := b } = g x) (s : State) (n : Nat) : g (s.purgeDoubt.sub n) = g (s.sub n) :=
  List.foldlRecOn (motive := fun t : State => g (t.sub n) = g (s.sub n)) _ _ rfl (fun t ht r _ => (t.enterStore_keeps g hg r n).trans ht)

theorem State.purgeDoubt_sub_nil {s : State} {n : Nat} (h : (s.sub n).slots = []) : s.purgeDoubt.sub n = s.sub n :=
  List.foldlRecOn (motive := fun t : State => t.sub n = s.sub n) _ _ rfl (fun t ht r _ => (State.enterStore_sub_nil (by rw [ht, h]) r).trans ht)

theorem State.purgeDoubt_slot {s : State} {n k : Nat} {d : JRec} (h : (s.sub n).slots.find k = some d) (hd : d.state ≠ 6) : (s.purgeDoubt.sub n).slots.find k = some d :=
  List.foldlRecOn (motive := fun t : State => (t.sub n).slots.find k = some d) _ _ h (fun _ ht r _ => State.enterStore_slot ht hd r)

theorem State.purgeDoubt_indoubt {s : State} {e : JRec} (h : e ∈ s.indoubt) (hg : s.settledGone e = false) : ∃ c, { e with kept := c } ∈ s.purgeDoubt.indoubt :=
  List.foldlRecOn (motive := fun t : State => ∃ c, { e with kept := c } ∈ t.indoubt) _ _ ⟨e.kept, List.mem_filter.mpr ⟨h, by rw [hg]; rfl⟩⟩
    (fun _ ht r _ => State.enterStore_indoubt ht.choose_spec r)

/-! ### What u holds, the answered state holds -/

section
variable {t u : State} {w : Nat} (h : t.isBut u w)
include h

theorem State.isBut.sub (n : Nat) : t.sub n = (u.settled w).sub n := by
  have hs : t.subchs = (u.settled w).subchs := by rw [h.1]
  exact congrArg (fun x : Tab Subch => x.getD n {}) hs

theorem State.isBut.indoubt : t.indoubt = (u.settled w).indoubt := by rw [h.1]

theorem State.isBut.incarnOf (n : Nat) : t.incarnOf n = u.incarnOf n := by
  have hi : t.incarns = u.incarns := by rw [h.1]
  have hb : t.incarnBase = u.incarnBase := by rw [h.1]
  unfold State.incarnOf
  rw [hi, hb]

theorem State.isBut.inst (n : Nat) : t.inst n = u.inst n := by
  have hi : t.insts = u.insts := by rw [h.1]
  exact congrArg (fun x : Tab Inst => x.getD n {}) hi

theorem State.isBut.keeps {α : Type} (g : Subch → α) (hg : ∀ x l b, g { x with slots := l, stalled := b } = g x) (n : Nat) : g (t.sub n) = g (u.sub n) := by
  rw [h.sub]
  exact State.purgeDoubt_keeps g hg (u.onWin w _) n

theorem State.isBut.sub_nil {n : Nat} (hn : (u.sub n).slots = []) : t.sub n = u.sub n := by
  rw [h.sub]
  exact State.purgeDoubt_sub_nil (s := u.onWin w _) hn

theorem State.isBut.slot {n k : Nat} {d : JRec} (hk : (u.sub n).slots.find k = some d) (hd : d.state ≠ 6) : (t.sub n).slots.find k = some d := by
  rw [h.sub]
  exact State.purgeDoubt_slot (s := u.onWin w _) hk hd

end

/-- A command that runs in the state its window began in, and changes neither the windows nor the Service Complex, leaves its end state beside the answer. -/
theorem serve_isBut_begun {c : Command} {w st : Nat} {f : Bool} {s : State} (u : State) {body : List Byte} (h : s.takes c w f) (hw : u.windows = (s.begun w f).windows)
    (hv : u.svc = (s.begun w f).svc) (hr : c.run (s.begun w f) (s.mreq w) = (u, some (st, body))) : ∃ t, serve c w s = .next t ∧ t.shows s w st body ∧ t.isBut u w := by
  have hran : State.ranIn { u with windows := s.windows } s w f = u := by
    have e : State.ranIn { u with windows := s.windows } s w f = { u with svc := { u.svc with lastTenant := (s.begun w f).svc.lastTenant, credit := (s.begun w f).svc.credit }, windows := (s.begun w f).windows } := rfl
    rw [e, ← hw, ← hv]
  obtain ⟨t, ht, hs, hb, hne⟩ := serve_isBut { u with windows := s.windows } h rfl (hr.trans (by rw [hran]))
  have hwin : ∀ v, u.win v = (s.begun w f).win v := fun v => congrArg (fun x : Tab Window => x.getD v {}) hw
  have hself : ∀ v, (u.win v).lastDone = (s.win v).lastDone ∧ (u.win v).reqSeq = (s.win v).reqSeq ∧ (u.win v).tid = (s.win v).tid := fun v => by
    rw [hwin]
    by_cases e : v = w
    · rw [e, State.begun_win]
      exact ⟨rfl, rfl, rfl⟩
    · rw [State.begun_win_ne s w v f e]
      exact ⟨rfl, rfl, rfl⟩
  have hset : (State.settled { u with windows := s.windows } w).sameStore (u.settled w) := State.purgeDoubt_sameStore ⟨rfl, rfl⟩ (fun v => by
    rw [State.onWin_win, State.onWin_win]
    split
    · exact (hself w).2.1.symm
    · exact (hself v).1.symm)
  have hcls : ∀ tid, State.taskClass { u with windows := s.windows } tid = u.taskClass tid := fun tid => State.taskClass_frame u s.windows u.indoubt u.subchs u.log tid
  have htid : (State.win { u with windows := s.windows } w).tid = (u.win w).tid := (hself w).2.2.symm
  refine ⟨t, ht, hs, ?_, fun v hv => (hne v hv).trans ((State.begun_win_ne s w v f hv).symm.trans (hwin v).symm)⟩
  rw [hset.1, hset.2, hcls, htid] at hb
  exact hb

end Sys2Proof.Machine
end

section
/-! The commands of subchannels and their paths (R268, R285, R286, R295), each taken in its window. -/
namespace Sys2Proof.Machine

/-! ### Subchannels -/

/-- The subchannel that a SUBCH_CREATE makes (Table 09-17). -/
def MReq.newSub (q : MReq) (incarn : Nat) : Subch :=
  let b := q.body
  { live := true, inst := q.w, log2 := fld b 4 1, profile := fld b 5 1, block := fld b 6 1, route := fld b 7 1, sq := fld b 8 8, cq := fld b 0x10 8,
    sense := fld b 0x18 8, evTid := fld b 0x20 8, timeoutMs := fld b 0x28 4, maxAtt := fld b 0x2C 1, incarn := incarn, params := b }

/-- SUBCH_CREATE of a number that no subchannel and no ring has, with room in the journal. -/
theorem cmdSubchCreate_run {s : State} {q : MReq} (hx : (s.sub q.sc).live = false) (hr : (s.ring q.sc).live = false) (hj : s.journalRoom (2 ^ fld q.body 4 1) = true) :
    cmdSubchCreate.run s q =
      ({ s with subchs := s.subchs.put q.sc (q.newSub ((s.incarnOf q.sc + 1) % 2 ^ 32)), incarns := s.incarns.put q.sc ((s.incarnOf q.sc + 1) % 2 ^ 32) },
        some (stOk, beBytes 4 ((s.incarnOf q.sc + 1) % 2 ^ 32) ++ beBytes 4 0)) := by
  simp only [cmdSubchCreate, hx, hr, hj, Bool.false_eq_true, Bool.not_true, if_false]
  rfl

/-- A number that was given an incarnation has it. -/
theorem State.incarnOf_put (s : State) (X : Tab Subch) (n c : Nat) : ({ s with subchs := X, incarns := s.incarns.put n c } : State).incarnOf n = c :=
  (Tab.getD_put ..).trans (if_pos rfl)

theorem subchCreate_makes_subchannel {s : State} {w n c : Nat} {f : Bool} (h : s.takes cmdSubchCreate w f) (hn : n = s.arg w 0 4) (hc : c = (s.incarnOf n + 1) % 2 ^ 32)
    (hx : (s.sub n).live = false) (hr : (s.ring n).live = false) (hj : s.journalRoom (2 ^ s.arg w 4 1) = true) :
    ∃ t, exec (.subchCreate w) s = .next t ∧ t.shows s w stOk (beBytes 4 c ++ beBytes 4 0) ∧ t.sub n = (s.mreq w).newSub c ∧ t.incarnOf n = c ∧
      t.isBut { s with subchs := s.subchs.put n ((s.mreq w).newSub c), incarns := s.incarns.put n c } w := by
  subst hn hc
  obtain ⟨t, ht, hs, hb⟩ := serve_isBut { s with subchs := s.subchs.put (s.arg w 0 4) ((s.mreq w).newSub ((s.incarnOf (s.arg w 0 4) + 1) % 2 ^ 32)), incarns := s.incarns.put (s.arg w 0 4) ((s.incarnOf (s.arg w 0 4) + 1) % 2 ^ 32) }
    h rfl (cmdSubchCreate_run (s := s.begun w f) (q := s.mreq w) hx hr hj)
  have hu := (Tab.getD_put s.subchs (s.arg w 0 4) (s.arg w 0 4) {} ((s.mreq w).newSub ((s.incarnOf (s.arg w 0 4) + 1) % 2 ^ 32))).trans (if_pos rfl)
  exact ⟨t, ht, hs, (hb.sub_nil (congrArg Subch.slots hu)).trans hu, (hb.incarnOf _).trans (State.incarnOf_put ..), hb⟩

/-- SUBCH_DESTROY of a subchannel without an outstanding and without an IN_DOUBT record. -/
theorem cmdSubchDestroy_run {s : State} {q : MReq} (hx : (s.sub q.sc).live = true) (hr : (s.sub q.sc).hasRec (fun r => r.outstanding || r.state == 6) = false) :
    cmdSubchDestroy.run s q = ({ s with subchs := s.subchs.del q.sc }, some (stOk, [])) := by
  simp only [cmdSubchDestroy, hx, hr, Bool.not_true, Bool.false_eq_true, if_false]

theorem subchDestroy_removes_subchannel {s : State} {w n : Nat} {f : Bool} (h : s.takes cmdSubchDestroy w f) (hn : n = s.arg w 0 4) (hx : (s.sub n).live = true)
    (hr : (s.sub n).hasRec (fun r => r.outstanding || r.state == 6) = false) :
    ∃ t, exec (.subchDestroy w) s = .next t ∧ t.shows s w stOk [] ∧ (t.sub n).live = false ∧ t.isBut { s with subchs := s.subchs.del n } w := by
  subst hn
  obtain ⟨t, ht, hs, hb⟩ := serve_isBut { s with subchs := s.subchs.del (s.arg w 0 4) } h rfl (cmdSubchDestroy_run (s := s.begun w f) (q := s.mreq w) hx hr)
  have hu : ({ s with subchs := s.subchs.del (s.arg w 0 4) } : State).sub (s.arg w 0 4) = {} := congrArg (fun o : Option Subch => o.getD {}) (Tab.find_del_self s.subchs _)
  exact ⟨t, ht, hs, congrArg Subch.live ((hb.sub_nil (congrArg Subch.slots hu)).trans hu), hb⟩

/-- PROFILE_SET with no outstanding record, to a profile that the kinds of its paths serve (R286). -/
theorem cmdProfileSet_run {s : State} {q : MReq} (hx : (s.sub q.sc).live = true) (hr : (s.sub q.sc).hasRec JRec.outstanding = false)
    (hp : ∀ k ∈ (s.sub q.sc).paths, k.2.state ≠ 0 → kindFits k.2.kind (fld q.body 4 1) = true) :
    cmdProfileSet.run s q = (s.onSub q.sc (fun x => { x with profile := fld q.body 4 1, block := fld q.body 5 1 }), some (stOk, [])) := by
  have hfit : (s.sub q.sc).paths.any (fun p => p.2.state != 0 && !kindFits p.2.kind (fld q.body 4 1)) = false := by
    refine List.any_eq_false.mpr (fun k hk => ?_)
    by_cases h0 : k.2.state = 0
    · simp [h0]
    · simp [hp k hk h0]
  simp only [cmdProfileSet, hx, hr, hfit, Bool.not_true, Bool.false_eq_true, if_false]

/-! ### Paths -/

/-- The path that a PATH_ADD makes (Table 09-19). -/
def MReq.newPath (q : MReq) (now : Nat) : Path :=
  let b := q.body
  { state := 1, kind := fld b 5 1, port := fld b 6 1, pref := fld b 7 1, target := bytesAt b 8 0x120, change := now, loginAt := now }

/-- PATH_ADD of kind 1 at an EMPTY index, with the fields of its profile. -/
theorem cmdPathAdd_run {s : State} {q : MReq} (hx : (s.sub q.sc).live = true) (hk : fld q.body 5 1 = 1) (hp : pathForm (s.sub q.sc).profile q.body = true)
    (h0 : ((s.sub q.sc).paths.getD (fld q.body 4 1) {}).state = 0) :
    cmdPathAdd.run s q = (s.onSub q.sc (fun x => { x with paths := x.paths.put (fld q.body 4 1) (q.newPath s.now) }), some (stOk, [])) := by
  simp only [cmdPathAdd, MReq.newPath, hx, hp, hk, h0, Bool.not_true, Bool.or_self, Bool.false_eq_true, (by decide : ¬1 = 2), (by decide : ¬1 = 3), (by decide : ¬1 = 4), or_self, false_and,
    if_false, if_true]

theorem pathAdd_makes_path {s : State} {w n p : Nat} {f : Bool} (h : s.takes cmdPathAdd w f) (hn : n = s.arg w 0 4) (hp : p = s.arg w 4 1) (hx : (s.sub n).live = true) (hk : s.arg w 5 1 = 1)
    (hf : pathForm (s.sub n).profile (s.mreq w).body = true) (h0 : ((s.sub n).paths.getD p {}).state = 0) :
    ∃ t, exec (.pathAdd w) s = .next t ∧ t.shows s w stOk [] ∧ (t.sub n).paths = (s.sub n).paths.put p ((s.mreq w).newPath s.now) ∧
      t.isBut (s.onSub n (fun x => { x with paths := x.paths.put p ((s.mreq w).newPath s.now) })) w := by
  subst hn hp
  obtain ⟨t, ht, hs, hb⟩ := serve_isBut (s.onSub (s.arg w 0 4) (fun x => { x with paths := x.paths.put (s.arg w 4 1) ((s.mreq w).newPath s.now) })) h rfl
    (cmdPathAdd_run (s := s.begun w f) (q := s.mreq w) hx hk hf h0)
  refine ⟨t, ht, hs, ?_, hb⟩
  rw [hb.keeps Subch.paths (fun _ _ _ => rfl), State.onSub_sub_self]

/-- A path that starts DRAINING with no active attempt is EMPTY at once. -/
theorem State.settlePath_idle {s : State} {n p : Nat} {g : Path → Path} (hg : ∀ x, (g x).state = 4) (ha : (s.sub n).activeOn p = 0) :
    (s.onPath n p g).settlePath n p = s.onSub n (fun x => { x with paths := x.paths.del p }) := by
  have hsub : (s.onPath n p g).sub n = { s.sub n with paths := (s.sub n).paths.upd p {} g } := State.onSub_sub_self ..
  unfold State.settlePath
  rw [hsub, if_pos ⟨by rw [Tab.getD_upd, if_pos rfl, hg], ha⟩]
  refine (State.onSub_onSub ..).trans (State.onSub_congr ?_)
  dsimp only
  rw [Tab.upd, Tab.del_put]

/-- A path that starts DRAINING with active attempts stays so. -/
theorem State.settlePath_busy {s : State} {n p : Nat} {g : Path → Path} (ha : (s.sub n).activeOn p ≠ 0) : (s.onPath n p g).settlePath n p = s.onPath n p g := by
  have hsub : (s.onPath n p g).sub n = { s.sub n with paths := (s.sub n).paths.upd p {} g } := State.onSub_sub_self ..
  unfold State.settlePath
  rw [hsub]
  exact if_neg (fun h => ha h.2)

/-- PATH_REMOVE of an OPERATIONAL path. -/
theorem cmdPathRemove_run {s : State} {q : MReq} (hx : (s.sub q.sc).live = true) (hp : ((s.sub q.sc).paths.getD (fld q.body 4 1) {}).state = 2) :
    cmdPathRemove.run s q = ((s.onPath q.sc (fld q.body 4 1) (fun x => { x with state := 4, change := s.now })).settlePath q.sc (fld q.body 4 1), some (stOk, [])) := by
  simp only [cmdPathRemove, hx, hp, Bool.not_true, Bool.false_eq_true, (by decide : ¬2 = 0), (by decide : ¬2 = 4), or_self, if_false]

theorem pathRemove_empties_idle {s : State} {w n p : Nat} {f : Bool} (h : s.takes cmdPathRemove w f) (hn : n = s.arg w 0 4) (hp : p = s.arg w 4 1) (hx : (s.sub n).live = true)
    (h2 : ((s.sub n).paths.getD p {}).state = 2) (ha : (s.sub n).activeOn p = 0) :
    ∃ t, exec (.pathRemove w) s = .next t ∧ t.shows s w stOk [] ∧ (t.sub n).paths.find p = none ∧ t.isBut (s.onSub n (fun x => { x with paths := x.paths.del p })) w := by
  subst hn hp
  obtain ⟨t, ht, hs, hb⟩ := serve_isBut (s.onSub (s.arg w 0 4) (fun x => { x with paths := x.paths.del (s.arg w 4 1) })) h rfl
    ((cmdPathRemove_run (s := s.begun w f) (q := s.mreq w) hx h2).trans (congrArg (·, some (stOk, [])) (State.settlePath_idle (s := s.begun w f) (fun _ => rfl) ha)))
  refine ⟨t, ht, hs, ?_, hb⟩
  rw [hb.keeps Subch.paths (fun _ _ _ => rfl), State.onSub_sub_self, Tab.find_del_self]

theorem pathRemove_drains_busy {s : State} {w n p : Nat} {f : Bool} (h : s.takes cmdPathRemove w f) (hn : n = s.arg w 0 4) (hp : p = s.arg w 4 1) (hx : (s.sub n).live = true)
    (h2 : ((s.sub n).paths.getD p {}).state = 2) (ha : (s.sub n).activeOn p ≠ 0) :
    ∃ t, exec (.pathRemove w) s = .next t ∧ t.shows s w stOk [] ∧ ((t.sub n).paths.getD p {}).state = 4 ∧ t.isBut (s.onPath n p (fun x => { x with state := 4, change := s.now })) w := by
  subst hn hp
  obtain ⟨t, ht, hs, hb⟩ := serve_isBut (s.onPath (s.arg w 0 4) (s.arg w 4 1) (fun x => { x with state := 4, change := s.now })) h rfl
    ((cmdPathRemove_run (s := s.begun w f) (q := s.mreq w) hx h2).trans (congrArg (·, some (stOk, [])) (State.settlePath_busy (s := s.begun w f) ha)))
  refine ⟨t, ht, hs, ?_, hb⟩
  rw [hb.keeps Subch.paths (fun _ _ _ => rfl), State.onPath, State.onSub_sub_self, Tab.getD_upd, if_pos rfl]

end Sys2Proof.Machine
end

section
/-! Journal and in-doubt commands (R280, R289, R295), each taken in its window. -/
namespace Sys2Proof.Machine

/-! ### Queries -/

/-- JOURNAL_QUERY of a WSN in use whose record is found. -/
theorem cmdJournalQuery_run {s : State} {q : MReq} {r : JRec} (hx : (s.sub q.sc).live = true) (h0 : fld q.body 8 8 ≠ 0) (hw : fld q.body 8 8 < (s.sub q.sc).nextWsn)
    (hr : s.findRec q.sc (fld q.body 8 8) = some r) : cmdJournalQuery.run s q = (s, some (stOk, r.bytes)) := by
  simp only [cmdJournalQuery, hx, h0, hr, Nat.not_le.mpr hw, Bool.not_true, Bool.false_eq_true, and_false, or_self, if_false]

/-- INDOUBT_LIST of no more records than a response holds. -/
theorem cmdIndoubtList_run {s : State} {q : MReq} {l : List JRec} (hl : l = (s.doubtList (fld q.body 0 2) (fld q.body 4 4)).filter (fun r => decide (fld q.body 8 8 < r.doubtNo)))
    (hn : l.length ≤ 55) :
    cmdIndoubtList.run s q = (s, some (stOk, beBytes 4 l.length ++ beBytes 4 0 ++ beBytes 8 0 ++
      l.flatMap (fun r => beBytes 4 r.sc ++ beBytes 4 r.incarn ++ beBytes 8 r.wsn ++ beBytes 8 r.user ++ beBytes 8 (u64 r.tFinal)))) := by
  simp only [cmdIndoubtList, ← hl, List.take_of_length_le hn, if_pos hn]

/-! ### Settling a record that a request names (R289) -/

theorem State.settle_keeps {α : Type} (g : Subch → α) (hg : ∀ x l, g { x with slots := l } = g x) (u : State) (q : MReq) (F : JRec → JRec) (n : Nat) : g ((u.settle q F).sub n) = g (u.sub n) :=
  State.onSub_keeps g { u with indoubt := (u.settle q F).indoubt } q.sc n _ (hg ..)

theorem namedRec_of_state_ne {q : MReq} {d : JRec} (h : d.state ≠ 6) : namedRec q d = false := by simp [namedRec, h]

theorem namedRec_sc {q : MReq} {d : JRec} (h : namedRec q d = true) : d.sc = q.sc := by
  simp only [namedRec, Bool.and_eq_true, beq_iff_eq] at h
  obtain ⟨⟨⟨-, hsc⟩, -⟩, -⟩ := h
  exact hsc

/-- After a settlement that ends the doubt no record of the store is the one named. -/
theorem State.settle_indoubt_named {u : State} {q : MReq} {F : JRec → JRec} (hF : ∀ r, (F r).state ≠ 6) : ∀ d ∈ (u.settle q F).indoubt, namedRec q d = false := by
  intro d hd
  obtain ⟨r, -, rfl⟩ := List.mem_map.mp hd
  split
  · exact namedRec_of_state_ne (hF _)
  · next hr => exact Bool.eq_false_iff.mpr hr

/-- The record that a request names is settled in the store. -/
theorem State.mem_settle_indoubt {u : State} {q : MReq} {F : JRec → JRec} {d : JRec} (hd : d ∈ u.indoubt) (hn : namedRec q d = true) :
    F { d with resolveSeq := q.seq, resolveWin := q.w } ∈ (u.settle q F).indoubt :=
  List.mem_map.mpr ⟨d, hd, if_pos hn⟩

/-- A record whose window has just completed the command that settled it stays in the store (R289). -/
theorem State.settledGone_current {s : State} {e : JRec} (h : (s.win e.resolveWin).lastDone = e.resolveSeq) : s.settledGone e = false := by
  unfold State.settledGone
  simp [h]

/-- The answer to a command of window w keeps the records that this command has settled. -/
theorem State.isBut.settled_mem {t u : State} {w : Nat} {e : JRec} (h : t.isBut u w) (he : e ∈ u.indoubt) (hw : e.resolveWin = w) (hs : e.resolveSeq = (u.win w).reqSeq) :
    ∃ c, { e with kept := c } ∈ t.indoubt := by
  rw [h.indoubt]
  refine State.purgeDoubt_indoubt (s := u.onWin w _) he (State.settledGone_current ?_)
  rw [hw, State.onWin_win_self, hs]

/-- A record in its slot that is not IN_DOUBT is there in the answered state. -/
theorem State.isBut.jrec {t u : State} {w sc wsn : Nat} {d : JRec} (h : t.isBut u w) (hd : u.jrec sc wsn = some d) (h6 : d.state ≠ 6) : t.jrec sc wsn = some d := by
  obtain ⟨hf, hw, h0⟩ := State.jrec_eq_some hd
  refine State.jrec_of_find ?_ hw h0
  rw [h.keeps Subch.depth (fun _ _ _ => rfl)]
  exact h.slot hf h6

/-! ### INDOUBT_RESOLVE -/

@[simp] theorem State.purgeDoubt_svc (s : State) : s.purgeDoubt.svc = s.svc := by rw [State.purgeDoubt_eq]
@[simp] theorem State.purgeDoubt_insts (s : State) : s.purgeDoubt.insts = s.insts := by rw [State.purgeDoubt_eq]

/-- An INDOUBT_RESOLVE names a record of the caller that no earlier INDOUBT_RESOLVE of its sequence has settled. -/
def State.resolves (u : State) (q : MReq) (r : JRec) : Prop :=
  (u.indoubt ++ (u.sub q.sc).slots.map (·.2)).find? (fun r => r.state != 6 && r.sc == q.sc && r.resolveSeq == q.seq && r.resolveWin == q.w && r.resolveSeq != 0) = none ∧
    (u.indoubt ++ (u.sub q.sc).slots.map (·.2)).find? (namedRec q) = some r ∧ r.inst = q.w

/-- The record that is named is of the subchannel named. -/
theorem State.resolves.sc_eq {u : State} {q : MReq} {r : JRec} (h : u.resolves q r) : r.sc = q.sc :=
  namedRec_sc (List.find?_some h.2.1)

theorem State.resolve_run {s : State} {q : MReq} {r : JRec} (action : Nat) (h : s.purgeDoubt.resolves q r) :
    s.resolve action q =
      if action = 3 then s.purgeDoubt.redrive q r
      else
        let v := s.purgeDoubt.settle q (fun r => { r with state := if action = 1 then 5 else 7, status := if action = 1 then stOk else stRetrySafe, tRetire := s.purgeDoubt.now })
        (if action = 1 ∧ (v.sub q.sc).live ∧ (v.sub q.sc).incarn = r.incarn then v.onSub q.sc (fun x => { x with retired := x.retired + 1 }) else v,
          some (stOk, resolveBody r.incarn r.wsn)) := by
  obtain ⟨hrep, hnamed, hinst⟩ := h
  simp only [State.resolve, hrep, hnamed, hinst, ne_eq, not_true_eq_false, if_false]

/-- DONE: the record is RETIRED with OK, and counts as retired where its incarnation is the subchannel's. -/
theorem State.resolve_done {s : State} {q : MReq} {r : JRec} (h : s.purgeDoubt.resolves q r) :
    s.resolve 1 q =
      (if (s.purgeDoubt.sub q.sc).live = true ∧ (s.purgeDoubt.sub q.sc).incarn = r.incarn then
          (s.purgeDoubt.settle q (fun r => { r with state := 5, status := stOk, tRetire := s.now })).onSub q.sc (fun x => { x with retired := x.retired + 1 })
        else s.purgeDoubt.settle q (fun r => { r with state := 5, status := stOk, tRetire := s.now }), some (stOk, resolveBody r.incarn r.wsn)) := by
  rw [State.resolve_run 1 h, if_neg (by decide)]
  simp only [if_true, true_and, State.purgeDoubt_now, State.settle_keeps Subch.live (fun _ _ => rfl), State.settle_keeps Subch.incarn (fun _ _ => rfl)]

/-- NOT_DONE: the record is CANCELLED with RETRY_SAFE. -/
theorem State.resolve_notDone {s : State} {q : MReq} {r : JRec} (h : s.purgeDoubt.resolves q r) :
    s.resolve 2 q = (s.purgeDoubt.settle q (fun r => { r with state := 7, status := stRetrySafe, tRetire := s.now }), some (stOk, resolveBody r.incarn r.wsn)) := by
  rw [State.resolve_run 2 h, if_neg (by decide)]
  simp only [(by decide : ¬2 = 1), false_and, if_false, State.purgeDoubt_now]

/-- A record driven again in the incarnation it has. -/
def JRec.redriven (r : JRec) (q : MReq) : JRec := { r with state := 1, status := 0, resolveSeq := q.seq, resolveWin := q.w, avoid := some r.path, kept := false }.fresh

/-- REDRIVE in the incarnation of the record: its slot holds it again, and the instance has one more waybill. -/
def State.redriveSame (u : State) (q : MReq) (r : JRec) : State :=
  ((u.settle q (fun r => { r with state := 1, status := 0 })).onSub r.sc (fun x => { x with slots := x.slots.put (r.wsn % (u.sub r.sc).depth) (r.redriven q) })).onInst r.inst
    (fun n => { n with waybills := n.waybills + 1 })

theorem State.resolve_redrive {s : State} {q : MReq} {r : JRec} (h : s.purgeDoubt.resolves q r) (hx : (s.purgeDoubt.sub q.sc).live = true) (hi : (s.purgeDoubt.sub q.sc).inst = r.inst)
    (hc : (s.purgeDoubt.sub q.sc).incarn = r.incarn) (hf : (s.purgeDoubt.sub q.sc).slots.find (r.wsn % (s.purgeDoubt.sub q.sc).depth) = none) :
    s.resolve 3 q = ((s.purgeDoubt.redriveSame q r).waitPath r.sc r.wsn, some (stOk, resolveBody r.incarn r.wsn)) := by
  rw [State.resolve_run 3 h, if_pos rfl]
  rw [← h.sc_eq] at hx hi hc hf
  unfold State.redrive
  simp only [hx, hi, hc, hf, Bool.not_true, Bool.false_eq_true, ne_eq, not_true_eq_false, Nat.lt_irrefl, or_self, if_false, if_true]
  rfl

theorem State.waitPath_jrec {s : State} {sc wsn : Nat} {r : JRec} (h : s.jrec sc wsn = some r) : ∃ e, (s.waitPath sc wsn).jrec sc wsn = some { r with noPathEnd := e } := by
  obtain ⟨-, hw, h0⟩ := State.jrec_eq_some h
  exact ⟨_, State.onRec_jrec_self h hw h0⟩

/-- A record put into the slot of its WSN is there. -/
theorem State.jrec_put (u : State) (n : Nat) {d : JRec} (h : d.state ≠ 0) : (u.onSub n (fun x => { x with slots := x.slots.put (d.wsn % (u.sub n).depth) d })).jrec n d.wsn = some d := by
  refine State.jrec_of_find ?_ rfl h
  rw [State.onSub_sub_self]
  exact Tab.find_put_self ..

/-- The record driven again is in its slot. -/
theorem State.redriveSame_jrec (u : State) (q : MReq) (r : JRec) : (u.redriveSame q r).jrec r.sc r.wsn = some (r.redriven q) := by
  have hput := State.jrec_put (u.settle q (fun r => { r with state := 1, status := 0 })) r.sc (d := r.redriven q) Nat.one_ne_zero
  rw [State.settle_keeps Subch.depth (fun _ _ => rfl)] at hput
  exact (State.jrec_congr rfl _).trans hput

end Sys2Proof.Machine
end

section
/-! INDOUBT_RESOLVE of each ACTION, taken in its window (R289). -/
namespace Sys2Proof.Machine

/-! ### INDOUBT_RESOLVE in its window -/

section
variable {s u : State} {w : Nat} {f : Bool} {r : JRec} (hu : u = (s.begun w f).purgeDoubt) (hr : u.resolves (s.mreq w) r)
include hu

theorem begun_purgeDoubt_windows : u.windows = (s.begun w f).windows := by rw [hu, State.purgeDoubt_windows]

theorem begun_purgeDoubt_svc : u.svc = (s.begun w f).svc := by rw [hu, State.purgeDoubt_svc]

/-- The sequence of the command's request is that of its window. -/
theorem begun_purgeDoubt_reqSeq : (u.win w).reqSeq = (s.mreq w).seq := by
  rw [hu, State.purgeDoubt_win, State.begun_win]
  rfl

/-- A record of the store that the request names is settled there in the answered state, beside the mark that it keeps the memory of its slot. -/
theorem resolve_settles_named {t x : State} {F : JRec → JRec} (hb : t.isBut x w) (hi : x.indoubt = (u.settle (s.mreq w) F).indoubt) (hx : x.windows = u.windows)
    (hF : ∀ d, (F d).resolveWin = d.resolveWin ∧ (F d).resolveSeq = d.resolveSeq) {d : JRec} (hd : d ∈ u.indoubt) (hn : namedRec (s.mreq w) d = true) :
    ∃ c, { F { d with resolveSeq := (s.mreq w).seq, resolveWin := w } with kept := c } ∈ t.indoubt := by
  have hmem : F { d with resolveSeq := (s.mreq w).seq, resolveWin := w } ∈ x.indoubt := hi ▸ State.mem_settle_indoubt hd hn
  have hseq : (x.win w).reqSeq = (u.win w).reqSeq := congrArg (fun T : Tab Window => (T.getD w {}).reqSeq) hx
  refine hb.settled_mem hmem (hF _).1 ((hF _).2.trans ?_)
  rw [hseq, begun_purgeDoubt_reqSeq hu]

include hr

theorem indoubtResolve_done (h : s.takes (cmdResolve 1) w f) :
    ∃ t v, exec (.indoubtResolveDone w) s = .next t ∧ t.shows s w stOk (resolveBody r.incarn r.wsn) ∧
      v = u.settle (s.mreq w) (fun r => { r with state := 5, status := stOk, tRetire := s.now }) ∧ (∀ d ∈ v.indoubt, namedRec (s.mreq w) d = false) ∧
      (∀ d ∈ u.indoubt, namedRec (s.mreq w) d = true → ∃ e ∈ t.indoubt, e.sc = s.arg w 0 4 ∧ e.wsn = d.wsn ∧ e.incarn = d.incarn ∧ e.state = 5 ∧ e.status = stOk) ∧
      t.isBut (if (u.sub (s.arg w 0 4)).live = true ∧ (u.sub (s.arg w 0 4)).incarn = r.incarn then v.onSub (s.arg w 0 4) (fun x => { x with retired := x.retired + 1 }) else v) w := by
  obtain ⟨v, hv⟩ : ∃ v, v = u.settle (s.mreq w) (fun r => { r with state := 5, status := stOk, tRetire := s.now }) := ⟨_, rfl⟩
  obtain ⟨x, hx⟩ : ∃ x, x = if (u.sub (s.arg w 0 4)).live = true ∧ (u.sub (s.arg w 0 4)).incarn = r.incarn then v.onSub (s.arg w 0 4) (fun x => { x with retired := x.retired + 1 }) else v := ⟨_, rfl⟩
  have hsame : x.windows = u.windows ∧ x.svc = u.svc ∧ x.indoubt = v.indoubt := by
    rw [hx, hv]
    split <;> exact ⟨rfl, rfl, rfl⟩
  obtain ⟨hw, hs, hi⟩ := hsame
  have hrun : (cmdResolve 1).run (s.begun w f) (s.mreq w) = (x, some (stOk, resolveBody r.incarn r.wsn)) := by
    rw [hx, hv, hu]
    exact State.resolve_done (hu ▸ hr)
  obtain ⟨t, ht, hsh, hb⟩ := serve_isBut_begun x h (hw.trans (begun_purgeDoubt_windows hu)) (hs.trans (begun_purgeDoubt_svc hu)) hrun
  refine ⟨t, v, ht, hsh, hv, hv ▸ State.settle_indoubt_named (fun _ => (by decide : 5 ≠ 6)), fun d hd hn => ?_, hx ▸ hb⟩
  obtain ⟨c, hc⟩ := resolve_settles_named hu hb (hi.trans (congrArg State.indoubt hv)) hw (fun _ => ⟨rfl, rfl⟩) hd hn
  have hsc : d.sc = s.arg w 0 4 := namedRec_sc hn
  exact ⟨_, hc, hsc, rfl, rfl, rfl, rfl⟩

theorem indoubtResolve_notDone (h : s.takes (cmdResolve 2) w f) :
    ∃ t v, exec (.indoubtResolveNotDone w) s = .next t ∧ t.shows s w stOk (resolveBody r.incarn r.wsn) ∧
      v = u.settle (s.mreq w) (fun r => { r with state := 7, status := stRetrySafe, tRetire := s.now }) ∧ (∀ d ∈ v.indoubt, namedRec (s.mreq w) d = false) ∧
      (∀ d ∈ u.indoubt, namedRec (s.mreq w) d = true → ∃ e ∈ t.indoubt, e.sc = s.arg w 0 4 ∧ e.wsn = d.wsn ∧ e.incarn = d.incarn ∧ e.state = 7 ∧ e.status = stRetrySafe) ∧ t.isBut v w := by
  obtain ⟨v, hv⟩ : ∃ v, v = u.settle (s.mreq w) (fun r => { r with state := 7, status := stRetrySafe, tRetire := s.now }) := ⟨_, rfl⟩
  have hsame : v.windows = u.windows ∧ v.svc = u.svc := by
    rw [hv]
    exact ⟨rfl, rfl⟩
  obtain ⟨hw, hs⟩ := hsame
  have hrun : (cmdResolve 2).run (s.begun w f) (s.mreq w) = (v, some (stOk, resolveBody r.incarn r.wsn)) := by
    rw [hv, hu]
    exact State.resolve_notDone (hu ▸ hr)
  obtain ⟨t, ht, hsh, hb⟩ := serve_isBut_begun v h (hw.trans (begun_purgeDoubt_windows hu)) (hs.trans (begun_purgeDoubt_svc hu)) hrun
  refine ⟨t, v, ht, hsh, hv, hv ▸ State.settle_indoubt_named (fun _ => (by decide : 7 ≠ 6)), fun d hd hn => ?_, hb⟩
  obtain ⟨c, hc⟩ := resolve_settles_named hu hb (congrArg State.indoubt hv) hw (fun _ => ⟨rfl, rfl⟩) hd hn
  have hsc : d.sc = s.arg w 0 4 := namedRec_sc hn
  exact ⟨_, hc, hsc, rfl, rfl, rfl, rfl⟩

theorem indoubtResolve_redrive (h : s.takes (cmdResolve 3) w f) (hx : (u.sub (s.arg w 0 4)).live = true) (hi : (u.sub (s.arg w 0 4)).inst = r.inst) (hc : (u.sub (s.arg w 0 4)).incarn = r.incarn)
    (hf : (u.sub (s.arg w 0 4)).slots.find (r.wsn % (u.sub (s.arg w 0 4)).depth) = none) :
    ∃ t d, exec (.indoubtResolveRedrive w) s = .next t ∧ t.shows s w stOk (resolveBody r.incarn r.wsn) ∧ t.jrec (s.arg w 0 4) r.wsn = some d ∧ d.state = 1 ∧ d.user = r.user ∧
      d.attempts = r.attempts ∧ (t.inst w).waybills = (s.inst w).waybills + 1 := by
  obtain ⟨x, hv⟩ : ∃ x, x = (u.redriveSame (s.mreq w) r).waitPath r.sc r.wsn := ⟨_, rfl⟩
  have hframe : x.windows = u.windows ∧ x.svc = u.svc ∧ x.insts = (u.onInst r.inst (fun n => { n with waybills := n.waybills + 1 })).insts := by
    rw [hv, State.waitPath, State.onRec_eq]
    exact ⟨rfl, rfl, rfl⟩
  obtain ⟨hw, hs, hn⟩ := hframe
  have hrun : (cmdResolve 3).run (s.begun w f) (s.mreq w) = (x, some (stOk, resolveBody r.incarn r.wsn)) := by
    rw [hv]
    subst hu
    exact State.resolve_redrive hr hx hi hc hf
  obtain ⟨t, ht, hsh, hb⟩ := serve_isBut_begun x h (hw.trans (begun_purgeDoubt_windows hu)) (hs.trans (begun_purgeDoubt_svc hu)) hrun
  obtain ⟨e, he⟩ := State.waitPath_jrec (u.redriveSame_jrec (s.mreq w) r)
  have hsc : r.sc = s.arg w 0 4 := hr.sc_eq
  rw [← hv, hsc] at he
  have hinst : (t.inst w).waybills = (u.inst w).waybills + 1 := by
    have hxi : x.inst w = (u.onInst r.inst (fun n => { n with waybills := n.waybills + 1 })).inst w := congrArg (fun T : Tab Inst => T.getD w {}) hn
    have hrw : r.inst = w := hr.2.2
    rw [hb.inst, hxi, hrw, State.onInst_inst_self]
  have hui : u.inst w = s.inst w := congrArg (fun T : Tab Inst => T.getD w {}) ((congrArg State.insts hu).trans (State.purgeDoubt_insts _))
  exact ⟨t, _, ht, hsh, hb.jrec he (by decide : 1 ≠ 6), rfl, rfl, rfl, hui ▸ hinst⟩

end

end Sys2Proof.Machine
end

section
/-! Port and Route commands taken in a window, and the statement about the commands of the channel subsystem (R290, R293, R295). -/
namespace Sys2Proof.Machine

/-! ### Ports and Routes -/

/-- LOGIN_QUERY of a Fibre Channel port. -/
theorem cmdLoginQuery_run {s : State} {q : MReq} (hk : fld q.body 0 1 = 1) :
    cmdLoginQuery.run s q =
      let p := s.ioport (fld q.body 1 1)
      (s, some (stOk, beBytes 1 (b2n p.up) ++ beBytes 1 (p.rate / 8) ++ beBytes 2 (s.logins 1 (fld q.body 1 1)) ++ beBytes 4 p.localId ++ beBytes 8 p.name ++ beBytes 8 p.retrains ++
        beBytes 8 (u64 p.change))) := by
  simp only [cmdLoginQuery, hk, (by decide : ¬1 = 2), (by decide : ¬1 = 3), (by decide : ¬1 = 4), or_self, false_and, if_false, if_true]
  rfl

/-- ROUTE_SWITCH to the ACTIVE engine of a Route for which no window waits. -/
theorem cmdRouteSwitch_run_active {s : State} {q : MReq} (hw : (s.route (fld q.body 0 1)).win = none) (he : (s.engine (fld q.body 1 1)).state = 1) :
    cmdRouteSwitch.run s q = (s, some (stOk, [])) := by
  simp only [cmdRouteSwitch, hw, he, reduceCtorEq, if_false]

/-- A Route whose ROUTE_SWITCH waits in window w: new dispatches have stopped (R293). -/
def State.awaitsSwitch (s : State) (r w : Nat) : State := s.onRoute r (fun o => { o with win := some w, quiesce := true })

theorem State.awaitsSwitch_route (s : State) (r w : Nat) : (s.awaitsSwitch r w).route r = { s.route r with win := some w, quiesce := true } := State.onRoute_route_self ..

/-- ROUTE_SWITCH to a STANDBY_READY engine, with no switchover under way and no data phase open (R293). -/
theorem cmdRouteSwitch_run_standby {s : State} {q : MReq} (hw : (s.route (fld q.body 0 1)).win = none) (he : (s.engine (fld q.body 1 1)).state = 3)
    (hs : (s.route (fld q.body 0 1)).switching = none) (hp : s.inPhase (fld q.body 0 1) = false) :
    cmdRouteSwitch.run s q = ((s.awaitsSwitch (fld q.body 0 1) q.w).beginSwitch (fld q.body 0 1) (fld q.body 1 1) true, none) := by
  have hidle : ¬(((s.awaitsSwitch (fld q.body 0 1) q.w).route (fld q.body 0 1)).switching.isSome = true ∨ (s.awaitsSwitch (fld q.body 0 1) q.w).inPhase (fld q.body 0 1) = true) := by
    rw [State.awaitsSwitch_route]
    have hsame : (s.awaitsSwitch (fld q.body 0 1) q.w).inPhase (fld q.body 0 1) = s.inPhase (fld q.body 0 1) := rfl
    simp [hsame, hs, hp]
  simp only [cmdRouteSwitch, hw, he, Option.isSome_none, reduceCtorEq, Bool.false_eq_true, if_false]
  exact congrArg (·, none) (if_neg hidle)

/-- A command that stays in execution and changes no instance leaves its state as it is. -/
theorem serve_waits_same {c : Command} {w : Nat} {f : Bool} {s t : State} (h : s.takes c w f) (hr : c.run (s.begun w f) (s.mreq w) = (t, none)) (hi : t.insts = s.insts) :
    serve c w s = .next t := by
  have hnote : t.noteChanges (s.begun w f) w = t := if_pos hi
  rw [serve_waits c w f s t h hr, hnote]

theorem routeSwitch_starts_switchover {s : State} {w r e : Nat} {f : Bool} (h : s.takes cmdRouteSwitch w f) (hr : r = s.arg w 0 1) (he : e = s.arg w 1 1) (hw : (s.route r).win = none)
    (h3 : (s.engine e).state = 3) (hs : (s.route r).switching = none) (hp : s.inPhase r = false) :
    ∃ t, exec (.routeSwitch w) s = .next t ∧ (t.route r).switching = some (e, true) ∧ (t.route r).unacked = s.stages.map (fun k => (k, s.now)) ∧ (t.route r).win = some w ∧
      (t.win w).state = 1 ∧ (t.win w).inExec = true := by
  subst hr he
  have hstep := serve_waits_same (t := ((s.begun w f).awaitsSwitch (s.arg w 0 1) w).beginSwitch (s.arg w 0 1) (s.arg w 1 1) true) h
    (cmdRouteSwitch_run_standby (s := s.begun w f) (q := s.mreq w) hw h3 hs hp) rfl
  have hroute : (((s.begun w f).awaitsSwitch (s.arg w 0 1) w).beginSwitch (s.arg w 0 1) (s.arg w 1 1) true).route (s.arg w 0 1) =
      { s.route (s.arg w 0 1) with win := some w, quiesce := true, switching := some (s.arg w 1 1, true), unacked := s.stages.map (fun k => (k, s.now)) } := by
    rw [State.beginSwitch_route, State.awaitsSwitch_route]
    rfl
  have hwin : (((s.begun w f).awaitsSwitch (s.arg w 0 1) w).beginSwitch (s.arg w 0 1) (s.arg w 1 1) true).win w = { s.win w with inExec := true, entry := some (s.win w).newEntry } :=
    State.begun_win s w f
  exact ⟨_, hstep, by rw [hroute], by rw [hroute], by rw [hroute], by rw [hwin]; exact h.1, by rw [hwin]⟩

/-! ### The statement -/

/-- Settles O27: each command runs in the state its window began in, and what its answer settles of the in-doubt store keeps every other record. -/
theorem subchannelJournalAndRouteCommands : Obligations.SubchannelJournalAndRouteCommands := by
  unfold Obligations.SubchannelJournalAndRouteCommands
  refine ⟨fun s w f n p hn hp => ⟨?create, fun h hx hr => subchDestroy_removes_subchannel h hn hx hr, ?query, ?add,
      fun h hx h2 => ⟨fun ha => pathRemove_empties_idle h hn hp hx h2 ha, fun ha => pathRemove_drains_busy h hn hp hx h2 ha⟩, ?paths, ?profile⟩,
    fun s w f n hn => ⟨?journal, ?list, ?resolve, ?login, ?status, fun h r e hr he hw => ⟨?active, fun h3 hs hp => routeSwitch_starts_switchover h hr he hw h3 hs hp⟩⟩⟩
  case create =>
    intro h hx hr hj
    obtain ⟨c, hc⟩ : ∃ c, c = (s.incarnOf n + 1) % 2 ^ 32 := ⟨_, rfl⟩
    obtain ⟨t, ht, hs, hsub, hinc, hb⟩ := subchCreate_makes_subchannel h hn hc hx hr hj
    refine ⟨t, c, (s.mreq w).newSub c, ht, hc, hs, hsub, ?_⟩
    simp only [MReq.newSub, State.arg, true_and]
    exact ⟨rfl, hinc, hb⟩
  case query =>
    intro h
    subst hn
    exact serve_isBut s h rfl rfl
  case add =>
    intro h hx hk hf h0
    obtain ⟨t, ht, hs, hpaths, hb⟩ := pathAdd_makes_path h hn hp hx hk hf h0
    have hget : ∀ q, (t.sub n).paths.getD q {} = if q = p then (s.mreq w).newPath s.now else (s.sub n).paths.getD q {} := fun q => by rw [hpaths, Tab.getD_put]
    refine ⟨t, (s.mreq w).newPath s.now, ht, hs, (hget p).trans (if_pos rfl), rfl, hk, ?_⟩
    simp only [MReq.newPath, State.arg, true_and]
    exact ⟨fun q hq => (hget q).trans (if_neg hq), hb⟩
  case paths =>
    intro h
    subst hn
    obtain ⟨t, ht, hs, hb⟩ := serve_isBut s h rfl rfl
    exact ⟨t, ht, hb, hs⟩
  case profile =>
    intro h hx hr hk
    subst hn hp
    exact serve_isBut (s.onSub (s.arg w 0 4) (fun x => { x with profile := s.arg w 4 1, block := s.arg w 5 1 })) h rfl (cmdProfileSet_run (s := s.begun w f) (q := s.mreq w) hx hr hk)
  case journal =>
    intro h hx h0 hw r hr
    subst hn
    exact serve_isBut s h rfl (cmdJournalQuery_run (s := s.begun w f) (q := s.mreq w) hx h0 hw hr)
  case list =>
    intro h l hl hlen
    obtain ⟨t, ht, hs, hb⟩ := serve_isBut s h rfl (cmdIndoubtList_run (s := s.begun w f) (q := s.mreq w) hl hlen)
    exact ⟨t, ht, hb, hs⟩
  case resolve =>
    intro u q all r hu hq hall hrep hnamed hinst
    subst hn hq hall
    have hr : u.resolves (s.mreq w) r := ⟨hrep, hnamed, hinst⟩
    exact ⟨fun h _ => indoubtResolve_done hu hr h, fun h _ => indoubtResolve_notDone hu hr h, fun h _ hx hi hc hf => indoubtResolve_redrive hu hr h hx hi hc hf⟩
  case login =>
    intro h hk p hp
    subst hp
    obtain ⟨t, ht, hs, hb⟩ := serve_isBut s h rfl (cmdLoginQuery_run (s := s.begun w f) (q := s.mreq w) hk)
    exact ⟨t, ht, hb, hs⟩
  case status =>
    intro h r o hr ho
    subst hr ho
    obtain ⟨t, ht, hs, hb⟩ := serve_isBut s h rfl rfl
    exact ⟨t, ht, hb, hs⟩
  case active =>
    intro h1
    subst hr he
    exact serve_isBut s h rfl (cmdRouteSwitch_run_active (s := s.begun w f) (q := s.mreq w) hw h1)

end Sys2Proof.Machine
end
